-- ==== Sys2Proof/Word.lean ====
section
/-! DEFINITION. The word types of the block: everything the manual treats as bits (00 R3, R4).
Channels, ports and rings are numbers 0 to 63 (00 "Names"), not words. -/

namespace Sys2Proof

/-- One byte. -/
abbrev Byte := BitVec 8

/-- A 16-bit field. -/
abbrev Half := BitVec 16

/-- A 32-bit register, descriptor word or field. -/
abbrev Word := BitVec 32

/-- A 64-bit field: station times, masks of channels, identities. -/
abbrev DWord := BitVec 64

/-- Channel n of the segment, 0 to 63; its port has the same number (01 R11). -/
abbrev Chan := Fin 64

/-- Descriptor ring n, 0 to 63 (03 R60). -/
abbrev Ring := Fin 64

/-- Quench group G0 to G7 (08 R243). -/
abbrev Group := Fin 8

/-- Trip input TRIP0 to TRIP7 (08 R246). -/
abbrev TripIn := Fin 8

/-- Remote temperature input TS0 to TS15 (13 R386). -/
abbrev TempIn := Fin 16

/-- Load output LO0 to LO31 (14 R402). -/
abbrev LoadOut := Fin 32

/-- Safety input SI0 to SI15 (15 R434). -/
abbrev SafetyIn := Fin 16

/-- Safety input pair k: inputs 2k and 2k + 1, function k (15 R434). -/
abbrev SafetyPair := Fin 8

/-- Safety output SO0 to SO7 (15 R446). -/
abbrev SafetyOut := Fin 8

/-- Coordination bus A (0) or B (1) (16 R459). -/
abbrev BusId := Fin 2

/-- Seam lane 0 or 1 (12 R353). -/
abbrev SeamLane := Fin 2

end Sys2Proof
end

