-- ==== Sys2Proof/Syntax.lean ====
section
/-! DEFINITION. The commands of the block: one constructor of `Instr` per row of spec/opcode_table.json, and the
records their operands are made of. Host commands carry the descriptor they arrive in (03 "Descriptor layout",
"Peiger opcodes"); frames carry the fields of their layouts (05, 07, 12, 16). -/

namespace Sys2Proof

/-- HOST-A and HOST-B (03 R52, R53). -/
inductive HPort where
  | a | b
deriving DecidableEq, Repr, Inhabited

/-- Image banks A and B (02 R42). -/
inductive Bank where
  | a | b
deriving DecidableEq, Repr, Inhabited

/-- What every descriptor carries beside its opcode and parameters (03 "Descriptor layout"): the ring it stands on,
TAG and LENGTH. -/
structure Hdr where
  ring   : Ring
  tag    : Half
  length : Half
deriving DecidableEq, Repr, Inhabited

/-- A bulk reference: offset in BAR2 and length with the buffer header (03 R64). -/
structure Bulk where
  offset : Word
  length : Word
deriving DecidableEq, Repr, Inhabited

/-- The parameters of ARM_REFERENCE (03 "ARM_REFERENCE layout"). -/
structure RefDesc where
  period   : DWord
  vref     : Word
  preds    : List Word
  iarm     : Word
  iarmPred : Word
  npred    : BitVec 4
deriving DecidableEq, Repr, Inhabited

/-- The header fields of a valid node-to-master frame (05 R126). -/
structure FrameHdr where
  seq    : Half
  rcnt   : Byte
  ack    : Byte
  retx   : Bool
  resend : Bool
  sreset : Bool
deriving DecidableEq, Repr, Inhabited

/-- A stamp: whole TB ticks and a fraction in 1/65,536 tick (05 "Stamp format"). -/
structure Stamp where
  ticks : DWord
  frac  : Half
deriving DecidableEq, Repr, Inhabited

/-- CAPS payload (05 "CAPS payload"). -/
structure Caps where
  proto    : Half
  model    : Half
  nodeId   : DWord
  image    : Word
  cells    : Half
  temps    : Byte
  sideB    : Bool
  dual     : Bool
  full     : Bool
  tmark    : Bool
  txDelay  : Half
  rxDelay  : Half
  minDead  : Half
  minPulse : Half
  features : Half
  bleedMax : Half
  epoch    : Word
  gen      : Word
  state    : Byte
  contact  : Byte
  mode     : Byte
  packId   : DWord
deriving DecidableEq, Repr, Inhabited

/-- STAT payload (05 "STAT payload"). -/
structure Stat where
  syncSeq       : Half
  timing        : Bool
  safe          : Bool
  staged        : Bool
  balance       : Bool
  otherMaster   : Bool
  sideB         : Bool
  epochConflict : Bool
  streamFail    : Bool
  interlock     : Bool
  deadRaised    : Bool
  t2            : Stamp
  t3            : Stamp
  epoch         : Word
  genExec       : Word
  genNewest     : Word
  state         : Byte
  contactor     : BitVec 2
  precharge     : BitVec 2
  mode          : Byte
  comparators   : Byte
  nodeTemp      : Half
  nodeSupply    : Half
  edgeCnt       : Word
  framesBad     : Word
  retx          : Word
deriving DecidableEq, Repr, Inhabited

/-- CELLS report, KIND 0x00 (05). COUNT is the length of `cells`. -/
structure CellsReport where
  locked    : Bool
  balSusp   : Bool
  balOn     : Bool
  owTest    : Bool
  nsamp     : Half
  sampleCnt : Word
  time      : DWord
  packI     : Word
  packV     : Word
  capV      : Word
  cells     : List Half
  /-- temperatures, only with TEMPS set -/
  temps     : Option (List Half)
deriving DecidableEq, Repr, Inhabited

/-- The four samples of one cell around an edge (05 burst segment). -/
structure BurstSample where
  pre   : Half
  post1 : Half
  post2 : Half
  post3 : Half
deriving DecidableEq, Repr, Inhabited

/-- CELLS burst segment, KIND 0x01 (05). -/
structure CellsBurst where
  last     : Bool
  first    : Half
  edgeCnt  : Word
  time     : DWord
  packIPre : Word
  packIPost : Word
  samples  : List BurstSample
deriving DecidableEq, Repr, Inhabited

/-- CELLS trigger sample, KIND 0x02 (07 R219). -/
structure CellsTrigger where
  compare : BitVec 2
  trigCnt : Word
  time    : DWord
  packI   : Word
  gen     : Word
  cells   : List Half
deriving DecidableEq, Repr, Inhabited

/-- TOUCH payload (05): MAIN and STONE of each cell. -/
structure TouchFrame where
  sampleCnt : Word
  time      : DWord
  main      : List Half
  stone     : List (BitVec 10)
deriving DecidableEq, Repr, Inhabited

/-- One EDGES record (05). -/
structure EdgeRec where
  edgeCnt    : Word
  gen        : Word
  delta      : Word
  dead       : Half
  state      : Byte
  safe       : Bool
  burst      : Bool
  deadRaised : Bool
  charge     : DWord
deriving DecidableEq, Repr, Inhabited

/-- EDGES payload (05). -/
structure EdgesFrame where
  base : DWord
  recs : List EdgeRec
deriving DecidableEq, Repr, Inhabited

/-- REPLY payload (05 "REPLY payload"). -/
structure NodeReply where
  cmdId    : Half
  code     : Half
  result   : Byte
  progress : Byte
  data     : List Byte
deriving DecidableEq, Repr, Inhabited

/-- HEARTBEAT payload with the arrival stamp taken by the receiver (12 "HEARTBEAT payload"). -/
structure Heartbeat where
  address      : BitVec 12
  twin         : Bool
  role         : BitVec 3
  ready        : Bool
  powerFail    : Bool
  holdupFault  : Bool
  timeOk       : Bool
  bankB        : Bool
  seamVer      : Byte
  seamMin      : Byte
  quenched     : Byte
  count        : Word
  epoch        : Word
  genLast      : Word
  fwCount      : Word
  configSeq    : Word
  image        : Word
  tTx          : Stamp
  echoTx       : Stamp
  echoRx       : Stamp
  arrival      : Stamp
  handoverAt   : DWord
  handoverEpoch : Word
  handoverGen  : Word
deriving DecidableEq, Repr, Inhabited

/-- The header of a valid seam frame (12 R353). -/
structure SeamHdr where
  seq    : Half
  rcnt   : Half
  ack    : Half
  retx   : Bool
  resend : Bool
deriving DecidableEq, Repr, Inhabited

/-- SET_MIRROR entry, and the values of one channel in a set (12, 07 "Direct duty area entry"). -/
structure MirrorEntry where
  compare  : BitVec 29
  neg      : Bool
  carrying : Bool
  dither   : BitVec 4
  trig0    : BitVec 24
  trig1    : BitVec 24
  trig2    : BitVec 24
  trig3    : BitVec 24
deriving DecidableEq, Repr, Inhabited

/-- SET_MIRROR payload (12 R361). -/
structure SetMirror where
  gen          : Word
  period       : DWord
  restage      : Bool
  direct       : Bool
  concentrated : Bool
  rotate       : Chan
  holds        : DWord
  refArrival   : DWord
  reference    : RefDesc
  entries      : List MirrorEntry
deriving DecidableEq, Repr, Inhabited

/-- Cell and wire flag entry of a STATE_MIRROR (12 section 0x12). -/
structure FlagEntry where
  index      : BitVec 9
  wire       : Bool
  flag       : Bool
  isOpen     : Bool
  cellFault  : Bool
  impChecked : Bool
deriving DecidableEq, Repr, Inhabited

/-- Count record of a STATE_MIRROR (12 section 0x13). -/
structure CountRec where
  cause : Byte
  time  : DWord
deriving DecidableEq, Repr, Inhabited

/-- Channel bookkeeping entry (12 section 0x11) with the flag entries and counts of the same channel. -/
structure ChanBook where
  channel     : Chan
  state       : Byte
  step        : BitVec 3
  inSequence  : Bool
  protective  : Bool
  host        : Bool
  service     : Bool
  gap         : Bool
  rest        : Bool
  assayRest   : Bool
  present     : Word
  fenceCause  : Byte
  fenceK      : BitVec 4
  retireCause : Byte
  annealAt    : DWord
  restStart   : DWord
  restLen     : Half
  retiredNode : DWord
  retiredPack : DWord
  flags       : List FlagEntry
  counts      : List CountRec
deriving DecidableEq, Repr, Inhabited

/-- Group reconciliation entry (12 section 0x01). -/
structure GroupRecon where
  index      : Half
  z          : Word
  ub         : Half
  za         : Half
  cap        : Word
  uc         : Half
  learned    : Bool
  unverified : Bool
  eps        : Word
  if1        : Word
  if2        : Word
deriving DecidableEq, Repr, Inhabited

/-- Channel reconciliation entry (12 section 0x02). -/
structure ChanRecon where
  channel   : Chan
  chg       : List Word
  dis       : List Word
  fu        : Half
  restReq   : Bool
  granted   : Bool
  derating  : Bool
  gap       : Bool
  contLost  : Bool
  epsCh     : Word
  anchorAge : Word
  edgeCnt   : Word
  charge    : DWord
  nodeId    : DWord
  bleed     : BitVec 256
  epsSeg    : Word
  reqAge    : Word
deriving DecidableEq, Repr, Inhabited

/-- Group anchor entry (12 section 0x03). -/
structure AnchorRecon where
  zTop : Half
  uTop : Half
  zBot : Half
  uBot : Half
deriving DecidableEq, Repr, Inhabited

/-- Assay cycle block with its group anchor entries (12 section 0x03). -/
structure AssayRecon where
  channel : Chan
  phase   : BitVec 3
  elapsed : Word
  tTop    : DWord
  tBot    : DWord
  cycleQ  : DWord
  anchors : List AnchorRecon
deriving DecidableEq, Repr, Inhabited

/-- One bin of a stored impedance record (10 R314): R_ohm, R_ct1, R_ct2 in µΩ, τ1 in µs, τ2 in 10 ms. -/
structure ImpBinRec where
  rOhm : Half
  rCt1 : Half
  rCt2 : Half
  tau1 : Half
  tau2 : Half
deriving DecidableEq, Repr, Inhabited

/-- Impedance record of one cell index (10 R314). -/
structure ImpRec where
  index     : Half
  flags     : Half
  seq       : Word
  baseRatio : Half
  bins      : List ImpBinRec
deriving DecidableEq, Repr, Inhabited

/-- Learned-data record of one channel (10 R313); per group (capacity 0.01 Ah, u_C 0.01 %). -/
structure LearnedRec where
  packId     : DWord
  seq        : Word
  cycles     : Word
  throughput : DWord
  unverified : Bool
  groupsN    : Half
  dormantAt  : Word
  groups     : List (Word × Half)
deriving DecidableEq, Repr, Inhabited

/-- The content of one complete RECONCILE series (12 R363, R367); TAG is the station time of the update. -/
structure Reconcile where
  tag      : DWord
  groups   : List GroupRecon
  channels : List ChanRecon
  assays   : List AssayRecon
  imps     : List ImpRec
  learned  : List (Chan × LearnedRec)
deriving DecidableEq, Repr, Inhabited

/-- One entry of a CONFIG series (12 R368). -/
structure ConfigEntry where
  id     : Half
  marked : Bool
  value  : List Byte
deriving DecidableEq, Repr, Inhabited

/-- A bus frame as received (16 "Received-frame stream record"). -/
structure BusFrame where
  extended : Bool
  remote   : Bool
  fdf      : Bool
  brs      : Bool
  esi      : Bool
  ident    : BitVec 29
  data     : List Byte
  time     : DWord
deriving DecidableEq, Repr, Inhabited

/-- The kinds of CAN error, coded as LAST_ERROR (16 R474 event data). -/
inductive BusErr where
  | stuff | form | ack | bit1 | bit0 | crc
deriving DecidableEq, Repr, Inhabited

/-- Current (mA) and junction temperature (0.1 °C) of a load output at an event (14 event data). -/
structure LoMeas where
  current : Half
  tj      : Half
deriving DecidableEq, Repr, Inhabited

/-- What a turn-on of a load output measures (14 R421). -/
structure LoProfile where
  cold   : Half
  peak   : Half
  tLimit : Half
  i1ms   : Half
  i10ms  : Half
  i100ms : Half
deriving DecidableEq, Repr, Inhabited

/-- One conversion of a remote sensor input (13 R386, R387): a reading in 0.1 °C, or a fault condition. -/
inductive TsResult where
  | reading (t : Half)
  | isOpen
  | isShort
  | outOfRange
deriving DecidableEq, Repr, Inhabited

/-- Clock loss or PLL loss (02 R26). -/
inductive ClockFault where
  | root | mainPll | lnkPll
deriving DecidableEq, Repr, Inhabited

/-- One scan of the five hallmark blocks: present value of each and which blocks hold a contradictory switch (15 R431). -/
structure HallmarkScan where
  hbA : Byte
  hbB : Byte
  hbC : Byte
  hbD : Byte
  hbE : Byte
  contradictory : BitVec 5
deriving DecidableEq, Repr, Inhabited

/-- BAR0 registers or the BAR2 window (03). -/
inductive Bar where
  | bar0 | bar2
deriving DecidableEq, Repr, Inhabited

/-- A boundary-scan instruction (18 R507). -/
inductive TapInstr where
  | bypass | idcode | sample | extest | other
deriving DecidableEq, Repr, Inhabited

/-- The resets of one host port alone (03 R51, 18 R512). -/
inductive PortReset where
  | hot | linkDisable | perst | flr
deriving DecidableEq, Repr, Inhabited

/-- Which queue of a bus a transmission belongs to (16 R460): class 0, class 1, one-shot. -/
inductive TxKind where
  | trip | twin | oneShot
deriving DecidableEq, Repr, Inhabited

/-- The commands of the block, in the order of the opcode table. The comment of each names its row and the rule that
governs it. -/
inductive Instr where
  /-- GET_PARAM (R88). -/
  | getParam (h : Hdr) (id : Half) (view : BitVec 2) (bulk : Bulk)
  /-- SET_PARAM (R86). -/
  | setParam (h : Hdr) (id : Half) (len : Half) (value : List Byte) (bulk : Bulk)
  /-- COMMIT_CONFIG (R87). -/
  | commitConfig (h : Hdr) (validateOnly : Bool)
  /-- READ_IDENTITY (R523). -/
  | readIdentity (h : Hdr)
  /-- SET_TIME (R29). -/
  | setTime (h : Hdr) (t : DWord)
  /-- SET_TIME_TIMEOUT (R29). -/
  | setTimeTimeout
  /-- HOST_SWITCH (R54). -/
  | hostSwitch (h : Hdr)
  /-- ACTIVE_PORT_CHANGE (R56). -/
  | activePortChange
  /-- STREAM_SETUP (R60). -/
  | streamSetup (h : Hdr) (ring : Ring) (kind : Byte) (mask : DWord) (interval : Half)
  /-- RESET_MODULE (R41). -/
  | resetModule (h : Hdr) (force : Bool)
  /-- DEFERRED_RESTART (R73). -/
  | deferredRestart
  /-- CH_CONNECT (R333). -/
  | chConnect (h : Hdr) (n : Chan) (active : Bool)
  /-- CH_DISCONNECT (R336). -/
  | chDisconnect (h : Hdr) (n : Chan)
  /-- CH_DORMANT (R348). -/
  | chDormant (h : Hdr) (n : Chan)
  /-- CH_RETIRE (R345). -/
  | chRetire (h : Hdr) (n : Chan) (w4 : Word)
  /-- CH_RESTORE (R350). -/
  | chRestore (h : Hdr) (n : Chan)
  /-- ARM_REFERENCE (R76). -/
  | armReference (h : Hdr) (ref : RefDesc)
  /-- LOAD_ALL (R58). -/
  | loadAll (h : Hdr)
  /-- LOAD_ALL_GO (R57). -/
  | loadAllGo (port : HPort) (value : Word)
  /-- QUENCH_RELEASE (R252). -/
  | quenchRelease (h : Hdr) (mask : Byte)
  /-- RESTAGE (R233). -/
  | restage (h : Hdr)
  /-- SET_MODE (R217). -/
  | setMode (h : Hdr) (direct : Bool)
  /-- ASSAY_CYCLE_START (R304). -/
  | assayCycleStart (h : Hdr) (n : Chan)
  /-- ASSAY_CYCLE_ABORT (R310). -/
  | assayCycleAbort (h : Hdr) (n : Chan)
  /-- REST_GRANT (R275). -/
  | restGrant (h : Hdr) (n : Chan) (duration : Word) (start : DWord)
  /-- TOUCHMARK_PROVISION (R320). -/
  | touchmarkProvision (h : Hdr) (n : Chan) (bulk : Bulk)
  /-- READ_LIMITS (R282). -/
  | readLimits (h : Hdr) (sel : Byte)
  /-- NODE_UPDATE (R380). -/
  | nodeUpdate (h : Hdr) (n : Chan) (bulk : Bulk)
  /-- NODE_CALIBRATE (R380). -/
  | nodeCalibrate (h : Hdr) (n : Chan) (kind : Byte)
  /-- LINK_RETEST (R116). -/
  | linkRetest (h : Hdr) (p : Chan)
  /-- THERMAL_MODE (R396). -/
  | thermalMode (h : Hdr) (proportional : Bool)
  /-- LO_SET (R423). -/
  | loSet (h : Hdr) (sel : Word) (state : Word) (inrush : Word)
  /-- LO_REARM (R424). -/
  | loRearm (h : Hdr) (mask : Word)
  /-- SAFETY_STATUS (R454). -/
  | safetyStatus (h : Hdr)
  /-- BUS_RECOVER (R473). -/
  | busRecover (h : Hdr) (mask : BitVec 2)
  /-- BUS_SEND (R461). -/
  | busSend (h : Hdr) (mask : BitVec 2) (mtype : BitVec 13) (cls : BitVec 4) (len : BitVec 7) (data : List Byte) (bulk : Bulk)
  /-- BUS_MODE (R478). -/
  | busMode (h : Hdr) (mask : BitVec 2) (mode : BitVec 2)
  /-- BUS_MODE_APPLY (R478). -/
  | busModeApply (b : BusId)
  /-- TWIN_HANDOVER (R374). -/
  | twinHandover (h : Hdr)
  /-- IMAGE_UPDATE (R378). -/
  | imageUpdate (h : Hdr) (offset : Word) (bulk : Bulk) (last : Bool)
  /-- IMAGE_ACTIVATE (R379). -/
  | imageActivate (h : Hdr) (bank : Bank)
  /-- LOG_READ (R497). -/
  | logRead (h : Hdr) (first : Word) (count : Word) (w5 : Word) (bulk : Bulk)
  /-- FAULT_ACK (R492). -/
  | faultAck (h : Hdr) (id : Word)
  /-- UNKNOWN_OPCODE (R71). -/
  | unknownOpcode (h : Hdr) (op : Half)
  /-- HST_HEARTBEAT_WRITE (R84). -/
  | hstHeartbeatWrite (port : HPort)
  /-- HST_TAKEOVER_WRITE (R55). -/
  | hstTakeoverWrite (port : HPort) (value : Word)
  /-- HST_RING_HPI_WRITE (R63). -/
  | hstRingHpiWrite (port : HPort) (ring : Ring) (value : Word)
  /-- HST_RING_CFG_WRITE (R61). -/
  | hstRingCfgWrite (port : HPort) (ring : Ring) (value : Word)
  /-- HST_IRQ_PEND_CLEAR (R7). -/
  | hstIrqPendClear (port : HPort) (high : Bool) (value : Word) (setNow : Word)
  /-- HST_WRITE_DROPS_READ (R8). -/
  | hstWriteDropsRead (port : HPort) (concurrent : Bool)
  /-- HST_TIME_LO_READ (R28). -/
  | hstTimeLoRead (port : HPort)
  /-- REGISTER_WRITE (R52). -/
  | registerWrite (port : HPort) (bar : Bar) (offset : Nat) (size : Nat) (value : DWord)
  /-- STREAM_INTERVAL (R74). -/
  | streamInterval (ring : Ring)
  /-- POWER_ON (R39). -/
  | powerOn (hbA : Byte) (hbB : Byte)
  /-- MRST (R508). -/
  | mrst
  /-- WATCHDOG_RESET (R39). -/
  | watchdogReset
  /-- CLOCK_LOSS (R27). -/
  | clockLoss (kind : ClockFault)
  /-- RAIL_FAULT (R39). -/
  | railFault
  /-- CLOCK_RESTORED (R27). -/
  | clockRestored
  /-- PORT_SETTLE_TIMEOUT (R45). -/
  | portSettleTimeout (p : Chan)
  /-- MODULE_READY (R45). -/
  | moduleReady
  /-- HOLDUP_TEST_DONE (R46). -/
  | holdupTestDone (ok : Bool) (time : Half)
  /-- ROLE_RESOLUTION (R358). -/
  | roleResolution
  /-- ALONE_WAIT_EXPIRY (R358). -/
  | aloneWaitExpiry
  /-- POWER_FAIL_WARNING (R47). -/
  | powerFailWarning (vlogic : Half)
  /-- POWER_FAIL_HANDOVER (R47). -/
  | powerFailHandover
  /-- POWER_FAIL_WITHDRAWN (R48). -/
  | powerFailWithdrawn
  /-- RESERVE_EXHAUSTED (R47). -/
  | reserveExhausted
  /-- CHECKPOINT_PERIODIC (R47). -/
  | checkpointPeriodic
  /-- RECORD_WRITE_DONE (R313). -/
  | recordWriteDone (ok : Bool)
  /-- PPS_EDGE (R31). -/
  | ppsEdge (ticks : DWord) (frac : Half)
  /-- PPS_LOSS_TIMEOUT (R32). -/
  | ppsLossTimeout
  /-- HOLDOVER_EXPIRY (R34). -/
  | holdoverExpiry
  /-- OSC_COMPENSATION (R25). -/
  | oscCompensation (d0 : Half)
  /-- COMPENSATION_LEARN (R401). -/
  | compensationLearn (error : Half)
  /-- HOST_PORT_RESET (R51). -/
  | hostPortReset (port : HPort) (kind : PortReset)
  /-- HOST_LINK_CHANGE (R50). -/
  | hostLinkChange (port : HPort) (up : Bool) (width : BitVec 3) (speed : BitVec 2)
  /-- HOST_SILENCE_TIMEOUT (R85). -/
  | hostSilenceTimeout (byLink : Bool)
  /-- PORT_LIGHT_DETECT (R109). -/
  | portLightDetect (p : Chan)
  /-- LIGHT_ON_UNPOPULATED (R12). -/
  | lightOnUnpopulated (p : Chan)
  /-- CHARACTER_LOCK (R95). -/
  | characterLock (p : Chan) (gained : Bool)
  /-- TONE_QUALIFIED (R109). -/
  | toneQualified (p : Chan)
  /-- RANGING_COMPLETE (R116). -/
  | rangingComplete (p : Chan) (freqErr : Word)
  /-- RANGING_VERIFIED (R116). -/
  | rangingVerified (p : Chan)
  /-- BRINGUP_STAGE_OVERRUN (R110). -/
  | bringupStageOverrun (p : Chan)
  /-- BRINGUP_RETRY (R111). -/
  | bringupRetry (p : Chan)
  /-- EXCHANGE_TIMEOUT (R145). -/
  | exchangeTimeout (p : Chan)
  /-- FAULT_TONE_ARRIVAL (R107). -/
  | faultToneArrival (p : Chan) (cause : Byte)
  /-- TONE_LOST (R105). -/
  | toneLost (p : Chan) (cause : BitVec 2)
  /-- DOWNSTREAM_DETECT (R108). -/
  | downstreamDetect (p : Chan)
  /-- TONE_HEALTHY_RETURN (R106). -/
  | toneHealthyReturn (p : Chan)
  /-- SYNC_INTERVAL (R118). -/
  | syncInterval
  /-- STAT_RECEIVED (R118). -/
  | statReceived (p : Chan) (hdr : FrameHdr) (x : Stat) (t4 : Stamp)
  /-- TIMING_REPLY_ABSENT (R121). -/
  | timingReplyAbsent (p : Chan)
  /-- CAPS_RECEIVED (R145). -/
  | capsReceived (p : Chan) (hdr : FrameHdr) (x : Caps)
  /-- CELLS_REPORT_RECEIVED (R169). -/
  | cellsReportReceived (p : Chan) (hdr : FrameHdr) (x : CellsReport)
  /-- CELLS_BURST_RECEIVED (R294). -/
  | cellsBurstReceived (p : Chan) (hdr : FrameHdr) (x : CellsBurst)
  /-- CELLS_TRIGGER_RECEIVED (R219). -/
  | cellsTriggerReceived (p : Chan) (hdr : FrameHdr) (x : CellsTrigger)
  /-- TOUCH_RECEIVED (R172). -/
  | touchReceived (p : Chan) (hdr : FrameHdr) (x : TouchFrame)
  /-- EDGES_RECEIVED (R236). -/
  | edgesReceived (p : Chan) (hdr : FrameHdr) (x : EdgesFrame)
  /-- REPLY_RECEIVED (R149). -/
  | replyReceived (p : Chan) (hdr : FrameHdr) (x : NodeReply)
  /-- FRAME_INVALID (R128). -/
  | frameInvalid (p : Chan)
  /-- RETRANSMIT_TIMEOUT (R133). -/
  | retransmitTimeout (p : Chan)
  /-- CMD_REPLY_TIMEOUT (R149). -/
  | cmdReplyTimeout (p : Chan) (cmdId : Half)
  /-- FRAME_ERROR_CHECK (R157). -/
  | frameErrorCheck (p : Chan)
  /-- RELOAD_POINT (R203). -/
  | reloadPoint (start : DWord)
  /-- PULSE_SUPPRESSED_REPORT (R202). -/
  | pulseSuppressedReport
  /-- SATURATION_REPORT (R222). -/
  | saturationReport
  /-- REFERENCE_LATE_REPORT (R80). -/
  | referenceLateReport
  /-- RESTAGED_REPORT (R233). -/
  | restagedReport
  /-- TRIP_INPUT_DEMAND (R246). -/
  | tripInputDemand (i : TripIn) (enters : Bool)
  /-- TRIP_WIRING_FAULT (R247). -/
  | tripWiringFault (i : TripIn) (begins : Bool)
  /-- TRIP_CHATTER_END (R247). -/
  | tripChatterEnd (i : TripIn)
  /-- TRIP_PRESENCE_END (R247). -/
  | tripPresenceEnd (i : TripIn)
  /-- BLANKING_END (R248). -/
  | blankingEnd (g : Group)
  /-- HW_FAULT_REQUEST (R249). -/
  | hwFaultRequest (cause : Byte)
  /-- LANE_SELFTEST (R251). -/
  | laneSelftest (ok : Bool) (vector : Half)
  /-- DEBUG_HALT (R253). -/
  | debugHalt
  /-- TRIPREQ_HOLD_END (R256). -/
  | tripreqHoldEnd
  /-- PRECHARGE_TIMEOUT (R333). -/
  | prechargeTimeout (n : Chan)
  /-- CONTACTOR_TEST_TIMEOUT (R332). -/
  | contactorTestTimeout (n : Chan)
  /-- CONTACTOR_OPEN_RETRY (R337). -/
  | contactorOpenRetry (n : Chan)
  /-- DISCONNECT_BYPASS_TIMEOUT (R330). -/
  | disconnectBypassTimeout (n : Chan)
  /-- ANNEAL_DELAY_EXPIRY (R343). -/
  | annealDelayExpiry (n : Chan)
  /-- CELL_LIMIT_TIMER (R340). -/
  | cellLimitTimer (n : Chan) (cell : Byte) (above : Bool)
  /-- PLAUS_HOLD_EXPIRY (R340). -/
  | plausHoldExpiry (n : Chan)
  /-- CONTACT_RECHECK (R372). -/
  | contactRecheck
  /-- OPEN_WIRE_SCAN (R188). -/
  | openWireScan
  /-- ESTIMATOR_UPDATE (R263). -/
  | estimatorUpdate
  /-- REST_REQUEST_REPEAT (R274). -/
  | restRequestRepeat (n : Chan)
  /-- REST_WAIT_EXPIRY (R277). -/
  | restWaitExpiry (n : Chan)
  /-- REST_START (R275). -/
  | restStart (n : Chan)
  /-- REST_END (R276). -/
  | restEnd (n : Chan)
  /-- ASSAY_TIMEOUT (R310). -/
  | assayTimeout (n : Chan)
  /-- IMPEDANCE_SAVE (R314). -/
  | impedanceSave
  /-- TS_CONVERSION (R386). -/
  | tsConversion (i : TempIn) (res : TsResult)
  /-- TS_FAULT_TRIP (R387). -/
  | tsFaultTrip (i : TempIn)
  /-- DIE_WARN_RECHECK (R398). -/
  | dieWarnRecheck
  /-- THERMAL_SHUTDOWN (R399). -/
  | thermalShutdown (comparators : BitVec 4) (sensor : BitVec 2) (peak : Half)
  /-- THERMAL_RESTART (R399). -/
  | thermalRestart
  /-- LO_SHORT (R404). -/
  | loShort (o : LoadOut) (m : LoMeas)
  /-- LO_OVERLOAD (R407). -/
  | loOverload (o : LoadOut) (m : LoMeas)
  /-- LO_THERMAL_LATCH (R412). -/
  | loThermalLatch (o : LoadOut) (m : LoMeas)
  /-- LO_THERMAL_RELEASE (R412). -/
  | loThermalRelease (o : LoadOut) (tj : Half)
  /-- LO_UNDERVOLTAGE (R413). -/
  | loUndervoltage (o : LoadOut) (vfeed : Half)
  /-- LO_UV_RESTART (R413). -/
  | loUvRestart (o : LoadOut)
  /-- LO_INRUSH_END (R405). -/
  | loInrushEnd (o : LoadOut) (prof : LoProfile)
  /-- LO_ATTEMPT_DUE (R410). -/
  | loAttemptDue (o : LoadOut)
  /-- LO_ANNEALED (R411). -/
  | loAnnealed (o : LoadOut)
  /-- LO_ATTEMPT_RESET (R411). -/
  | loAttemptReset (o : LoadOut)
  /-- LO_CLAMP_TURNOFF (R409). -/
  | loClampTurnoff (o : LoadOut) (current : Half) (duration : Half)
  /-- LO_STUCK_ON (R415). -/
  | loStuckOn (o : LoadOut) (m : LoMeas)
  /-- LO_ON_MAX (R418). -/
  | loOnMax (o : LoadOut)
  /-- LO_OPEN_LOAD (R422). -/
  | loOpenLoad (o : LoadOut) (begins : Bool) (m : LoMeas)
  /-- SI_DEMAND (R435). -/
  | siDemand (i : SafetyIn)
  /-- SI_PERMIT (R435). -/
  | siPermit (i : SafetyIn)
  /-- PULSE_SAMPLE (R436). -/
  | pulseSample (tp : Fin 4) (high : BitVec 16) (readHigh : Bool) (stuckLow : Bool)
  /-- DISCREPANCY_TICK (R442). -/
  | discrepancyTick
  /-- TWO_HAND_SYNC_TIMEOUT (R440). -/
  | twoHandSyncTimeout (k : SafetyPair)
  /-- SRST_PRESS_ACCEPTED (R445). -/
  | srstPressAccepted (ticks : Half)
  /-- RESET_STUCK (R444). -/
  | resetStuck (pressed : Bool)
  /-- SI_CHATTER (R437). -/
  | siChatter (i : SafetyIn) (starts : Bool)
  /-- OFF_PULSE_TEST (R446). -/
  | offPulseTest (o : SafetyOut) (sw : BitVec 2) (ok : Bool)
  /-- SO_READBACK_FAULT (R448). -/
  | soReadbackFault (o : SafetyOut) (readsOn : Bool)
  /-- DEGRADED_EXPIRY (R451). -/
  | degradedExpiry
  /-- HALLMARK_SCAN (R431). -/
  | hallmarkScan (scan : HallmarkScan)
  /-- SAFETY_INTERNAL_FAULT (R451). -/
  | safetyInternalFault
  /-- VSAFE_LOSS (R427). -/
  | vsafeLoss
  /-- VSAFE_START (R429). -/
  | vsafeStart (scan : HallmarkScan)
  /-- TRIP_BROADCAST_RX (R464). -/
  | tripBroadcastRx (b : BusId) (source : BitVec 12) (zone : BitVec 13) (data : List Byte)
  /-- TWIN_STATUS_RX (R468). -/
  | twinStatusRx (b : BusId) (source : BitVec 12) (data : List Byte)
  /-- BUS_FRAME_RX (R471). -/
  | busFrameRx (b : BusId) (f : BusFrame)
  /-- BUS_TX_COMPLETE (R459). -/
  | busTxComplete (b : BusId) (f : TxKind)
  /-- BUS_TX_ERROR (R459). -/
  | busTxError (b : BusId) (f : TxKind) (e : BusErr) (dataPhase : Bool)
  /-- BUS_RECOVERY_DONE (R473). -/
  | busRecoveryDone (b : BusId) (ok : Bool)
  /-- BUS_SUPPLY_ABSENT (R474). -/
  | busSupplyAbsent (b : BusId)
  /-- BUS_SUPPLY_RESTORED (R474). -/
  | busSupplyRestored (b : BusId)
  /-- ONE_SHOT_TIMEOUT (R462). -/
  | oneShotTimeout (b : BusId)
  /-- TWIN_STATUS_TIMER (R467). -/
  | twinStatusTimer
  /-- SEGMENT_STATUS_TIMER (R469). -/
  | segmentStatusTimer
  /-- HEARTBEAT_TX (R356). -/
  | heartbeatTx
  /-- FW_COUNT_TICK (R356). -/
  | fwCountTick
  /-- HEARTBEAT_RX (R355). -/
  | heartbeatRx (lane : SeamLane) (hdr : SeamHdr) (x : Heartbeat)
  /-- SEAM_LANE_DOWN (R355). -/
  | seamLaneDown (lane : SeamLane)
  /-- FW_SILENCE (R370). -/
  | fwSilence
  /-- NODE_WITNESS (R370). -/
  | nodeWitness
  /-- HANDOVER_WITHDRAW (R376). -/
  | handoverWithdraw
  /-- SET_MIRROR_RX (R361). -/
  | setMirrorRx (hdr : SeamHdr) (x : SetMirror)
  /-- MIRROR_MISS (R361). -/
  | mirrorMiss
  /-- STATE_MIRROR_RX (R362). -/
  | stateMirrorRx (hdr : SeamHdr) (tag : DWord) (books : List ChanBook)
  /-- RECONCILE_RX (R364). -/
  | reconcileRx (hdr : SeamHdr) (x : Reconcile)
  /-- CONFIG_RX (R368). -/
  | configRx (hdr : SeamHdr) (configSeq : Word) (entries : List ConfigEntry) (crcOk : Bool)
  /-- IMAGE_RX (R365). -/
  | imageRx (hdr : SeamHdr) (version : Word) (bytes : List Byte)
  /-- SEAM_RETX_TIMEOUT (R354). -/
  | seamRetxTimeout
  /-- FAULT_ACTION_STEP (R485). -/
  | faultActionStep
  /-- L2_BLOCK_RESTART (R490). -/
  | l2BlockRestart (cause : Half) (subject : Half) (ok : Bool)
  /-- RING_IRQ_HOLD_EXPIRY (R60). -/
  | ringIrqHoldExpiry (ring : Ring)
  /-- PORT_LIGHT_LOSS (R110). -/
  | portLightLoss (p : Chan)
  /-- BRINGUP_WAIT_EXPIRY (R110). -/
  | bringupWaitExpiry (p : Chan)
  /-- RANGING_SYNC (R116). -/
  | rangingSync (p : Chan)
  /-- SEAM_LANE_LOCK (R353). -/
  | seamLaneLock (lane : SeamLane) (gained : Bool)
  /-- SEAM_FRAME_INVALID (R353). -/
  | seamFrameInvalid (lane : SeamLane)
  /-- BUS_RX_ERROR (R472). -/
  | busRxError (b : BusId) (e : BusErr)
  /-- DIE_WARNING (R398). -/
  | dieWarning (d0 : Half) (d1 : Half) (d2 : Half) (d3 : Half)
  /-- DEBUG_RESUME (R253). -/
  | debugResume
  /-- TAP_INSTRUCTION (R507). -/
  | tapInstruction (ir : TapInstr) (mrst : Bool)
  /-- INTERNAL_FAULT_DETECTED (R484). -/
  | internalFaultDetected (cause : Half) (subject : Half)
  /-- IMAGE_CHUNK_WRITTEN (R378). -/
  | imageChunkWritten
  /-- CAUSE_COUNT_EXPIRY (R344). -/
  | causeCountExpiry (n : Chan) (cause : Byte)
  /-- SERVICE_HOLD_WAIT_TIMEOUT (R381). -/
  | serviceHoldWaitTimeout (n : Chan)
deriving DecidableEq, Repr, Inhabited

end Sys2Proof
end

