-- ==== Sys2Proof/Config.lean ====
section
/-! DEFINITION. What an implementation fixes and the manual leaves open. Every constant here but the hardware revision is
opaque: nothing in Lean can evaluate it, so no claim can lean on a value of it. Each is named in the assumption log. -/

namespace Sys2Proof.Config

/-- Serial number of the cassette, READ_IDENTITY w4 (18 R523). Log 2. -/
opaque serialNumber : Word

/-- Hardware revision, READ_IDENTITY w5 (03 opcodes): as HST_ID gives it (03 *BAR0 register map*). -/
def hardwareRevision : Word := 0x01

/-- Variant word of READ_IDENTITY w3: 0 for -A, 1 for -AC (00 R1); the model does not say which of the two it is. Log 2. -/
opaque variantAC : Bool

/-- Krerin's manufacturer code of the IDCODE register, 11 bits (18 R507). Log 2. -/
opaque manufacturerCode : BitVec 11

/-- The public key in the boot ROM under which image signatures are verified (12 R378), X then Y. Log 2. -/
opaque bootRomKey : List Byte

/-- What the header of a module image says (12 R378): it names IXW-6440, and carries its version, SEAM_VER and
SEAM_MIN; then the signed bytes and the signature. The manual gives no layout of that header, so reading it is
left to the implementation. `none`: the header does not name IXW-6440 or is malformed. Log 3. -/
opaque imageHeader : List Byte → Option (Word × Byte × Byte × List Byte × List Byte)

/-- The version that a node image carries (12 R380, 05 UPDATE_BEGIN): the manual gives no layout of a node image. Log 3. -/
opaque nodeImageVersion : List Byte → Word

/-- e^(-x) for x ≥ 0 as the correlation array and the firmware compute it (09 R273, R278; 10 R289): the manual
states the formula and no precision. Log 4. -/
opaque expNeg : Rat → Rat

/-- The natural logarithm as firmware computes it (09 R274, 13 R385). Log 4. -/
opaque ln : Rat → Rat

/-- The weighted least-squares fit of R_ohm, R_ct1 and τ1 (10 R295): from the accumulated points (elapsed time in s,
r in ohm, weight) and the held R_ct2 and τ2 to (R_ohm, R_ct1, τ1, SIGMA). The manual names the method and not
the numbers. Log 4. -/
opaque fitFast : List (Rat × Rat × Rat) → Rat → Rat → Rat × Rat × Rat × Rat

/-- The slow fit of 10 R296: from the relaxation points (time since start in s, value in V) to (v_inf, A, τ2, rms). Log 4. -/
opaque fitSlow : List (Rat × Rat) → Rat × Rat × Rat × Rat

/-- A fresh random challenge of 32 bytes (10 R321), the k-th of this module. Log 5. -/
opaque challenge : Nat → List Byte

/-- A free value of 64 bits, the k-th drawn: a measured or internal value that the manual gives no rule for. Log 5. -/
opaque freeWord : Nat → DWord

/-- A free choice between two outcomes the manual both allows, the k-th drawn. Log 5. -/
opaque freeBool : Nat → Bool

/-- Whether the firmware reports a value that is no whole number of units as the unit above it rather than the one
below (09, 10, 12: the manual gives the units and no rounding). Log 4. -/
opaque roundUp : Rat → Bool

end Sys2Proof.Config
end

