-- ==== Sys2Proof/Machine/State.lean ====
section
/-! DEFINITION. The state of the block as plain data: one structure per chapter of the manual, each field with the
rule that names it and where its reset value comes from, in brackets: [R<n>; spec] the manual gives the value,
[R<n>; log k] an entry of the assumption log chooses it, [model; log k] the field is the model's own. -/

namespace Sys2Proof.Machine

/-- A table by key, in one canonical form: keys strictly rising, and no entry equal to what a key that is not listed
reads as. Window memory is such a table of bytes (`Host.Cell`). -/
abbrev Tab (α : Type) := List (Nat × α)

/-! ## Time base (02) -/

/-- Station time lock states (02 R32). -/
inductive LockState where
  | unset | free | acquire | locked | holdover
deriving DecidableEq, Repr, Inhabited

/-- Time base and station time (02 R24 to R38). Times of day are station times; intervals are measured on `tb`. -/
structure TimSt where
  /-- TB ticks the block has counted, never stepped: what elapsed times are measured on. [model; log 6] -/
  tb : Nat := 0
  /-- Station time, 1.25 ns ticks. [R28; spec] -/
  station : DWord := 0
  /-- Lock state. [R32; spec] -/
  lock : LockState := .unset
  /-- The source is the seam link. [R35; spec] -/
  seamSrc : Bool := false
  /-- The module disciplines to the partner by R360. [R360; log 1] -/
  follow : Bool := false
  /-- A SET_TIME has loaded station time since power-on. [R32; spec] -/
  everSet : Bool := false
  /-- Second boundary: the station time SET_TIME loaded. [R31; spec: none before SET_TIME] -/
  anchor : Option DWord := none
  /-- Last accepted 1PPS edge: station time in units of `tUnit`. [R31; log 1] -/
  lastEdge : Option Int := none
  /-- Phase the slew has still to remove, in units of `tUnit` times the ticks of a second. [R33; log 1] -/
  slewLeft : Int := 0
  /-- Phase the slew moves station time by in a second, in units of `tUnit`. [R31; log 1] -/
  slewStep : Int := 0
  /-- Part of a tick that the slew has gathered, in units of `tUnit` per second of ticks. [R33; log 1] -/
  slewAcc : Int := 0
  /-- Consecutive valid edges within 5 ns while in ACQUIRE. [R32; log 1] -/
  good : Nat := 0
  /-- Consecutive rejected but mutually consistent edges. [R32; log 1] -/
  moved : Nat := 0
  /-- The last rejected edge, in units of `tUnit`. [R32; log 1] -/
  lastRejected : Option Int := none
  /-- Phase error in 0.1 ns; none while unknown. [R33, R524; spec: unknown] -/
  phase : Option Int := none
  /-- `tb` of the last valid edge. [R32; log 1] -/
  validAt : Nat := 0
  /-- `tb` at which the present holdover began. [R34; log 1] -/
  holdoverAt : Nat := 0
  /-- Steering of the root by discipline, units of 0.001 ppm. [R33; log 1] -/
  steer : DWord := 0
  /-- Correction of the root by the compensation table, steps of 0.001 ppm. [R25; log 1] -/
  comp : Int := 0
deriving DecidableEq, Repr, Inhabited

/-! ## Start, resets and supply (02, 13, 18) -/

/-- HST_STATE.STATE (03). -/
inductive ModState where
  | booting | ready | imageFault | safe
deriving DecidableEq, Repr, Inhabited

/-- Cause of the last start (02 R524 READY.CAUSE). -/
inductive StartCause where
  | powerOn | mrst | resetModule | watchdog | clockLoss | rail | thermal
deriving DecidableEq, Repr, Inhabited

/-- A restart that waits for its 1 ms (03 R73, 12 R379). -/
inductive Restart where
  | resetModule
  | activate (bank : Bank)
deriving DecidableEq, Repr, Inhabited

/-- Start-up, resets and VLOGIC supply monitoring (02 R39 to R49), the reset pins and the test port (18). -/
structure PwrSt where
  /-- Module state. [HST_STATE; spec: BOOTING] -/
  mod : ModState := .booting
  /-- The main domain is held in reset by the clock watch. [R27; log 1] -/
  clockHeld : Bool := false
  /-- The main domain is held in reset by the crucible shutdown. [R399; log 1] -/
  thermalHeld : Bool := false
  /-- The hold-up reserve is exhausted and the main domain held in reset. [R47; log 1] -/
  supplyHeld : Bool := false
  /-- Cause of this start. [R524; spec: power-on] -/
  cause : StartCause := .powerOn
  /-- HB-A[7:0] as latched by the boot ROM. [R15; log 7] -/
  hbA : Byte := 0
  /-- HB-B as latched by the boot ROM: [3:0] address [11:8], [4] twin. [R15; log 7] -/
  hbB : Byte := 0
  /-- Image bank running. [R42; spec: A] -/
  bank : Bank := .a
  /-- The non-preferred bank was started. [R42; log 1] -/
  fallback : Bool := false
  /-- IMAGE_FALLBACK.REASON: the attempt counter had reached 3. [R524; log 1] -/
  fallbackByCount : Bool := false
  /-- The image runs. [R45; spec: start-up begins] -/
  imageRuns : Bool := false
  /-- The configuration is loaded. [R45; spec: start-up begins] -/
  configLoaded : Bool := false
  /-- The quench matrix passed its start-up self-test. [R45; spec: start-up begins] -/
  matrixOk : Bool := false
  /-- READY has been declared since this start. [R45; spec: start-up begins] -/
  wasReady : Bool := false
  /-- Every cell link and seam transmitter is dark. [R40; spec: dark in reset] -/
  dark : Bool := true
  /-- HOLDUP_OK on X1. [R46; spec: inactive before the test] -/
  holdupOk : Bool := false
  /-- The hold-up reserve has been tested in this start. [R46; log 1] -/
  holdupTested : Bool := false
  /-- The hold-up reserve failed its test. [R46; spec HST_STATE] -/
  holdupFault : Bool := false
  /-- Power-fail warning asserted. [R47; spec HST_STATE] -/
  warn : Bool := false
  /-- `tb` of the warning. [R524; log 1] -/
  warnAt : Nat := 0
  /-- The module handed over during the warning. [R48, R524; log 1] -/
  warnHandedOver : Bool := false
  /-- Restart that follows the return of a reply by 1 ms. [R73; log 1] -/
  restart : Option Restart := none
  /-- Boot record: preferred bank. [R42; log 8] -/
  prefBank : Bank := .a
  /-- Boot record: attempt counter. [R42; log 8] -/
  attempts : Nat := 0
  /-- Start count of the main domain. [R494; log 8] -/
  boot : Word := 0
  /-- L0 to L2 records that the reset took away, to be closed at READY: (id, cause, subject, count, level). [R491; log 1] -/
  closeAtReady : List (Word × Half × Half × Half × Nat) := []
  /-- Instruction register of the test access port. [R507; log 1] -/
  tap : TapInstr := .idcode
deriving DecidableEq, Repr, Inhabited

/-! ## Host ports, rings and the shared window (03) -/

/-- What each host port has of its own (03 R51, BAR0 register map "per port"). -/
structure PortRegs where
  /-- The port's link is up. [R50; log 1] -/
  link : Bool := false
  /-- HST_PORT_STATUS.WIDTH. [BAR0; spec] -/
  width : BitVec 3 := 0
  /-- HST_PORT_STATUS.SPEED. [BAR0; spec] -/
  speed : BitVec 2 := 0
  /-- HST_CONTROL. [BAR0; spec] -/
  control : Word := 0
  /-- HST_WRITE_DROPS. [BAR0; spec] -/
  drops : Word := 0
  /-- HST_IRQ_PEND_HI:LO. [BAR0; spec] -/
  irqPend : DWord := 0
  /-- HST_IRQ_MASK_HI:LO. [BAR0; spec: all ones] -/
  irqMask : DWord := 0xFFFF_FFFF_FFFF_FFFF
  /-- HST_TIME_HI. [BAR0; spec] -/
  timeHi : Word := 0
  /-- MSI-X table by byte offset, the mask bits of its 64 entries left out. [BAR0; log 9] -/
  msix : Tab Byte := []
  /-- Mask bit of each MSI-X entry. [BAR0; PRESUMED all ones (PCI Express), log 9] -/
  vecMask : DWord := 0xFFFF_FFFF_FFFF_FFFF
  /-- What the last register read that changes state returned. [R7, R8, R28; model, log 1] -/
  readValue : Word := 0
  /-- MSI-X pending-bit array. [BAR0; spec] -/
  pba : DWord := 0
  /-- MSI-X writes sent on the port, as vector numbers, newest first, the last 64 kept. [model; log 9] -/
  sent : List Nat := []
  /-- `tb` at which the link last went down. [R85; log 1] -/
  downAt : Nat := 0
deriving DecidableEq, Repr, Inhabited

/-- One executed-edge record as streams of kind 0x05 carry it (08 R239). -/
structure ExecRec where
  state   : Byte
  flags   : Byte
  edgeCnt : Word
  gen     : Word
  time    : DWord
  dead    : Half
  charge  : DWord
deriving DecidableEq, Repr, Inhabited

/-- A descriptor ring (03 R60 to R63, R74). -/
structure RingSt where
  /-- SIZE_LOG2. [HST_RING_CFG; spec] -/
  sizeLog2 : BitVec 4 := 8
  /-- DIR: module to host. [HST_RING_CFG; spec: 1 for rings 1 and 3] -/
  dir : Bool := false
  /-- ENABLE. [HST_RING_CFG; spec] -/
  enable : Bool := false
  /-- FAULT. [HST_RING_CFG; spec] -/
  fault : Bool := false
  /-- HST_RING_CFG [31:7]. [HST_RING_CFG; spec] -/
  cfgRsv : BitVec 25 := 0
  /-- HPI. [HST_RING_HPI; spec] -/
  hpi : Word := 0
  /-- MPI. [HST_RING_MPI; spec] -/
  mpi : Word := 0
  /-- Index of the first descriptor the module has not taken. [R63; spec: indices zero] -/
  tkn : Word := 0
  /-- Index of the first taken descriptor whose command has not begun. [R66; spec: indices zero] -/
  exe : Word := 0
  /-- HST_RING_IRQ. [HST_RING_IRQ; spec] -/
  irq : Word := 0
  /-- Descriptors returned since the last signal. [R60; log 1] -/
  unsignalled : Nat := 0
  /-- `tb` of the first unsignalled return. [R60; log 1] -/
  holdAt : Option Nat := none
  /-- Stream kind. [R74; spec: off] -/
  kind : Byte := 0
  /-- Stream channel mask. [R74; log 1] -/
  mask : DWord := 0
  /-- Stream interval in ms. [R74; log 1] -/
  interval : Half := 0
  /-- SEQ of the next buffer of the stream. [R64; log 1] -/
  seq : Word := 0
  /-- Executed-edge records that a stream of kind 0x05 has still to carry, oldest first. [R239; log 1] -/
  edges : List (Chan × ExecRec) := []
  /-- Received frames that a stream of kind 0x06 has still to carry, oldest first. [R471; log 1] -/
  frames : List (BusId × BusFrame) := []
deriving DecidableEq, Repr, Inhabited

/-- Status codes (03). -/
inductive Status where
  | ok | pending | badOpcode | badParam | outOfRange | wrongState | busy | fenced | notActive | sealed | authFail | timeout
deriving DecidableEq, Repr, Inhabited

/-- What the module writes into a descriptor it returns: status, DETAIL and parameter words (index 3 to 15, value). -/
structure Reply where
  status : Status := .ok
  detail : Half := 0
  words  : List (Nat × Word) := []
deriving DecidableEq, Repr, Inhabited

/-- A descriptor taken, executed and not yet returned (03 R62, R66). -/
structure Taken where
  ring  : Ring
  idx   : Word
  op    : Half
  tag   : Half
  len   : Half
  reply : Option Reply
deriving DecidableEq, Repr, Inhabited

/-- What a PENDING command is for (03 R67). -/
inductive Target where
  | none
  | channel (n : Chan)
  | port (p : Chan)
  | bus (mask : BitVec 2)
  | commit
deriving DecidableEq, Repr, Inhabited

/-- A PENDING command (03 R66 to R68). -/
structure Pend where
  op     : Half
  tag    : Half
  target : Target
  /-- `tb` at which it was accepted -/
  at_    : Nat
  /-- the number that the command has to remember: a time, a bank, a kind -/
  arg    : DWord
deriving DecidableEq, Repr, Inhabited

/-- A final reply held until ring 3 has a descriptor (03 R68). -/
structure HeldReply where
  op    : Half
  tag   : Half
  reply : Reply
deriving DecidableEq, Repr, Inhabited

/-- Commands in hand (03 R66 to R68). -/
structure CmdSt where
  /-- Descriptors executed and not yet returned, oldest first. [R66; log 1] -/
  taken : List Taken := []
  /-- PENDING commands, oldest first. [R67; log 1] -/
  pend : List Pend := []
  /-- Final replies held for ring 3, in order. [R68; log 1] -/
  held : List HeldReply := []
deriving DecidableEq, Repr, Inhabited

/-- The pending change of the active port (03 R54 to R56). -/
structure PortChange where
  port  : HPort
  /-- HOST_SWITCHED.CAUSE -/
  cause : Nat
deriving DecidableEq, Repr, Inhabited

/-- Host interface as a whole (03). -/
structure HstSt where
  /-- HOST-A's own registers. [R51; spec] -/
  a : PortRegs := {}
  /-- HOST-B's own registers. [R51; spec] -/
  b : PortRegs := {}
  /-- Active port. [R53; spec: HOST-A] -/
  active : HPort := .a
  /-- Change of the active port waiting for the end of the control period. [R56; log 1] -/
  change : Option PortChange := none
  /-- HST_SILENCE_STATUS.SILENT. [R85; spec] -/
  silent : Bool := false
  /-- Silence was declared because the link was down. [R525; log 1] -/
  silentByLink : Bool := false
  /-- HST_SILENCE_STATUS.DECLARED. [R85; spec] -/
  declared : Half := 0
  /-- `tb` of the last host activity. [R84; log 1] -/
  activityAt : Nat := 0
  /-- `tb` of the declaration of the present silence. [R525; log 1] -/
  silentAt : Nat := 0
  /-- References returned LATE in this second. [R80; log 1] -/
  lateCount : Word := 0
  /-- Largest lateness of this second, ns. [R525; log 1] -/
  lateWorst : Word := 0
  /-- INS_LOAD_ALL_STATUS.REJECTED. [INS_LOAD_ALL_STATUS; spec] -/
  loadRejected : Bool := false
  /-- INS_LOAD_ALL_STATUS.SUPERSEDED. [INS_LOAD_ALL_STATUS; spec] -/
  loadSuperseded : Byte := 0
  /-- INS_LOAD_ALL_GEN. [BAR0; spec] -/
  loadGen : Word := 0
  /-- INS_LOAD_ALL_TIME. [BAR0; spec] -/
  loadTime : DWord := 0
  /-- HST_REF_DEADLINE. [BAR0; spec] -/
  refDeadline : Word := 0
deriving DecidableEq, Repr, Inhabited

/-! ## Events and logs (03 R82, R83; 17 R493 to R496) -/

/-- An event (03 "Event descriptor"): DATA is bytes 28 to 63, byte 28 in the lowest bits. -/
structure Event where
  code    : Half
  level   : BitVec 4
  pinned  : Bool
  time    : DWord
  seq     : Word
  subject : Half
  boot    : Word
  data    : BitVec 288
deriving DecidableEq, Repr, Inhabited

/-- Events held, dropped and logged. -/
structure EvSt where
  /-- SEQ of the next event. [R494; spec: 0] -/
  seq : Word := 0
  /-- The event log, oldest first, at most 65,536 entries. [R493; spec: cleared] -/
  log : List Event := []
  /-- Events held for ring 1, oldest first, at most 256. [R83; log 1] -/
  held : List Event := []
  /-- Events dropped since the last EVENT_OVERFLOW. [R83; log 1] -/
  dropped : Word := 0
  /-- SEQ of the oldest event dropped. [R525; log 1] -/
  oldest : Word := 0
  /-- SEQ of the newest event dropped. [R525; log 1] -/
  newest : Word := 0
  /-- Pinned region in the retained store, oldest first, at most 1,024 entries. [R495; log 8] -/
  pinned : List Event := []
  /-- Pinned events raised whose write is still queued. [R495; log 1] -/
  pinQueue : List Event := []
  /-- PINNED_LOG_FULL has been raised and the region is still full. [R496; log 1] -/
  pinFull : Bool := false
deriving DecidableEq, Repr, Inhabited

/-! ## Configuration (03 R86 to R91) -/

/-- A configuration record on its way into the retained store (03 R87; 12 R368). -/
structure CfgRecord where
  /-- persisted values that result -/
  values : Tab (List Byte)
  /-- parameters among them that wait for the next commit -/
  marked : List Nat
  /-- HST_CONFIG_SEQ that results -/
  seq    : Word
  /-- staged values that the commit took -/
  taken  : Tab (List Byte)
deriving DecidableEq, Repr, Inhabited

/-- The configuration record (03). Values are byte strings, least significant byte first (R3); a table lists the
parameters whose value differs from the default of its chapter. -/
structure CfgSt where
  /-- Changes staged by SET_PARAM, by identifier, at most 256. [R86; spec: cleared by reset] -/
  staged : Tab (List Byte) := []
  /-- Persisted values, in the retained store. [R88; log 8] -/
  stored : Tab (List Byte) := []
  /-- Parameters persisted as "next commit" and not yet effective. [R88; log 8] -/
  marked : List Nat := []
  /-- Effective values. [R88; log 8] -/
  eff : Tab (List Byte) := []
  /-- HST_CONFIG_SEQ. [R87; log 8] -/
  seq : Word := 0
  /-- Record that the write in the queue or in flight makes effective. [R87; log 1] -/
  next : Option CfgRecord := none
deriving DecidableEq, Repr, Inhabited

/-! ## Cell link ports (04, 05) -/

/-- Link states (04). -/
inductive LinkState where
  | off | dark | light | aligned | tone | ranging | exchange | running | unpartnered | crossWired | refused
deriving DecidableEq, Repr, Inhabited

/-- Port tone states (04). -/
inductive ToneState where
  | healthy | fault | downstream | lost
deriving DecidableEq, Repr, Inhabited

/-- A SYNC sent, as a timing reply names it (04 R113, R118; 05 SYNC payload). -/
structure SyncSent where
  seq : Half
  /-- T1 in 1/65,536 tick -/
  t1  : Int
  /-- STEP was set and DELAY was valid -/
  step : Bool
deriving DecidableEq, Repr, Inhabited

/-- What a CMD was sent for: who takes its REPLY (05 R149). -/
inductive CmdPurpose where
  /-- set-up CMD k of R159 -/
  | setup (k : Nat)
  /-- a measurement parameter changed (06) -/
  | config
  /-- the running sequence of the channel (11) -/
  | sequence
  /-- contactor or precharge opened by a fence or disconnect at once, outside a sequence (11) -/
  | protect
  /-- OPEN_WIRE_TEST of a wire (06) -/
  | openWire (wire : Nat)
  /-- balancing mask (09) -/
  | balance
  /-- reading step of the touchmark (10) -/
  | touchRead
  | touchSign
  | touchWrite
  /-- NODE_UPDATE (12) -/
  | update
  | calibrate
deriving DecidableEq, Repr, Inhabited

/-- A CMD awaiting its final REPLY (05). -/
structure NodeCmd where
  id      : Half
  code    : Half
  args    : List Byte
  purpose : CmdPurpose
  /-- `tb` at which it was first sent -/
  at_     : Nat
deriving DecidableEq, Repr, Inhabited

/-- Payload of a reliable master-to-node frame (05). -/
inductive DownBody where
  | abort (gen : Word) (from_ : DWord) (action : Byte) (epoch : Word)
  | cmd (id : Half) (code : Half) (epoch : Word) (args : List Byte)
  | takeover (epoch : Word) (master : BitVec 12) (gen : Word) (from_ : DWord)
deriving DecidableEq, Repr, Inhabited

/-- An unacknowledged reliable frame (05 R132). -/
structure DownFrame where
  rcnt : Byte
  body : DownBody
deriving DecidableEq, Repr, Inhabited

/-- Output states (05). -/
inductive OutState where
  | blocked | inserted | bypassed | insertedNeg | bypassedUpper
deriving DecidableEq, Repr, Inhabited

/-- An entry of a SCHED (05 "SCHED entry"). -/
inductive SchedEntry where
  | edge (offset : Nat) (state : OutState) (dead : Nat) (burst : Bool)
  | trigger (offset : Nat) (compare : Nat)
deriving DecidableEq, Repr, Inhabited

/-- The last SCHED sent on a port (05 "SCHED payload"). -/
structure SchedFrame where
  gen   : Word
  first : DWord
  tctl  : Word
  nper  : Nat
  coast : Byte
  epoch : Word
  entries : List SchedEntry
deriving DecidableEq, Repr, Inhabited

/-- A cell link port: line, tone, ranging (04 R125) . -/
structure PortSt where
  /-- Link state. [R125; spec: OFF until bring-up] -/
  state : LinkState := .off
  /-- Tone state. [R125; log 1] -/
  tone : ToneState := .lost
  /-- TK_STATUS. [R125; log 1] -/
  tkStatus : Byte := 0
  /-- TF_CAUSE since the port last entered RUNNING. [R125; log 1] -/
  tfCause : Byte := 0
  /-- LOST_CAUSE. [R125; log 1] -/
  lostCause : BitVec 2 := 0
  /-- LIGHT. [R125; log 1] -/
  light : Bool := false
  /-- LOCK. [R125; log 1] -/
  lock : Bool := false
  /-- One-way delay in use, 0.1 ns. [R116, R125; spec: none] -/
  delay : Option Rat := none
  /-- Last filtered round trip, 0.1 ns. [R125; spec: none] -/
  round : Option Rat := none
  /-- RX_POWER. [R125; spec: 0x8000 without light] -/
  rxPower : Half := 0x8000
  /-- CODE_ERRORS. [R125; spec: since start] -/
  codeErrors : Word := 0
  /-- TONE_LOSSES. [R125; spec: since start] -/
  toneLosses : Word := 0
  /-- SYNCS. [R125; spec: since start] -/
  syncs : Word := 0
  /-- OUTLIERS. [R125; spec: since start] -/
  outliers : Word := 0
  /-- Delay measurements of the present ranging, newest first, 0.1 ns. [R116; log 1] -/
  ranging : List Rat := []
  /-- Verifying replies within 0.5 ns. [R116; log 1] -/
  verified : Nat := 0
  /-- The list of outliers, newest first, at most 16. [R118; log 1] -/
  outlierList : List Rat := []
  /-- SYNCs sent, newest first, the last 64 kept. [R118; log 1] -/
  sent : List SyncSent := []
  /-- Measurements of a LINK_RETEST in progress. [R116; log 1] -/
  retest : Option (List Rat) := none
  /-- `tb` of the times the port left RUNNING, newest first, at most 4. [R110; log 1] -/
  left : List Nat := []
  /-- The port waits 1 s before its next attempt. [R110; log 1] -/
  waiting : Bool := false
  /-- PORT_UNPARTNERED was raised since the port was last RUNNING. [R111; log 1] -/
  saidUnpartnered : Bool := false
  /-- PORT_CROSS_WIRED was raised since the port was last RUNNING. [R111; log 1] -/
  saidCrossWired : Bool := false
  /-- NODE_SERVICE for ranging was raised since the port was last RUNNING. [R111; log 1] -/
  saidRefused : Bool := false
  /-- The port has counted as settled since this start. [R45; log 1] -/
  settled : Bool := false
  /-- Transmitter fault or line fault holds the port dark. [R249; log 1] -/
  txFault : Bool := false
deriving DecidableEq, Repr, Inhabited

/-- The frame layer of a port (05 R156). -/
structure TxnSt where
  /-- FRAMES_RX. [R156; log 1] -/
  framesRx : Word := 0
  /-- FRAMES_BAD. [R156; log 1] -/
  framesBad : Word := 0
  /-- SEQ_GAPS. [R156; log 1] -/
  seqGaps : Word := 0
  /-- RETX_SENT. [R156; log 1] -/
  retxSent : Word := 0
  /-- STREAM_RESETS. [R156; log 1] -/
  streamResets : Half := 0
  /-- RCNT of the newest reliable frame sent. [R130, R134; spec: 0] -/
  rcntTx : Byte := 0
  /-- RCNT of the last in-order reliable frame received. [R131, R134; spec: 0] -/
  rcntRx : Byte := 0
  /-- SEQ of the next frame sent. [R130; log 1] -/
  seqTx : Half := 0
  /-- SEQ of the last valid frame received. [R130; log 1] -/
  seqRx : Option Half := none
  /-- Unacknowledged reliable frames, oldest first, at most 32. [R132; log 1] -/
  unacked : List DownFrame := []
  /-- Reliable frames that wait for the window. [R132; log 1] -/
  waiting : List DownBody := []
  /-- RESEND is set in the next frame. [R131; log 1] -/
  resend : Bool := false
  /-- The last go-back: the ACK and its `tb`. [R132; log 1] -/
  goBack : Option (Byte × Nat) := none
  /-- Retransmissions of the oldest frame so far. [R133; log 1] -/
  tries : Nat := 0
  /-- `tb` from which the oldest frame's timeout runs. [R133; log 1] -/
  oldestAt : Nat := 0
  /-- A stream reset is in progress. [R134; log 1] -/
  sreset : Bool := false
  /-- CMDs awaiting a final REPLY. [R148, R149; log 1] -/
  cmds : List NodeCmd := []
  /-- Next CMD_ID. [R148; log 1] -/
  cmdId : Half := 0
  /-- UNPART_CAUSE. [R156; log 1] -/
  unpartCause : BitVec 4 := 0
  /-- EDGE_GAPS. [R156; log 1] -/
  edgeGaps : Word := 0
  /-- STALE. [R156; log 1] -/
  stale : Word := 0
  /-- Last CAPS accepted. [R156; spec: zero] -/
  caps : Option Caps := none
  /-- Last STAT received. [R143; log 1] -/
  stat : Option Stat := none
  /-- EDGE_CNT of the last EDGES record. [R142; log 1] -/
  edgeCnt : Option Word := none
  /-- FRAMES_BAD at the last one-second check. [R157; log 1] -/
  badAtCheck : Word := 0
  /-- `tb` of the last NODE_SERVICE for frame errors. [R157; log 1] -/
  badSaidAt : Option Nat := none
  /-- The exchange of R144 is repeated while the port stays RUNNING. [R150; log 1] -/
  reExchange : Bool := false
  /-- Last SCHED sent. [R225; log 1] -/
  sched : Option SchedFrame := none
deriving DecidableEq, Repr, Inhabited

/-! ## Cell measurement (06) -/

/-- Bytes 0 to 23 of a cell state table entry, and the runs that R174, R175 and R184 count (06). -/
structure CellSt where
  /-- VOLT, 100 µV. [R168; spec: 0xFFFF] -/
  volt : Half := 0xFFFF
  /-- VOLT_RAW. [R169; log 1] -/
  raw : Half := 0
  /-- STONE. [R168; spec: 0xFFFF] -/
  stone : Half := 0xFFFF
  /-- CORR. [R181; log 1] -/
  corr : Int := 0
  /-- UNC, 100 µV. [R169; log 1] -/
  unc : Half := 0
  /-- VALID. [R168; spec: 0] -/
  valid : Bool := false
  /-- STALE. [R170; log 1] -/
  stale : Bool := false
  /-- CORRECTED. [R169; log 1] -/
  corrected : Bool := false
  /-- HELD. [R169; log 1] -/
  held : Bool := false
  /-- PLAUS. [R174; log 1] -/
  plaus : Bool := false
  /-- PLAUS_RUN. [R174; log 1] -/
  plausRun : Nat := 0
  /-- Consecutive agreeing comparisons while PLAUS is set. [R175; log 1] -/
  agreeRun : Nat := 0
  /-- Comparisons of the present run in which the cell below disagreed with opposite sign. [R184; log 1] -/
  oppLow : Nat := 0
  /-- The same for the cell above. [R184; log 1] -/
  oppHigh : Nat := 0
  /-- TIME. [R169; log 1] -/
  time : DWord := 0
  /-- `tb` of the last accepted update. [R170; log 1] -/
  acceptedAt : Nat := 0
deriving DecidableEq, Repr, Inhabited

/-- A temperature table entry (06 R171). -/
structure TempSt where
  /-- TEMP, 0.1 °C. [R171; spec: 0x8000 invalid] -/
  temp : Half := 0x8000
  /-- RATE, 0.001 K/s, written by the crucible. [R393; log 1] -/
  rate : Int := 0
  /-- VALID. [R171; log 1] -/
  valid : Bool := false
  /-- STALE. [06 table; log 1] -/
  stale : Bool := false
  /-- NODE_INVALID. [R171; log 1] -/
  nodeInvalid : Bool := false
  /-- UNCONFIRMED: the lower value held for confirmation. [R171; log 1] -/
  unconfirmed : Option Half := none
  /-- `tb` of the last update of TEMP. [06 table; log 1] -/
  updatedAt : Nat := 0
deriving DecidableEq, Repr, Inhabited

/-- Sense-wire calibration on record (06 R182). -/
structure Calib where
  /-- R_bleed, 10 mΩ -/
  rBleed : Nat
  /-- r_w(0) to r_w(256), 1 mΩ -/
  rw     : List Nat
  /-- station time it was taken -/
  taken  : DWord
  /-- NODE_ID it belongs to -/
  node   : DWord
deriving DecidableEq, Repr, Inhabited

/-- A suspected wire being classified (06 R184 to R186). -/
structure Suspect where
  wire  : Nat
  /-- `tb` at which the suspicion began -/
  since : Nat
  /-- tests made so far -/
  tries : Nat
  /-- a comparator /TF/ came after the suspicion began -/
  tone  : Bool
  /-- the test read open; the impedance check waits for bursts, with the changes the test gave -/
  opened : Option (Half × Half)
deriving DecidableEq, Repr, Inhabited

/-- A wire confirmed open (06 R187). -/
structure OpenWire where
  wire       : Nat
  impChecked : Bool
  cellFault  : Bool
deriving DecidableEq, Repr, Inhabited

/-- Measurement of one channel (06 R190). -/
structure MeasSt where
  /-- Cell state table, by cell, bytes 0 to 23. [R168; spec: invalid] -/
  cells : Tab CellSt := []
  /-- Temperature table, by sensor. [R171; spec: invalid] -/
  temps : Tab TempSt := []
  /-- REPORTS. [R190; log 1] -/
  reports : Word := 0
  /-- BURSTS. [R190; log 1] -/
  bursts : Word := 0
  /-- TOUCHES. [R190; log 1] -/
  touches : Word := 0
  /-- SKIPPED. [R190; log 1] -/
  skipped : Word := 0
  /-- OW_TESTS. [R190; log 1] -/
  owTests : Word := 0
  /-- PLAUS_FAULTS. [R190; log 1] -/
  plausFaults : Half := 0
  /-- OW_SUSPECTS. [R190; log 1] -/
  owSuspects : Half := 0
  /-- DISCARDED. [R190; log 1] -/
  discarded : Half := 0
  /-- SUM_ERR, mV. [R190; log 1] -/
  sumErr : Int := 0
  /-- Consecutive reports whose stack sum disagreed. [R176; log 1] -/
  sumRun : Nat := 0
  /-- The stack-sum fault has been raised and the sum still disagrees. [R176; log 1] -/
  sumFault : Bool := false
  /-- Consecutive reports in which the cells at a wire deviate as R184 describes, by wire. [R184; log 1] -/
  devRun : Tab Nat := []
  /-- Wires confirmed open. [R187; log 1] -/
  openWires : List OpenWire := []
  /-- Wires suspected. [R184; log 1] -/
  suspects : List Suspect := []
  /-- Wire under test. [R185; log 1] -/
  testing : Option Nat := none
  /-- Inconclusive results of that test so far. [R185; log 1] -/
  testTries : Nat := 0
  /-- Next wire of the routine scan. [R188; log 1] -/
  scanNext : Nat := 0
  /-- Bleed mask in force. [R180; log 1] -/
  bleed : BitVec 256 := 0
  /-- Bleed mask that held before the last change. [R173; log 1] -/
  bleedOld : BitVec 256 := 0
  /-- Station time of the window boundary at which the mask last changed. [R173; log 1] -/
  bleedAt : Option DWord := none
  /-- Calibration on record, in the retained store. [R182; log 8] -/
  calib : Option Calib := none
  /-- Start and end of the newest executed edges, newest first, at most 16. [R173; log 1] -/
  edges : List (DWord × DWord) := []
  /-- Set-up CMDs of R159 that still have to answer DONE. [R159; log 1] -/
  setupLeft : Nat := 0
  /-- Station time of the last reload that changed the channel's carrier period. [R165; log 1] -/
  carrierAt : Option DWord := none
  /-- `tb` of the last comparator /TF/. [R189; log 1] -/
  toneAt : Option Nat := none
  /-- An open sense wire is recorded as the cause of that tone. [R189; log 1] -/
  toneByWire : Bool := false
  /-- Last PACK_I, mA. [R169; log 1] -/
  packI : Int := 0
  /-- Last PACK_V, mV. [R176; log 1] -/
  packV : Int := 0
  /-- Last CAP_V, mV. [R332; log 1] -/
  capV : Int := 0
  /-- A CELLS report has been accepted since the port was last RUNNING. [R169; log 1] -/
  hasReport : Bool := false
deriving DecidableEq, Repr, Inhabited

/-! ## Insertion engine (07) -/

/-- Trigger compares of one channel, ticks from count 0. -/
structure Trigs where
  t0 : Nat := 0xFFFFFF
  t1 : Nat := 0xFFFFFF
  t2 : Nat := 0xFFFFFF
  t3 : Nat := 0xFFFFFF
deriving DecidableEq, Repr, Inhabited

/-- An entry of a direct-mode snapshot (07 R215). -/
structure DutyEntry where
  duty : Nat
  neg  : Bool
  keep : Bool
  trig : Trigs
deriving DecidableEq, Repr, Inhabited

/-- A carrier: its period and the offset of its counts 0, ticks (07 R192). -/
structure Carrier where
  period : Nat
  offset : Nat
deriving DecidableEq, Repr, Inhabited

/-- The engine's view of one channel at a boundary between control periods: what R199 to R207 decide from. -/
structure Eng where
  /-- the channel is inserted -/
  inserted : Bool := false
  /-- with negative polarity -/
  neg      : Bool := false
  /-- the falling edge of the running carrier period has begun, or the period inserts nothing -/
  done     : Bool := true
  /-- region of the running period: 0 A, 1 B, 2 C, 3 D, 4 E, 5 reversal -/
  region   : Nat := 0
  /-- dither accumulator -/
  dither   : Nat := 0
  /-- compare value in force, 1/16 tick -/
  compare  : Nat := 0
  carrier  : Option Carrier := none
  /-- carrier that R208 has applied and that follows the running period -/
  nextCarrier : Option Carrier := none
  suppressed : Word := 0
  closed     : Word := 0
  reversals  : Word := 0
  moved      : Word := 0
  /-- EDGE entries formed since the channel entered ACTIVE, in the periods closed -/
  edges      : Nat := 0
deriving DecidableEq, Repr, Inhabited

/-- Insertion engine, one channel (07 R221). -/
structure InsCh where
  /-- Engine state at the end of the last closed period. [R199 to R207, R221; spec: accumulator 0 on entering ACTIVE] -/
  eng : Eng := {}
  /-- Compare value of the set in force, 1/16 tick. [R203; log 1] -/
  compare : Nat := 0
  /-- Polarity of the set in force. [R203; log 1] -/
  neg : Bool := false
  /-- Trigger compares of the set in force. [R218; log 1] -/
  trig : Trigs := {}
  /-- HELD. [R221; log 1] -/
  held : Bool := false
  /-- LIMITED. [R221; log 1] -/
  limited : Bool := false
  /-- CARRYING. [R221; log 1] -/
  carrying : Bool := false
  /-- dmax(n). [R211; log 1] -/
  dmax : Rat := 1
  /-- TRIG_MISSED. [R221; log 1] -/
  trigMissed : Word := 0
  /-- Counters at the last PULSE_SUPPRESSED_REPORT: SUPPRESSED, CLOSED, REVERSALS, MOVED. [R202; log 1] -/
  reported : Word × Word × Word × Word := (0, 0, 0, 0)
  /-- Present state, from EDGES records only. [R236; log 1] -/
  execState : Option OutState := none
  /-- Most recent reported output state. [R330; log 1] -/
  repState : Option OutState := none
  /-- No edge is staged until an EDGES record with SAFE or a later one arrives. [R237; log 1] -/
  awaitSafe : Bool := false
  /-- No record has arrived since the port entered RUNNING. [R237; log 1] -/
  noRecord : Bool := true
  /-- Edges closed, newest first: start time, state, dead time, at most 64. [R238, R248; log 1] -/
  closedEdges : List (DWord × OutState × Nat) := []
  /-- Triggers closed and not yet sampled. [R219; log 1] -/
  trigDue : List DWord := []
  /-- BURST flags of entries carried and not yet closed, by their number since ACTIVE. [R290; log 1] -/
  memo : List (Nat × Bool) := []
  /-- An ABORT is outstanding on the port. [R235; log 1] -/
  abortWait : Bool := false
  /-- Advance of STALE_EXEC on the port in this control period. [R238; log 1] -/
  staleNow : Nat := 0
  /-- Its advances in the consecutive control periods before, newest first, at most 100. [R238, R529; log 1] -/
  staleRun : List Nat := []
  /-- `tb` of the last NODE_SERVICE for schedule mismatch. [R238; log 1] -/
  staleSaidAt : Option Nat := none
deriving DecidableEq, Repr, Inhabited

/-- Insertion engine, segment (07 R221). -/
structure InsSt where
  /-- Direct mode. [R217; spec: segment] -/
  direct : Bool := false
  /-- Mode change waiting for its reload point. [R217; log 1] -/
  modeReq : Option Bool := none
  /-- Snapshot waiting for its reload point. [R57, R204; spec: none] -/
  snapshot : Option (List DutyEntry) := none
  /-- The waiting request came from a LOAD_ALL descriptor. [R58; log 1] -/
  snapByOpcode : Bool := false
  /-- Last channel that carried in a concentrated set. [R213; log 1] -/
  rotate : Chan := 63
  /-- References received with the station time they were taken at, newest first, at most 32. [R78, R80; log 1] -/
  refs : List (RefDesc × DWord) := []
  /-- CONCENTRATED. [R221; log 1] -/
  concentrated : Bool := false
  /-- SATURATED. [R221; log 1] -/
  saturated : Bool := false
  /-- CLAMPED. [R221; log 1] -/
  clamped : Bool := false
  /-- BAL_SIGN. [R209; log 1] -/
  balSign : Int := 0
  /-- VREF, mV. [R221; log 1] -/
  vref : Int := 0
  /-- VAPPLIED, mV. [R212; log 1] -/
  vapplied : Int := 0
  /-- VSUM, mV. [R210; log 1] -/
  vsum : Int := 0
  /-- SAT_PERIODS. [R221; log 1] -/
  satPeriods : Word := 0
  /-- CLAMP_PERIODS. [R221; log 1] -/
  clampPeriods : Word := 0
  /-- CONC_PERIODS. [R221; log 1] -/
  concPeriods : Word := 0
  /-- SAT_PERIODS at the last SATURATION_REPORT. [R222; log 1] -/
  satReported : Word := 0
  /-- Largest shortfall of this second, mV. [R222; log 1] -/
  shortfall : Int := 0
  /-- Station time of the start of the last period closed. [R203; log 1] -/
  lastClosed : Option DWord := none
  /-- VREF of the last set applied and whether a reference or prediction has been in force. [R214; log 1] -/
  hasSet : Bool := false
deriving DecidableEq, Repr, Inhabited

/-! ## Staging and the quench matrix (08) -/

/-- Staging (08 R258). -/
structure StgSt where
  /-- Number of the next generation; none while no first number is fixed. [R226; spec: none] -/
  next : Option Word := none
  /-- Newest generation a RUNNING port has reported since this start. [R226; spec: none] -/
  reported : Option Word := none
  /-- GEN_LAST. [R258; log 1] -/
  genLast : Word := 0
  /-- GEN_FIRM. [R258; log 1] -/
  genFirm : Word := 0
  /-- H' in force. [R223, R258; log 1] -/
  horizon : Nat := 0
  /-- RESTAGES. [R258; log 1] -/
  restages : Word := 0
  /-- ABORTS. [R258; log 1] -/
  aborts : Word := 0
  /-- SPLITS. [R258; log 1] -/
  splits : Word := 0
  /-- STALE_EXEC. [R258; log 1] -/
  staleExec : Word := 0
  /-- COASTS. [R258; log 1] -/
  coasts : Word := 0
  /-- Restages for limits since the last RESTAGED, and the first generation. [R233; log 1] -/
  byLimits : Nat × Word := (0, 0)
  /-- Restages for delay since the last RESTAGED, and the first generation. [R233; log 1] -/
  byDelay : Nat × Word := (0, 0)
deriving DecidableEq, Repr, Inhabited

/-- Why a group is quenched: the cause bits of QUENCH byte 29 and what goes with them (08). -/
structure QCause where
  trip : Bool := false
  tone : Bool := false
  hardware : Bool := false
  safety : Bool := false
  crucible : Bool := false
  bus : Bool := false
  firmware : Bool := false
  trips : Byte := 0
  hwCause : Byte := 0
  ports : DWord := 0
deriving DecidableEq, Repr, Inhabited

/-- A trip input (08 R246, R247). -/
structure TripSt where
  /-- At its demand level, as last read. [R246; log 1] -/
  demand : Bool := false
  /-- Wiring fault. [R247; log 1] -/
  wiring : Bool := false
  /-- Chattering. [R247; log 1] -/
  chatter : Bool := false
  /-- `tb` of its entries into demand, newest first, at most 10. [R247; log 1] -/
  entries : List Nat := []
  /-- Left demand less than 10 ms ago. [R247; log 1] -/
  lately : Bool := false
  /-- Groups on which blanking holds it. [R248; log 1] -/
  blanked : Byte := 0
deriving DecidableEq, Repr, Inhabited

/-- Quench matrix and trip request outputs (08 R258). -/
structure QmSt where
  /-- Groups quenched, latched; on a standby the recorded ones. [R244, R245; log 1] -/
  latched : Byte := 0
  /-- Causes that latched each group. [R258, R483; log 1] -/
  causes : Vector QCause 8 := Vector.replicate 8 {}
  /-- Trip inputs. [R246; log 1] -/
  trips : Vector TripSt 8 := Vector.replicate 8 {}
  /-- Ports whose tone called for a quench and was FAULT or LOST while armed. [R107; log 1] -/
  portCall : DWord := 0
  /-- Internal hardware fault causes present, by cause code. [R249; log 1] -/
  hw : List Byte := []
  /-- Safety supervisor request. [R449; log 1] -/
  safety : Bool := false
  /-- Firmware request: host silence. [R254; log 1] -/
  fwSilence : Bool := false
  /-- Firmware request: debug halt. [R253; log 1] -/
  fwHalt : Bool := false
  /-- Firmware request: module safe state. [R488; log 1] -/
  fwSafe : Bool := false
  /-- Lane that the next control period tests. [R251; log 1] -/
  lane : Fin 3 := 0
  /-- Lanes whose last test had a mismatch. [R251; log 1] -/
  laneBad : BitVec 3 := 0
  /-- LANE_FAILED. [R258; log 1] -/
  laneFailed : BitVec 3 := 0
  /-- QUENCHES. [R258; log 1] -/
  quenches : Word := 0
  /-- BLANKED. [R258; log 1] -/
  blanked : Word := 0
  /-- SELFTESTS. [R258; log 1] -/
  selftests : Word := 0
  /-- SELFTEST_FAILS. [R258; log 1] -/
  selftestFails : Word := 0
  /-- Trip request asserted. [R255, R258; log 1] -/
  tripreq : Bool := false
  /-- `tb` of its assertion. [R256; log 1] -/
  tripreqAt : Nat := 0
  /-- Channels on which arm-trip condition A1 is present. [R347; log 1] -/
  tripA1 : DWord := 0
  /-- Channel of the condition that asserted the present request, 0xFF for A2. [R347; log 1] -/
  tripBy : Byte := 0
  /-- Trip request cause A2 is present. [R347; log 1] -/
  tripA2 : Bool := false
  /-- Groups at the partner's QUENCHED in its last HEARTBEAT. [R245; log 1] -/
  partnerQuenched : Byte := 0
deriving DecidableEq, Repr, Inhabited

/-! ## Assay engine (09, 10) -/

/-- An impedance bin (10 R298, R300). Resistances in µΩ, times in s. -/
structure BinSt where
  rOhm : Rat := 0
  rCt1 : Rat := 0
  rCt2 : Rat := 0
  tau1 : Rat := 0
  tau2 : Rat := 0
  fast : Bool := false
  slow : Bool := false
  unverified : Bool := false
  /-- effective point count at the last fit -/
  nfit : Nat := 0
  /-- `tb` of the last accepted fit -/
  fitAt : Nat := 0
  sigma : Rat := 0
  /-- points since the bin was emptied: elapsed time in s, r in µΩ, step in A, `tb` -/
  points : List (Rat × Rat × Rat × Nat) := []
  /-- it received points since its last fit -/
  fresh : Bool := false
  /-- accepted fits: `tb`, R_ohm, newest first -/
  fits : List (Nat × Rat) := []
deriving DecidableEq, Repr, Inhabited

/-- Relaxed voltages of the qualifying windows of a gap, V: of the first, of the last but one and of the last, the last two
with their σ_v (09 R273). -/
structure GapVal where
  first   : Rat
  prevV   : Rat
  prevSig : Rat
  lastV   : Rat
  lastSig : Rat
deriving DecidableEq, Repr, Inhabited

/-- One cell group in the assay engine (09 R266 to R273, 10 R298 to R312). States of charge are fractions. -/
structure GrpSt where
  /-- Raw state of charge z. [R266, R287; log 10] -/
  z : Rat := 0
  /-- Base uncertainty u_b. [R270; log 10] -/
  ub : Rat := 1
  /-- z at the last accepted anchor. [R270; log 10] -/
  za : Rat := 0
  /-- Learned capacity, Ah; none while not learned. [R262, R309; log 10] -/
  cap : Option Rat := none
  /-- u_C given with the learned capacity. [R270, R309; log 10] -/
  uc : Rat := 0
  /-- UNVERIFIED of the group's capacity. [R323; log 1] -/
  unverified : Bool := false
  /-- Filtered current i_f1, A. [R273; log 1] -/
  if1 : Rat := 0
  /-- Filtered current i_f2, A. [R273; log 1] -/
  if2 : Rat := 0
  /-- Unsmoothed rescaled state of charge of the last update, 0.01 %. [R267; log 1] -/
  model : Rat := 0
  /-- z0 of the last update. [R267; log 1] -/
  z0 : Rat := 0
  /-- ε of R269, 0.01 %. [R269; spec: 0] -/
  eps : Rat := 0
  /-- ε0 of R269, 0.01 %. [R269; spec: 0] -/
  eps0 : Rat := 0
  /-- Published value, 0.01 %; none before the first update. [R269; log 1] -/
  pub : Option Rat := none
  /-- u, fraction. [R270; log 1] -/
  u : Rat := 1
  /-- Signed charge since the last reversal of the net direction, Ah. [R273; log 1] -/
  netQ : Rat := 0
  /-- Relaxed voltages of the present gap. [R273; log 1] -/
  gapV : Option GapVal := none
  /-- C(i) at the last update, Ah. [R269; log 1] -/
  cUsed : Rat := 0
  /-- Bursts accepted in the last update. [R312; log 1] -/
  burstsNow : Nat := 0
  /-- Bursts accepted since the last update. [R312; log 1] -/
  burstsAcc : Nat := 0
  /-- Z_TOP, U_TOP. [R307; log 1] -/
  top : Rat × Rat := (0, 0)
  /-- Z_BOT, U_BOT. [R307; log 1] -/
  bot : Rat × Rat := (0, 0)
  /-- SPAN_OK. [R312; log 1] -/
  spanOk : Bool := false
  /-- Impedance bins by number. [R298; spec: empty] -/
  bins : Tab BinSt := []
  /-- BASE_RATIO. [R301; spec: none] -/
  baseRatio : Option Rat := none
  /-- RATIO: ρ of the bin last fitted. [R301; log 1] -/
  ratio : Rat := 0
  /-- Kinds of drift in force, bit k for kind k. [R302; log 1] -/
  drift : BitVec 4 := 0
  /-- `tb` at which each kind was last raised. [R302; log 1] -/
  driftAt : Tab Nat := []
deriving DecidableEq, Repr, Inhabited

/-- Six limits: charge at 2 s, 10 s, 60 s, discharge at 2 s, 10 s, 60 s, in 0.1 A. -/
structure Limits where
  c2 : Rat := 0
  c10 : Rat := 0
  c60 : Rat := 0
  d2 : Rat := 0
  d10 : Rat := 0
  d60 : Rat := 0
deriving DecidableEq, Repr, Inhabited

/-- The bypass gap a channel is in (09 R271, R272). -/
structure GapSt where
  /-- station time of the end of the falling edge -/
  since   : DWord
  /-- the module created it -/
  own     : Bool
  /-- every report so far had |PACK_I| within ASY_GAP_IMAX and the bleed mask did not change -/
  good    : Bool
  /-- qualifying report windows so far -/
  windows : Nat
  /-- end of the last of them -/
  lastEnd : DWord
deriving DecidableEq, Repr, Inhabited

/-- A relaxation in progress (10 R296). -/
structure RelaxSt where
  /-- station time of its start -/
  since : DWord
  /-- mean pack current over the 60 s before it, A -/
  ib    : Rat
  /-- by group: the bin of the start and i_f2 of the start -/
  grp   : List (Nat × Rat)
  /-- by report window: seconds since the start and, by group, VOLT − PACK_I × R_ohm − η1 in V; none where invalid -/
  pts   : List (Rat × List (Option Rat))
deriving DecidableEq, Repr, Inhabited

/-- A burst being assembled (10 R294; 05 burst segment). -/
structure BurstSt where
  edgeCnt : Word
  time    : DWord
  pre     : Word
  post    : Word
  samples : List BurstSample
  last    : Bool
deriving DecidableEq, Repr, Inhabited

/-- An executed edge as bursts need it. -/
structure EdgeSeen where
  edgeCnt : Word
  time    : DWord
  dead    : Half
  state   : Byte
  safe    : Bool
  stale   : Bool
  /-- for an edge with a burst: i_f1 and i_f2 of each group at the pre-edge sample -/
  filt    : List (Rat × Rat)
deriving DecidableEq, Repr, Inhabited

/-- What the module does with a touchmark (10 R319 to R321). -/
inductive TouchJob where
  /-- authentication at an exchange -/
  | auth
  /-- TOUCHMARK_PROVISION: blankness and key, the write, the read-back -/
  | provision
  /-- the authentication that ends a TOUCHMARK_PROVISION -/
  | confirm
  /-- history slot write -/
  | history
deriving DecidableEq, Repr, Inhabited

/-- Where it stands. -/
inductive TouchStage where
  /-- reading the identity block and the device public key -/
  | ident
  /-- TOUCH_SIGN -/
  | sign
  /-- reading the learned-data records of both history slots -/
  | slots
  /-- reading the impedance records of the newest slot -/
  | imps
  /-- writing -/
  | write
  /-- reading back what was written -/
  | verify
deriving DecidableEq, Repr, Inhabited

/-- A touchmark exchange in progress. -/
structure TouchSt where
  job       : TouchJob
  stage     : TouchStage
  /-- reads still to be made: offset and length -/
  reads     : List (Nat × Nat)
  /-- writes still to be made: offset and data -/
  writes    : List (Nat × List Byte)
  /-- bytes read in this stage -/
  buffer    : List Byte
  /-- identity block and device public key as read -/
  ident     : List Byte
  challenge : List Byte
  /-- history slot being read or written: B -/
  slotB     : Bool
  /-- NODE_ID differed from the retained record at the exchange -/
  changed   : Bool
deriving DecidableEq, Repr, Inhabited

/-- Assay engine, one channel (09 R286, 10 R327). -/
structure AsyCh where
  /-- Cell groups by cell. [R266; log 10] -/
  grps : Tab GrpSt := []
  /-- Pack charge accumulator from EDGES records, µC. [R260; spec: since first brought up] -/
  charge : Int := 0
  /-- Provisional part, µC. [R260; log 1] -/
  prov : Int := 0
  /-- Throughput, µC. [R260, R303; log 8] -/
  throughput : Nat := 0
  /-- Node continuity: CHARGE, EDGE_CNT, NODE_ID of the last record. [R261; log 8] -/
  cont : Option (DWord × Word × DWord) := none
  /-- CONT_LOST. [R286; log 1] -/
  contLost : Bool := false
  /-- Pack charge at the last update, µC. [R266; log 1] -/
  lastQ : Int := 0
  /-- Pack charge of each of the last 100 updates, newest first, µC. [R267; log 1] -/
  q10 : List Int := []
  /-- The gap the channel is in. [R271; log 1] -/
  gap : Option GapSt := none
  /-- Station time at which the last gap began. [R272; log 1] -/
  lastGap : Option DWord := none
  /-- Station time of the last anchor taken from CONNECTED-BYPASS. [R272; log 1] -/
  bypassAnchor : Option DWord := none
  /-- `tb` of the last control period that left this channel no margin for a gap. [R272; log 1] -/
  tightAt : Nat := 0
  /-- REST_REQUEST outstanding: `tb` at which it was first raised. [R274; log 1] -/
  restReq : Option Nat := none
  /-- REST_WAIT has passed without a grant: derating by R277 in force. [R277; log 1] -/
  derating : Bool := false
  /-- Grant: start and duration in s. [R275; log 1] -/
  grant : Option (DWord × Nat) := none
  /-- Rest in force: station time it began. [R276; log 1] -/
  restFrom : Option DWord := none
  /-- f_u. [R277; log 1] -/
  fu : Rat := 1
  /-- f_u and `tb` of the last LIMITS_DERATED. [R277; log 1] -/
  deratedSaid : Rat × Option Nat := (1, none)
  /-- LIMITS_DERATED for temperature is in force. [R277 event; log 1] -/
  thermalDerated : Bool := false
  /-- Raw limits. [R279; spec: 0] -/
  raw : Limits := {}
  /-- Published limits. [R280; spec: 0] -/
  pubLim : Limits := {}
  /-- Group that set each limit. [R279; log 1] -/
  limGroup : List Nat := [0, 0, 0, 0, 0, 0]
  /-- RISE. [R280; log 1] -/
  rise : Bool := false
  /-- NO_TEMP: limits halved. [R265; log 1] -/
  noTemp : Bool := false
  /-- Limits have been computed since this start. [R280; spec: no] -/
  computed : Bool := false
  /-- The channel has been ACTIVE at the last update. [R280; log 1] -/
  wasActive : Bool := false
  /-- Charge that every group can still give, Ah. [R268; log 1] -/
  qd : Rat := 0
  /-- Charge that every group can still take, Ah. [R268; log 1] -/
  qc : Rat := 0
  /-- Unsmoothed channel value, 0.01 %. [R268; log 1] -/
  model : Rat := 0
  /-- Published channel value, 0.01 %. [R269; log 1] -/
  pub : Option Rat := none
  /-- ε of the channel value. [R269; spec: 0] -/
  eps : Rat := 0
  /-- ε0 of the channel value. [R269; spec: 0] -/
  eps0 : Rat := 0
  /-- Channel uncertainty, fraction. [R268; log 1] -/
  unc : Rat := 1
  /-- Largest group uncertainty and its group. [R274; log 1] -/
  worst : Rat × Nat := (1, 0)
  /-- Bleed decisions. [R283; log 1] -/
  bleedWant : BitVec 256 := 0
  /-- `tb` of the last SET_BALANCE for a changed mask. [R284; log 1] -/
  balanceAt : Option Nat := none
  /-- ANCHORS. [R286; log 1] -/
  anchors : Word := 0
  /-- REJECTED. [R286; log 1] -/
  rejected : Word := 0
  /-- REQUESTS. [R286; log 1] -/
  requests : Half := 0
  /-- GRANTS. [R286; log 1] -/
  grants : Half := 0
  /-- Station time of the last accepted anchor of any group. [R285; log 1] -/
  anchorAt : Option DWord := none
  /-- Mean pack current of the last update, mA. [R285; log 1] -/
  meanI : Int := 0
  /-- Pack currents of the last 60 s of updates, A, newest first, at most 600. [R296; log 1] -/
  i60 : List Rat := []
  /-- Relaxation in progress. [R296; log 1] -/
  relax : Option RelaxSt := none
  /-- Burst being assembled. [R294; log 1] -/
  burst : Option BurstSt := none
  /-- Newest executed edges. [R291; log 1] -/
  seen : List EdgeSeen := []
  /-- Pair-sum points of a suspected wire: elapsed time, r, weight, `tb`. [R297; log 1] -/
  pair : List (Rat × Rat × Rat × Nat) := []
deriving DecidableEq, Repr, Inhabited

/-- The assay cycle, the learned data and the touchmark of one channel (10 R327). -/
structure CycCh where
  /-- PHASE. [R305; spec: 0 none] -/
  phase : Nat := 0
  /-- Station time of ASSAY_CYCLE_START. [R305; log 1] -/
  started : DWord := 0
  /-- Station time at which the present phase began. [R305; log 1] -/
  phaseAt : DWord := 0
  /-- T_TOP. [R307; log 1] -/
  tTop : DWord := 0
  /-- T_BOT. [R307; log 1] -/
  tBot : DWord := 0
  /-- Pack charge at the top anchor, µC. [R309; log 1] -/
  qTop : Int := 0
  /-- CYCLE_Q, µC. [R312; log 1] -/
  cycleQ : Int := 0
  /-- `tb` since which some group is STALE. [R310; log 1] -/
  staleAt : Option Nat := none
  /-- `tb` since which f_thm is below 1. [R310; log 1] -/
  thmAt : Option Nat := none
  /-- LAST_ABORT. [R327; log 1] -/
  lastAbort : BitVec 4 := 0
  /-- BURSTS_OK. [R327; log 1] -/
  burstsOk : Word := 0
  /-- BURSTS_REJ. [R327; log 1] -/
  burstsRej : Word := 0
  /-- FITS. [R327; log 1] -/
  fits : Word := 0
  /-- DONE. [R327; log 1] -/
  done : Half := 0
  /-- ABORTED. [R327; log 1] -/
  aborted : Half := 0
  /-- CYCLES, 0.01 cycles. [R303; log 8] -/
  cycles : Nat := 0
  /-- PACK_ID of the learned-data record in force. [R313; log 8] -/
  packId : DWord := 0
  /-- NODE_ID of the last exchange. [R321; log 8] -/
  nodeId : DWord := 0
  /-- SEQ of the learned-data record in force. [R313; log 8] -/
  seq : Word := 0
  /-- UNVERIFIED of the channel. [R323; log 8] -/
  unverified : Bool := false
  /-- DORMANT_AT. [R313; log 8] -/
  dormantAt : Word := 0
  /-- A learned-data record exists. [R316; log 8] -/
  hasRec : Bool := false
  /-- TM_PENDING. [R317; log 8] -/
  tmPending : Bool := false
  /-- AUTH_OK. [R327; log 1] -/
  authOk : Bool := false
  /-- The last authentication failed. [11 *Module decisions* 0x07; log 1] -/
  authBad : Bool := false
  /-- Why the last exchange authenticated nothing, by the causes of TOUCHMARK_UNVERIFIED; none when it could. [R322; log 1] -/
  noMark : Option (BitVec 3) := none
  /-- Cause of the last TOUCHMARK_UNVERIFIED. [R323; log 1] -/
  unverCause : BitVec 3 := 0
  /-- The channel's pack has been authenticated at an exchange since this start. [R321; spec: none] -/
  exchanged : Bool := false
  /-- ASY_TM_ANCHOR changed: authenticate at the next exchange. [R326; log 1] -/
  authAgain : Bool := false
  /-- Touchmark exchange in progress. [R321; log 1] -/
  touch : Option TouchSt := none
  /-- Provisioning record of a TOUCHMARK_PROVISION in hand. [R320; log 1] -/
  provRec : List Byte := []
  /-- ASSAY_CYCLE_DONE waits for the write-back: learned, skipped, smallest, largest capacity in 0.01 Ah. [R315; log 1] -/
  doneWait : Option (Nat × Nat × Nat × Nat) := none
deriving DecidableEq, Repr, Inhabited

/-- Assay engine, segment (09). -/
structure AsySt where
  /-- Station time of the last update. [R263; log 1] -/
  lastUpdate : Option DWord := none
  /-- Segment state of charge, unsmoothed, 0.01 %. [R268; log 1] -/
  model : Rat := 0
  /-- Published segment value, 0.01 %. [R269; log 1] -/
  pub : Option Rat := none
  /-- ε of the segment value. [R269; spec: 0] -/
  eps : Rat := 0
  /-- ε0 of the segment value. [R269; spec: 0] -/
  eps0 : Rat := 0
  /-- Segment uncertainty, fraction. [R268; log 1] -/
  unc : Rat := 1
  /-- Segment limits. [R281; spec: 0] -/
  lim : Limits := {}
  /-- `tb` of the last control period that was SATURATED or CLAMPED. [R272; log 1] -/
  busyAt : Nat := 0
  /-- SAT_PERIODS at each of the last 600 updates, newest first. [R310; log 1] -/
  satHist : List Word := []
  /-- Journal sequence of the checkpoint. [R287; log 8] -/
  ckSeq : Word := 0
  /-- The previous periodic checkpoint was not written. [R287; log 1] -/
  ckMissed : Bool := false
  /-- The correlation array is stopped. [17 Fault causes; log 1] -/
  arrayOff : Bool := false
  /-- Station times of lockstep mismatches by core pair. [17 Fault causes; log 1] -/
  lockstep : List (Nat × DWord) := []
deriving DecidableEq, Repr, Inhabited

/-! ## Retained store (02 R47, 10 R313 to R317, 17 R499) -/

/-- A checkpoint entry (09 R287). -/
structure CkEntry where
  z  : Rat
  ub : Rat
  za : Rat
deriving DecidableEq, Repr, Inhabited

/-- A write to the retained store. -/
inductive StoreWrite where
  /-- configuration record -/
  | config
  /-- state-of-charge checkpoint: 0 periodic, 1 power-fail -/
  | checkpoint (kind : Nat)
  /-- learned-data record of a channel, `afterCycle` for the write-back of an assay cycle -/
  | learned (n : Chan) (afterCycle : Bool)
  /-- impedance records of a channel -/
  | impedance (n : Chan)
  | calibration (n : Chan)
  | retirement (n : Chan)
  | pinned (ev : Event)
  | loadOutput (o : LoadOut)
  | compensation
deriving DecidableEq, Repr, Inhabited

/-- Contents of the retained store and the writes in hand. -/
structure StoreSt where
  /-- Record in flight. [R47; log 1] -/
  inFlight : Option StoreWrite := none
  /-- Writes that wait, in order. [R47, R48; log 1] -/
  queue : List StoreWrite := []
  /-- Checkpoint by table index. [R287; log 8] -/
  checkpoint : Tab CkEntry := []
  /-- Node continuity of the checkpoint by channel: CHARGE, EDGE_CNT, NODE_ID. [R287; log 8] -/
  ckCont : Tab (DWord × Word × DWord) := []
  /-- A checkpoint has been written. [R287; log 8] -/
  hasCheckpoint : Bool := false
  /-- Learned-data records by channel. [R313; log 8] -/
  learned : Tab (Option LearnedRec) := []
  /-- Impedance records by table index. [R314; log 8] -/
  imps : Tab (Option ImpRec) := []
  /-- Sense-wire calibrations by channel. [R182; log 8] -/
  calibs : Tab (Option Calib) := []
  /-- Writes counted per record, by record number. [R499; log 8] -/
  writes : Tab Nat := []
  /-- A record passed the write limit: no new writes. [R499; log 1] -/
  worn : Bool := false
  /-- A write or read-back failed: the store is fenced. [17 Fault causes; log 1] -/
  fenced : Bool := false
  /-- Channels whose learned value was lost by a torn record, to be reported at READY. [R317; log 1] -/
  torn : DWord := 0
  /-- `tb` at which the record in flight began. [R47; log 1] -/
  startedAt : Nat := 0
deriving DecidableEq, Repr, Inhabited

/-! ## Channel connection (11) -/

/-- Channel states (11 R328). -/
inductive ChState where
  | dormant | disconnected | precharge | bypass | active | quenched | fenced | retired
deriving DecidableEq, Repr, Inhabited

/-- What a running sequence is for (11 R333 to R350). -/
inductive SeqKind where
  /-- CH_CONNECT, to ACTIVE or to CONNECTED-BYPASS -/
  | connect (active : Bool)
  /-- CH_CONNECT with target CONNECTED-BYPASS on an ACTIVE channel (R335) -/
  | toBypass
  /-- disconnection, by the host or by a module decision -/
  | disconnect
  /-- disconnection, then DORMANT (R348) -/
  | dormant
  /-- disconnection of a channel being retired (R345) -/
  | retire
  /-- the open test of CH_RESTORE on a RETIRED channel (R350) -/
  | restore
deriving DecidableEq, Repr, Inhabited

/-- The step a sequence stands at. -/
inductive ConStep where
  /-- held, waiting for R330's reported BYPASSED -/
  | waitBypass
  /-- the group is quenched with safe state BLOCK: the disconnection waits for its release (R336) -/
  | waitRelease
  /-- open test before the precharge (R333 step 2) -/
  | openTest
  /-- PRECHARGE close sent -/
  | prechargeCmd
  /-- voltages converging since the DONE -/
  | precharging
  /-- CONTACTOR close sent -/
  | closeCmd
  /-- contactor commanded and not yet reported in STAT; then the closed test -/
  | closedTest
  /-- PRECHARGE open sent at the end of a connection -/
  | relayOpen
  /-- gates passed, ACTIVE at the next reload point (step 6) -/
  | release
  /-- waiting for a report after the bypass with |PACK_I| within CON_OPEN_IMAX -/
  | waitCurrent
  /-- CONTACTOR open sent -/
  | openCmd
  /-- 100 ms before CONTACTOR open is repeated (R337) -/
  | openRetry
  /-- open test after the opening -/
  | openedTest
  /-- PRECHARGE open sent at the end of a disconnection -/
  | relayOff
  /-- DORMANT sent -/
  | dormantCmd
deriving DecidableEq, Repr, Inhabited

/-- A connection or disconnection in progress. -/
structure ConSeq where
  kind  : SeqKind
  step  : ConStep
  /-- a host command started it and still waits for its final reply -/
  host  : Bool
  /-- cause of *Module decisions* -/
  cause : Byte
  /-- `tb` at which the step began -/
  since : Nat
  /-- CONTACTOR open attempts that failed -/
  tries : Nat
deriving DecidableEq, Repr, Inhabited

/-- Channel connection, one channel (11 R352). -/
structure ConCh where
  /-- STATE. [R328; log 1] -/
  state : ChState := .disconnected
  /-- CAUSE. [R352; log 1] -/
  cause : Byte := 0
  /-- Protective bypass hold. [R20, R340; log 1] -/
  protective : Bool := false
  /-- Host bypass hold. [R335; log 1] -/
  hostHold : Bool := false
  /-- Service hold. [R381; log 1] -/
  service : Bool := false
  /-- Gap hold of the assay engine. [R271; log 1] -/
  gap : Bool := false
  /-- Rest hold. [R275; log 1] -/
  rest : Bool := false
  /-- Assay-cycle rest hold. [R306; log 1] -/
  assayRest : Bool := false
  /-- Station time at which the present hold was sent. [R347; log 1] -/
  holdSent : Option DWord := none
  /-- The running sequence. [R333, R336; log 1] -/
  seq : Option ConSeq := none
  /-- Causes present, bit c for cause code c. [R352; log 1] -/
  present : Word := 0
  /-- CLOSES, kept in the learned-data record. [R352; log 8] -/
  closes : Word := 0
  /-- OPENS, kept in the learned-data record. [R352; log 8] -/
  opens : Word := 0
  /-- FENCES. [R352; log 1] -/
  fences : Word := 0
  /-- Counts of R344 with their times, newest first; cause 0x89 is the DESAT count. [R344; log 1] -/
  counts : List (Byte × DWord) := []
  /-- Cause of the present fence. [R343; log 1] -/
  fenceCause : Byte := 0
  /-- k of R343. [R343; log 1] -/
  fenceK : Nat := 0
  /-- Station time at which the anneal delay ends. [R343; log 1] -/
  annealAt : Option DWord := none
  /-- Cause of the retirement record. [R345; log 8] -/
  retireCause : Byte := 0
  /-- The retirement is by count. [R345; log 8] -/
  retireByCount : Bool := false
  /-- NODE_ID of the retirement record. [R345, R352; log 8] -/
  retiredNode : DWord := 0
  /-- PACK_ID of the retirement record. [R345; log 8] -/
  retiredPack : DWord := 0
  /-- A retirement record is in the retained store. [R345; log 8] -/
  retiredRec : Bool := false
  /-- The channel was ACTIVE before its group was quenched. [R339; log 1] -/
  wasActive : Bool := false
  /-- Station time from which the reported output state has been BYPASSED. [R330; log 1] -/
  bypassedAt : Option DWord := none
  /-- The link loss of the dormant port has been raised. [R348; log 1] -/
  darkSaid : Bool := false
  /-- A STAT has to place the channel again after a takeover. [R372; log 1] -/
  recheck : Bool := false
  /-- Cause whose cell, wire or sensor `detail` names. [11 *Channel event data*; log 1] -/
  detailCause : Byte := 0
  /-- Cell, wire or sensor of that cause, 0xFFFF none. [11 *Channel event data*; log 1] -/
  detail : Half := 0xFFFF
deriving DecidableEq, Repr, Inhabited

/-! ## Faults (17) -/

/-- STATE of an open fault record (17). -/
inductive FaultState where
  | queued | current | done | ended
deriving DecidableEq, Repr, Inhabited

/-- An open fault record (17 R482, R498). -/
structure FaultRec where
  id        : Word
  cause     : Half
  subject   : Half
  level     : Nat
  state     : FaultState
  permanent : Bool
  acked     : Bool
  count     : Half
  first     : DWord
  last      : DWord
  /-- action steps completed -/
  steps     : Nat
  /-- `tb` at which the cause was last seen -/
  seenAt    : Nat
deriving DecidableEq, Repr, Inhabited

/-- Fault handler (17 R498). -/
structure FltSt where
  /-- Open faults, in order of opening, at most 64. [R482; log 1] -/
  recs : List FaultRec := []
  /-- Queue: identifiers, next first. [R484; log 1] -/
  queue : List Word := []
  /-- Identifier of the current fault. [R484; spec: none] -/
  current : Option Word := none
  /-- Fault storm declared. [R487; spec: FLT_SUMMARY 0xF] -/
  storm : Bool := false
  /-- RAISED. [R498; log 1] -/
  raised : Word := 0
  /-- COALESCED. [R498; log 1] -/
  coalesced : Word := 0
  /-- PREEMPTIONS. [R498; log 1] -/
  preemptions : Half := 0
  /-- LOST_FAULTS. [R498; log 1] -/
  lost : Half := 0
  /-- `tb` of the distinct L1 to L3 faults raised, newest first, at most 17. [R487; log 1] -/
  times : List Nat := []
  /-- L2 faults by cause and subject with their station times, for the third within 24 h. [R490; log 1] -/
  l2 : List (Half × Half × DWord) := []
  /-- Function blocks fenced by an L2 action: cause and subject. [R486; log 1] -/
  fencedBlocks : List (Half × Half) := []
deriving DecidableEq, Repr, Inhabited

/-! ## Twin operation and images (12) -/

/-- ROLE as HEARTBEAT codes it; SAFE (4) is the module state (12, 17 R489). -/
inductive Role where
  | starting | candidate | active | standby
deriving DecidableEq, Repr, Inhabited

/-- A seam lane (12 R353 to R355). -/
structure LaneSt where
  /-- Character lock. [R353; log 1] -/
  lock : Bool := false
  /-- The lane is UP. [R355; log 1] -/
  up : Bool := false
  /-- Consecutive valid HEARTBEATs. [R355; log 1] -/
  good : Nat := 0
  /-- `tb` of the last valid HEARTBEAT. [R355; log 1] -/
  heardAt : Nat := 0
  /-- `tb` of the invalid frames of the last second, newest first, at most 101. [17 Fault causes; log 1] -/
  bad : List Nat := []
  /-- The lane is fenced by the fault handler. [17 Fault causes; log 1] -/
  fenced : Bool := false
  /-- SEQ of the next seam frame on the lane. [R353; log 1] -/
  seqTx : Half := 0
deriving DecidableEq, Repr, Inhabited

/-- The offer of a hand-over (12 R375). -/
structure Offer where
  at_   : DWord
  epoch : Word
  gen   : Word
deriving DecidableEq, Repr, Inhabited

/-- Who asked for an open hand-over (12 R374, R376, R379; 02 R41, R47; 17 R488; 13 R398). -/
inductive Asked where
  | command | reset (force : Bool) | activate (bank : Bank) | powerFail | fault | die
deriving DecidableEq, Repr, Inhabited

/-- A reliable seam frame not yet acknowledged (12 R354). -/
inductive SeamOut where
  | stateMirror (channels : DWord)
  | reconcile (tag : DWord)
  | config (seq : Word)
  | image (version : Word)
deriving DecidableEq, Repr, Inhabited

/-- A change to ACTIVE whose ROLE_CHANGE waits for the judgement of HITLESS (12 *ROLE_CHANGE event data*). -/
structure RoleJudge where
  /-- role before, as HEARTBEAT codes it -/
  old    : Nat
  cause  : Nat
  gen    : Word
  from_  : DWord
  /-- station time at which H periods from F have passed -/
  until_ : DWord
  /-- COASTS at the change -/
  coasts : Word
deriving DecidableEq, Repr, Inhabited

/-- Twin operation (12 R384). -/
structure TwnSt where
  /-- Role. [R358; spec: STARTING] -/
  role : Role := .starting
  /-- Own role epoch; none before its first. [R357; spec: 0 before its first] -/
  epoch : Option Word := none
  /-- Newest epoch seen in a HEARTBEAT, CAPS, STAT or SYNC. [R357; spec: none] -/
  seen : Option Word := none
  /-- Newest epoch reported by RUNNING ports since start. [R358; spec: none] -/
  portEpoch : Option Word := none
  /-- Lanes. [R355; log 1] -/
  lanes : Vector LaneSt 2 := Vector.replicate 2 {}
  /-- Partner lost. [R355, R384 ALONE; log 1] -/
  lost : Bool := true
  /-- A lane has been UP since the last change of role. [R370; log 1] -/
  hadLane : Bool := false
  /-- Pairing mismatch: its cause. [R15; spec: none] -/
  mismatch : Option (BitVec 2) := none
  /-- Last partner HEARTBEAT. [R355; log 1] -/
  partner : Option Heartbeat := none
  /-- COUNT: heartbeats sent. [R356; spec: since start] -/
  count : Word := 0
  /-- FW_COUNT. [R356; log 1] -/
  fwCount : Word := 0
  /-- The last HEARTBEAT sent carried this offer. [R375; spec: none offered] -/
  offer : Option Offer := none
  /-- A hand-over is open: who asked. [R374; log 1] -/
  open_ : Option Asked := none
  /-- The partner is asked for an offer. [R374; log 1] -/
  askPartner : Bool := false
  /-- Newest SET_MIRROR received or, as active, sent. [R361; log 1] -/
  mirror : Option SetMirror := none
  /-- A mirror has arrived for the last reload point. [R361; log 1] -/
  mirrored : Bool := false
  /-- Consecutive reconciliations above tolerance, while READY. [R364; log 1] -/
  overRun : Nat := 0
  /-- Consecutive reconciliations within tolerance, while READY is cleared. [R364; log 1] -/
  within : Nat := 0
  /-- R364 has cleared READY. [R364; log 1] -/
  diverged : Bool := false
  /-- `tb` of the last complete RECONCILE. [R369; log 1] -/
  reconciledAt : Option Nat := none
  /-- MAX_DZ, 0.01 %. [R384; log 1] -/
  maxDz : Rat := 0
  /-- DIVERGE. [R384; log 1] -/
  diverge : Half := 0
  /-- RECONCILES. [R384; log 1] -/
  reconciles : Word := 0
  /-- TAKEOVERS. [R384; log 1] -/
  takeovers : Word := 0
  /-- SEAM_BAD. [R384; log 1] -/
  seamBad : Word := 0
  /-- MIRROR_MISS. [R384; log 1] -/
  mirrorMiss : Word := 0
  /-- TIME_OFFSET, 0.1 ns. [R384; log 1] -/
  timeOffset : Rat := 0
  /-- LAST_CAUSE. [R384; log 1] -/
  lastCause : BitVec 3 := 0
  /-- RCNT of the newest reliable seam frame sent. [R354; log 1] -/
  rcntTx : Half := 0
  /-- RCNT of the last in-order reliable seam frame. [R354; log 1] -/
  rcntRx : Half := 0
  /-- RESEND is set in the next frame. [R354; log 1] -/
  resend : Bool := false
  /-- ACK and `tb` of the last go-back on the seam. [R354; log 1] -/
  goBack : Option (Half × Nat) := none
  /-- Unacknowledged reliable seam frames with their RCNT, oldest first, at most 256. [R354; log 1] -/
  unacked : List (Half × SeamOut) := []
  /-- Channel whose impedance records the next RECONCILE carries. [R363; log 1] -/
  impRotate : Chan := 0
  /-- Channels whose bookkeeping changed and is not yet mirrored. [R362; log 1] -/
  dirty : DWord := 0
  /-- A takeover being judged for HITLESS. [R373; log 1] -/
  judge : Option RoleJudge := none
  /-- The arm is taken over with the reload of this period: no generation is formed before it. [R375; log 1] -/
  takeFrom : Option DWord := none
  /-- Channel under the service hold. [R381; log 1] -/
  serviceOwner : Option Chan := none
  /-- Channels whose command waits for the service hold, in order. [R381; log 1] -/
  serviceWait : List Chan := []
deriving DecidableEq, Repr, Inhabited

/-- An image bank (12 R378). -/
structure BankSt where
  /-- The bank verifies. [R42; log 8] -/
  valid : Bool := true
  /-- Image version. [R523; log 3] -/
  version : Word := 0
  /-- SEAM_VER. [12 HEARTBEAT; log 3] -/
  seamVer : Byte := 0
  /-- SEAM_MIN. [12 HEARTBEAT; log 3] -/
  seamMin : Byte := 0
  /-- Bytes written since the bank was erased. [R378; log 8] -/
  bytes : List Byte := []
deriving DecidableEq, Repr, Inhabited

/-- A chunk being written (12 R378). -/
structure ChunkSt where
  bank   : Bank
  offset : Nat
  data   : List Byte
  last   : Bool
deriving DecidableEq, Repr, Inhabited

/-- A node update or calibration in progress on a channel (12 R380). -/
structure ServiceSt where
  update  : Bool
  /-- node image and its version, or the calibration kind -/
  image   : List Byte
  version : Word
  kind    : Byte
  /-- next byte to transfer -/
  offset  : Nat
  /-- 0 transfer, 1 verify, 2 waits for the hold, 3 waits for BYPASSED, 4 activating or calibrating, 5 exchange,
  6 set-up, 7 release -/
  stage   : Nat
  /-- the channel was ACTIVE when the command came -/
  wasActive : Bool
deriving DecidableEq, Repr, Inhabited

/-- Image banks and node services (12 R378 to R381). -/
structure ImgSt where
  /-- Bank A. [R42; log 8] -/
  a : BankSt := {}
  /-- Bank B. [R42; log 8] -/
  b : BankSt := {}
  /-- Chunk in hand. [R378; log 1] -/
  chunk : Option ChunkSt := none
  /-- An image transfer from the active module runs. [R365; log 1] -/
  following : Bool := false
  /-- Node services, by channel. [R380; log 1] -/
  service : Tab ServiceSt := []
deriving DecidableEq, Repr, Inhabited

/-! ## Crucible (13) -/

/-- A remote input TSi (13 R385 to R387). -/
structure TsSt where
  /-- Reading, 0.1 °C; none off, in fault or before the first conversion. [R387; spec: 0x8000 off] -/
  reading : Option Int := none
  /-- In fault, with its kind: 0 open, 1 short, 2 out of range. [R387; log 1] -/
  fault : Option Nat := none
  /-- Consecutive conversions that showed a fault condition. [R387; log 1] -/
  bad : Nat := 0
  /-- Consecutive conversions that showed none. [R387; log 1] -/
  good : Nat := 0
  /-- `tb` at which the fault began. [R387; log 1] -/
  faultAt : Nat := 0
  /-- The input presents the crucible request by its reading. [R397; log 1] -/
  trip : Bool := false
  /-- The input presents the crucible request by a FAULT_TRIP fault. [R387; log 1] -/
  faultTrip : Bool := false
  /-- `tb` until which it converts every 10 ms. [R386; log 1] -/
  fastUntil : Nat := 0
deriving DecidableEq, Repr, Inhabited

/-- The step of one throttle source (13 R393). -/
structure StepSt where
  /-- step 0 to 4 -/
  step  : Nat := 0
  /-- `tb` since which the temperature has stayed at or below b(j+1) − THM_HYST, for j = 0 to 3 -/
  since : List (Option Nat) := [none, none, none, none]
deriving DecidableEq, Repr, Inhabited

/-- A thermal shutdown as the crucible latches it (13 R400). -/
structure ShutRec where
  /-- station time of the assertion -/
  at_    : DWord
  sensor : BitVec 2
  peak   : Half
  /-- wait for the record in flight, ns -/
  wait   : Nat
  long   : Bool
  /-- `tb` of the assertion -/
  tb     : Nat
deriving DecidableEq, Repr, Inhabited

/-- Crucible, one channel (13 R389 to R395, R403). -/
structure ThmCh where
  /-- Step of the cell source. [R393; log 1] -/
  cell : StepSt := {}
  /-- F_THM, fraction. [R392; log 1] -/
  f : Rat := 1
  /-- STEP of the limiting source; 7 in proportional mode. [R403; log 1] -/
  step : Nat := 0
  /-- Limiting source: 0 cell, 1 TS input, 3 node temperature. [R392; log 1] -/
  source : Nat := 0
  /-- SENSOR: limiting cell sensor or TS input; none for the node temperature. [R403; log 1] -/
  sensor : Option Nat := none
  /-- Temperature of the limiting source, 0.1 °C. [R395; log 1] -/
  temp : Int := 0
  /-- f_thm of the last proportional THERMAL_THROTTLE. [R395; log 1] -/
  saidF : Rat := 1
  /-- `tb` of that event. [R395; log 1] -/
  saidAt : Option Nat := none
  /-- FAST. [R389; log 1] -/
  fast : Bool := false
  /-- `tb` at which the channel was last near. [R389; log 1] -/
  nearAt : Option Nat := none
  /-- `tb` of the last evaluation at which a rate-of-rise condition held. [R389; log 1] -/
  rorMetAt : Option Nat := none
  /-- `tb` of the last change of the divisor. [R389; log 1] -/
  divAt : Option Nat := none
  /-- Divisor last sent. [R389; log 1] -/
  divisor : Nat := 0
  /-- Consecutive evaluations that met a condition, by sensor. [R391; log 1] -/
  rorRun : Tab Nat := []
  /-- Rate-of-rise request in force: kind and sensor that raised it. [R391; log 1] -/
  ror : Option (Nat × Nat) := none
  /-- Accepted TEMP values within the window, by sensor: `tb` and value, newest first. [R390; log 1] -/
  hist : Tab (List (Nat × Int)) := []
  /-- RATE_MED, 0.001 K/s. [R403; log 1] -/
  median : Int := 0
deriving DecidableEq, Repr, Inhabited

/-- Crucible (13 R403). -/
structure ThmSt where
  /-- D0 to D3, 0.1 °C. [R403; log 1] -/
  die : List Int := [0, 0, 0, 0]
  /-- Comparators that assert shutdown. [R399; log 1] -/
  comparators : BitVec 4 := 0
  /-- Die warning in force. [R398; log 1] -/
  dieWarn : Bool := false
  /-- `tb` at which the arm was received by a hand-over under R398. [R398; log 1] -/
  receivedAt : Option Nat := none
  /-- Remote inputs. [R387; log 1] -/
  ts : Vector TsSt 16 := Vector.replicate 16 {}
  /-- Step of each TS source. [R393; log 1] -/
  tsStep : Vector StepSt 16 := Vector.replicate 16 {}
  /-- MODE in force: proportional. [R396; spec: THM_MODE] -/
  mode : Bool := false
  /-- OVERRIDE. [R396; spec: ends at a start] -/
  override : Bool := false
  /-- Mode that THERMAL_MODE or a commit asks for from the next update. [R396; log 1] -/
  modeReq : Option Bool := none
  /-- SHUTDOWNS. [R403; spec: since power-on] -/
  shutdowns : Word := 0
  /-- ROR_ALARMS. [R403; log 1] -/
  rorAlarms : Word := 0
  /-- The latched thermal shutdown, until READY posts it. [R400; log 1] -/
  latched : Option ShutRec := none
  /-- `tb` of the shutdowns of the last hour, newest first. [R399; log 1] -/
  shutTimes : List Nat := []
  /-- Factory value of each compensation bin, 0.001 ppm. [R401; log 8] -/
  factory : Tab Int := []
  /-- Learned correction of each bin, 0.001 ppm. [R401; log 8] -/
  learned : Tab Int := []
  /-- The table changed since it was last written. [R401; log 1] -/
  tableDirty : Bool := false
  /-- `tb` of the last write of the table. [R401; log 1] -/
  tableAt : Option Nat := none
  /-- `tb` since which station time has been LOCKED. [R401; log 1] -/
  lockedAt : Nat := 0
deriving DecidableEq, Repr, Inhabited

/-! ## Load outputs (14) -/

/-- Output states, in the order of their codes (14 *Output states*). -/
inductive LoState where
  | off | on | inrush | queued | wait | latched | uvOff | cut | fenced | retired
deriving DecidableEq, Repr, Inhabited

/-- One load output (14 R426). -/
structure LoSt where
  /-- STATE. [R419, R426; spec: off at power-on] -/
  state : LoState := .off
  /-- CMD. [R426; spec: off until a LO_SET] -/
  cmd : Bool := false
  /-- Inrush mode of the turn-on in hand. [R423; log 1] -/
  inrush : Bool := false
  /-- The turn-on in hand, or that waits in QUEUED or UV_OFF, is an anneal attempt not yet counted. [R406, R413; log 1] -/
  attempt : Bool := false
  /-- k. [R410; log 8] -/
  k : Nat := 0
  /-- `tb` of the scheduled attempt. [R410; log 1] -/
  next : Option Nat := none
  /-- The scheduled attempt was cancelled by a turn-off and is made when the output is commanded on again. [R411; log 1] -/
  cancelled : Bool := false
  /-- LAST_KIND. [R426; log 1] -/
  lastKind : BitVec 4 := 0
  /-- CURRENT, mA, as last measured. [R426; log 1] -/
  current : Half := 0
  /-- TJ, 0.1 °C, as last measured. [R426; log 1] -/
  tj : Half := 0
  /-- R_COLD to I_PROFILE. [R421, R426; log 1] -/
  prof : LoProfile := default
  /-- CLAMP_E, mJ. [R426; log 1] -/
  clampE : Half := 0
  /-- ONS. [R426; spec: since start] -/
  ons : Word := 0
  /-- FAULTS. [R426; spec: since start] -/
  faults : Word := 0
  /-- OPEN, and whether it was found in the off state. [R422; log 1] -/
  openLoad : Option Bool := none
  /-- `tb` of turn-ons by LO_SET within the last second, newest first. [R417; log 1] -/
  toggles : List Nat := []
  /-- `tb` of the last chatter event. [R417; log 1] -/
  chatterAt : Option Nat := none
  /-- `tb` since which it has been commanded on. [R418; log 1] -/
  cmdAt : Nat := 0
  /-- `tb` at which it last turned on. [R411; log 1] -/
  onAt : Nat := 0
  /-- The present on-time began with an anneal attempt whose LO_ANNEALED has not been raised. [R411; log 1] -/
  annealing : Bool := false
  /-- Retired: kind in the retained store. [R416; log 8] -/
  retired : Option (BitVec 4) := none
  /-- Clamp energy estimates of the last 10 s: `tb`, nJ, newest first. [R409; log 1] -/
  clamps : List (Nat × Nat) := []
  /-- `tb` of the last mean clamp warning. [R409; log 1] -/
  clampSaidAt : Option Nat := none
  /-- The group was cut by this output. [R415; log 1] -/
  stuck : Bool := false
  /-- The thermal latch is set, whatever the state shows. [R412; log 1] -/
  latch : Bool := false
  /-- The self-test has failed, whatever the state shows. [R420; log 1] -/
  failed : Bool := false
deriving DecidableEq, Repr, Inhabited

/-- One supply group (14 R413, R415, R426). -/
structure LoGroup where
  /-- VFEED, 10 mV. [R426; log 1] -/
  vfeed : Half := 0
  /-- IGROUP, mA. [R426; log 1] -/
  igroup : Half := 0
  /-- Isolation switch open. [R415; log 1] -/
  cut : Bool := false
  /-- Outputs that the open LO_UNDERVOLTAGE named. [R413; log 1] -/
  uvNamed : Byte := 0
  /-- Outputs of those that have not restarted. [R413; log 1] -/
  uvLeft : Byte := 0
  /-- Lowest feed voltage seen, 10 mV. [R413; log 1] -/
  vmin : Half := 0xFFFF
deriving DecidableEq, Repr, Inhabited

/-- The load output block (14 R404, R419). -/
structure LoBlock where
  /-- Outputs. [R426; log 1] -/
  out : Vector LoSt 32 := Vector.replicate 32 {}
  /-- Groups. [R426; log 1] -/
  grp : Vector LoGroup 4 := Vector.replicate 4 {}
  /-- The block is fenced as an L2 fault. [R419; log 1] -/
  fenced : Bool := false
deriving DecidableEq, Repr, Inhabited

/-! ## Safety supervisor (15) -/

/-- Function states, in the order of their codes (15 *Function states*). -/
inductive FnState where
  | off | demand | resetPending | permit | fault | faultClearable | waitRelease | lockout
deriving DecidableEq, Repr, Inhabited

/-- A safety input (15 R435 to R437). -/
structure SiSt where
  /-- Recognised as permitting. [R435; spec: demand until the filter time has passed] -/
  permit : Bool := false
  /-- Consecutive pulses of its source at which it read high. [R436; log 1] -/
  highRun : Nat := 0
  /-- `tb` of its entries into demand, newest first, at most 10. [R437; log 1] -/
  entries : List Nat := []
  /-- Chattering. [R437; log 1] -/
  chatter : Bool := false
deriving DecidableEq, Repr, Inhabited

/-- A pair and its function (15 R439 to R443). -/
structure PairSt where
  /-- Function state. [R439; spec: off when not configured] -/
  state : FnState := .off
  /-- `tb` at which the function entered the state. [R445; log 1] -/
  since : Nat := 0
  /-- Ticks the contacts have differed. [R442; log 1] -/
  count : Nat := 0
  /-- Discrepancy fault latched. [R443; log 1] -/
  disc : Bool := false
  /-- Contact B changed first at that fault. [R456; log 1] -/
  firstB : Bool := false
  /-- Contact B was the last to change when the contacts last came to differ. [R456; log 1] -/
  lastB : Bool := false
  /-- Pulse fault latched. [R436; log 1] -/
  pulse : Bool := false
  /-- `tb` at which the first hand permitted. [R440; log 1] -/
  sync : Option Nat := none
deriving DecidableEq, Repr, Inhabited

/-- A safety output (15 R446 to R448). -/
structure SoSt where
  /-- Output fault. [R448; log 1] -/
  fault : Bool := false
  /-- Read 5 V or more while commanded off: lockout cause. [R448; log 1] -/
  high : Bool := false
  /-- Failed switches. [R448; log 1] -/
  failed : BitVec 2 := 0
  /-- Consecutive failed tests of each switch. [R448; log 1] -/
  runs : Nat × Nat := (0, 0)
  /-- `tb` since which the output has read correctly off. [R448; log 1] -/
  okOffAt : Nat := 0
deriving DecidableEq, Repr, Inhabited

/-- Degraded mode (15 R450). -/
structure DegSt where
  /-- the cause is an output switch, otherwise a source -/
  switch : Bool
  /-- TP or SO number -/
  index  : Nat
  /-- `tb` of the entry -/
  at_    : Nat
  /-- `tb` since which the cause has been absent -/
  absentAt : Option Nat
deriving DecidableEq, Repr, Inhabited

/-- A safety event the supervisor holds while the main domain cannot take it (15 R456). -/
structure HeldSafety where
  code   : Half
  pinned : Bool
  data   : BitVec 288
  /-- `tb` of occurrence -/
  at_    : Nat
deriving DecidableEq, Repr, Inhabited

/-- Safety supervisor (15 R454, R455). -/
structure SafSt where
  /-- VSAFE is present and the supervisor runs. [R427; log 7] -/
  running : Bool := true
  /-- HB-A to HB-E as latched by the supervisor and, for HB-A and HB-B, by the boot ROM. [R429; log 7] -/
  latched : Vector Byte 5 := Vector.replicate 5 0
  /-- HB-A to HB-E as last read. [R431; log 7] -/
  present : Vector Byte 5 := Vector.replicate 5 0
  /-- CONTRADICTORY. [R431; log 7] -/
  contradictory : BitVec 5 := 0
  /-- Blocks that the last reading showed moved. [R431; log 1] -/
  moved : BitVec 5 := 0
  /-- `tb` since which HB-C to HB-E have read their latched values. [R432; log 1] -/
  restoredAt : Nat := 0
  /-- Inputs. [R435; spec] -/
  si : Vector SiSt 16 := Vector.replicate 16 {}
  /-- Pairs. [R439; spec] -/
  pair : Vector PairSt 8 := Vector.replicate 8 {}
  /-- Outputs. [R447; spec] -/
  so : Vector SoSt 8 := Vector.replicate 8 {}
  /-- Sources with a fault, readback high. [R436; log 1] -/
  srcHigh : BitVec 4 := 0
  /-- Sources with a fault, readback low. [R436; log 1] -/
  srcLow : BitVec 4 := 0
  /-- Consecutive pulses at which each source's readback stayed high. [R436; log 1] -/
  srcRun : Vector Nat 4 := Vector.replicate 4 0
  /-- SRST closed now. [R455; log 1] -/
  srst : Bool := false
  /-- A held reset stands. [R444; log 1] -/
  stuck : Bool := false
  /-- `tb` at which the stuck press began. [R444; log 1] -/
  stuckAt : Nat := 0
  /-- CONFIG_INVALID: lockout until a power-on. [R430; log 1] -/
  configInvalid : Bool := false
  /-- Internal fault: lockout until a power-on. [R451; log 1] -/
  internal : Bool := false
  /-- Lockout for a movement of HB-C to HB-E. [R432; log 1] -/
  lockHall : Bool := false
  /-- Lockout that ended degraded mode, by a second cause or by expiry. [R451; log 1] -/
  lockDegraded : Bool := false
  /-- Degraded mode, kept while the lockout that ended it stands. [R450; log 1] -/
  degraded : Option DegSt := none
  /-- Events held, oldest first, at most 64. [R456; log 1] -/
  held : List HeldSafety := []
  /-- LOST_EVENTS. [R456; log 1] -/
  lost : Half := 0
  /-- DEMANDS. [R455; log 1] -/
  demands : Word := 0
  /-- RESETS. [R455; log 1] -/
  resets : Word := 0
  /-- OFF_PULSES. [R455; log 1] -/
  offPulses : Word := 0
deriving DecidableEq, Repr, Inhabited

/-! ## Coordination bus (16) -/

/-- STATE of a bus, in the order of its codes (16 R480). -/
inductive BusState where
  | off | errorActive | errorPassive | busOff | recovering | noSupply
deriving DecidableEq, Repr, Inhabited

/-- A queued class 0 frame (16 R463, R466). -/
structure Trip0 where
  zone   : Nat
  groups : Byte
  causes : Byte
  count  : Half
  /-- `tb` at which it was queued -/
  at_    : Nat
  /-- buses it was queued on -/
  mask   : BitVec 2
deriving DecidableEq, Repr, Inhabited

/-- A one-shot frame in the FIFO (16 R459, R462). -/
structure OneShot where
  ident  : BitVec 29
  data   : List Byte
  /-- `tb` at which it entered the FIFO -/
  at_    : Nat
  /-- TAG of the BUS_SEND that waits for its outcome -/
  tag    : Option Half
deriving DecidableEq, Repr, Inhabited

/-- One bus (16 R480). -/
structure BusOne where
  /-- STATE. [R478, R480; spec: normal after every start] -/
  state : BusState := .errorActive
  /-- MODE: 0 normal, 1 listen-only, 2 off. [R478; spec] -/
  mode : Nat := 0
  /-- Mode that BUS_MODE asked for, effective at the end of the frame in progress. [R478; log 1] -/
  modeReq : Option Nat := none
  /-- ALONE. [R475; log 1] -/
  alone : Bool := false
  /-- TEC. [R472; spec: ISO 11898-1] -/
  tec : Nat := 0
  /-- REC. [R472; spec: ISO 11898-1] -/
  recv : Nat := 0
  /-- LAST_ERROR. [R480; log 1] -/
  lastError : BitVec 3 := 0
  /-- FRAMES_TX. [R480; log 1] -/
  framesTx : Word := 0
  /-- FRAMES_RX. [R480; log 1] -/
  framesRx : Word := 0
  /-- ACK_ERRORS. [R480; log 1] -/
  ackErrors : Word := 0
  /-- TRIP_TX_LOST. [R460; log 1] -/
  tripTxLost : Half := 0
  /-- DUPLICATES. [R465; log 1] -/
  duplicates : Half := 0
  /-- DISCARDED. [R480; log 1] -/
  discarded : Word := 0
  /-- Class 0 queue, oldest first, at most 8. [R460; log 1] -/
  class0 : List Trip0 := []
  /-- Class 1 slot: payload of the TWIN_STATUS that waits. [R460; log 1] -/
  class1 : Option (List Byte) := none
  /-- One-shot FIFO, oldest first, at most 32. [R460; log 1] -/
  fifo : List OneShot := []
  /-- Consecutive acknowledge errors. [R475; log 1] -/
  ackRun : Nat := 0
  /-- `tb` of the last TWIN_STATUS accepted. [R480 PARTNER; log 1] -/
  partnerAt : Option Nat := none
  /-- Consecutive transmissions of one identifier that ended by a data-phase bit error. [R476; log 1] -/
  bitRun : Option (BitVec 29 × Nat) := none
deriving DecidableEq, Repr, Inhabited

/-- Coordination bus block (16). -/
structure BusSt where
  /-- Buses A and B. [R480; spec] -/
  one : Vector BusOne 2 := Vector.replicate 2 {}
  /-- CLASH. [R476; log 1] -/
  clash : Bool := false
  /-- Identifier and bus of the clash. [R476; log 1] -/
  clashBy : BitVec 29 × BusId × Bool := (0, 0, false)
  /-- `tb` of the last frame received with the module's own SOURCE. [R477; log 1] -/
  ownHeardAt : Option Nat := none
  /-- TRIP_COUNT: COUNT of the last class 0 frame sent. [R463; spec: since start] -/
  tripCount : Half := 0
  /-- Class 0 frames accepted in the last second: SOURCE, COUNT, `tb`, newest first. [R465; log 1] -/
  accepted : List (BitVec 12 × Half × Nat) := []
  /-- COUNTs of sent frames whose TRIP_BROADCAST has been raised, newest first, at most 16. [R466; log 1] -/
  tripSaid : List Half := []
deriving DecidableEq, Repr, Inhabited

/-! ## The block -/

/-- Who can stop the block: nothing does. No rule of the manual stops it; every refused command is answered by a
status code or an event in the state. -/
inductive Fault where
  /-- Raised by no meaning: the manual names no stop of the block. Safe. -/
  | none
deriving DecidableEq, Repr, Inhabited

/-- Commands the model does not answer. -/
inductive Refusal where
  /-- Raised by `exec`'s arms for a command that has no meaning yet; it names the command. Safe. -/
  | notModelled (mnemonic : String)
deriving DecidableEq, Repr, Inhabited

/-- Everything the manual gives the block, as plain data. -/
structure State where
  /-- Time base and station time (02). -/
  tim : TimSt := {}
  /-- Start-up, resets and supply (02, 13, 18). -/
  pwr : PwrSt := {}
  /-- Host interface (03). -/
  hst : HstSt := {}
  /-- Descriptor rings 0 to 63 (03). -/
  rings : Vector RingSt 64 := (Vector.replicate 64 {}).set 1 { dir := true } |>.set 3 { dir := true }
  /-- The shared window BAR2: bytes that are not zero, by offset (03 R59). [BAR2; log 11] -/
  win : List Host.Cell := []
  /-- Commands in hand (03). -/
  cmd : CmdSt := {}
  /-- Events and logs (03, 17). -/
  ev : EvSt := {}
  /-- Configuration (03). -/
  cfg : CfgSt := {}
  /-- Cell link ports (04). -/
  ports : Vector PortSt 64 := Vector.replicate 64 {}
  /-- Frame layer (05). -/
  txns : Vector TxnSt 64 := Vector.replicate 64 {}
  /-- Cell measurement (06). -/
  meas : Vector MeasSt 64 := Vector.replicate 64 {}
  /-- Insertion engine, by channel (07). -/
  insCh : Vector InsCh 64 := Vector.replicate 64 {}
  /-- Insertion engine, segment (07). -/
  ins : InsSt := {}
  /-- Staging (08). -/
  stg : StgSt := {}
  /-- Quench matrix (08). -/
  qm : QmSt := {}
  /-- Assay engine, by channel (09). -/
  asyCh : Vector AsyCh 64 := Vector.replicate 64 {}
  /-- Assay cycle, learned data and touchmark, by channel (10). -/
  cyc : Vector CycCh 64 := Vector.replicate 64 {}
  /-- Assay engine, segment (09). -/
  asy : AsySt := {}
  /-- Retained store (02, 10, 17). -/
  store : StoreSt := {}
  /-- Channel connection (11). -/
  con : Vector ConCh 64 := Vector.replicate 64 {}
  /-- Twin operation (12). -/
  twn : TwnSt := {}
  /-- Images and node services (12). -/
  img : ImgSt := {}
  /-- Crucible (13). -/
  thm : ThmSt := {}
  /-- Crucible, by channel (13). -/
  thmCh : Vector ThmCh 64 := Vector.replicate 64 {}
  /-- Load outputs (14). -/
  lo : LoBlock := {}
  /-- Safety supervisor (15). -/
  saf : SafSt := {}
  /-- Coordination bus (16). -/
  bus : BusSt := {}
  /-- Fault handler (17). -/
  flt : FltSt := {}
  /-- Free values drawn so far. [model; log 5] -/
  free : Nat := 0
  /-- Commands that wait, first in first out. [model; log 6] -/
  pending : List Instr := []
deriving DecidableEq, Repr, Inhabited

/-- The block right after a power-on reset (02 *What each reset preserves*): start-up has begun, the transmitters are
dark, the rings are disabled and no command waits. -/
def State.reset : State := {}

end Sys2Proof.Machine
end

