-- ==== Sys2Proof/Machine/Ops.lean ====
section
/-! DEFINITION. The operations every chapter shares: times, bytes and fields, tables and window memory in their canonical
form, updates of one entry of a field, free values, events and the posting of events and replies on the rings. -/

namespace Sys2Proof.Machine

/-- What a meaning answers. -/
abbrev Out := Host.Outcome State Fault Refusal

/-! ## Times, in TB ticks of 1.25 ns (02 R28) -/

/-- Ticks of 1 µs. -/
abbrev tUs : Nat := 800
/-- Ticks of 1 ms. -/
abbrev tMs : Nat := 800000
/-- Ticks of 1 s. -/
abbrev tSec : Nat := 800000000

/-- An instant that lies `d` ticks back, or has never been. -/
def elapsed (now : Nat) (o : Option Nat) (d : Nat) : Bool := o.all (fun a => now - a ≥ d)

/-- An instant that lies less than `d` ticks back. -/
def lately (now : Nat) (o : Option Nat) (d : Nat) : Bool := o.any (fun a => now - a < d)

/-! ## Bytes and fields (00 R3) -/

/-- `n` bytes of `v`, least significant first. -/
def leBytes : Nat → Nat → List Byte
  | 0, _ => []
  | n + 1, v => BitVec.ofNat 8 v :: leBytes n (v / 256)

/-- The number that bytes give, least significant first. -/
def ofLe : List Byte → Nat
  | [] => 0
  | b :: bs => b.toNat + 256 * ofLe bs

/-- Two's complement of `i` in `w` bits, as a number. -/
def wrapI (w : Nat) (i : Int) : Nat := (BitVec.ofInt w i).toNat

/-- The integer that bytes give in two's complement. -/
def ofLeI (bs : List Byte) : Int := (BitVec.ofNat (8 * bs.length) (ofLe bs)).toInt

/-- `len` bytes of `bs` from `off`. -/
def slice (bs : List Byte) (off len : Nat) : List Byte := (bs.drop off).take len

/-- A Bool as a bit. -/
def bN (b : Bool) : Nat := if b then 1 else 0

/-- A field of a status object or payload: `v` at bit `bit` of byte `byte`. -/
def fld (byte bit v : Nat) : Nat := v * 2 ^ (8 * byte + bit)

/-- An object of `n` bytes from its fields. -/
def obj (n : Nat) (fields : List Nat) : List Byte := leBytes n (fields.foldl (· ||| ·) 0)

/-- A field of the DATA of an event: byte 28 is its first (03 "Event descriptor"). -/
def ef (byte bit v : Nat) : Nat := fld (byte - 28) bit v

/-- Bit `i` of a number. -/
def bitOf (v i : Nat) : Bool := v.testBit i

/-- A mask from a predicate on the indices below `n`. -/
def maskOf (n : Nat) (p : Nat → Bool) : Nat :=
  (List.range n).foldl (fun a i => if p i then a + 2 ^ i else a) 0

/-- The indices of `Fin n` that meet `p`, rising. -/
def finsOf (n : Nat) (p : Fin n → Bool) : List (Fin n) := (List.finRange n).filter p

/-- `v` held to `0 … hi`. -/
def clampN (hi : Nat) (v : Int) : Nat := if v < 0 then 0 else if v > hi then hi else v.toNat

/-- `v` held between two bounds. -/
def clampR (lo hi v : Rat) : Rat := if v < lo then lo else if hi < v then hi else v

/-- A reported whole number of units: exact when `x` is one, else one of the two next to it (log 4). -/
def toLsb (x : Rat) : Int := if x.den = 1 then x.num else if Config.roundUp x then x.ceil else x.floor

/-- An exact value held to a signed field of `w` bits. -/
def satI (w : Nat) (i : Int) : Int :=
  if i > 2 ^ (w - 1) - 1 then 2 ^ (w - 1) - 1 else if i < -(2 ^ (w - 1)) then -(2 ^ (w - 1)) else i

/-- Newer by serial-number arithmetic over 32 bits within a half-space (05 R152, 08 R227). -/
def newer32 (a b : Word) : Bool := a ≠ b && (a - b).toNat < 2 ^ 31

/-- At or after `b` by the same arithmetic. -/
def newerEq32 (a b : Word) : Bool := (a - b).toNat < 2 ^ 31

/-! ## Tables and memory in canonical form -/

/-- The value at key `k`; `d` where no entry is listed. -/
def tabGet {α : Type} (d : α) : Tab α → Nat → α
  | [], _ => d
  | (k, v) :: t, n => if n = k then v else if n < k then d else tabGet d t n

/-- Set the value at key `n`, keeping the form: keys rising, nothing listed that equals `d`. -/
def tabPut {α : Type} [DecidableEq α] (d : α) : Tab α → Nat → α → Tab α
  | [], n, x => if x = d then [] else [(n, x)]
  | (k, v) :: t, n, x =>
    if n = k then (if x = d then t else (n, x) :: t)
    else if n < k then (if x = d then (k, v) :: t else (n, x) :: (k, v) :: t)
    else (k, v) :: tabPut d t n x

/-- The form of a table: keys strictly rising from `lo`, no entry equal to `d`. -/
def tabWfFrom {α : Type} [DecidableEq α] (d : α) : Nat → Tab α → Bool
  | _, [] => true
  | lo, (k, v) :: t => decide (lo ≤ k) && decide (v ≠ d) && tabWfFrom d (k + 1) t

/-- The canonical form of window memory: addresses strictly rising, no byte listed that an unlisted address reads as. -/
def Memory.wf (m : List Host.Cell) : Bool := tabWfFrom (0 : Byte) 0 m

/-- What an address of the window that is not listed reads as (log 11). -/
def memDefault : Byte := 0

/-- A byte of the window. -/
def memByte (m : List Host.Cell) (a : Nat) : Byte := tabGet memDefault m a

/-- Store bytes from address `a`. -/
def memWrite (m : List Host.Cell) (a : Nat) : List Byte → List Host.Cell
  | [] => m
  | b :: bs => memWrite (tabPut memDefault m a b) (a + 1) bs

/-- Read `n` bytes from address `a`. -/
def memRead (m : List Host.Cell) (a : Nat) : Nat → List Byte
  | 0 => []
  | n + 1 => memByte m a :: memRead m (a + 1) n

/-- Read a little-endian number of `n` bytes. -/
def memNum (m : List Host.Cell) (a n : Nat) : Nat := ofLe (memRead m a n)

/-! ## One entry of a field -/

/-- Update one entry of a vector. -/
def vmod {α : Type} {n : Nat} (v : Vector α n) (i : Fin n) (f : α → α) : Vector α n := v.set i.val (f v[i]) i.isLt

def modPort (p : Chan) (f : PortSt → PortSt) (s : State) : State := { s with ports := vmod s.ports p f }
def modTxn (p : Chan) (f : TxnSt → TxnSt) (s : State) : State := { s with txns := vmod s.txns p f }
def modMeas (n : Chan) (f : MeasSt → MeasSt) (s : State) : State := { s with meas := vmod s.meas n f }
def modIns (n : Chan) (f : InsCh → InsCh) (s : State) : State := { s with insCh := vmod s.insCh n f }
def modAsy (n : Chan) (f : AsyCh → AsyCh) (s : State) : State := { s with asyCh := vmod s.asyCh n f }
def modCyc (n : Chan) (f : CycCh → CycCh) (s : State) : State := { s with cyc := vmod s.cyc n f }
def modCon (n : Chan) (f : ConCh → ConCh) (s : State) : State := { s with con := vmod s.con n f }
def modThm (n : Chan) (f : ThmCh → ThmCh) (s : State) : State := { s with thmCh := vmod s.thmCh n f }
def modRing (r : Ring) (f : RingSt → RingSt) (s : State) : State := { s with rings := vmod s.rings r f }
def modLo (o : LoadOut) (f : LoSt → LoSt) (s : State) : State := { s with lo := { s.lo with out := vmod s.lo.out o f } }
def modLg (g : Fin 4) (f : LoGroup → LoGroup) (s : State) : State := { s with lo := { s.lo with grp := vmod s.lo.grp g f } }
def modBus (b : BusId) (f : BusOne → BusOne) (s : State) : State := { s with bus := { s.bus with one := vmod s.bus.one b f } }
def modTs (i : TempIn) (f : TsSt → TsSt) (s : State) : State := { s with thm := { s.thm with ts := vmod s.thm.ts i f } }
def modTrip (i : TripIn) (f : TripSt → TripSt) (s : State) : State := { s with qm := { s.qm with trips := vmod s.qm.trips i f } }
def modLane (l : SeamLane) (f : LaneSt → LaneSt) (s : State) : State := { s with twn := { s.twn with lanes := vmod s.twn.lanes l f } }

/-- A host port's own registers. -/
def portRegs (s : State) : HPort → PortRegs
  | .a => s.hst.a
  | .b => s.hst.b

def modHp (p : HPort) (f : PortRegs → PortRegs) (s : State) : State :=
  match p with
  | .a => { s with hst := { s.hst with a := f s.hst.a } }
  | .b => { s with hst := { s.hst with b := f s.hst.b } }

/-- The other host port. -/
def otherPort : HPort → HPort
  | .a => .b
  | .b => .a

/-- Do `f` when `c` holds. -/
def when (c : Bool) (f : State → State) (s : State) : State := if c then f s else s

/-- Do `f` for each element, left to right. -/
def forEach {α : Type} (l : List α) (f : α → State → State) (s : State) : State := l.foldl (fun s a => f a s) s

/-- All channels, rising. -/
def allChans : List Chan := List.finRange 64

/-! ## Free values (log 5) -/

/-- Draw a free value. -/
def drawWord (s : State) : DWord × State := (Config.freeWord s.free, { s with free := s.free + 1 })

/-- Draw a free choice. -/
def drawBool (s : State) : Bool × State := (Config.freeBool s.free, { s with free := s.free + 1 })

/-! ## Events (03 R82, R83; 17 R493 to R496) -/

/-- Entries the event log holds (17 R493). -/
def logSize : Nat := 65536

/-- Entries the pinned region holds (17 R495). -/
def pinSize : Nat := 1024

/-- Event codes whose every occurrence is pinned (17 *Pinned events*); the others name `pin` themselves. -/
def alwaysPinned (code : Nat) : Bool :=
  [0x8B03, 0x8205, 0x8703, 0x8208, 0x8102, 0x8603, 0x8604, 0x8408, 0x8802, 0x8805, 0x8806, 0x8807].contains code

/-- Enter an event into the log, the queue for ring 1 and, when pinned and the region has room, the queue of pinned
writes (R82, R493, R495). -/
def enter (code level : Nat) (pin : Bool) (time : DWord) (subject : Nat) (data : List Nat) (s : State) : State :=
  let room := s.ev.pinned.length + s.ev.pinQueue.length < pinSize
  let e : Event := { code := BitVec.ofNat 16 code, level := BitVec.ofNat 4 level, pinned := pin && room, time := time,
                     seq := s.ev.seq, subject := BitVec.ofNat 16 subject, boot := s.pwr.boot,
                     data := BitVec.ofNat 288 (data.foldl (· ||| ·) 0) }
  { s with ev := { s.ev with
      seq := s.ev.seq + 1
      log := (s.ev.log ++ [e]).drop (s.ev.log.length + 1 - logSize)
      held := s.ev.held ++ [e]
      pinQueue := if pin && room then s.ev.pinQueue ++ [e] else s.ev.pinQueue } }

/-- Raise an event; PINNED_LOG_FULL follows once when the pinned region has become full (R496). -/
def raiseAt (code level : Nat) (pin : Bool) (time : DWord) (subject : Nat) (data : List Nat) (s : State) : State :=
  let s := enter code level (pin || alwaysPinned code) time subject data s
  if s.ev.pinned.length + s.ev.pinQueue.length ≥ pinSize && !s.ev.pinFull then
    enter 0x8B04 0xF false s.tim.station 0xFFFF [] { s with ev := { s.ev with pinFull := true } }
  else s

/-- An event that is no fault, now. -/
def raise (code subject : Nat) (data : List Nat) (s : State) : State :=
  raiseAt code 0xF false s.tim.station subject data s

/-- SEQ of the newest event. -/
def lastSeq (s : State) : Word := s.ev.seq - 1

/-! ## Returning descriptors (03 R60 to R63) -/

/-- Offset in BAR2 of the slot of index `idx` (R61, *BAR2 layout*). -/
def slotOff (r : Ring) (g : RingSt) (idx : Word) : Nat :=
  0x10000 + r.val * 0x40000 + idx.toNat % 2 ^ g.sizeLog2.toNat * 64

/-- Descriptors the module owns (R61). -/
def owned (g : RingSt) : Nat := (g.hpi - g.mpi).toNat

/-- A function block is fenced by an L2 action (17 *Fault causes*). -/
def blockFenced (s : State) (cause subject : Nat) : Bool :=
  s.flt.fencedBlocks.contains (BitVec.ofNat 16 cause, BitVec.ofNat 16 subject)

/-- A host port is fenced (17 *Fault causes*, 0x0104): it takes no access and sends nothing. -/
def portFenced (s : State) (p : HPort) : Bool := blockFenced s 0x0104 (if p = .a then 0 else 1)

/-- Send the MSI-X write of a vector on a port, or set its pending bit while its entry masks it (log 9). -/
def sendVector (p : HPort) (v : Nat) (s : State) : State :=
  modHp p (fun r => if r.vecMask.getLsbD v then { r with pba := r.pba ||| (1#64 <<< v) }
                    else { r with sent := (v :: r.sent).take 64 }) s

/-- Signal a ring's vector on one port: the pending bit, and the vector unless HST_IRQ_MASK masks it. -/
def signalPort (p : HPort) (v : Nat) (s : State) : State :=
  let s := modHp p (fun r => { r with irqPend := r.irqPend ||| (1#64 <<< v) }) s
  if (portRegs s p).irqMask.getLsbD v || !(portRegs s p).link || portFenced s p then s else sendVector p v s

/-- Signal a ring's vector (R60): on the active port, and on the observing port for rings 1 and 3 when its
HST_CONTROL says so. -/
def signalRing (r : Ring) (s : State) : State :=
  let s := modRing r (fun g => { g with unsignalled := 0, holdAt := none }) s
  let s := signalPort s.hst.active r.val s
  let o := otherPort s.hst.active
  if (portRegs s o).control.getLsbD 0 && (r.val = 1 || r.val = 3) then signalPort o r.val s else s

/-- One more descriptor returned on a ring: MPI and the moderation of R60. -/
def returned (r : Ring) (s : State) : State :=
  let s := modRing r (fun g => { g with mpi := g.mpi + 1, unsignalled := g.unsignalled + 1,
                                        holdAt := if g.holdAt.isNone then some s.tim.tb else g.holdAt }) s
  let count := s.rings[r].irq.toNat % 4096
  if s.rings[r].unsignalled ≥ max 1 count then signalRing r s else s

/-- Write words 1 to 15 and then word 0 with OWN cleared (R62). -/
def writeDesc (r : Ring) (idx : Word) (op tag len : Half) (w2 : Nat) (words : List (Nat × Word)) (full : Bool) (s : State) : State :=
  let off := slotOff r s.rings[r] idx
  let w := if full then memWrite s.win (off + 12) (List.replicate 52 0) else s.win
  let w := memWrite w (off + 4) (leBytes 4 (tag.toNat * 65536 + len.toNat))
  let w := memWrite w (off + 8) (leBytes 4 w2)
  let w := words.foldl (fun w p => memWrite w (off + 4 * p.1) (leBytes 4 p.2.toNat)) w
  { s with win := memWrite w off (leBytes 4 op.toNat) }

/-- Codes of the status (03 *Status codes*). -/
def Status.code : Status → Nat
  | .ok => 0x0000
  | .pending => 0x0001
  | .badOpcode => 0x0101
  | .badParam => 0x0102
  | .outOfRange => 0x0103
  | .wrongState => 0x0104
  | .busy => 0x0105
  | .fenced => 0x0106
  | .notActive => 0x0107
  | .sealed => 0x0108
  | .authFail => 0x0109
  | .timeout => 0x010A

/-- Word 2 of a reply. -/
def replyWord2 (p : Reply) : Nat := p.status.code + p.detail.toNat * 65536

/-- Return every taken descriptor whose turn has come: in slot order on each ring (R66). -/
def flushTaken : List Taken → List Taken → State → State
  | [], kept, s => { s with cmd := { s.cmd with taken := kept } }
  | t :: ts, kept, s =>
    match t.reply with
    | some p =>
      if kept.any (fun k => k.ring == t.ring) then flushTaken ts (kept ++ [t]) s
      else flushTaken ts kept (returned t.ring (writeDesc t.ring t.idx t.op t.tag t.len (replyWord2 p) p.words false s))
    | none => flushTaken ts (kept ++ [t]) s

/-- Ring `r` owns an empty descriptor that the module may fill. -/
def canPost (s : State) (r : Ring) : Bool :=
  s.rings[r].enable && !s.rings[r].fault && 0 < owned s.rings[r]

/-- Post held final replies on ring 3, in order (R68). -/
def flushReplies : List HeldReply → State → State
  | [], s => { s with cmd := { s.cmd with held := [] } }
  | h :: hs, s =>
    if canPost s 3 then
      flushReplies hs (returned 3 (writeDesc 3 s.rings[(3 : Ring)].mpi h.op h.tag 52 (replyWord2 h.reply) h.reply.words true s))
    else { s with cmd := { s.cmd with held := h :: hs } }

/-- Words 3 to 15 of an event descriptor. -/
def eventWords (e : Event) : List (Nat × Word) :=
  [(3, e.time.truncate 32), (4, (e.time >>> 32).truncate 32), (5, e.seq), (6, e.subject.zeroExtend 32)] ++
    (List.range 9).map (fun i => (7 + i, (e.data >>> (32 * i)).truncate 32))

/-- Post one event on ring 1. -/
def postEvent (e : Event) (s : State) : State :=
  returned 1 (writeDesc 1 s.rings[(1 : Ring)].mpi e.code (e.seq.truncate 16) 52
    (e.level.toNat + 256 * bN e.pinned) (eventWords e) true s)

/-- Drop events beyond the 256 held: the oldest of level 0xF first, else the oldest (R83). -/
def dropHeld : Nat → State → State
  | 0, s => s
  | n + 1, s =>
    if s.ev.held.length ≤ 256 then s
    else
      let gone := (s.ev.held.find? (fun e => e.level == 0xF#4)).getD (s.ev.held.headD default)
      dropHeld n { s with ev := { s.ev with
        held := s.ev.held.erase gone
        dropped := s.ev.dropped + 1
        oldest := if s.ev.dropped = 0 || newer32 s.ev.oldest gone.seq then gone.seq else s.ev.oldest
        newest := if s.ev.dropped = 0 || newer32 gone.seq s.ev.newest then gone.seq else s.ev.newest } }

/-- Post held events in order of SEQ while ring 1 owns empty descriptors. -/
def flushHeld : List Event → State → State
  | [], s => { s with ev := { s.ev with held := [] } }
  | e :: es, s => if canPost s 1 then flushHeld es (postEvent e s) else { s with ev := { s.ev with held := e :: es } }

/-- Post events: EVENT_OVERFLOW ahead of every held event when some were dropped (R83), then the held ones. -/
def flushEvents (s : State) : State :=
  if canPost s 1 && s.ev.dropped ≠ 0 then
    let before := s.ev.held
    let s := raise 0x810D 0xFFFF [ef 28 0 s.ev.dropped.toNat, ef 32 0 s.ev.oldest.toNat, ef 36 0 s.ev.newest.toNat] s
    let extra := s.ev.held.drop before.length
    let s := { s with ev := { s.ev with dropped := 0 } }
    dropHeld s.ev.held.length (flushHeld (extra ++ before) s)
  else
    let s := flushHeld s.ev.held s
    dropHeld s.ev.held.length s

/-! ## The retained store (02 R47, R48; 10 R315; 17 R495) -/

/-- Whether a write may start. During a power-fail warning (R47) only the checkpoint may, and a pinned event after it
(17 R495); the write-back of an assay cycle waits for a hold-up reserve without fault (10 R315). -/
def storeMay (s : State) (w : StoreWrite) : Bool :=
  if s.pwr.holdupFault && (match w with
    | .learned _ c => c
    | _ => false) then false
  else if !s.pwr.warn then true
  else match w with
    | .checkpoint k => k = 1
    | .pinned _ => !s.store.queue.any (fun q => q == .checkpoint 1)
    | _ => false

/-- Start the next record write when none is in flight: a power-fail checkpoint first, then pinned events, then the rest in
order. A fenced or worn store starts none (17 *Fault causes*, R499). -/
def pumpStore (s : State) : State :=
  let go (w : StoreWrite) (q : List StoreWrite) : State :=
    { s with store := { s.store with inFlight := some w, queue := q, startedAt := s.tim.tb } }
  if s.store.inFlight.isSome || s.store.fenced || s.store.worn || s.pwr.mod == .booting || s.pwr.mod == .imageFault then s
  else if s.store.queue.contains (.checkpoint 1) then go (.checkpoint 1) (s.store.queue.erase (.checkpoint 1))
  else match s.ev.pinQueue with
    | e :: _ => if storeMay s (.pinned e) then go (.pinned e) s.store.queue else s
    | [] => match s.store.queue.find? (storeMay s) with
      | some w => go w (s.store.queue.erase w)
      | none => s

/-- Queue a record write; a write of the same record that waits already stands for it. -/
def queueWrite (w : StoreWrite) (s : State) : State :=
  if s.store.queue.contains w then s else { s with store := { s.store with queue := s.store.queue ++ [w] } }

/-- Newer within a half-space of 32,768 (12 R354). -/
def newer16 (a b : Half) : Bool := a ≠ b && (a - b).toNat < 32768

/-- The lane that carries reliable frames: lane 0, or lane 1 while lane 0 is DOWN (12 R354). -/
def reliableLane (s : State) : SeamLane := if s.twn.lanes[(0 : SeamLane)].up then 0 else 1

/-- `n` frames leave on a lane: each takes a SEQ, and the first carries RESEND when it is due (05 R130, R131). -/
def seamFrames (l : SeamLane) (n : Nat) (s : State) : State :=
  if n = 0 then s
  else
    let s := modLane l (fun x => { x with seqTx := x.seqTx + BitVec.ofNat 16 n }) s
    { s with twn := { s.twn with resend := false } }

/-- An unreliable frame leaves on both lanes. -/
def seamBoth (s : State) : State := seamFrames 1 1 (seamFrames 0 1 s)

/-- A reliable frame leaves on the seam (12 R354); none while both lanes are DOWN, a pairing mismatch stands or the window
of 256 is full. -/
def sendSeam (o : SeamOut) (s : State) : State :=
  let up := s.twn.lanes[(0 : SeamLane)].up || s.twn.lanes[(1 : SeamLane)].up
  if !up || s.twn.mismatch.isSome || s.twn.unacked.length ≥ 256 then s
  else
    let s := seamFrames (reliableLane s) 1 s
    { s with twn := { s.twn with rcntTx := s.twn.rcntTx + 1, unacked := s.twn.unacked ++ [(s.twn.rcntTx + 1, o)] } }

/-- The unacknowledged frames newer than an ACK go out again (12 R354; 05 R132, R133). -/
def seamAgain (ack : Half) (s : State) : State :=
  seamFrames (reliableLane s) (s.twn.unacked.filter (fun f => newer16 f.1 ack)).length s

/-- What the module does at the end of every command: it posts the events on ring 1 before the completions (R69),
returns the descriptors whose turn has come, posts the final replies and starts the next record write. -/
def settle (s : State) : State :=
  flushReplies s.cmd.held (let s := flushEvents (pumpStore s); flushTaken s.cmd.taken [] s)

/-- The answer of a meaning: `body`'s state with the window and the queue of commands as they were, then `settle`. A
command's own writes to the window are named by `win`. No time passes within a command (log 6). -/
def done (s : State) (s' : State) : Out :=
  .next (settle { s' with win := s.win, pending := s.pending, tim := { s'.tim with tb := s.tim.tb } })

/-- The same for a command that writes the window itself. -/
def doneWin (s : State) (win : List Host.Cell) (s' : State) : Out :=
  .next (settle { s' with win := win, pending := s.pending, tim := { s'.tim with tb := s.tim.tb } })

end Sys2Proof.Machine
end

