-- ==== Sys2Proof/Machine/Params.lean ====
section
/-! DEFINITION. The parameters of the configuration record: identifiers, types, ranges, defaults and Applies points as the
tables of the chapters give them, and how a value is read (03 R86 to R91). -/

namespace Sys2Proof.Machine

/-- Applies points (03 R88, R91). -/
inductive Applies where
  | immediate | nextReload | restart | nextCommit
deriving DecidableEq, Repr, Inhabited

/-- What values a parameter takes: an unsigned or signed range, in which `zero` also admits 0 and `extra` one more value;
an enumeration; a byte string of fixed length that the commit checks; the objects of 13 R385 and 14. -/
inductive PKind where
  | range (lo hi : Nat) (zero : Bool) (extra : Option Nat)
  | signed (lo hi : Int) (zero : Bool) (extra : Option Nat)
  | enum (vals : List Nat)
  | bulk
  | tsCfg
  | loCfg
deriving DecidableEq, Repr, Inhabited

/-- A row of a parameter table: `count` identifiers from `base`. -/
structure PRow where
  base    : Nat
  count   : Nat
  size    : Nat
  kind    : PKind
  dflt    : Int
  applies : Applies
deriving DecidableEq, Repr, Inhabited

namespace Prm
/-- timePpsCableDelay -/ abbrev timePpsCableDelay : Nat := 0x1200
/-- timeSlewLimit -/ abbrev timeSlewLimit : Nat := 0x1201
/-- timeHoldoverLimit -/ abbrev timeHoldoverLimit : Nat := 0x1202
/-- timeFreeRunPermit -/ abbrev timeFreeRunPermit : Nat := 0x1203
/-- timeSeamSource -/ abbrev timeSeamSource : Nat := 0x1204
/-- modAddress -/ abbrev modAddress : Nat := 0x1000
/-- modTwin -/ abbrev modTwin : Nat := 0x1001
/-- modPopulated -/ abbrev modPopulated : Nat := 0x1002
/-- hstSilenceLimit -/ abbrev hstSilenceLimit : Nat := 0x1300
/-- hstObserverRead -/ abbrev hstObserverRead : Nat := 0x1301
/-- lnkSyncInterval -/ abbrev lnkSyncInterval : Nat := 0x5000
/-- lnkDelayTolerance -/ abbrev lnkDelayTolerance : Nat := 0x5001
/-- lnkDelayMax -/ abbrev lnkDelayMax : Nat := 0x5002
/-- lnkAsymmetry -/ abbrev lnkAsymmetry : Nat := 0x5040
/-- asyAvgMode -/ abbrev asyAvgMode : Nat := 0x4800
/-- asyAvgSamples -/ abbrev asyAvgSamples : Nat := 0x4801
/-- asyAvgPeriods -/ abbrev asyAvgPeriods : Nat := 0x4802
/-- asyReportInterval -/ abbrev asyReportInterval : Nat := 0x4803
/-- asyTempDivisor -/ abbrev asyTempDivisor : Nat := 0x4804
/-- asyTouchInterval -/ abbrev asyTouchInterval : Nat := 0x4805
/-- asyOvThresh -/ abbrev asyOvThresh : Nat := 0x4806
/-- asyUvThresh -/ abbrev asyUvThresh : Nat := 0x4807
/-- asyCmpFilter -/ abbrev asyCmpFilter : Nat := 0x4808
/-- asyOcThresh -/ abbrev asyOcThresh : Nat := 0x4809
/-- asyOcFilter -/ abbrev asyOcFilter : Nat := 0x480A
/-- asyPlausThresh -/ abbrev asyPlausThresh : Nat := 0x480B
/-- asyPlausCount -/ abbrev asyPlausCount : Nat := 0x480C
/-- asyBalMode -/ abbrev asyBalMode : Nat := 0x480D
/-- asyBalLead -/ abbrev asyBalLead : Nat := 0x480E
/-- asyEdgePre -/ abbrev asyEdgePre : Nat := 0x480F
/-- asyEdgePost1 -/ abbrev asyEdgePost1 : Nat := 0x4810
/-- asyEdgePost2 -/ abbrev asyEdgePost2 : Nat := 0x4811
/-- asyEdgePost3 -/ abbrev asyEdgePost3 : Nat := 0x4812
/-- asyOwScan -/ abbrev asyOwScan : Nat := 0x4813
/-- asyOwOpen -/ abbrev asyOwOpen : Nat := 0x4814
/-- asyOwIntact -/ abbrev asyOwIntact : Nat := 0x4815
/-- asyOwRtol -/ abbrev asyOwRtol : Nat := 0x4816
/-- asyOwTestMs -/ abbrev asyOwTestMs : Nat := 0x4817
/-- asySumTol -/ abbrev asySumTol : Nat := 0x4818
/-- asyCells -/ abbrev asyCells : Nat := 0x4840
/-- asyTemps -/ abbrev asyTemps : Nat := 0x4880
/-- insCarrierPeriod -/ abbrev insCarrierPeriod : Nat := 0x3000
/-- insSegmentPhase -/ abbrev insSegmentPhase : Nat := 0x3001
/-- insPhaseMode -/ abbrev insPhaseMode : Nat := 0x3002
/-- insMinPulse -/ abbrev insMinPulse : Nat := 0x3003
/-- insBridge -/ abbrev insBridge : Nat := 0x3004
/-- insDeadTime -/ abbrev insDeadTime : Nat := 0x3008
/-- insDtcEnable -/ abbrev insDtcEnable : Nat := 0x3010
/-- insDtcIband -/ abbrev insDtcIband : Nat := 0x3011
/-- insBalGain -/ abbrev insBalGain : Nat := 0x3012
/-- insBalMax -/ abbrev insBalMax : Nat := 0x3013
/-- insBalIband -/ abbrev insBalIband : Nat := 0x3014
/-- insTrig -/ abbrev insTrig : Nat := 0x3020
/-- insPhase -/ abbrev insPhase : Nat := 0x3040
/-- insGroup -/ abbrev insGroup : Nat := 0x3080
/-- insSafeState -/ abbrev insSafeState : Nat := 0x30C0
/-- insTripMap -/ abbrev insTripMap : Nat := 0x30C8
/-- insBlankTime -/ abbrev insBlankTime : Nat := 0x30D0
/-- insTripPolarity -/ abbrev insTripPolarity : Nat := 0x30D8
/-- insSafMap -/ abbrev insSafMap : Nat := 0x30D9
/-- insThmMap -/ abbrev insThmMap : Nat := 0x30DA
/-- insHaltMap -/ abbrev insHaltMap : Nat := 0x30DB
/-- insSilenceAction -/ abbrev insSilenceAction : Nat := 0x30DC
/-- insSilenceMap -/ abbrev insSilenceMap : Nat := 0x30DD
/-- insHorizon -/ abbrev insHorizon : Nat := 0x30F0
/-- insCtlPeriod -/ abbrev insCtlPeriod : Nat := 0x30F1
/-- asyVsd -/ abbrev asyVsd : Nat := 0x4000
/-- asyVmax -/ abbrev asyVmax : Nat := 0x4001
/-- asyUncGain -/ abbrev asyUncGain : Nat := 0x4002
/-- asyUncOffset -/ abbrev asyUncOffset : Nat := 0x4003
/-- asyUncCap -/ abbrev asyUncCap : Nat := 0x4004
/-- asyUncRestart -/ abbrev asyUncRestart : Nat := 0x4005
/-- asyRestWait -/ abbrev asyRestWait : Nat := 0x4006
/-- asyRestRepeat -/ abbrev asyRestRepeat : Nat := 0x4007
/-- asyGapMode -/ abbrev asyGapMode : Nat := 0x4008
/-- asyGapLen -/ abbrev asyGapLen : Nat := 0x4009
/-- asyGapInterval -/ abbrev asyGapInterval : Nat := 0x400A
/-- asyGapImax -/ abbrev asyGapImax : Nat := 0x400B
/-- asyAnchorTol -/ abbrev asyAnchorTol : Nat := 0x400C
/-- asyHystQ -/ abbrev asyHystQ : Nat := 0x400D
/-- asyBalEnable -/ abbrev asyBalEnable : Nat := 0x400E
/-- asyBalStart -/ abbrev asyBalStart : Nat := 0x400F
/-- asyBalStop -/ abbrev asyBalStop : Nat := 0x4010
/-- asyBalTmax -/ abbrev asyBalTmax : Nat := 0x4011
/-- asyLimitRise -/ abbrev asyLimitRise : Nat := 0x4012
/-- asyCellModel -/ abbrev asyCellModel : Nat := 0x4020
/-- asyBurstDiv -/ abbrev asyBurstDiv : Nat := 0x4030
/-- asyImpStepMin -/ abbrev asyImpStepMin : Nat := 0x4031
/-- asyImpReject -/ abbrev asyImpReject : Nat := 0x4032
/-- asyImpMinN -/ abbrev asyImpMinN : Nat := 0x4033
/-- asyDriftWarn -/ abbrev asyDriftWarn : Nat := 0x4034
/-- asyDriftLimit -/ abbrev asyDriftLimit : Nat := 0x4035
/-- asyDriftStep -/ abbrev asyDriftStep : Nat := 0x4036
/-- asyAcBias -/ abbrev asyAcBias : Nat := 0x4037
/-- asyAcItaper -/ abbrev asyAcItaper : Nat := 0x4038
/-- asyAcMinSpan -/ abbrev asyAcMinSpan : Nat := 0x4039
/-- asyAcRest -/ abbrev asyAcRest : Nat := 0x403A
/-- asyAcTimeout -/ abbrev asyAcTimeout : Nat := 0x403B
/-- asyAcMinActive -/ abbrev asyAcMinActive : Nat := 0x403C
/-- asyAcSatMax -/ abbrev asyAcSatMax : Nat := 0x403D
/-- asySelfdis -/ abbrev asySelfdis : Nat := 0x403E
/-- asyStaleDays -/ abbrev asyStaleDays : Nat := 0x403F
/-- asyTmAnchor -/ abbrev asyTmAnchor : Nat := 0x4040
/-- asyTmRequire -/ abbrev asyTmRequire : Nat := 0x4041
/-- asyImpSave -/ abbrev asyImpSave : Nat := 0x4042
/-- conPrechargeDv -/ abbrev conPrechargeDv : Nat := 0x2000
/-- conPrechargeMin -/ abbrev conPrechargeMin : Nat := 0x2001
/-- conPrechargeTime -/ abbrev conPrechargeTime : Nat := 0x2002
/-- conWeldDv -/ abbrev conWeldDv : Nat := 0x2003
/-- conWeldTime -/ abbrev conWeldTime : Nat := 0x2004
/-- conOpenImax -/ abbrev conOpenImax : Nat := 0x2005
/-- conBypassTimeout -/ abbrev conBypassTimeout : Nat := 0x2006
/-- conTDisconnect -/ abbrev conTDisconnect : Nat := 0x2007
/-- conUvRetire -/ abbrev conUvRetire : Nat := 0x2008
/-- conPlausHold -/ abbrev conPlausHold : Nat := 0x2009
/-- conResume -/ abbrev conResume : Nat := 0x200A
/-- conAnnealMax -/ abbrev conAnnealMax : Nat := 0x200B
/-- conAnnealDelay -/ abbrev conAnnealDelay : Nat := 0x200C
/-- conDriftAction -/ abbrev conDriftAction : Nat := 0x200D
/-- twnLossTime -/ abbrev twnLossTime : Nat := 0xA000
/-- twnFwLoss -/ abbrev twnFwLoss : Nat := 0xA001
/-- twnAloneWait -/ abbrev twnAloneWait : Nat := 0xA002
/-- twnReconTol -/ abbrev twnReconTol : Nat := 0xA003
/-- twnImageFollow -/ abbrev twnImageFollow : Nat := 0xA004
/-- thmMode -/ abbrev thmMode : Nat := 0x6000
/-- thmCellStart -/ abbrev thmCellStart : Nat := 0x6001
/-- thmCellWidth -/ abbrev thmCellWidth : Nat := 0x6002
/-- thmTsWidth -/ abbrev thmTsWidth : Nat := 0x6003
/-- thmHyst -/ abbrev thmHyst : Nat := 0x6004
/-- thmHold -/ abbrev thmHold : Nat := 0x6005
/-- thmNear -/ abbrev thmNear : Nat := 0x6006
/-- thmFastMs -/ abbrev thmFastMs : Nat := 0x6007
/-- thmRorWindow -/ abbrev thmRorWindow : Nat := 0x6008
/-- thmRorAbs -/ abbrev thmRorAbs : Nat := 0x6009
/-- thmRorRel -/ abbrev thmRorRel : Nat := 0x600A
/-- thmRorTmin -/ abbrev thmRorTmin : Nat := 0x600B
/-- thmRorConfirm -/ abbrev thmRorConfirm : Nat := 0x600C
/-- thmRorClear -/ abbrev thmRorClear : Nat := 0x600D
/-- thmDieWarn -/ abbrev thmDieWarn : Nat := 0x600E
/-- thmTsInterval -/ abbrev thmTsInterval : Nat := 0x600F
/-- thmTs -/ abbrev thmTs : Nat := 0x6040
/-- loCutoff -/ abbrev loCutoff : Nat := 0x7000
/-- loToggleMax -/ abbrev loToggleMax : Nat := 0x7001
/-- loCfg -/ abbrev loCfg : Nat := 0x7040
/-- safHallmark -/ abbrev safHallmark : Nat := 0x8000
/-- busEnable -/ abbrev busEnable : Nat := 0x9000
/-- busNominalRate -/ abbrev busNominalRate : Nat := 0x9001
/-- busDataRate -/ abbrev busDataRate : Nat := 0x9002
/-- busStatusInterval -/ abbrev busStatusInterval : Nat := 0x9003
/-- busStreamClasses -/ abbrev busStreamClasses : Nat := 0x9004
/-- busTripTxCauses -/ abbrev busTripTxCauses : Nat := 0x9005
/-- busTripTxZone -/ abbrev busTripTxZone : Nat := 0x9010
/-- busTripRxMap -/ abbrev busTripRxMap : Nat := 0x9040
end Prm

/-- The parameters of chapter 02. -/
def rows02 : List PRow :=
  [{ base := 0x1200, count := 1, size := 4, kind := .range (0) 1000000 false (none), dflt := 0, applies := .immediate } /- TIME_PPS_CABLE_DELAY -/,
   { base := 0x1201, count := 1, size := 2, kind := .range (100) 10000 false (none), dflt := 2000, applies := .immediate } /- TIME_SLEW_LIMIT -/,
   { base := 0x1202, count := 1, size := 4, kind := .range (60) 86400 false (none), dflt := 3600, applies := .immediate } /- TIME_HOLDOVER_LIMIT -/,
   { base := 0x1203, count := 1, size := 1, kind := .range (0) 1 false (none), dflt := 0, applies := .immediate } /- TIME_FREE_RUN_PERMIT -/,
   { base := 0x1204, count := 1, size := 1, kind := .range (0) 1 false (none), dflt := 1, applies := .immediate } /- TIME_SEAM_SOURCE -/]

/-- The parameters of chapter 03. -/
def rows03 : List PRow :=
  [{ base := 0x1002, count := 1, size := 8, kind := .range (0) 18446744073709551615 false (none), dflt := 18446744073709551615, applies := .nextCommit } /- MOD_POPULATED -/,
   { base := 0x1300, count := 1, size := 4, kind := .range (100) 1000000 false (none), dflt := 1000, applies := .immediate } /- HST_SILENCE_LIMIT -/,
   { base := 0x1301, count := 1, size := 1, kind := .range (0) 1 false (none), dflt := 1, applies := .immediate } /- HST_OBSERVER_READ -/]

/-- The parameters of chapter 04. -/
def rows04 : List PRow :=
  [{ base := 0x5000, count := 1, size := 2, kind := .range (100) 10000 false (none), dflt := 1000, applies := .immediate } /- LNK_SYNC_INTERVAL -/,
   { base := 0x5001, count := 1, size := 2, kind := .range (2) 100 false (none), dflt := 10, applies := .immediate } /- LNK_DELAY_TOLERANCE -/,
   { base := 0x5002, count := 1, size := 2, kind := .range (100) 1600 false (none), dflt := 1500, applies := .immediate } /- LNK_DELAY_MAX -/,
   { base := 0x5040, count := 64, size := 2, kind := .signed (-50) 50 false (none), dflt := 0, applies := .immediate } /- LNK_ASYMMETRY -/]

/-- The parameters of chapter 06. -/
def rows06 : List PRow :=
  [{ base := 0x4800, count := 1, size := 1, kind := .enum [0, 1], dflt := 1, applies := .immediate } /- ASY_AVG_MODE -/,
   { base := 0x4801, count := 1, size := 2, kind := .range (1) 4096 false (none), dflt := 64, applies := .immediate } /- ASY_AVG_SAMPLES -/,
   { base := 0x4802, count := 1, size := 1, kind := .range (1) 255 false (none), dflt := 1, applies := .immediate } /- ASY_AVG_PERIODS -/,
   { base := 0x4803, count := 1, size := 2, kind := .range (50) 10000 false (none), dflt := 500, applies := .immediate } /- ASY_REPORT_INTERVAL -/,
   { base := 0x4804, count := 1, size := 1, kind := .range (1) 255 false (none), dflt := 20, applies := .immediate } /- ASY_TEMP_DIVISOR -/,
   { base := 0x4805, count := 1, size := 1, kind := .range (1) 100 false (none), dflt := 10, applies := .immediate } /- ASY_TOUCH_INTERVAL -/,
   { base := 0x4806, count := 1, size := 2, kind := .range (20000) 50000 false (none), dflt := 38000, applies := .immediate } /- ASY_OV_THRESH -/,
   { base := 0x4807, count := 1, size := 2, kind := .range (5000) 35000 false (none), dflt := 20000, applies := .immediate } /- ASY_UV_THRESH -/,
   { base := 0x4808, count := 1, size := 2, kind := .range (32) 10000 false (none), dflt := 1000, applies := .immediate } /- ASY_CMP_FILTER -/,
   { base := 0x4809, count := 1, size := 4, kind := .signed (100000) 5000000 false (none), dflt := 2500000, applies := .immediate } /- ASY_OC_THRESH -/,
   { base := 0x480A, count := 1, size := 2, kind := .range (1) 100 false (none), dflt := 2, applies := .immediate } /- ASY_OC_FILTER -/,
   { base := 0x480B, count := 1, size := 2, kind := .range (50) 2000 false (none), dflt := 250, applies := .immediate } /- ASY_PLAUS_THRESH -/,
   { base := 0x480C, count := 1, size := 1, kind := .range (2) 64 false (none), dflt := 8, applies := .immediate } /- ASY_PLAUS_COUNT -/,
   { base := 0x480D, count := 1, size := 1, kind := .enum [0, 1], dflt := 0, applies := .immediate } /- ASY_BAL_MODE -/,
   { base := 0x480E, count := 1, size := 2, kind := .range (0) 20000 false (none), dflt := 2000, applies := .immediate } /- ASY_BAL_LEAD -/,
   { base := 0x480F, count := 1, size := 4, kind := .range (500) 50000 false (none), dflt := 2000, applies := .immediate } /- ASY_EDGE_PRE -/,
   { base := 0x4810, count := 1, size := 4, kind := .range (1000) 5000000 false (none), dflt := 20000, applies := .immediate } /- ASY_EDGE_POST1 -/,
   { base := 0x4811, count := 1, size := 4, kind := .range (1000) 5000000 false (none), dflt := 200000, applies := .immediate } /- ASY_EDGE_POST2 -/,
   { base := 0x4812, count := 1, size := 4, kind := .range (1000) 5000000 false (none), dflt := 1000000, applies := .immediate } /- ASY_EDGE_POST3 -/,
   { base := 0x4813, count := 1, size := 2, kind := .range (100) 60000 true (none), dflt := 1000, applies := .immediate } /- ASY_OW_SCAN -/,
   { base := 0x4814, count := 1, size := 2, kind := .range (100) 10000 false (none), dflt := 500, applies := .immediate } /- ASY_OW_OPEN -/,
   { base := 0x4815, count := 1, size := 2, kind := .range (10) 1000 false (none), dflt := 50, applies := .immediate } /- ASY_OW_INTACT -/,
   { base := 0x4816, count := 1, size := 1, kind := .range (2) 50 false (none), dflt := 10, applies := .immediate } /- ASY_OW_RTOL -/,
   { base := 0x4817, count := 1, size := 1, kind := .range (1) 50 false (none), dflt := 10, applies := .immediate } /- ASY_OW_TEST_MS -/,
   { base := 0x4818, count := 1, size := 2, kind := .range (100) 20000 false (none), dflt := 4000, applies := .immediate } /- ASY_SUM_TOL -/,
   { base := 0x4840, count := 64, size := 2, kind := .range (1) 256 false (none), dflt := 256, applies := .immediate } /- ASY_CELLS -/,
   { base := 0x4880, count := 64, size := 1, kind := .range (0) 64 false (none), dflt := 64, applies := .immediate } /- ASY_TEMPS -/]

/-- The parameters of chapter 07. -/
def rows07 : List PRow :=
  [{ base := 0x3000, count := 1, size := 4, kind := .range (160000) 16000000 true (none), dflt := 0, applies := .nextReload } /- INS_CARRIER_PERIOD -/,
   { base := 0x3001, count := 1, size := 4, kind := .range (0) 4294967295 false (none), dflt := 0, applies := .nextReload } /- INS_SEGMENT_PHASE -/,
   { base := 0x3002, count := 1, size := 1, kind := .enum [0, 1], dflt := 0, applies := .nextReload } /- INS_PHASE_MODE -/,
   { base := 0x3003, count := 1, size := 2, kind := .range (80) 4000 true (none), dflt := 0, applies := .nextReload } /- INS_MIN_PULSE -/,
   { base := 0x3004, count := 1, size := 8, kind := .range (0) 18446744073709551615 false (none), dflt := 0, applies := .immediate } /- INS_BRIDGE -/,
   { base := 0x3008, count := 8, size := 2, kind := .range (40) 1600 true (none), dflt := 0, applies := .nextReload } /- INS_DEAD_TIME -/,
   { base := 0x3010, count := 1, size := 1, kind := .range (0) 1 false (none), dflt := 1, applies := .nextReload } /- INS_DTC_ENABLE -/,
   { base := 0x3011, count := 1, size := 4, kind := .range (0) 50000 false (none), dflt := 200, applies := .nextReload } /- INS_DTC_IBAND -/,
   { base := 0x3012, count := 1, size := 2, kind := .range (0) 10000 false (none), dflt := 500, applies := .nextReload } /- INS_BAL_GAIN -/,
   { base := 0x3013, count := 1, size := 2, kind := .range (0) 2000 false (none), dflt := 500, applies := .nextReload } /- INS_BAL_MAX -/,
   { base := 0x3014, count := 1, size := 4, kind := .range (0) 50000 false (none), dflt := 500, applies := .nextReload } /- INS_BAL_IBAND -/,
   { base := 0x3020, count := 4, size := 4, kind := .range (0) 16777215 false (none), dflt := 16777215, applies := .nextReload } /- INS_TRIG -/,
   { base := 0x3040, count := 64, size := 4, kind := .range (0) 4294967295 false (none), dflt := 0, applies := .nextReload } /- INS_PHASE -/]

/-- The parameters of chapter 08. -/
def rows08 : List PRow :=
  [{ base := 0x3080, count := 64, size := 1, kind := .range (0) 7 false (none), dflt := 0, applies := .immediate } /- INS_GROUP -/,
   { base := 0x30C0, count := 8, size := 1, kind := .enum [75, 180], dflt := 75, applies := .immediate } /- INS_SAFE_STATE -/,
   { base := 0x30C8, count := 8, size := 1, kind := .range (0) 255 false (none), dflt := 0, applies := .immediate } /- INS_TRIP_MAP -/,
   { base := 0x30D0, count := 8, size := 1, kind := .range (0) 200 false (none), dflt := 0, applies := .nextReload } /- INS_BLANK_TIME -/,
   { base := 0x30D8, count := 1, size := 1, kind := .range (0) 255 false (none), dflt := 255, applies := .immediate } /- INS_TRIP_POLARITY -/,
   { base := 0x30D9, count := 1, size := 1, kind := .range (0) 255 false (none), dflt := 255, applies := .immediate } /- INS_SAF_MAP -/,
   { base := 0x30DA, count := 1, size := 1, kind := .range (0) 255 false (none), dflt := 255, applies := .immediate } /- INS_THM_MAP -/,
   { base := 0x30DB, count := 1, size := 1, kind := .range (0) 255 false (none), dflt := 255, applies := .immediate } /- INS_HALT_MAP -/,
   { base := 0x30DC, count := 1, size := 1, kind := .enum [0, 1], dflt := 1, applies := .immediate } /- INS_SILENCE_ACTION -/,
   { base := 0x30DD, count := 1, size := 1, kind := .range (0) 255 false (none), dflt := 255, applies := .immediate } /- INS_SILENCE_MAP -/,
   { base := 0x30F0, count := 1, size := 1, kind := .range (1) 8 false (none), dflt := 4, applies := .nextReload } /- INS_HORIZON -/,
   { base := 0x30F1, count := 1, size := 2, kind := .range (100) 2000 false (none), dflt := 250, applies := .restart } /- INS_CTL_PERIOD -/]

/-- The parameters of chapter 09. -/
def rows09 : List PRow :=
  [{ base := 0x4000, count := 1, size := 2, kind := .range (15000) 35000 false (none), dflt := 25000, applies := .immediate } /- ASY_VSD -/,
   { base := 0x4001, count := 1, size := 2, kind := .range (30000) 45000 false (none), dflt := 36500, applies := .immediate } /- ASY_VMAX -/,
   { base := 0x4002, count := 1, size := 2, kind := .range (0) 5000 false (none), dflt := 300, applies := .immediate } /- ASY_UNC_GAIN -/,
   { base := 0x4003, count := 1, size := 2, kind := .range (0) 10000 false (none), dflt := 100, applies := .immediate } /- ASY_UNC_OFFSET -/,
   { base := 0x4004, count := 1, size := 2, kind := .range (0) 2000 false (none), dflt := 200, applies := .immediate } /- ASY_UNC_CAP -/,
   { base := 0x4005, count := 1, size := 2, kind := .range (0) 2000 false (none), dflt := 50, applies := .immediate } /- ASY_UNC_RESTART -/,
   { base := 0x4006, count := 1, size := 2, kind := .range (10) 3600 false (none), dflt := 300, applies := .immediate } /- ASY_REST_WAIT -/,
   { base := 0x4007, count := 1, size := 2, kind := .range (60) 3600 false (none), dflt := 600, applies := .immediate } /- ASY_REST_REPEAT -/,
   { base := 0x4008, count := 1, size := 1, kind := .enum [0, 1], dflt := 1, applies := .immediate } /- ASY_GAP_MODE -/,
   { base := 0x4009, count := 1, size := 2, kind := .range (20) 200 false (none), dflt := 40, applies := .immediate } /- ASY_GAP_LEN -/,
   { base := 0x400A, count := 1, size := 2, kind := .range (10) 3600 false (none), dflt := 120, applies := .immediate } /- ASY_GAP_INTERVAL -/,
   { base := 0x400B, count := 1, size := 2, kind := .range (100) 10000 false (none), dflt := 2000, applies := .immediate } /- ASY_GAP_IMAX -/,
   { base := 0x400C, count := 1, size := 2, kind := .range (5) 100 false (none), dflt := 20, applies := .immediate } /- ASY_ANCHOR_TOL -/,
   { base := 0x400D, count := 1, size := 2, kind := .range (10) 500 false (none), dflt := 50, applies := .immediate } /- ASY_HYST_Q -/,
   { base := 0x400E, count := 1, size := 1, kind := .range (0) 1 false (none), dflt := 1, applies := .immediate } /- ASY_BAL_ENABLE -/,
   { base := 0x400F, count := 1, size := 2, kind := .range (10) 10000 false (none), dflt := 100, applies := .immediate } /- ASY_BAL_START -/,
   { base := 0x4010, count := 1, size := 2, kind := .range (0) 10000 false (none), dflt := 30, applies := .immediate } /- ASY_BAL_STOP -/,
   { base := 0x4011, count := 1, size := 2, kind := .signed (0) 800 false (none), dflt := 450, applies := .immediate } /- ASY_BAL_TMAX -/,
   { base := 0x4012, count := 1, size := 1, kind := .range (1) 100 false (none), dflt := 5, applies := .immediate } /- ASY_LIMIT_RISE -/,
   { base := 0x4020, count := 1, size := 3628, kind := .bulk, dflt := 0, applies := .immediate } /- ASY_CELL_MODEL -/]

/-- The parameters of chapter 10. -/
def rows10 : List PRow :=
  [{ base := 0x4030, count := 1, size := 1, kind := .range (1) 64 false (none), dflt := 1, applies := .nextReload } /- ASY_BURST_DIV -/,
   { base := 0x4031, count := 1, size := 2, kind := .range (10) 2000 false (none), dflt := 100, applies := .immediate } /- ASY_IMP_STEP_MIN -/,
   { base := 0x4032, count := 1, size := 1, kind := .range (5) 100 false (none), dflt := 30, applies := .immediate } /- ASY_IMP_REJECT -/,
   { base := 0x4033, count := 1, size := 2, kind := .range (8) 4096 false (none), dflt := 64, applies := .immediate } /- ASY_IMP_MIN_N -/,
   { base := 0x4034, count := 1, size := 1, kind := .range (5) 200 false (none), dflt := 30, applies := .immediate } /- ASY_DRIFT_WARN -/,
   { base := 0x4035, count := 1, size := 1, kind := .range (10) 250 false (none), dflt := 100, applies := .immediate } /- ASY_DRIFT_LIMIT -/,
   { base := 0x4036, count := 1, size := 1, kind := .range (5) 100 false (none), dflt := 20, applies := .immediate } /- ASY_DRIFT_STEP -/,
   { base := 0x4037, count := 1, size := 2, kind := .range (100) 3000 false (none), dflt := 1000, applies := .nextReload } /- ASY_AC_BIAS -/,
   { base := 0x4038, count := 1, size := 2, kind := .range (10) 200 false (none), dflt := 50, applies := .immediate } /- ASY_AC_ITAPER -/,
   { base := 0x4039, count := 1, size := 2, kind := .range (500) 950 false (none), dflt := 800, applies := .immediate } /- ASY_AC_MIN_SPAN -/,
   { base := 0x403A, count := 1, size := 2, kind := .range (60) 600 false (none), dflt := 300, applies := .immediate } /- ASY_AC_REST -/,
   { base := 0x403B, count := 1, size := 2, kind := .range (12) 240 false (none), dflt := 72, applies := .immediate } /- ASY_AC_TIMEOUT -/,
   { base := 0x403C, count := 1, size := 1, kind := .range (2) 63 false (none), dflt := 8, applies := .immediate } /- ASY_AC_MIN_ACTIVE -/,
   { base := 0x403D, count := 1, size := 1, kind := .range (1) 50 false (none), dflt := 5, applies := .immediate } /- ASY_AC_SAT_MAX -/,
   { base := 0x403E, count := 1, size := 2, kind := .range (0) 1000 false (none), dflt := 300, applies := .immediate } /- ASY_SELFDIS -/,
   { base := 0x403F, count := 1, size := 2, kind := .range (30) 3650 false (none), dflt := 180, applies := .immediate } /- ASY_STALE_DAYS -/,
   { base := 0x4040, count := 1, size := 64, kind := .bulk, dflt := 0, applies := .immediate } /- ASY_TM_ANCHOR -/,
   { base := 0x4041, count := 1, size := 1, kind := .enum [0, 1], dflt := 0, applies := .immediate } /- ASY_TM_REQUIRE -/,
   { base := 0x4042, count := 1, size := 2, kind := .range (1) 168 false (none), dflt := 24, applies := .immediate } /- ASY_IMP_SAVE -/]

/-- The parameters of chapter 11. -/
def rows11 : List PRow :=
  [{ base := 0x2000, count := 1, size := 2, kind := .range (1) 100 false (none), dflt := 10, applies := .immediate } /- CON_PRECHARGE_DV -/,
   { base := 0x2001, count := 1, size := 2, kind := .range (10) 5000 false (none), dflt := 50, applies := .immediate } /- CON_PRECHARGE_MIN -/,
   { base := 0x2002, count := 1, size := 2, kind := .range (100) 60000 false (none), dflt := 5000, applies := .immediate } /- CON_PRECHARGE_TIME -/,
   { base := 0x2003, count := 1, size := 2, kind := .range (5) 200 false (none), dflt := 20, applies := .immediate } /- CON_WELD_DV -/,
   { base := 0x2004, count := 1, size := 2, kind := .range (100) 10000 false (none), dflt := 2000, applies := .immediate } /- CON_WELD_TIME -/,
   { base := 0x2005, count := 1, size := 4, kind := .range (100) 50000 false (none), dflt := 5000, applies := .immediate } /- CON_OPEN_IMAX -/,
   { base := 0x2006, count := 1, size := 2, kind := .range (100) 10000 false (none), dflt := 1000, applies := .immediate } /- CON_BYPASS_TIMEOUT -/,
   { base := 0x2007, count := 1, size := 2, kind := .signed (300) 900 false (none), dflt := 650, applies := .immediate } /- CON_T_DISCONNECT -/,
   { base := 0x2008, count := 1, size := 2, kind := .range (5000) 25000 false (none), dflt := 15000, applies := .immediate } /- CON_UV_RETIRE -/,
   { base := 0x2009, count := 1, size := 2, kind := .range (1) 3600 false (none), dflt := 60, applies := .immediate } /- CON_PLAUS_HOLD -/,
   { base := 0x200A, count := 1, size := 1, kind := .enum [0, 1], dflt := 1, applies := .immediate } /- CON_RESUME -/,
   { base := 0x200B, count := 1, size := 1, kind := .range (1) 10 false (none), dflt := 3, applies := .immediate } /- CON_ANNEAL_MAX -/,
   { base := 0x200C, count := 1, size := 2, kind := .range (1) 3600 false (none), dflt := 10, applies := .immediate } /- CON_ANNEAL_DELAY -/,
   { base := 0x200D, count := 1, size := 1, kind := .enum [0, 1, 2], dflt := 1, applies := .immediate } /- CON_DRIFT_ACTION -/]

/-- The parameters of chapter 12. -/
def rows12 : List PRow :=
  [{ base := 0xA000, count := 1, size := 2, kind := .range (10) 40 false (none), dflt := 20, applies := .immediate } /- TWN_LOSS_TIME -/,
   { base := 0xA001, count := 1, size := 2, kind := .range (1) 50 false (none), dflt := 5, applies := .immediate } /- TWN_FW_LOSS -/,
   { base := 0xA002, count := 1, size := 2, kind := .range (500) 10000 false (none), dflt := 2000, applies := .restart } /- TWN_ALONE_WAIT -/,
   { base := 0xA003, count := 1, size := 2, kind := .range (5) 1000 false (none), dflt := 50, applies := .immediate } /- TWN_RECON_TOL -/,
   { base := 0xA004, count := 1, size := 1, kind := .range (0) 1 false (none), dflt := 0, applies := .immediate } /- TWN_IMAGE_FOLLOW -/]

/-- The parameters of chapter 13. -/
def rows13 : List PRow :=
  [{ base := 0x6000, count := 1, size := 1, kind := .enum [0, 1], dflt := 0, applies := .immediate } /- THM_MODE -/,
   { base := 0x6001, count := 1, size := 2, kind := .signed (200) 700 false (none), dflt := 450, applies := .immediate } /- THM_CELL_START -/,
   { base := 0x6002, count := 1, size := 2, kind := .range (10) 200 false (none), dflt := 50, applies := .immediate } /- THM_CELL_WIDTH -/,
   { base := 0x6003, count := 1, size := 2, kind := .range (10) 200 false (none), dflt := 50, applies := .immediate } /- THM_TS_WIDTH -/,
   { base := 0x6004, count := 1, size := 2, kind := .range (5) 100 false (none), dflt := 20, applies := .immediate } /- THM_HYST -/,
   { base := 0x6005, count := 1, size := 2, kind := .range (1) 600 false (none), dflt := 10, applies := .immediate } /- THM_HOLD -/,
   { base := 0x6006, count := 1, size := 2, kind := .range (0) 200 false (none), dflt := 50, applies := .immediate } /- THM_NEAR -/,
   { base := 0x6007, count := 1, size := 2, kind := .range (1) 100 false (none), dflt := 10, applies := .immediate } /- THM_FAST_MS -/,
   { base := 0x6008, count := 1, size := 2, kind := .range (5) 120 false (none), dflt := 20, applies := .immediate } /- THM_ROR_WINDOW -/,
   { base := 0x6009, count := 1, size := 2, kind := .range (5) 1000 false (none), dflt := 33, applies := .immediate } /- THM_ROR_ABS -/,
   { base := 0x600A, count := 1, size := 2, kind := .range (2) 1000 false (none), dflt := 17, applies := .immediate } /- THM_ROR_REL -/,
   { base := 0x600B, count := 1, size := 2, kind := .signed (-400) 600 false (none), dflt := 250, applies := .immediate } /- THM_ROR_TMIN -/,
   { base := 0x600C, count := 1, size := 1, kind := .range (1) 100 false (none), dflt := 10, applies := .immediate } /- THM_ROR_CONFIRM -/,
   { base := 0x600D, count := 1, size := 2, kind := .range (10) 3600 false (none), dflt := 300, applies := .immediate } /- THM_ROR_CLEAR -/,
   { base := 0x600E, count := 1, size := 2, kind := .signed (800) 1150 false (none), dflt := 1100, applies := .immediate } /- THM_DIE_WARN -/,
   { base := 0x600F, count := 1, size := 2, kind := .range (10) 1000 false (none), dflt := 100, applies := .immediate } /- THM_TS_INTERVAL -/,
   { base := 0x6040, count := 16, size := 12, kind := .tsCfg, dflt := 0, applies := .immediate } /- THM_TS -/]

/-- The parameters of chapter 14. -/
def rows14 : List PRow :=
  [{ base := 0x7000, count := 1, size := 1, kind := .range (0) 15 false (none), dflt := 0, applies := .immediate } /- LO_CUTOFF -/,
   { base := 0x7001, count := 1, size := 1, kind := .range (1) 50 false (none), dflt := 10, applies := .immediate } /- LO_TOGGLE_MAX -/,
   { base := 0x7040, count := 32, size := 16, kind := .loCfg, dflt := 2815179290050660, applies := .immediate } /- LO_CFG -/]

/-- The parameters of chapter 16. -/
def rows16 : List PRow :=
  [{ base := 0x9000, count := 1, size := 1, kind := .range (0) 3 false (none), dflt := 3, applies := .immediate } /- BUS_ENABLE -/,
   { base := 0x9001, count := 1, size := 1, kind := .enum [0, 1], dflt := 1, applies := .restart } /- BUS_NOMINAL_RATE -/,
   { base := 0x9002, count := 1, size := 1, kind := .enum [0, 1, 2], dflt := 2, applies := .restart } /- BUS_DATA_RATE -/,
   { base := 0x9003, count := 1, size := 2, kind := .range (10) 10000 true (none), dflt := 100, applies := .immediate } /- BUS_STATUS_INTERVAL -/,
   { base := 0x9004, count := 1, size := 2, kind := .range (0) 65535 false (none), dflt := 65533, applies := .immediate } /- BUS_STREAM_CLASSES -/,
   { base := 0x9005, count := 1, size := 1, kind := .range (0) 127 false (none), dflt := 31, applies := .immediate } /- BUS_TRIP_TX_CAUSES -/,
   { base := 0x9010, count := 8, size := 1, kind := .range (0) 63 false (some 255), dflt := 255, applies := .immediate } /- BUS_TRIP_TX_ZONE -/,
   { base := 0x9040, count := 64, size := 1, kind := .range (0) 255 false (none), dflt := 0, applies := .immediate } /- BUS_TRIP_RX_MAP -/]

/-- Every parameter of the configuration record. -/
def paramRows : List PRow := rows02 ++ rows03 ++ rows04 ++ rows06 ++ rows07 ++ rows08 ++ rows09 ++ rows10 ++ rows11 ++ rows12 ++ rows13 ++ rows14 ++ rows16

/-- The row of an identifier. -/
def paramRow (id : Nat) : Option PRow := paramRows.find? (fun r => r.base ≤ id && id < r.base + r.count)

/-- The default of a row as bytes; a bulk parameter has none. -/
def dfltBytes (r : PRow) : List Byte :=
  match r.kind with
  | .bulk => []
  | _ => leBytes r.size (wrapI (8 * r.size) r.dflt)

/-- The value in a table of the record, as bytes. -/
def valueIn (t : Tab (List Byte)) (id : Nat) : List Byte :=
  match tabGet [] t id with
  | [] => match paramRow id with
    | some r => dfltBytes r
    | none => []
  | v => v

/-- Put a value into a table of the record: a value equal to the default is not listed. -/
def putValue (t : Tab (List Byte)) (id : Nat) (v : List Byte) : Tab (List Byte) :=
  match paramRow id with
  | some r => tabPut [] t id (if v = dfltBytes r then [] else v)
  | none => t

/-- Effective value of an unsigned parameter. -/
def pNat (s : State) (id : Nat) : Nat := ofLe (valueIn s.cfg.eff id)

/-- Effective value of a signed parameter. -/
def pInt (s : State) (id : Nat) : Int := ofLeI (valueIn s.cfg.eff id)

/-- Effective value of a flag or enumeration. -/
def pBool (s : State) (id : Nat) : Bool := pNat s id ≠ 0

/-- Value of an unsigned parameter in a table of the record. -/
def tNat (t : Tab (List Byte)) (id : Nat) : Nat := ofLe (valueIn t id)

/-- Value of a signed parameter in a table of the record. -/
def tInt (t : Tab (List Byte)) (id : Nat) : Int := ofLeI (valueIn t id)

/-- The channel is populated (01 R12). -/
def populated (s : State) (n : Chan) : Bool := (pNat s Prm.modPopulated).testBit n.val

/-- The quench group of a channel (08 R243). -/
def groupOf (s : State) (n : Chan) : Group := Fin.ofNat 8 (pNat s (Prm.insGroup + n.val))

/-- Populated channels of a group. -/
def groupChans (s : State) (g : Group) : List Chan := allChans.filter (fun n => populated s n && groupOf s n == g)

/-- Field ranges of the output configuration object (14). -/
def loCfgOk (v : List Byte) : Bool :=
  let u (i : Nat) := ofLe (slice v i 2)
  (20 ≤ u 0 && u 0 ≤ 300) && (100 ≤ u 2 && u 2 ≤ 1200) && (1 ≤ u 4 && u 4 ≤ 500) && (1 ≤ u 6 && u 6 ≤ 1000) &&
    (u 8 = 0 || (10 ≤ u 8 && u 8 ≤ 500)) && ofLe (slice v 12 4) ≤ 86400

/-- What SET_PARAM finds of a value in itself (R5, R87; 03 *Status codes*): malformed or unassigned, out of its range, or
fit to be staged. -/
def checkValue (r : PRow) (v : List Byte) : Status :=
  if v.length ≠ r.size then .badParam
  else match r.kind with
    | .range lo hi zero extra =>
      let x := ofLe v
      if (lo ≤ x && x ≤ hi) || (zero && x = 0) || extra = some x then .ok else .outOfRange
    | .signed lo hi _ _ => if lo ≤ ofLeI v && ofLeI v ≤ hi then .ok else .outOfRange
    | .enum vals => if vals.contains (ofLe v) then .ok else .badParam
    | .bulk => .ok
    | .tsCfg => if ofLe (slice v 0 1) ≤ 2 then .ok else .badParam
    | .loCfg => if loCfgOk v then .ok else .outOfRange

end Sys2Proof.Machine
end

