-- ==== Sys2Proof/Machine/Faults.lean ====
section
/-! DEFINITION. The fault handler: keys, levels, the queue, the storm, clearing and acknowledgement (17 R482 to R492). The
actions themselves are in FaultAction.lean. -/

namespace Sys2Proof.Machine

/-- A fault is present until its cause has ended (R490, R491). -/
def faultPresent (r : FaultRec) : Bool := r.state ≠ .ended

/-- The present open fault with a key (R482). -/
def findFault (s : State) (cause subject : Nat) : Option FaultRec :=
  s.flt.recs.find? (fun r => faultPresent r && r.cause.toNat = cause && r.subject.toNat = subject)

/-- The open fault with an identifier. -/
def faultById (s : State) (id : Word) : Option FaultRec := s.flt.recs.find? (fun r => r.id == id)

/-- Update the record with an identifier. -/
def modFault (id : Word) (f : FaultRec → FaultRec) (s : State) : State :=
  { s with flt := { s.flt with recs := s.flt.recs.map (fun r => if r.id == id then f r else r) } }

/-- Highest level of a present fault (R498 LEVEL); none when no fault is present. -/
def highestLevel (s : State) : Option Nat :=
  (s.flt.recs.filter faultPresent).foldl (fun a r => match a with
    | none => some r.level
    | some l => some (max l r.level)) none

/-- FLT_SUMMARY (03 BAR0). -/
def fltSummary (s : State) : Nat :=
  (highestLevel s).getD 0xF + 256 * s.flt.queue.length + 65536 * bN s.flt.storm

/-- A present fault of level L3. -/
def hasL3 (s : State) : Bool := s.flt.recs.any (fun r => faultPresent r && r.level = 3)

/-- Level of a queued fault. -/
def levelOf (s : State) (id : Word) : Nat := match faultById s id with
  | some r => r.level
  | none => 0

/-- Place in the queue: behind every fault of its level and above (R484). -/
def enqueue (s : State) (id : Word) (level : Nat) : List Word :=
  s.flt.queue.takeWhile (fun q => levelOf s q ≥ level) ++ [id] ++ s.flt.queue.dropWhile (fun q => levelOf s q ≥ level)

/-- No identifier (17 event data). -/
def noId : Nat := 0xFFFFFFFF

/-- Open a fault: the record, the decision on the current fault, FAULT_RAISED (R484). -/
def openFault (cause subject level : Nat) (permanent : Bool) (origin : Nat) (s : State) : State :=
  let id := s.ev.seq
  let cur := s.flt.current
  let preempts := match cur with
    | some c => level > levelOf s c
    | none => false
  let queues := cur.isSome && !preempts
  let r : FaultRec := { id := id, cause := BitVec.ofNat 16 cause, subject := BitVec.ofNat 16 subject, level := level,
                        state := if queues then .queued else .current, permanent := permanent, acked := false, count := 1,
                        first := s.tim.station, last := s.tim.station, steps := 0, seenAt := s.tim.tb }
  let queue := if preempts then (cur.toList ++ s.flt.queue) else if queues then enqueue s id level else s.flt.queue
  let s := match cur with
    | some c => if preempts then modFault c (fun r => { r with state := .queued }) s else s
    | none => s
  let s := { s with flt := { s.flt with
    recs := s.flt.recs ++ [r], queue := queue
    current := if queues then cur else some id
    raised := s.flt.raised + 1
    preemptions := if preempts then s.flt.preemptions + 1 else s.flt.preemptions
    times := (s.tim.tb :: s.flt.times).take 17
    l2 := if level = 2 then (r.cause, r.subject, s.tim.station) :: s.flt.l2 else s.flt.l2 } }
  raiseAt 0x8B01 level (level = 3) s.tim.station subject
    [ef 28 0 cause, ef 30 0 (bN permanent), ef 30 1 (bN preempts), ef 30 2 (bN queues), ef 31 0 (min 63 queue.length),
     ef 32 0 (if preempts then (cur.map BitVec.toNat).getD noId else noId), ef 36 0 origin] s

/-- Distinct faults of L1 to L3 raised within the last second, the present one left out. -/
def lastSecond (s : State) : Nat := (s.flt.times.filter (fun t => s.tim.tb - t < tSec)).length

/-- Open faults of L1 to L3; an ENDED one counts for no storm (R491). -/
def openCount (s : State) : Nat := (s.flt.recs.filter (fun r => r.level ≠ 0 && faultPresent r)).length

/-- The fault would be queued behind the current one. -/
def wouldQueue (s : State) (level : Nat) : Bool := match s.flt.current with
  | some c => level ≤ levelOf s c
  | none => false

/-- The three cases of R487. -/
def stormCase (s : State) (level : Nat) : Bool :=
  (wouldQueue s level && s.flt.queue.length ≥ 32) || openCount s ≥ 64 || lastSecond s ≥ 16

/-- Declare the storm once: FAULT_STORM, then the L3 fault 0x0B01 (R487). -/
def declareStorm (s : State) : State :=
  if (findFault s 0x0B01 0xFFFF).isSome then s
  else
    let s := { s with flt := { s.flt with storm := true } }
    let s := raiseAt 0x8B03 3 true s.tim.station 0xFFFF
      [ef 28 0 (lastSecond s + 1), ef 32 0 (min 255 s.flt.queue.length)] s
    openFault 0x0B01 0xFFFF 3 true (lastSeq s).toNat s

/-- The third L2 fault of one cause and block within 24 h is permanent (R490). -/
def thirdL2 (s : State) (cause subject : Nat) : Bool :=
  (s.flt.l2.filter (fun x => x.1.toNat = cause && x.2.1.toNat = subject &&
    (s.tim.station - x.2.2).toNat < 86400 * tSec)).length ≥ 2

/-- Raise a fault of level L1 to L3 (R484, R487). -/
def raiseFault (cause subject level : Nat) (permanent : Bool) (origin : Nat) (s : State) : State :=
  match findFault s cause subject with
  | some r =>
    let s := modFault r.id (fun r => { r with count := if r.count = 0xFFFF then r.count else r.count + 1,
                                              last := s.tim.station, seenAt := s.tim.tb }) s
    { s with flt := { s.flt with coalesced := s.flt.coalesced + 1 } }
  | none =>
    let permanent := permanent || (level = 2 && thirdL2 s cause subject)
    if stormCase s level then
      let s := declareStorm s
      if s.flt.queue.length < 32 && openCount s < 64 then openFault cause subject level permanent origin s
      else { s with flt := { s.flt with lost := s.flt.lost + 1 } }
    else openFault cause subject level permanent origin s

/-- The next fault of the queue becomes current. -/
def nextCurrent (s : State) : State :=
  match s.flt.queue with
  | [] => { s with flt := { s.flt with current := none } }
  | q :: qs => modFault q (fun r => { r with state := .current }) { s with flt := { s.flt with queue := qs, current := some q } }

/-- Close a fault: FAULT_CLEARED and the record goes (R491). -/
def closeFault (r : FaultRec) (how : Nat) (s : State) : State :=
  let cur := s.flt.current = some r.id
  let s := { s with flt := { s.flt with recs := s.flt.recs.filter (fun x => x.id ≠ r.id),
                                        queue := s.flt.queue.filter (· ≠ r.id) } }
  let s := if cur then nextCurrent s else s
  raiseAt 0x8B02 r.level (r.level = 3) s.tim.station r.subject.toNat
    [ef 28 0 r.cause.toNat, ef 30 0 how, ef 32 0 r.id.toNat, ef 36 0 r.count.toNat] s

/-- The cause of a fault has ended (R491): an L1 fault closes; an L2 fault becomes ENDED unless FAULT_ACK has marked it. -/
def endFault (cause subject : Nat) (s : State) : State :=
  match findFault s cause subject with
  | none => s
  | some r =>
    if r.permanent then s
    else if r.acked then closeFault r 1 s
    else if r.level ≤ 1 then closeFault r 0 s
    else
      let s := modFault r.id (fun r => { r with state := .ended }) s
      if s.flt.current = some r.id then nextCurrent s
      else { s with flt := { s.flt with queue := s.flt.queue.filter (· ≠ r.id) } }

/-- End a fault whatever its class: LO_REARM, CH_RESTORE and the like, which clear a permanent L1 fault by its object's
own rule (R490). -/
def endL1 (cause subject : Nat) (s : State) : State :=
  match findFault s cause subject with
  | none => s
  | some r => closeFault r (if r.acked then 1 else 0) s

/-- The L0 record of a group that a hardware reaction has quenched (R483): announced with the SEQ of its QUENCH event. -/
def openL0 (g : Nat) (origin : Nat) (s : State) : State :=
  match findFault s 0x0310 g with
  | some r =>
    let s := modFault r.id (fun r => { r with count := if r.count = 0xFFFF then r.count else r.count + 1,
                                              last := s.tim.station, seenAt := s.tim.tb }) s
    { s with flt := { s.flt with coalesced := s.flt.coalesced + 1 } }
  | none =>
    let r : FaultRec := { id := s.ev.seq, cause := 0x0310, subject := BitVec.ofNat 16 g, level := 0, state := .done,
                          permanent := false, acked := false, count := 1, first := s.tim.station, last := s.tim.station,
                          steps := 0, seenAt := s.tim.tb }
    let s := { s with flt := { s.flt with recs := s.flt.recs ++ [r], raised := s.flt.raised + 1 } }
    raiseAt 0x8B01 0 false s.tim.station g
      [ef 28 0 0x0310, ef 31 0 (min 63 s.flt.queue.length), ef 32 0 noId, ef 36 0 origin] s

/-- FAULT_ACK (R492): the number of faults closed, or none when the identifier names no open fault. -/
def ackFault (id : Word) (s : State) : Option (Nat × State) :=
  let ended := s.flt.recs.filter (fun r => r.state == .ended)
  if id.toNat = noId then some (ended.length, forEach ended (fun r => closeFault r 1) s)
  else match faultById s id with
    | none => none
    | some r =>
      if r.state = .ended then some (1, closeFault r 1 s)
      else some (0, modFault id (fun r => { r with acked := true }) s)

end Sys2Proof.Machine
end

