-- ==== Sys2Proof/Machine/Engine.lean ====
section
/-! DEFINITION. The insertion engine (07): carriers, the set of duties of a control period in segment and direct mode, and
the edges and triggers that a set gives in a period. Pure functions of the state; Staging.lean sends what they give. -/

namespace Sys2Proof.Machine

/-- Control period in ticks: INS_CTL_PERIOD in 100 ns (08). -/
def tctl (s : State) : Nat := pNat s Prm.insCtlPeriod * 80

/-- Carrier period P in ticks. -/
def carrierP (s : State) : Nat := pNat s Prm.insCarrierPeriod

/-- Minimum pulse m in ticks, INS_MIN_PULSE in 12.5 ns. -/
def minPulse (s : State) : Nat := pNat s Prm.insMinPulse * 10

/-- Dead time d of a channel's group in ticks. -/
def deadOf (s : State) (n : Chan) : Nat := pNat s (Prm.insDeadTime + (groupOf s n).val) * 10

/-- The channel is full-bridge. -/
def fullBridge (s : State) (n : Chan) : Bool := (pNat s Prm.insBridge).testBit n.val

/-- Reload lead Λ in ticks, rounded up (R203). -/
def reloadLead (s : State) : Nat := (s.hst.refDeadline.toNat * 4 + 4) / 5

/-- Phase offset of a channel (R193). -/
def phaseOf (s : State) (n : Chan) : Nat :=
  if pNat s Prm.insPhaseMode = 1 then pNat s (Prm.insPhase + n.val)
  else
    let pop := allChans.filter (populated s)
    let r := (pop.filter (fun k => k.val < n.val)).length
    let c := pop.length
    if c = 0 then 0 else (2 * r * carrierP s + c) / (2 * c)

/-- The carrier that the parameters give a channel (R192). -/
def carrierOf (s : State) (n : Chan) : Carrier :=
  { period := carrierP s, offset := pNat s Prm.insSegmentPhase + phaseOf s n }

/-- The count of a carrier at station time `t` (R192). -/
def countAt (c : Carrier) (t : Nat) : Nat :=
  if c.period = 0 then 0 else (((t : Int) - c.offset) % c.period).toNat

/-- The first station time at or after `t` with count 0. -/
def nextZero (c : Carrier) (t : Nat) : Nat := if countAt c t = 0 then t else t + (c.period - countAt c t)

/-! ## Duties (R198, R209 to R216) -/

/-- What a set gives one channel. -/
structure ChSet where
  /-- compare value in force in the period: under holds and limits -/
  compare  : Nat
  /-- compare value of the set -/
  base     : Nat
  neg      : Bool
  trig     : Trigs
  carrying : Bool
  limited  : Bool
  held     : Bool
  dmax     : Rat
deriving DecidableEq, Repr, Inhabited

/-- A set for one control period, with what it reports. -/
structure PeriodSet where
  chans        : List (Chan × ChSet)
  saturated    : Bool
  clamped      : Bool
  concentrated : Bool
  balSign      : Int
  vref         : Int
  vapplied     : Int
  vsum         : Int
  rotate       : Chan
  iPred        : Rat
deriving DecidableEq, Repr, Inhabited

/-- A hold of R20 is in force on the channel. -/
def heldNow (s : State) (n : Chan) : Bool :=
  let c := s.con[n]
  c.protective || c.hostHold || c.service || c.gap || c.rest || c.assayRest

/-- ACTIVE channels. -/
def activeChans (s : State) : List Chan := allChans.filter (fun n => s.con[n].state == .active)

/-- dmax(n) for a predicted current in 0.1 A (R211). -/
def dmaxAt (s : State) (n : Chan) (i : Rat) (neg : Bool) : Rat :=
  if heldNow s n then 0
  else if -10 < i && i < 10 then 1
  else
    let charges := decide (0 < i) != neg
    let lim := if charges then s.asyCh[n].pubLim.c2 else s.asyCh[n].pubLim.d2
    min 1 (max 0 lim / (if i < 0 then -i else i))

/-- Ticks that the dead time adds to the compare value: −1 where diodes insert, +1 where they bypass, 0 in the band or
without compensation (R196, R198). -/
def dtcSign (s : State) (i : Rat) (neg : Bool) : Int :=
  if !pBool s Prm.insDtcEnable then 0
  else
    let band : Rat := pNat s Prm.insDtcIband
    if i > band then (if neg then 1 else -1) else if i < -band then (if neg then -1 else 1) else 0

/-- Compare value of an insertion time in 1/16 tick (R198), held to 0 … 16 × P. -/
def toCompare (s : State) (n : Chan) (i : Rat) (neg : Bool) (t : Rat) : Nat :=
  clampN (16 * carrierP s) ((t + 16 * (dtcSign s i neg * deadOf s n : Int) + 1 / 2 : Rat).floor)

/-- Insertion time of a compare value: R198 in reverse. -/
def toTime (s : State) (n : Chan) (i : Rat) (neg : Bool) (d : Nat) : Rat :=
  (d : Rat) - 16 * (dtcSign s i neg * deadOf s n : Int)

/-- A compare value held to dmax(n) (R216). -/
def limitCompare (s : State) (n : Chan) (i : Rat) (neg : Bool) (d : Nat) : Nat × Bool :=
  if heldNow s n then (0, false)
  else
    let top := dmaxAt s n i neg * 16 * carrierP s
    if toTime s n i neg d ≤ top then (d, false) else (min d (toCompare s n i neg top), true)

/-- One channel's share while R210 runs. -/
structure Share where
  n    : Chan
  v    : Rat
  dm   : Rat
  duty : Rat
deriving DecidableEq, Repr, Inhabited

/-- The passes of R210: clip, take the residual, spread it over the channels not at a bound in proportion to V(n). The
shares come back clipped, with what remains. -/
def sharePasses (vref : Rat) : Nat → List Share → List Share × Rat
  | 0, l =>
    let l := l.map (fun h => { h with duty := clampR 0 h.dm h.duty })
    (l, vref - (l.map (fun h => h.duty * h.v)).sum)
  | k + 1, l =>
    let l := l.map (fun h => { h with duty := clampR 0 h.dm h.duty })
    let r := vref - (l.map (fun h => h.duty * h.v)).sum
    let inside (h : Share) : Bool := 0 < h.duty && h.duty < h.dm
    let sv := ((l.filter inside).map (·.v)).sum
    if r = 0 || sv = 0 then (l, r)
    else sharePasses vref k (l.map (fun h => if inside h then { h with duty := h.duty + r / sv } else h))

/-- The reference that governs a period: the newest PERIOD at or before it; the one posted later where two name one period
(R77, R78). -/
def governing (s : State) (start : Nat) : Option (RefDesc × DWord) :=
  s.ins.refs.foldl (fun (a : Option (RefDesc × DWord)) r =>
    if r.1.period.toNat > start then a
    else match a with
      | none => some r
      | some b => if r.1.period.toNat > b.1.period.toNat then some r else some b) none

/-- VREF of a period under a reference: VREF, a prediction, or the last valid one held (R77). -/
def vrefAt (s : State) (r : RefDesc) (start : Nat) : Int :=
  let k := (start - r.period.toNat) / max 1 (tctl s)
  let preds := (r.preds.take r.npred.toNat)
  if k = 0 then r.vref.toInt else ((preds[k - 1]?).getD (preds.getLastD r.vref)).toInt

/-- Predicted arm current in 0.1 A for period `j` of a horizon of `h` (R209). -/
def iAt (r : Option RefDesc) (j h : Nat) : Rat :=
  match r with
  | none => 0
  | some r => if h ≤ 1 then r.iarm.toInt
    else (r.iarm.toInt : Rat) + ((r.iarmPred.toInt : Rat) - r.iarm.toInt) * j / ((h : Rat) - 1)

/-- Published state of charge of a channel in %. -/
def socPct (s : State) (n : Chan) : Option Rat := s.asyCh[n].pub.map (· / 100)

/-- Offset o(n): the balancing of R210, or the bias of an assay cycle (R305, R306). -/
def dutyOffset (s : State) (sign : Int) (socm : Rat) (n : Chan) : Rat :=
  let bias : Rat := sign * (pNat s Prm.asyAcBias : Rat) / 10000
  match s.cyc[n].phase with
  | 1 => bias
  | 3 => -bias
  | 5 => if (socPct s n).getD socm < socm then bias else -bias
  | _ =>
    let top : Rat := (pNat s Prm.insBalMax : Rat) / 10000
    clampR (-top) top (-(sign : Rat) * pNat s Prm.insBalGain / 100000 * ((socPct s n).getD socm - socm))

/-- Channels in the order of the rotation, starting after the last one that carried (R213). -/
def rotated (s : State) (l : List Chan) : List Chan :=
  l.filter (fun n => n.val > s.ins.rotate.val) ++ l.filter (fun n => n.val ≤ s.ins.rotate.val)

/-- The longest prefix whose weights do not exceed `w`. -/
def prefixWithin (w : Rat) : List (Chan × Rat) → List Chan
  | [] => []
  | (n, x) :: t => if x ≤ w then n :: prefixWithin (w - x) t else []

/-- Insertion times after concentration (R213): (channel, T, carries), and whether it applied. -/
def concentrate (s : State) (i : Rat) (neg : Bool) (l : List Share) : List (Chan × Rat × Bool) × Bool :=
  let p : Rat := carrierP s
  let m := minPulse s
  let time (h : Share) : Rat := h.duty * 16 * p
  let plain := l.map (fun h => (h.n, time h, false))
  let cmp (h : Share) : Nat := toCompare s h.n i neg (time h)
  let d (h : Share) : Nat := deadOf s h.n
  let vOf (n : Chan) : Rat := ((l.find? (fun h => h.n == n)).map (·.v)).getD 0
  let order := rotated s (l.map (·.n))
  if l.any (fun h => 16 * d h < cmp h && cmp h < 16 * (d h + m)) then
    let w := (l.map (fun h => time h * h.v)).sum
    let tc (n : Chan) : Rat := toTime s n i neg (16 * (deadOf s n + m))
    let carry := prefixWithin w (order.map (fun n => (n, tc n * vOf n)))
    let sv := (carry.map vOf).sum
    (l.map (fun h => (h.n, if carry.contains h.n && sv ≠ 0 then w / sv else 0, carry.contains h.n)), true)
  else if l.any (fun h => 16 * (carrierP s - d h - m) < cmp h && cmp h < 16 * carrierP s) then
    let w := (l.map (fun h => (16 * p - time h) * h.v)).sum
    let tg (n : Chan) : Rat := 16 * p - toTime s n i neg (16 * (carrierP s - deadOf s n - m))
    let carry := prefixWithin w (order.map (fun n => (n, tg n * vOf n)))
    let sv := (carry.map vOf).sum
    (l.map (fun h => (h.n, if carry.contains h.n && sv ≠ 0 then 16 * p - w / sv else 16 * p, carry.contains h.n)), true)
  else (plain, false)

/-- Trigger compares of segment mode (R218). -/
def segTrigs (s : State) : Trigs :=
  { t0 := pNat s Prm.insTrig, t1 := pNat s (Prm.insTrig + 1), t2 := pNat s (Prm.insTrig + 2), t3 := pNat s (Prm.insTrig + 3) }

/-- The set last applied, under the present holds and limits (R214; direct mode R216). -/
def heldSet (s : State) (i : Rat) : PeriodSet :=
  let act := activeChans s
  let one (n : Chan) : Chan × ChSet :=
    let x := limitCompare s n i s.insCh[n].neg s.insCh[n].compare
    (n, { compare := x.1, base := s.insCh[n].compare, neg := s.insCh[n].neg, trig := if s.ins.direct then s.insCh[n].trig else segTrigs s,
          carrying := s.insCh[n].carrying, limited := x.2, held := heldNow s n, dmax := dmaxAt s n i s.insCh[n].neg })
  { chans := act.map one, saturated := false, clamped := s.ins.clamped, concentrated := s.ins.concentrated,
    balSign := s.ins.balSign, vref := s.ins.vref, vapplied := s.ins.vapplied, vsum := s.ins.vsum, rotate := s.ins.rotate,
    iPred := i }

/-- The set that a reference gives a period in segment mode (R209 to R213). -/
def refSet (s : State) (vref : Int) (i : Rat) : PeriodSet :=
  let neg := decide (vref < 0)
  let act := activeChans s
  let part := act.filter (fun n => !heldNow s n && (!neg || fullBridge s n))
  let vOf (n : Chan) : Rat := s.meas[n].capV
  let vs := (part.map vOf).sum
  let want : Rat := if neg then -(vref : Rat) else vref
  let target := if want > vs then vs else want
  let band : Rat := pNat s Prm.insBalIband
  let sign : Int := if i ≥ band then 1 else if i ≤ -band then -1 else 0
  let sgn := if neg then -sign else sign
  let bal := (act.filter (fun n => s.cyc[n].phase = 0)).filterMap (socPct s)
  let socm := if bal.length = 0 then 0 else bal.sum / bal.length
  let o (n : Chan) := dutyOffset s sgn socm n
  let oc := if vs = 0 then 0 else (part.map (fun n => o n * vOf n)).sum / vs
  let b := if vs = 0 then 0 else target / vs
  let shares := part.map (fun n => ({ n := n, v := vOf n, dm := dmaxAt s n i neg, duty := b + o n - oc } : Share))
  let res := sharePasses target 3 shares
  let con := concentrate s i neg res.1
  let p : Rat := carrierP s
  let one (n : Chan) : Chan × ChSet :=
    let blank : ChSet := { compare := 0, base := 0, neg := false, trig := segTrigs s, carrying := false, limited := false,
                           held := heldNow s n, dmax := dmaxAt s n i neg }
    match con.1.find? (fun x => x.1 == n) with
    | none => (n, blank)
    | some x =>
      let d := if con.2 && x.2.1 = 0 then 0 else if con.2 && x.2.1 = 16 * p then 16 * carrierP s
               else toCompare s n i neg x.2.1
      (n, { blank with compare := d, base := d, neg := neg, carrying := x.2.2,
                       limited := decide (b + o n - oc > dmaxAt s n i neg) })
  let applied : Rat := if p = 0 then 0 else (con.1.map (fun x => x.2.1 / (16 * p) * vOf x.1)).sum
  let last := ((rotated s (part)).filter (fun n => (con.1.find? (fun x => x.1 == n)).any (fun x => x.2.2))).getLast?
  { chans := act.map one, saturated := decide (res.2 ≠ 0), clamped := decide (want ≠ target), concentrated := con.2,
    balSign := sign, vref := vref, vapplied := toLsb (if neg then -applied else applied), vsum := toLsb vs,
    rotate := last.getD s.ins.rotate, iPred := i }

/-- The set of period `j` of a horizon of `h` periods, starting at `start`. A standby stages the newest mirrored set
(12 R361); under a debug halt the last applied set stands (08 R253). -/
def setFor (s : State) (start j h : Nat) : PeriodSet :=
  let r := (governing s start).map (·.1)
  let i := iAt r j h
  if s.ins.direct || s.qm.fwHalt || s.twn.role != .active then heldSet s i
  else match r with
    | none => heldSet s i
    | some r => refSet s (vrefAt s r start) i

/-! ## Edges of one control period (R199 to R208, R218) -/

/-- An edge that a period gives: start, state, dead time. -/
abbrev EdgeAt := Nat × OutState × Nat

/-- The inserted state of a polarity. -/
def insState (neg : Bool) : OutState := if neg then .insertedNeg else .inserted

/-- Region of a compare value (R199): 0 A to 4 E. -/
def regionOf (p d m cmp : Nat) : Nat :=
  if cmp ≤ 16 * d then 0 else if cmp < 16 * (d + m) then 1 else if cmp ≤ 16 * (p - d - m) then 2
  else if cmp < 16 * p then 3 else 4

/-- The falling edge of the running carrier period, at count `c`, under the compare value of the set: its count, whether
R206 moved it, and the accumulator after it. None when it is not emitted. -/
def fallCount (p d m c : Nat) (e : Eng) (cmp : Nat) : Option (Nat × Bool × Nat) :=
  let changed := cmp ≠ e.compare
  let r : Nat × Bool × Nat :=
    if changed && cmp ≤ 16 * c then (max c (d + m), true, e.dither)
    else if regionOf p d m cmp = 2 && !(e.region = 3 || e.region = 4) then
      let a := e.dither + cmp % 16
      if a ≥ 16 then (cmp / 16 + 1, false, a - 16) else (cmp / 16, false, a)
    else (cmp / 16, false, e.dither)
  if r.1 + d + m > p then none else some r

/-- Let the falling edge of the running period happen when it falls before `stop` (R201, R206). -/
def fallStep (d m : Nat) (cmp : Nat) (now stop : Nat) (e : Eng) : Eng × List EdgeAt :=
  match e.carrier with
  | none => (e, [])
  | some car =>
    if !e.inserted || e.done then (e, [])
    else
      let c := countAt car now
      match fallCount car.period d m c e cmp with
      | none => (e, [])
      | some (x, moved, a) =>
        let t := now + (x - c)
        if t < stop then
          ({ e with inserted := false, done := true, dither := a, moved := if moved then e.moved + 1 else e.moved },
           [(t, .bypassed, d)])
        else (e, [])

/-- The start of a carrier period at count 0 (R199, R200). -/
def zeroStep (d m : Nat) (set : ChSet) (t : Nat) (e : Eng) : Eng × List EdgeAt :=
  let p := (e.carrier.map (·.period)).getD 0
  let r := regionOf p d m set.compare
  let cnt (e : Eng) : Eng := { e with
    suppressed := if r = 1 || (r = 0 && set.compare ≠ 0) then e.suppressed + 1 else e.suppressed
    closed := if r = 3 then e.closed + 1 else e.closed }
  if r < 2 then
    (cnt { e with inserted := false, done := true, region := r },
     if e.inserted then [(t, .bypassed, d)] else [])
  else if e.inserted && e.neg != set.neg then
    ({ e with inserted := false, done := true, region := 5, reversals := e.reversals + 1 }, [(t, .bypassed, d)])
  else
    (cnt { e with inserted := true, neg := set.neg, done := false, region := r },
     if e.inserted then [] else [(t, insState set.neg, d)])

/-- The boundary at a count 0: the new period, or the change to the carrier that R208 has applied. -/
def boundary (d m : Nat) (set : ChSet) (t stop : Nat) (e : Eng) : Eng × List EdgeAt :=
  match e.nextCarrier with
  | none =>
    let z := zeroStep d m set t e
    let f := fallStep d m set.compare t stop { z.1 with compare := set.compare }
    (f.1, z.2 ++ f.2)
  | some nc =>
    let e' := { e with inserted := false, done := true, region := 0, dither := 0, carrier := some nc, nextCarrier := none }
    let first := if e.inserted then [(t, OutState.bypassed, d)] else []
    let t1 := nextZero nc t
    if t1 < stop then
      let z := zeroStep d m set t1 e'
      let f := fallStep d m set.compare t1 stop { z.1 with compare := set.compare }
      (f.1, first ++ z.2 ++ f.2)
    else (e', first)

/-- Trigger entries of a carrier in `[from, stop)`: time and compare number (R218). -/
def trigsIn (car : Carrier) (g : Trigs) (start stop : Nat) : List (Nat × Nat) :=
  [(g.t0, 0), (g.t1, 1), (g.t2, 2), (g.t3, 3)].filterMap (fun x =>
    if x.1 < car.period then
      let t := start + ((x.1 : Int) - countAt car start) % car.period |>.toNat
      if t < stop then some (t, x.2) else none
    else none)

/-- One control period `[start, start + len)` of one channel: the engine after it, its edges and its triggers. -/
def runPeriod (s : State) (n : Chan) (set : ChSet) (start len : Nat) (e : Eng) : Eng × List EdgeAt × List (Nat × Nat) :=
  let d := deadOf s n
  let m := minPulse s
  let e := if e.carrier.isNone then { e with carrier := some (carrierOf s n) } else e
  let car := e.carrier.getD { period := 0, offset := 0 }
  if car.period = 0 then (e, [], [])
  else
    let stop := start + len
    let t0 := nextZero car start
    let f := if t0 = start then (e, []) else fallStep d m set.compare start (min t0 stop) e
    let e1 := { f.1 with compare := set.compare }
    let b := if t0 < stop then boundary d m set t0 stop { e1 with } else (e1, [])
    let tr := match e.nextCarrier with
      | none => trigsIn car set.trig start stop
      | some nc => if t0 < stop then trigsIn car set.trig start t0 ++ trigsIn nc set.trig (nextZero nc t0) stop
                   else trigsIn car set.trig start stop
    let edges := f.2 ++ b.2
    ({ b.1 with edges := b.1.edges + edges.length }, edges, tr)

end Sys2Proof.Machine
end

