-- ==== Sys2Proof/Machine/Link.lean ====
section
/-! DEFINITION. Cell link ports: what leaves the module on a port (05 R130 to R136, R148, R225), the tone input's arming
(04 R107), the commit lead (03 R79) and the reported output state (11 R330). -/

namespace Sys2Proof.Machine

/-- The module is master of the segment: active or standalone (02 R43). -/
def isMaster (s : State) : Bool := s.twn.role == .active

/-- Role epoch as frames carry it; 0 before the first (12 R357). -/
def epochOf (s : State) : Word := s.twn.epoch.getD 0

/-- Module address as latched at the start (15 HB-A, HB-B). -/
def address (s : State) : BitVec 12 := (s.pwr.hbB.truncate 4 : BitVec 4) ++ s.pwr.hbA

/-- Twin operation is switched on (HB-B[4]). -/
def twinBit (s : State) : Bool := s.pwr.hbB.getLsbD 4

/-- Role code of HEARTBEAT, TWIN_STATUS and SEGMENT_STATUS (12; 17 R489): 4 in the module safe state. -/
def roleCode (s : State) : Nat :=
  if s.pwr.mod == .safe then 4
  else match s.twn.role with
    | .starting => 0
    | .candidate => 1
    | .active => 2
    | .standby => 3

/-- The port is RUNNING. -/
def running (s : State) (p : Chan) : Bool := s.ports[p].state == .running

/-- RUNNING ports. -/
def runningPorts (s : State) : List Chan := allChans.filter (running s)

/-- The port's tone input to the matrix is armed (R107). -/
def armed (s : State) (p : Chan) : Bool :=
  running s p && (match s.con[p].state with
    | .precharge | .bypass | .active | .quenched => true
    | _ => false)

/-- Link state codes (04 *Link states*). -/
def LinkState.code : LinkState → Nat
  | .off => 0
  | .dark => 1
  | .light => 2
  | .aligned => 3
  | .tone => 4
  | .ranging => 5
  | .exchange => 6
  | .running => 7
  | .unpartnered => 8
  | .crossWired => 9
  | .refused => 10

/-- Output states by code (05 *Output states*). -/
def OutState.ofCode (c : Byte) : Option OutState :=
  match c.toNat with
  | 0 => some .blocked
  | 1 => some .inserted
  | 2 => some .bypassed
  | 3 => some .insertedNeg
  | 4 => some .bypassedUpper
  | _ => none

/-- NODE_SERVICE (R529). -/
def nodeService (p : Chan) (cause value : Nat) (s : State) : State :=
  raise 0x8508 p.val [ef 28 0 cause, ef 32 0 (value % 2 ^ 32)] s

/-- Send a reliable frame now: next RCNT, next SEQ, kept until an ACK covers it (R130, R132). -/
def transmitBody (b : DownBody) (now : Nat) (x : TxnSt) : TxnSt :=
  { x with rcntTx := x.rcntTx + 1, seqTx := x.seqTx + 1, resend := false,
           oldestAt := if x.unacked.isEmpty then now else x.oldestAt, tries := if x.unacked.isEmpty then 0 else x.tries,
           unacked := x.unacked ++ [{ rcnt := x.rcntTx + 1, body := b }] }

/-- Queue a reliable frame: sent at once while the window of 32 has room and no stream reset runs (R132, R134). -/
def sendBody (p : Chan) (b : DownBody) (s : State) : State :=
  modTxn p (fun x => if x.sreset || x.unacked.length ≥ 32 || !x.waiting.isEmpty then { x with waiting := x.waiting ++ [b] }
                     else transmitBody b s.tim.tb x) s

/-- Waiting frames leave as the window opens. -/
def drainWaiting (now : Nat) : Nat → TxnSt → TxnSt
  | 0, x => x
  | k + 1, x =>
    match x.waiting with
    | [] => x
    | b :: bs =>
      if x.sreset || x.unacked.length ≥ 32 then x
      else drainWaiting now k (transmitBody b now { x with waiting := bs })

/-- An unreliable frame leaves (R130). -/
def sendPlain (p : Chan) (s : State) : State := modTxn p (fun x => { x with seqTx := x.seqTx + 1, resend := false }) s

/-- Send a CMD (05 *Node command set*, R148): only a master does (R43). -/
def sendCmd (p : Chan) (code : Nat) (args : List Byte) (purpose : CmdPurpose) (s : State) : State :=
  let id := s.txns[p].cmdId
  let c : NodeCmd := { id := id, code := BitVec.ofNat 16 code, args := args, purpose := purpose, at_ := s.tim.tb }
  let s := modTxn p (fun x => { x with cmdId := x.cmdId + 1, cmds := x.cmds ++ [c] }) s
  sendBody p (.cmd id c.code (epochOf s) args) s

/-- Bound of a final REPLY in ticks (05 *Node command set*). -/
def cmdBound (code : Nat) : Nat :=
  match code with
  | 0x0010 => 200 * tMs
  | 0x0011 => 50 * tMs
  | 0x0012 => 100 * tMs
  | 0x0020 => tSec
  | 0x0030 => 60 * tSec
  | 0x0040 => tSec
  | 0x0041 => 10 * tMs
  | 0x0042 => 5 * tSec
  | 0x0043 => 2 * tSec
  | 0x0050 => 10 * tMs
  | 0x0051 => 100 * tMs
  | 0x0052 => 500 * tMs
  | _ => tMs

/-- LNK_SYNC_INTERVAL in ticks. -/
def syncTicks (s : State) : Nat := pNat s Prm.lnkSyncInterval * tUs

/-- Start a stream reset (R134): both ends drop their unacknowledged frames and counts; NODE_SERVICE except at the start of
a capability exchange. CMDs not yet answered are sent again under their CMD_ID (R148). -/
def streamReset (p : Chan) (atExchange : Bool) (s : State) : State :=
  let s := modTxn p (fun x => { x with
    sreset := true, unacked := [], rcntTx := 0, rcntRx := 0, tries := 0, resend := false, goBack := none
    waiting := (x.unacked.map (·.body) ++ x.waiting).filter (fun b => match b with
      | .cmd .. => false
      | _ => !atExchange)
    streamResets := if atExchange then x.streamResets else x.streamResets + 1 }) s
  if atExchange then s else nodeService p 4 0 s

/-- The stream reset is complete: frames flow again and open CMDs are sent again (R134, R148). -/
def streamResumed (p : Chan) (s : State) : State :=
  let e := epochOf s
  modTxn p (fun x =>
    let again := x.cmds.map (fun c => DownBody.cmd c.id c.code e c.args)
    let x := { x with sreset := false, waiting := again ++ x.waiting }
    drainWaiting s.tim.tb x.waiting.length x) s

/-- Longest one-way delay of the populated RUNNING ports, 0.1 ns; LNK_DELAY_MAX when there is none (R79). -/
def longestDelay (s : State) : Rat :=
  match (runningPorts s).filter (populated s) with
  | [] => (pNat s Prm.lnkDelayMax * 10 : Nat)
  | ps => ps.foldl (fun a p => max a (s.ports[p].delay.getD 0)) 0

/-- HST_REF_DEADLINE (R79). -/
def recomputeDeadline (s : State) : State :=
  { s with hst := { s.hst with refDeadline := BitVec.ofNat 32 (9000 + (longestDelay s / 10).ceil.toNat) } }

/-- A port's one-way delay in ticks, as a rational. -/
def downTicks (s : State) (p : Chan) : Rat := s.ports[p].delay.getD 0 / (25 / 2)

/-- Port commit time C(k, n) of a period (08): ticks of station time, as a rational. -/
def commitTime (s : State) (p : Chan) (start : Nat) : Rat := (start : Rat) - 4000 - downTicks s p

/-- The node's most recent reported output state (R330). -/
def reported (s : State) (n : Chan) : Option OutState := s.insCh[n].repState

/-- Safe-state code of a group (R242, R244). -/
def safeCode (s : State) (g : Group) : Byte := BitVec.ofNat 8 (pNat s (Prm.insSafeState + g.val))

/-- The group is quenched. -/
def quenched (s : State) (g : Group) : Bool := s.qm.latched.getLsbD g.val

/-- The module transmits /QN/ on a port: its group is quenched and the module is master (R244, R245). -/
def sendsQn (s : State) (p : Chan) : Bool := isMaster s && populated s p && quenched s (groupOf s p)

/-- Contactor field of the node's newest report: 0 open, 1 closed, 2 moving, 3 contradictory; none before one. -/
def contactor (s : State) (n : Chan) : Option Nat :=
  match s.txns[n].stat with
  | some x => some x.contactor.toNat
  | none => s.txns[n].caps.map (fun c => c.contact.toNat % 4)

/-- Precharge relay of the same report. -/
def relayClosed (s : State) (n : Chan) : Bool :=
  match s.txns[n].stat with
  | some x => x.precharge == 1
  | none => match s.txns[n].caps with
    | some c => c.contact.toNat / 4 % 4 == 1
    | none => false

end Sys2Proof.Machine
end

