-- ==== Sys2Proof/Machine/Pins.lean ====
section
/-! DEFINITION. What the module shows on its pins (08 R255; 18 R504, R506): functions of the state. -/

namespace Sys2Proof.Machine

/-- Light on TRIPREQ_A and TRIPREQ_B, the same on both (08 R255). -/
inductive TripLight where
  | dark | modulated | steady
deriving DecidableEq, Repr, Inhabited

/-- The main domain has its supply and clocks and is out of reset (18 R506). -/
def mainUp (s : State) : Bool := !s.pwr.clockHeld && !s.pwr.thermalHeld && !s.pwr.supplyHeld

/-- TRIPREQ_A and TRIPREQ_B (08 R255, R256): a standby shows no request. -/
def tripLight (s : State) : TripLight :=
  if !mainUp s then .dark else if s.qm.tripreq && isMaster s then .steady else .modulated

/-- Status outputs of X1 (18 *X1 contacts*). -/
inductive StatusPin where
  | holdupOk | ready | master | quench | fault | tripreq
deriving DecidableEq, Repr, Inhabited

/-- A status output conducts (18 R506): every one is open while the main domain is in reset, without supply or clocks. -/
def statusPin (s : State) (p : StatusPin) : Bool :=
  mainUp s && (match p with
    | .holdupOk => s.pwr.holdupOk
    | .ready => s.pwr.mod == .ready
    | .master => isMaster s
    | .quench => s.qm.latched != 0
    | .fault => s.flt.recs.any (fun r => faultPresent r && decide (r.level ≥ 2)) || s.pwr.mod == .safe
    | .tripreq => tripLight s == .steady)

end Sys2Proof.Machine
end

