-- ==== Sys2Proof/Machine/Staging.lean ====
section
/-! DEFINITION. Staging (08 R223 to R242, R530): the generation of a reload point and of a restage, the SCHEDs that carry it,
the mirror of the set (12 R361), and ABORT. -/

namespace Sys2Proof.Machine

/-- The sets of `h` periods from `first`. -/
def horizonSets (s : State) (first h : Nat) : List PeriodSet :=
  (List.range h).map (fun j => setFor s (first + j * tctl s) j h)

/-- What a set gives a channel. -/
def PeriodSet.chan (x : PeriodSet) (n : Chan) : Option ChSet := (x.chans.find? (fun c => c.1 == n)).map (·.2)

/-- BURST of the EDGE entry with number `ord` since the channel became ACTIVE (10 R290). -/
def burstFlag (s : State) (memo : List (Nat × Bool)) (i : Rat) (ord : Nat) : Bool :=
  match memo.find? (fun x => x.1 == ord) with
  | some x => x.2
  | none => (ord + 1) % max 1 (pNat s Prm.asyBurstDiv) = 0 &&
      decide ((if i < 0 then -i else i) ≥ ((10 * pNat s Prm.asyImpStepMin : Nat) : Rat))

/-- What one period gives one channel. -/
structure PeriodPlan where
  eng     : Eng
  edges   : List EdgeAt
  trigs   : List (Nat × Nat)
  flags   : List (Nat × Bool)
  entries : List SchedEntry
deriving DecidableEq, Repr, Inhabited

/-- Offset of an entry. -/
def SchedEntry.offset : SchedEntry → Nat
  | .edge o _ _ _ => o
  | .trigger o _ => o

/-- Insert an entry by OFFSET; equal offsets keep their order. -/
def insertEntry (x : SchedEntry) : List SchedEntry → List SchedEntry
  | [] => [x]
  | y :: ys => if x.offset < y.offset then x :: y :: ys else y :: insertEntry x ys

/-- Entries in order of OFFSET (05 *SCHED payload*). -/
def sortEntries (l : List SchedEntry) : List SchedEntry := l.foldl (fun a x => insertEntry x a) []

/-- Number a list from `k`. -/
def numbered {α : Type} (k : Nat) : List α → List (Nat × α)
  | [] => []
  | x :: xs => (k, x) :: numbered (k + 1) xs

/-- Plan the periods of a horizon for one ACTIVE channel. No edge is staged while the engine waits for a record of the
node's safe state (R237). -/
def planChan (s : State) (n : Chan) (first : Nat) (memo : List (Nat × Bool)) : List PeriodSet → Nat → Eng → List PeriodPlan
  | [], _, _ => []
  | x :: xs, start, e =>
    match x.chan n with
    | none => { eng := e, edges := [], trigs := [], flags := [], entries := [] } :: planChan s n first memo xs (start + tctl s) e
    | some c =>
      let r := runPeriod s n c start (tctl s) e
      let hold := s.insCh[n].awaitSafe
      let eng := if hold then e else r.1
      let edges := if hold then [] else r.2.1
      let marked := (numbered e.edges edges).map (fun k => (k.1, burstFlag s memo x.iPred k.1, k.2))
      let ents := sortEntries (r.2.2.map (fun t => SchedEntry.trigger (t.1 - first) t.2) ++
        marked.map (fun k => SchedEntry.edge (k.2.2.1 - first) k.2.2.2.1 k.2.2.2.2 k.2.1))
      { eng := eng, edges := edges, trigs := r.2.2, flags := marked.map (fun k => (k.1, k.2.1)), entries := ents } ::
        planChan s n first memo xs (start + tctl s) eng

/-- The channel's connection state brings its port into the SCHED set (R223). -/
def scheduled (c : ChState) : Bool :=
  match c with
  | .precharge | .bypass | .active => true
  | _ => false

/-- Ports a SCHED goes to (R223, R235, R244). -/
def schedPorts (s : State) : List Chan :=
  (runningPorts s).filter (fun p => scheduled s.con[p].state && !quenched s (groupOf s p) && !s.insCh[p].abortWait)

/-- Entries of a channel that is not ACTIVE, by period (R530). -/
def idleEntries (s : State) (n : Chan) (h : Nat) : List (List SchedEntry) :=
  (if reported s n ≠ some .bypassed && !s.insCh[n].awaitSafe then [SchedEntry.edge 0 .bypassed (deadOf s n) false] else []) ::
    List.replicate (h - 1) []

/-- NENT bound (05 R138). -/
def nentBound (s : State) : Nat := min 125 ((tctl s - 456) / 96)

/-- Periods of a horizon whose entries stay within a bound; never fewer than one (05 R138). -/
def fitting (bound : Nat) : List (List SchedEntry) → Nat → Nat
  | [], _ => 0
  | x :: xs, used => if used + x.length ≤ bound then 1 + fitting bound xs (used + x.length) else 0

/-- Duration of a SCHED on the line, in 0.1 ticks (04 R97; 05 R138). -/
def schedLength (nent : Nat) : Nat := (38 + 8 * nent) * 96

/-- Whether the SCHED of a closing generation is split on a port (R224): decided by when the whole frame would end, from
either end of the 1.5 µs in which its /S/ leaves (R223). -/
def splitCase (s : State) (p : Chan) (start nent : Nat) : Option Bool :=
  let go : Rat := (start : Rat) - reloadLead s
  let dur : Rat := (schedLength nent : Rat) / 10
  if go + dur > commitTime s p start then some true
  else if go + 1200 + dur ≤ commitTime s p start then some false else none

/-- Send the SCHED of a generation on a port (R223, R224, R242). -/
def sendSched (p : Chan) (gen : Word) (first h : Nat) (closing : Bool) (entries : List SchedEntry) (s : State) : State :=
  let f : SchedFrame := { gen := gen, first := BitVec.ofNat 64 first, tctl := BitVec.ofNat 32 (tctl s), nper := h,
                          coast := safeCode s (groupOf s p), epoch := epochOf s, entries := entries }
  let r := match if closing then splitCase s p first entries.length else some false with
    | some b => (b, s)
    | none => drawBool s
  let s := sendPlain p r.2
  let s := if r.1 then (let s := sendPlain p s; { s with stg := { s.stg with splits := s.stg.splits + 1 } }) else s
  modTxn p (fun x => { x with sched := some f }) s

/-- Number of the next generation (R226). -/
def nextGen (s : State) : Word :=
  match s.stg.next with
  | some g => g
  | none => match s.stg.reported with
    | some g => g + 1
    | none => 0

/-- Take a generation number. -/
def useGen (s : State) : State := { s with stg := { s.stg with next := some (nextGen s + 1), genLast := nextGen s } }

/-- A reference as SET_MIRROR carries it when none governs. -/
def noRef : RefDesc := { period := 0, vref := 0, preds := [], iarm := 0, iarmPred := 0, npred := 0 }

/-- SET_MIRROR of a generation (12 R361): sent on the seam by the active module. -/
def mirrorSet (gen : Word) (first : Nat) (restage : Bool) (set : PeriodSet) (plans : List (Chan × List PeriodPlan)) (s : State) : State :=
  let entry (n : Chan) : MirrorEntry :=
    match set.chan n with
    | none => { compare := 0, neg := false, carrying := false, dither := 0, trig0 := 0xFFFFFF, trig1 := 0xFFFFFF,
                trig2 := 0xFFFFFF, trig3 := 0xFFFFFF }
    | some c =>
      let a := ((plans.find? (fun x => x.1 == n)).bind (fun x => x.2.head?)).map (fun x => x.eng.dither)
      { compare := BitVec.ofNat 29 c.compare, neg := c.neg, carrying := c.carrying,
        dither := BitVec.ofNat 4 (a.getD s.insCh[n].eng.dither),
        trig0 := BitVec.ofNat 24 c.trig.t0, trig1 := BitVec.ofNat 24 c.trig.t1,
        trig2 := BitVec.ofNat 24 c.trig.t2, trig3 := BitVec.ofNat 24 c.trig.t3 }
  let r := governing s first
  let m : SetMirror := { gen := gen, period := BitVec.ofNat 64 first, restage := restage, direct := s.ins.direct,
                         concentrated := set.concentrated, rotate := set.rotate,
                         holds := BitVec.ofNat 64 (maskOf 64 (fun i => heldNow s (Fin.ofNat 64 i))),
                         refArrival := (r.map (·.2)).getD 0, reference := (r.map (·.1)).getD noRef,
                         entries := allChans.map entry }
  let s := { s with twn := { s.twn with mirror := some m } }
  if twinBit s then seamBoth s else s

/-- What closing a period stores of a channel. -/
def closeChan (n : Chan) (c : ChSet) (p : PeriodPlan) (s : State) : State :=
  modIns n (fun x => { x with
    eng := p.eng, compare := c.base, neg := c.neg, trig := c.trig, held := c.held, limited := c.limited,
    carrying := c.carrying, dmax := c.dmax
    closedEdges := (p.edges.reverse.map (fun e => (BitVec.ofNat 64 e.1, e.2.1, e.2.2)) ++ x.closedEdges).take 64
    trigDue := x.trigDue ++ p.trigs.map (fun t => BitVec.ofNat 64 t.1)
    memo := (x.memo ++ p.flags.filter (fun k => !(x.memo.any (fun m => m.1 == k.1)))).filter (fun k => k.1 ≥ p.eng.edges) }) s

/-- Remember the BURST flags that a generation gave to entries of periods not yet closed (10 R290). -/
def keepFlags (n : Chan) (ps : List PeriodPlan) (s : State) : State :=
  modIns n (fun x => { x with
    memo := ps.foldl (fun m p => m ++ p.flags.filter (fun k => k.1 ≥ x.eng.edges && !(m.any (fun y => y.1 == k.1)))) x.memo }) s

/-- The first period lies nearest to count 0 of the segment phase: the rotation of R213 advances there. -/
def rotatesAt (s : State) (start : Nat) : Bool :=
  let c := countAt { period := carrierP s, offset := pNat s Prm.insSegmentPhase } start
  2 * c < tctl s || 2 * (carrierP s - c) ≤ tctl s

/-- What closing a period stores of the segment (R221, R222). -/
def closeSegment (start : Nat) (x : PeriodSet) (s : State) : State :=
  let short := x.vref - x.vapplied
  let s := { s with ins := { s.ins with
    concentrated := x.concentrated, saturated := x.saturated, clamped := x.clamped, balSign := x.balSign, vref := x.vref
    vapplied := x.vapplied, vsum := x.vsum
    satPeriods := s.ins.satPeriods + BitVec.ofNat 32 (bN x.saturated)
    clampPeriods := s.ins.clampPeriods + BitVec.ofNat 32 (bN x.clamped)
    concPeriods := s.ins.concPeriods + BitVec.ofNat 32 (bN x.concentrated)
    shortfall := if x.saturated && (s.ins.satReported == s.ins.satPeriods || short.natAbs > s.ins.shortfall.natAbs) then short else s.ins.shortfall
    rotate := if rotatesAt s start then x.rotate else s.ins.rotate
    hasSet := true, lastClosed := some (BitVec.ofNat 64 start) } }
  let s := { s with asy := { s.asy with busyAt := if x.saturated || x.clamped then s.tim.tb else s.asy.busyAt } }
  forEach (activeChans s) (fun n s =>
    let room : Int := 9 * (x.vsum - s.meas[n].capV)
    if 10 * (x.vapplied.natAbs : Int) > room then modAsy n (fun a => { a with tightAt := s.tim.tb }) s else s) s

/-- Form a generation over `h` periods from `first` (R223, R231). `closing` closes the first period from its set. A
standby forms it within itself and sends nothing (12 R361). -/
def formHorizon (closing : Bool) (first h : Nat) (s : State) : State :=
  let sets := horizonSets s first h
  let plans := (activeChans s).map (fun n => (n, planChan s n first s.insCh[n].memo sets first s.insCh[n].eng))
  let ports := schedPorts s
  let perPort (p : Chan) : List (List SchedEntry) :=
    match plans.find? (fun x => x.1 == p) with
    | some x => x.2.map (·.entries)
    | none => idleEntries s p h
  let h' := max 1 (ports.foldl (fun a p => min a (fitting (nentBound s) (perPort p) 0)) h)
  let gen := nextGen s
  let master := isMaster s
  let s := if master then
      let s := useGen s
      let s := { s with stg := { s.stg with horizon := h', genFirm := if closing then gen else s.stg.genFirm } }
      let s := forEach ports (fun p s => sendSched p gen first h' closing ((perPort p).take h').flatten s) s
      match sets.head? with
      | some x => mirrorSet gen first (!closing) x plans s
      | none => s
    else s
  let s := if closing then
      let s := forEach plans (fun x s =>
        match sets.head?.bind (fun y => y.chan x.1), x.2.head? with
        | some c, some p => closeChan x.1 c p s
        | _, _ => s) s
      let s := forEach (allChans.filter (fun n => s.con[n].state != .active)) (fun n s =>
        modIns n (fun x => { x with compare := if s.ins.direct then x.compare else 0, carrying := false, limited := false, held := heldNow s n,
                                    eng := { x.eng with inserted := false, done := true, compare := 0 } }) s) s
      let s := if master then forEach (ports.filter (fun p => s.con[p].state != .active)) (fun p s =>
          if ((perPort p).headD []).isEmpty then s
          else modIns p (fun x => { x with
            closedEdges := ((BitVec.ofNat 64 first, OutState.bypassed, deadOf s p) :: x.closedEdges).take 64 }) s) s
        else s
      match sets.head? with
      | some x => closeSegment first x s
      | none => s
    else s
  forEach plans (fun x s => keepFlags x.1 x.2 s) s

/-- Form a generation over the horizon. -/
def formGeneration (closing : Bool) (first : Nat) (s : State) : State :=
  formHorizon closing first (max 1 (pNat s Prm.insHorizon)) s

/-- The periods after the last one closed and before `start` that were never closed here: the nodes run what they hold,
and the engine passes them within itself (12 R371). At most 64. -/
def closeTo : Nat → Nat → State → State
  | 0, _, s => s
  | k + 1, start, s =>
    match s.ins.lastClosed with
    | none => s
    | some l =>
      let p := l.toNat + tctl s
      if p < start && tctl s ≠ 0 then
        let r := s.twn.role
        let s := formHorizon true p 1 { s with twn := { s.twn with role := .standby } }
        closeTo k start { s with twn := { s.twn with role := r } }
      else s

/-! ## Restages (R231 to R233) -/

/-- Start of the first period whose reload point has not passed. -/
def nextStart (s : State) : Nat :=
  let t := max 1 (tctl s)
  let g := ((s.tim.station.toNat + reloadLead s) / t + 1) * t
  match s.ins.lastClosed with
  | some l => max (l.toNat + t) g
  | none => g

/-- The cause falls within 2 µs before the next reload point (R232). -/
def mergesNow (s : State) : Bool := nextStart s - reloadLead s ≤ s.tim.station.toNat + 2 * tUs

/-- The module forms generations: it is master, it has been READY since its start or is so now, and no hand-over is
offered (02 R45; 12 R375). -/
def staging (s : State) : Bool := isMaster s && s.pwr.mod == .ready

/-- Form a restage, or merge it into the next reload (R231, R232); the number it has. -/
def restageNow (s : State) : Word × State :=
  if mergesNow s || s.twn.offer.isSome || s.twn.takeFrom.isSome then (nextGen s, s)
  else
    let g := nextGen s
    let s := formGeneration false (nextStart s) s
    (g, { s with stg := { s.stg with restages := s.stg.restages + 1 } })

/-- RESTAGED (R233). -/
def sayRestaged (cause count : Nat) (gen : Word) (s : State) : State :=
  raise 0x8305 0xFFFF [ef 28 0 cause, ef 30 0 (min 0xFFFF count), ef 32 0 gen.toNat] s

/-- Restage for a cause of R231: 0 RESTAGE, 2 hold or release, 4 quench release, each with its event; 1 limits and 3 delay,
counted for the event of the second (R233). -/
def restageFor (cause : Nat) (s : State) : Word × State :=
  if !staging s then (nextGen s, s)
  else
    let r := restageNow s
    match cause with
    | 1 => (r.1, { r.2 with stg := { r.2.stg with
        byLimits := (r.2.stg.byLimits.1 + 1, if r.2.stg.byLimits.1 = 0 then r.1 else r.2.stg.byLimits.2) } })
    | 3 => (r.1, { r.2 with stg := { r.2.stg with
        byDelay := (r.2.stg.byDelay.1 + 1, if r.2.stg.byDelay.1 = 0 then r.1 else r.2.stg.byDelay.2) } })
    | c => (r.1, sayRestaged c 1 r.1 r.2)

/-- The state after a restage. -/
def restage (cause : Nat) (s : State) : State := (restageFor cause s).2

/-! ## ABORT (R234, R235) -/

/-- An ABORT of the port is not yet acknowledged. -/
def abortOut (x : TxnSt) : Bool :=
  let isAbort (b : DownBody) : Bool := match b with
    | .abort .. => true
    | _ => false
  x.unacked.any (fun f => isAbort f.body) || x.waiting.any isAbort

/-- Send an ABORT (R234): only by a master, on a RUNNING port whose group is not quenched (R244). -/
def sendAbort (p : Chan) (action : Byte) (s : State) : State :=
  if isMaster s && running s p && !quenched s (groupOf s p) then
    let g := nextGen s
    let from_ : Nat := s.tim.station.toNat + (downTicks s p).ceil.toNat + 10 * tUs
    let s := useGen s
    let s := sendBody p (.abort g (BitVec.ofNat 64 from_) action (epochOf s)) s
    let s := modIns p (fun x => { x with abortWait := true, awaitSafe := true, noRecord := false }) s
    { s with stg := { s.stg with aborts := s.stg.aborts + 1 } }
  else s

end Sys2Proof.Machine
end

