-- ==== Sys2Proof/Machine/Operands.lean ====
section
/-! DEFINITION. How a host command is taken from its ring, admitted or refused, answered in place, answered with PENDING,
or left waiting in place, and how a PENDING command gets its final reply (03 R65 to R71; 02 R42, R45; 17 R489). -/

namespace Sys2Proof.Machine

/-! ## Host activity (03 R84, R85) -/

/-- Segment mode with a channel ACTIVE: only references count as activity then. -/
def refsOnly (s : State) : Bool := !s.ins.direct && !(activeChans s).isEmpty

/-- Host activity: silence ends (R85), and with it the request of 08 R254; the quench it made stays latched. -/
def activity (s : State) : State :=
  let was := s.hst.silent
  let since := s.hst.silentAt
  let s := { s with hst := { s.hst with activityAt := s.tim.tb, silent := false }, qm := { s.qm with fwSilence := false } }
  if was then raise 0x8108 0xFFFF [ef 28 0 1, ef 28 1 (bN s.hst.silentByLink), ef 32 0 ((s.tim.tb - since) / tMs)] s else s

/-- A doorbell or HST_HEARTBEAT write on a port (R84). -/
def doorbell (p : HPort) (s : State) : State := if p = s.hst.active && !refsOnly s then activity s else s

/-! ## Replies -/

/-- A reply with a status alone. -/
def reply (st : Status) (detail : Nat := 0) : Reply := { status := st, detail := BitVec.ofNat 16 detail }

/-- An OK reply with words. -/
def okWords (w : List (Nat × Nat)) : Reply := { words := w.map (fun x => (x.1, BitVec.ofNat 32 x.2)) }

/-- A reply with words. -/
def replyWords (st : Status) (w : List (Nat × Nat)) : Reply := { reply st with words := w.map (fun x => (x.1, BitVec.ofNat 32 x.2)) }

/-- Finish the PENDING commands that `sel` picks: each gets its final reply, held for ring 3 in order (R66, R68). -/
def finishAll (sel : Pend → Bool) (r : Pend → Reply) (s : State) : State :=
  let gone := s.cmd.pend.filter sel
  { s with cmd := { s.cmd with
      pend := s.cmd.pend.filter (fun p => !sel p)
      held := s.cmd.held ++ gone.map (fun p => { op := p.op, tag := p.tag, reply := r p }) } }

/-- Finish the PENDING command of a channel. -/
def finishChan (n : Chan) (r : Reply) (s : State) : State := finishAll (fun p => p.target == .channel n) (fun _ => r) s

/-- The PENDING command of a channel. -/
def pendChan (s : State) (n : Chan) : Option Pend := s.cmd.pend.find? (fun p => p.target == .channel n)

/-- Finish every PENDING command with an opcode. -/
def finishOp (op : Nat) (r : Reply) (s : State) : State := finishAll (fun p => p.op.toNat == op) (fun _ => r) s

/-- A PENDING command with an opcode. -/
def pendOp (s : State) (op : Nat) : Option Pend := s.cmd.pend.find? (fun p => p.op.toNat == op)

/-- Complete in place the descriptors with an opcode that wait for it. -/
def completeTaken (op : Nat) (r : Reply) (s : State) : State :=
  { s with cmd := { s.cmd with
      taken := s.cmd.taken.map (fun t => if t.op.toNat == op && t.reply.isNone then { t with reply := some r } else t) } }

/-- A descriptor with an opcode waits in place. -/
def waits (s : State) (op : Nat) : Bool := s.cmd.taken.any (fun t => t.op.toNat == op && t.reply.isNone)

/-! ## Taking a descriptor (R62, R66) -/

/-- The slot that a command on ring `r` is taken from: the first taken descriptor whose command has not begun, or the next
one, which the command's arrival then posts (log 12). None when the ring takes nothing. -/
def takeSlot (r : Ring) (s : State) : Option (Word × State) :=
  let g := s.rings[r]
  if !g.enable || g.dir then none
  else if g.exe ≠ g.tkn then some (g.exe, modRing r (fun g => { g with exe := g.exe + 1 }) s)
  else if g.fault || owned g ≥ 2 ^ g.sizeLog2.toNat then none
  else
    let s := modRing r (fun g => { g with hpi := g.hpi + 1, tkn := g.hpi + 1, exe := g.hpi + 1 }) s
    some (g.hpi, doorbell s.hst.active s)

/-! ## Admission -/

/-- Answered while neither bank verifies (02 R42). -/
def okImageFault (op : Nat) : Bool := [0x0104, 0x0A02].contains op

/-- Answered before READY (02 R45). -/
def okBooting (op : Nat) : Bool := [0x0101, 0x0104, 0x0105, 0x0A02].contains op

/-- Accepted in the module safe state (17 R489). -/
def okSafe (op : Nat) : Bool := [0x0101, 0x0104, 0x0405, 0x0801, 0x0B01, 0x0B02, 0x0107, 0x0A02, 0x0110].contains op

/-- Accepted on a standby (03 R70). -/
def okStandby (op : Nat) : Bool :=
  [0x0101, 0x0104, 0x0105, 0x0405, 0x0801, 0x0B01, 0x0B02, 0x0107, 0x0601, 0x0701, 0x0702, 0x0902, 0x0903, 0x0901, 0x0A02,
   0x0A01].contains op

/-- What the state of the module refuses of every command with an opcode; none when it is admitted. -/
def refusal (op : Nat) (s : State) : Option Status :=
  match s.pwr.mod with
  | .imageFault => if okImageFault op then none else some .wrongState
  | .booting => if okBooting op then none else some .wrongState
  | .safe => if okSafe op then none else some .wrongState
  | .ready => if isMaster s || okStandby op then none else some .notActive

/-- A command for a target that already has one PENDING (R67). -/
def targetBusy (s : State) (t : Target) : Bool :=
  s.cmd.pend.any (fun p =>
    match t, p.target with
    | .channel n, .channel m => n = m
    | .port n, .port m => n = m
    | .bus a, .bus b => (a &&& b) ≠ 0
    | .commit, .commit => true
    | _, _ => false)

/-- Sixteen commands are PENDING (R67, R68). -/
def full (s : State) : Bool := s.cmd.pend.length + s.cmd.held.length ≥ 16

/-! ## The answer of a command -/

/-- What a command answers: at once, with bytes it writes to the shared window before the descriptor is returned; later,
with the number to remember; or in place when something else happens. -/
inductive Res where
  | now (r : Reply) (s : State) (writes : List (Nat × List Byte) := [])
  | later (t : Target) (arg : DWord) (s : State) (writes : List (Nat × List Byte) := [])
  | wait (s : State)

/-- Put an answer into the list of taken descriptors. -/
def putTaken (h : Hdr) (op : Nat) (idx : Word) (r : Option Reply) (s : State) : State :=
  { s with cmd := { s.cmd with
      taken := s.cmd.taken ++ [{ ring := h.ring, idx := idx, op := BitVec.ofNat 16 op, tag := h.tag, len := h.length, reply := r }] } }

/-- Window writes in order. -/
def writeAll (m : List Host.Cell) (w : List (Nat × List Byte)) : List Host.Cell := w.foldl (fun m x => memWrite m x.1 x.2) m

/-- A host command on ring 2 (ring 0 for ARM_REFERENCE): taken, admitted, executed, answered. `least` is the LENGTH its
parameters need, `target` what it is for, `pends` whether it answers PENDING. -/
def hostCmd (h : Hdr) (op least : Nat) (target : Target) (pends : Bool) (body : State → Res) (s : State) : Out :=
  match takeSlot h.ring s with
  | none => done s s
  | some (idx, t) =>
    let ring : Nat := if op = 0x0301 then 0 else 2
    let refuse (r : Reply) : Out := done s (putTaken h op idx (some r) t)
    if h.ring.val ≠ ring then refuse (reply .badOpcode)
    else match refusal op t with
      | some st => refuse (reply st)
      | none =>
        if h.length.toNat < least then refuse (reply .badParam (min 15 (3 + h.length.toNat / 4)))
        else if targetBusy t target || (pends && full t) then refuse (reply .busy)
        else match body t with
          | .now r u w => doneWin s (writeAll s.win w) (putTaken h op idx (some r) u)
          | .wait u => done s (putTaken h op idx none u)
          | .later g arg u w =>
            let p : Pend := { op := BitVec.ofNat 16 op, tag := h.tag, target := g, at_ := t.tim.tb, arg := arg }
            doneWin s (writeAll s.win w) (putTaken h op idx (some (reply .pending)) { u with cmd := { u.cmd with pend := u.cmd.pend ++ [p] } })

/-- Register a command as PENDING from within its own body, whose descriptor then answers PENDING. -/
def addPend (h : Hdr) (op : Nat) (g : Target) (arg : DWord) (s : State) : State :=
  { s with cmd := { s.cmd with
      pend := s.cmd.pend ++ [{ op := BitVec.ofNat 16 op, tag := h.tag, target := g, at_ := s.tim.tb, arg := arg }] } }

/-- A PENDING command that completes within the same row: PENDING in its descriptor and the final reply for ring 3. -/
def later1 (h : Hdr) (op : Nat) (r : Reply) (s : State) : State :=
  { s with cmd := { s.cmd with held := s.cmd.held ++ [{ op := BitVec.ofNat 16 op, tag := h.tag, reply := r }] } }

/-! ## Bulk buffers (R59, R64, R65) -/

/-- The bulk pool. -/
def bulkBase : Nat := 0x01010000
/-- End of the window. -/
def winSize : Nat := 0x04000000

/-- A reference is well-formed, its buffer holds a header and `need` payload bytes, and the module owns it. -/
def bulkOk (s : State) (b : Bulk) (need : Nat) : Bool :=
  bulkBase ≤ b.offset.toNat && b.offset.toNat + b.length.toNat ≤ winSize && b.offset.toNat % 64 = 0 &&
    16 + need ≤ b.length.toNat && bitOf (memNum s.win b.offset.toNat 4) 31

/-- VALID of a buffer, within what its length holds. -/
def bulkValid (s : State) (b : Bulk) : Nat := min (memNum s.win b.offset.toNat 3) (b.length.toNat - 16)

/-- The valid payload of a buffer. -/
def bulkRead (s : State) (b : Bulk) : List Byte := memRead s.win (b.offset.toNat + 16) (bulkValid s b)

/-- Hand a buffer back: OWN cleared (R65). -/
def bulkFree (s : State) (b : Bulk) : List (Nat × List Byte) :=
  [(b.offset.toNat, leBytes 4 (memNum s.win b.offset.toNat 3))]

/-- Fill a buffer with a payload: header with VALID, SEQ and TIME, OWN cleared (R64). -/
def bulkFill (b : Bulk) (seq : Word) (time : DWord) (payload : List Byte) : List (Nat × List Byte) :=
  [(b.offset.toNat + 16, payload), (b.offset.toNat + 8, leBytes 8 time.toNat), (b.offset.toNat + 4, leBytes 4 seq.toNat),
   (b.offset.toNat, leBytes 4 payload.length)]

end Sys2Proof.Machine
end

