-- ==== Sys2Proof/Machine/CellView.lean ====
section
/-! DEFINITION. What the other chapters read of the cell and temperature tables (06 R168 to R175): counts, values, and the
value that a limit is checked against. -/

namespace Sys2Proof.Machine

/-- Cell groups of a channel (ASY_CELLS). -/
def cellCount (s : State) (n : Chan) : Nat := pNat s (Prm.asyCells + n.val)

/-- Temperature sensors of a channel (ASY_TEMPS). -/
def tempCount (s : State) (n : Chan) : Nat := pNat s (Prm.asyTemps + n.val)

/-- The cell of a channel as measured. -/
def cellAt (s : State) (n : Chan) (i : Nat) : CellSt := tabGet {} s.meas[n].cells i

/-- Update a cell. -/
def modCell (n : Chan) (i : Nat) (f : CellSt → CellSt) (s : State) : State :=
  modMeas n (fun m => { m with cells := tabPut {} m.cells i (f (tabGet {} m.cells i)) }) s

/-- The sensor of a channel. -/
def tempAt (s : State) (n : Chan) (i : Nat) : TempSt := tabGet {} s.meas[n].temps i

/-- Update a sensor. -/
def modTemp (n : Chan) (i : Nat) (f : TempSt → TempSt) (s : State) : State :=
  modMeas n (fun m => { m with temps := tabPut {} m.temps i (f (tabGet {} m.temps i)) }) s

/-- Value against an upper limit (R175). -/
def highOf (c : CellSt) : Nat := if c.plaus && c.stone ≠ 0xFFFF then max c.volt.toNat c.stone.toNat else c.volt.toNat

/-- Value against a lower limit (R175). -/
def lowOf (c : CellSt) : Nat := if c.plaus && c.stone ≠ 0xFFFF then min c.volt.toNat c.stone.toNat else c.volt.toNat

/-- Valid cells of a channel with their numbers. -/
def validCells (s : State) (n : Chan) : List (Nat × CellSt) :=
  ((List.range (cellCount s n)).map (fun i => (i, cellAt s n i))).filter (fun c => c.2.valid)

/-- Every populated cell has a valid VOLT. -/
def allCellsValid (s : State) (n : Chan) : Bool := (List.range (cellCount s n)).all (fun i => (cellAt s n i).valid)

/-- Valid temperatures of a channel with their sensors, 0.1 °C. -/
def validTemps (s : State) (n : Chan) : List (Nat × Int) :=
  ((List.range (tempCount s n)).map (fun i => (i, tempAt s n i))).filterMap
    (fun t => if t.2.valid then some (t.1, t.2.temp.toInt) else none)

/-- The highest of a list of readings with its place. -/
def highest : List (Nat × Int) → Option (Nat × Int)
  | [] => none
  | t :: ts => some (ts.foldl (fun a b => if b.2 > a.2 then b else a) t)

/-- CAP_V − PACK_V in mV. -/
def dvOf (s : State) (n : Chan) : Int := s.meas[n].capV - s.meas[n].packV

/-- Measure under balance is effective (R180). -/
def mubEffective (s : State) (n : Chan) : Bool :=
  pNat s Prm.asyBalMode = 1 && s.meas[n].calib.isSome && s.txns[n].caps.any (fun c => c.features.getLsbD 1)

/-- A wire is confirmed open, by number. -/
def wireOpen (s : State) (n : Chan) (k : Nat) : Bool := s.meas[n].openWires.any (fun w => w.wire = k)

/-- A wire is suspected. -/
def wireSuspect (s : State) (n : Chan) (k : Nat) : Bool := s.meas[n].suspects.any (fun w => w.wire = k)

/-- A cell adjoins a confirmed open wire: cell i lies between wires i and i + 1. -/
def cellOpen (s : State) (n : Chan) (i : Nat) : Bool := wireOpen s n i || wireOpen s n (i + 1)

/-- A cell adjoins a suspected wire. -/
def cellSuspect (s : State) (n : Chan) (i : Nat) : Bool := wireSuspect s n i || wireSuspect s n (i + 1)

/-- PLAUS on any cell, or the stack-sum fault. -/
def plausPresent (s : State) (n : Chan) : Bool :=
  s.meas[n].sumFault || (List.range (cellCount s n)).any (fun i => (cellAt s n i).plaus)

end Sys2Proof.Machine
end

