-- ==== Sys2Proof/Machine/Connection.lean ====
section
/-! DEFINITION. Channel connection (11 R328 to R352): states, holds, sequences, module decisions, fences, retirement and the
arm-trip conditions. -/

namespace Sys2Proof.Machine

/-! ## States and events -/

/-- Codes of *Channel states* (R328). -/
def ChState.code : ChState → Nat
  | .dormant => 0
  | .disconnected => 1
  | .precharge => 2
  | .bypass => 3
  | .active => 4
  | .quenched => 5
  | .fenced => 6
  | .retired => 7

/-- State code of a channel, 0xFF outside the populated set. -/
def chCode (s : State) (n : Chan) : Nat := if populated s n then s.con[n].state.code else 0xFF

/-- Ticks of 24 h. -/
def dayTicks : Nat := 86400 * tSec

/-- Counts of a cause within 24 h (R344). -/
def countOf (s : State) (n : Chan) (cause : Nat) : Nat :=
  (s.con[n].counts.filter (fun c => c.1.toNat = cause && (s.tim.station - c.2).toNat < dayTicks)).length

/-- Record a count. -/
def addCount (n : Chan) (cause : Nat) (s : State) : State :=
  modCon n (fun c => { c with counts := (BitVec.ofNat 8 cause, s.tim.station) :: c.counts }) s

/-- A channel event (*Channel event data*). -/
def chEvent (code : Nat) (n : Chan) (old new cause : Nat) (host ended : Bool) (count : Nat) (s : State) : State :=
  let detail := if cause ≠ 0 && s.con[n].detailCause.toNat = cause then s.con[n].detail.toNat else 0xFFFF
  raise code n.val [ef 28 0 n.val, ef 29 0 old, ef 30 0 new, ef 31 0 cause, ef 32 0 (bN host), ef 32 1 (bN ended),
    ef 33 0 (min 255 count), ef 34 0 detail] s

/-- The bookkeeping of a channel changed: it goes into the next STATE_MIRROR (12 R362). -/
def markDirty (n : Chan) (s : State) : State := { s with twn := { s.twn with dirty := s.twn.dirty ||| (1#64 <<< n.val) } }

/-- An assay cycle ends for one of *Abort reasons* (10 R310): in RETURN without an event, before it with one. The offset
and the cycle's rest go from the next reload point on. -/
def abortCycle (n : Chan) (reason : Nat) (s : State) : State :=
  let c := s.cyc[n]
  if c.phase = 0 then s
  else
    let s := modCon n (fun x => { x with assayRest := false }) s
    if c.phase = 5 then modCyc n (fun x => { x with phase := 0 }) s
    else
      let s := modCyc n (fun x => { x with phase := 0, lastAbort := BitVec.ofNat 4 reason, aborted := x.aborted + 1 }) s
      raise 0x8407 n.val [ef 28 0 n.val, ef 29 0 reason, ef 29 4 c.phase,
        ef 32 0 (min 0xFFFFFFFF ((s.tim.station - c.started).toNat / tSec))] s

/-- A state in which node services run (12 R380). -/
def serviceable (c : ChState) : Bool := c == .disconnected || c == .bypass || c == .active

/-- The node service of a channel ends with a status, and with it its hold (12 R380, R381). -/
def dropService (n : Chan) (st : Status) (s : State) : State :=
  match tabGet none (s.img.service.map (fun x => (x.1, some x.2))) n.val with
  | none => s
  | some _ =>
    let s := { s with
      img := { s.img with service := s.img.service.filter (fun x => x.1 ≠ n.val) }
      twn := { s.twn with serviceOwner := if s.twn.serviceOwner = some n then none else s.twn.serviceOwner
                          serviceWait := s.twn.serviceWait.filter (· ≠ n) } }
    finishChan n (reply st) (modCon n (fun c => { c with service := false }) s)

/-- A channel changes state: CH_STATE, a fresh engine when it becomes ACTIVE (07 R201, R204), and its impedance records to
the retained store when it is put DORMANT, disconnected or retired (10 R314). -/
def setCh (n : Chan) (new : ChState) (cause : Nat) (host : Bool) (s : State) : State :=
  let old := s.con[n].state
  if old = new then s
  else
    let s := modCon n (fun c => { c with state := new, cause := BitVec.ofNat 8 cause }) s
    let s := if old = .active then abortCycle n 1 s else s
    let s := if serviceable new then s else dropService n (if new = .fenced then .fenced else .wrongState) s
    let s := if new = .active then
        modIns n (fun x => { x with eng := { x.eng with inserted := false, neg := false, done := true, dither := 0, compare := 0,
                                                        carrier := none, nextCarrier := none, edges := 0 }, memo := [] }) s
      else s
    let s := if new = .disconnected || new = .dormant || new = .retired then queueWrite (.impedance n) s else s
    markDirty n (chEvent 0x8201 n old.code new.code cause host false (countOf s n cause) s)

/-- Release every hold of a channel. -/
def clearHolds (n : Chan) (s : State) : State :=
  modCon n (fun c => { c with protective := false, hostHold := false, gap := false, rest := false, assayRest := false }) s

/-- Complete the host command whose sequence runs, with the resulting state in w3. -/
def endSeq (n : Chan) (st : Status) (s : State) : State :=
  let host := s.con[n].seq.any (·.host)
  let s := markDirty n (modCon n (fun c => { c with seq := none }) s)
  if host then finishChan n (replyWords st [(3, chCode s n)]) s else s

/-! ## Gates of ACTIVE (R334) -/

/-- Time gate of 02 R37. -/
def timeGate (s : State) : Bool :=
  match s.tim.lock with
  | .locked | .holdover => true
  | .unset | .free => pBool s Prm.timeFreeRunPermit
  | .acquire => false

/-- Carrier gate of 07 R194. -/
def carrierGate (s : State) (n : Chan) : Bool := carrierP s ≠ 0 && minPulse s ≠ 0 && deadOf s n ≠ 0

/-- A valid cell model is in force (09 R264): the record takes no other. -/
def modelOk (s : State) : Bool := (valueIn s.cfg.eff Prm.asyCellModel) ≠ []

/-- Authentication condition of R334. -/
def authGate (s : State) (n : Chan) : Bool := !pBool s Prm.asyTmRequire || s.cyc[n].authOk

/-- Conditions of R334 other than authentication. -/
def otherGates (s : State) (n : Chan) : Bool :=
  timeGate s && carrierGate s n && modelOk s && allCellsValid s n && s.con[n].present == 0 && !quenched s (groupOf s n)

/-- What keeps a channel from ACTIVE. -/
def gateStatus (s : State) (n : Chan) : Option Status :=
  if !otherGates s n then some .wrongState else if !authGate s n then some .authFail else none

/-! ## Holds (R329, R342) -/

/-- A protective bypass hold (R20, R329): the channel leaves ACTIVE. `atOnce` orders it by ABORT (R336, 08 R234). -/
def protect (n : Chan) (cause : Nat) (atOnce : Bool) (s : State) : State :=
  let old := s.con[n].state
  let was := s.con[n].protective
  let s := modCon n (fun c => { c with protective := true, holdSent := if was then c.holdSent else some s.tim.station,
                                       gap := false, rest := false, assayRest := false }) s
  let s := if old = .active then setCh n .bypass cause false s else s
  let s := if atOnce && (old = .active || ((old = .precharge || old = .bypass) && reported s n ≠ some .bypassed)) then sendAbort n 0xB4 s
           else s
  if was then s
  else
    let s := chEvent 0x8202 n old.code s.con[n].state.code cause false false (countOf s n cause) s
    markDirty n (restage 2 s)

/-- A protective hold ends with its causes: the channel stays CONNECTED-BYPASS (R329, R340). -/
def unprotect (n : Chan) (cause : Nat) (s : State) : State :=
  if s.con[n].protective && s.con[n].present == 0 && s.con[n].seq.isNone && s.con[n].state != .fenced && s.con[n].state != .retired then
    let s := modCon n (fun c => { c with protective := false, holdSent := none }) s
    let s := chEvent 0x8202 n s.con[n].state.code s.con[n].state.code cause false true (countOf s n cause) s
    markDirty n (restage 2 s)
  else s

/-! ## Contactor commands (R330, R336) -/

/-- Set the step of the running sequence. -/
def seqStep (n : Chan) (st : ConStep) (s : State) : State :=
  markDirty n (modCon n (fun c => { c with seq := c.seq.map (fun q => { q with step := st, since := s.tim.tb }) }) s)

/-- PRECHARGE close or open. -/
def sendPrecharge (n : Chan) (close : Bool) (p : CmdPurpose) (s : State) : State :=
  sendCmd n 0x0011 [BitVec.ofNat 8 (bN close)] p s

/-- CONTACTOR close or open, with CON_OPEN_IMAX as the opening current (R330); CLOSES and OPENS count it (R352). -/
def sendContactor (n : Chan) (close : Bool) (s : State) : State :=
  let s := modCon n (fun c => if close then { c with closes := c.closes + 1 } else { c with opens := c.opens + 1 }) s
  sendCmd n 0x0010 ([BitVec.ofNat 8 (bN close), 0, 0, 0] ++ leBytes 4 (pNat s Prm.conOpenImax)) .sequence s

/-- |CAP_V − PACK_V| has reached CON_WELD_DV. -/
def apart (s : State) (n : Chan) : Bool := (dvOf s n).natAbs ≥ pNat s Prm.conWeldDv * 1000

/-- |CAP_V − PACK_V| is at most CON_PRECHARGE_DV. -/
def together (s : State) (n : Chan) : Bool := (dvOf s n).natAbs ≤ pNat s Prm.conPrechargeDv * 1000

/-- CONTACTOR_WELD (R332). -/
def weldEvent (n : Chan) (kind : Nat) (s : State) : State :=
  raise 0x8206 n.val [ef 28 0 n.val, ef 29 0 kind, ef 32 0 (wrapI 32 (dvOf s n))] s

/-- PRECHARGE_FAIL (R333). -/
def prechargeEvent (n : Chan) (reason elapsed : Nat) (s : State) : State :=
  raise 0x8207 n.val [ef 28 0 n.val, ef 29 0 reason, ef 32 0 (wrapI 32 (-(dvOf s n))), ef 36 0 (min 0xFFFFFFFF elapsed)] s

/-- The node's safe state keeps the channel bypassed while its group is quenched (R336). -/
def quenchBypass (s : State) (n : Chan) : Bool := safeCode s (groupOf s n) == 0xB4

/-! ## Fences, retirement, causes (R340 to R346) -/

/-- Cause bit. -/
def causeBit (c : Nat) : Word := 1#32 <<< c

/-- A cause is present. -/
def hasCause (s : State) (n : Chan) (c : Nat) : Bool := s.con[n].present.getLsbD c

/-- Causes whose fences and protective disconnections count (R344). -/
def counted (c : Nat) : Bool := [1, 2, 4, 5, 9, 10, 11, 12, 13, 14, 15].contains c

/-- Count a decision; true when it reaches the count that retires (R344). -/
def countDecision (n : Chan) (c : Nat) (s : State) : Bool × State :=
  if counted c then
    let s := addCount n c s
    (decide (countOf s n c ≥ pNat s Prm.conAnnealMax + 1), s)
  else (false, s)

/-- A running host or connection sequence is abandoned (R346): PRECHARGE_FAIL 3 when it stood in the precharge. -/
def abandon (n : Chan) (st : Status) (s : State) : State :=
  match s.con[n].seq with
  | none => s
  | some q =>
    let s := if q.step = .precharging then prechargeEvent n 3 ((s.tim.tb - q.since) / tMs) s else s
    endSeq n st s

/-- Cause code of the fault of a retirement (17 *Fault causes*). -/
def retireFault (cause : Nat) (byCount : Bool) : Nat := if byCount then 0x0281 else if cause = 3 then 0x0203 else 0x020E

/-- The channel becomes RETIRED: record, event, and the host's reply (R345). -/
def retireNow (n : Chan) (s : State) : State :=
  let c := s.con[n]
  let old := c.state
  let caps := s.txns[n].caps
  let host := c.seq.any (·.host)
  let s := clearHolds n s
  let s := modCon n (fun c => { c with retiredRec := true, annealAt := none,
                                       retiredNode := ((caps.map (fun k => k.nodeId)).getD 0),
                                       retiredPack := ((caps.map (fun k => k.packId)).getD 0) }) s
  let s := setCh n .retired c.retireCause.toNat host s
  let s := chEvent 0x8205 n old.code 7 c.retireCause.toNat host false (countOf s n c.retireCause.toNat) s
  let s := queueWrite (.retirement n) s
  endSeq n .ok s

/-- Start a sequence. -/
def startSeq (n : Chan) (kind : SeqKind) (step : ConStep) (host : Bool) (cause : Nat) (s : State) : State :=
  let s := abortCycle n 1 s
  markDirty n (modCon n (fun c => { c with
    seq := some { kind := kind, step := step, host := host, cause := BitVec.ofNat 8 cause, since := s.tim.tb, tries := 0 } }) s)

/-- First step of a disconnection (R336): hold the channel bypassed, and wait for R330, or for the release of a group whose
safe state is BLOCK. -/
def startDisc (n : Chan) (kind : SeqKind) (host : Bool) (cause : Nat) (atOnce : Bool) (s : State) : State :=
  let s := if host then modCon n (fun c => { c with hostHold := true }) s else protect n cause atOnce s
  let blocked := s.con[n].state = .quenched && !quenchBypass s n
  startSeq n kind (if blocked then .waitRelease else .waitBypass) host cause s

/-- The contactor is reported open. -/
def contactOpen (s : State) (n : Chan) : Bool := contactor s n == some 0

/-- Retire a channel (R345): by the disconnection first when its contactor is not reported open and the node can be
reached. -/
def retireBegin (n : Chan) (cause : Nat) (byCount host : Bool) (s : State) : State :=
  let s := abandon n .wrongState s
  let s := modCon n (fun c => { c with retireCause := BitVec.ofNat 8 cause, retireByCount := byCount }) s
  if running s n && !contactOpen s n && s.con[n].state != .disconnected then
    startDisc n .retire host cause false s
  else retireNow n (if host then startSeq n .retire .relayOff true cause s else s)

/-- The handler's fault for a fence (17 *Fault causes*); its action steps fence the channel (R342). -/
def fenceFault (n : Chan) (cause : Nat) (s : State) : State :=
  raiseFault (0x0200 + cause) n.val 1 false (lastSeq s).toNat s

/-- The decision to fence: counted, or a retirement by count instead (R344). -/
def decideFence (n : Chan) (cause : Nat) (s : State) : State :=
  let r := countDecision n cause s
  if r.1 then
    let s := modCon n (fun c => { c with retireCause := BitVec.ofNat 8 cause, retireByCount := true }) r.2
    raiseFault 0x0281 n.val 1 true (lastSeq s).toNat s
  else
    let s := modCon n (fun c => { c with fenceCause := BitVec.ofNat 8 cause, fenceK := max 1 (countOf r.2 n cause), annealAt := none }) r.2
    fenceFault n cause s

/-- The decision to retire for deep discharge or weld. -/
def decideRetire (n : Chan) (cause : Nat) (s : State) : State :=
  let s := if counted cause then addCount n cause s else s
  let s := modCon n (fun c => { c with retireCause := BitVec.ofNat 8 cause, retireByCount := false }) s
  raiseFault (retireFault cause false) n.val 1 true (lastSeq s).toNat s

/-- Strength of what runs on a channel (R346): retire, fence, disconnect, hold. -/
def strength (s : State) (n : Chan) : Nat :=
  match s.con[n].state with
  | .retired => 4
  | .fenced => 3
  | _ => match s.con[n].seq with
    | some q => (match q.kind with
      | .retire => 4
      | .disconnect | .dormant => if q.host then 0 else 2
      | _ => 0)
    | none => 0

/-- The channel is in a state in which a bypass hold or a disconnection acts. -/
def live (c : ChState) : Bool :=
  match c with
  | .precharge | .bypass | .active | .quenched => true
  | _ => false

/-- A protective disconnection (R336, R344). -/
def decideDisconnect (n : Chan) (cause : Nat) (atOnce : Bool) (s : State) : State :=
  if !live s.con[n].state || strength s n ≥ 2 then s
  else
    let r := countDecision n cause s
    if r.1 then
      let s := modCon n (fun c => { c with retireCause := BitVec.ofNat 8 cause, retireByCount := true }) r.2
      raiseFault 0x0281 n.val 1 true (lastSeq s).toNat s
    else startDisc n .disconnect false cause atOnce (abandon n .wrongState r.2)

/-- A bypass hold as a decision (R346). -/
def decideHold (n : Chan) (cause : Nat) (atOnce : Bool) (s : State) : State :=
  if !live s.con[n].state || strength s n ≥ 1 then s
  else
    let connecting := s.con[n].seq.isSome
    protect n cause atOnce (if connecting then abandon n .wrongState s else s)

/-- Action of *Module decisions* (R340). -/
def actOn (n : Chan) (c : Nat) (s : State) : State :=
  match c with
  | 1 | 2 | 4 => decideDisconnect n c true s
  | 3 | 14 => if strength s n ≥ 4 then s else decideRetire n c s
  | 5 => decideHold n c true s
  | 6 => decideHold n c false s
  | 7 => decideDisconnect n c false s
  | 8 => match pNat s Prm.conDriftAction with
    | 1 => decideHold n c false s
    | 2 => decideDisconnect n c false s
    | _ => s
  | 9 | 10 | 11 | 12 | 15 | 16 => if strength s n ≥ 3 then s else decideFence n c s
  | _ => s

/-- A cause becomes present (R340): only the module that masters the segment decides (02 R43). -/
def causeOn (n : Chan) (c : Nat) (s : State) : State :=
  if !isMaster s || !populated s n || hasCause s n c then s
  else
    let s := markDirty n (modCon n (fun x => { x with present := x.present ||| causeBit c }) s)
    actOn n c s

/-- The same with the cell, wire or sensor that the condition names. -/
def causeOnAt (n : Chan) (c detail : Nat) (s : State) : State :=
  if hasCause s n c then s
  else causeOn n c (modCon n (fun x => { x with detailCause := BitVec.ofNat 8 c, detail := BitVec.ofNat 16 detail }) s)

/-- A cause has cleared: a fence by it ends its fault and starts its anneal delay (R343), a hold ends with its last cause
(R340). -/
def causeOff (n : Chan) (c : Nat) (s : State) : State :=
  if !hasCause s n c then s
  else
    let s := markDirty n (modCon n (fun x => { x with present := x.present &&& ~~~(causeBit c) }) s)
    let s := endFault (0x0200 + c) n.val s
    let s := if s.con[n].state = .fenced && s.con[n].fenceCause.toNat = c then
        let d := pNat s Prm.conAnnealDelay * 2 ^ (s.con[n].fenceK - 1) * tSec
        modCon n (fun x => { x with annealAt := some (s.tim.station + BitVec.ofNat 64 d) }) s
      else s
    unprotect n c s

/-- Place a channel by its node's contactor report (R339, R343, 02 R44): open, closed, or contradictory. -/
def placeByStat (n : Chan) (cause : Nat) (host : Bool) (s : State) : State :=
  match contactor s n with
  | some 0 =>
    let s := if relayClosed s n then sendPrecharge n false .protect s else s
    setCh n .disconnected cause host (clearHolds n s)
  | some 1 => setCh n .bypass cause host s
  | _ => s

/-- Anneal a fenced channel (R343). -/
def anneal (n : Chan) (host : Bool) (s : State) : State :=
  let cause := s.con[n].fenceCause.toNat
  let s' := match contactor s n with
    | some 0 => setCh n .disconnected cause host (clearHolds n s)
    | some 1 => setCh n .bypass cause host (modCon n (fun c => { c with protective := true }) s)
    | _ => s
  if s'.con[n].state = .fenced then s'
  else
    let s' := chEvent 0x8204 n 6 s'.con[n].state.code cause host true (countOf s' n cause) s'
    modCon n (fun c => { c with annealAt := none }) s'

/-- First step of a fence (R342): a bypass hold while the port is RUNNING; contactor and precharge commands stop. -/
def fenceHold (n : Chan) (cause : Nat) (s : State) : State :=
  let s := abandon n .fenced s
  if running s n && live s.con[n].state then protect n cause true s else s

/-- Second step: the channel is FENCED. -/
def fenceDone (n : Chan) (cause : Nat) (s : State) : State :=
  let old := s.con[n].state
  if old = .retired || old = .fenced then s
  else
    let s := modCon n (fun c => { c with fences := c.fences + 1 }) s
    let s := setCh n .fenced cause false s
    let s := chEvent 0x8204 n old.code 6 cause false false (countOf s n cause) s
    if hasCause s n cause then s
    else
      let d := pNat s Prm.conAnnealDelay * 2 ^ (s.con[n].fenceK - 1) * tSec
      modCon n (fun x => { x with annealAt := some (s.tim.station + BitVec.ofNat 64 d) }) s

/-! ## The sequences (R333, R336) -/

/-- A connection fails in its precharge: PRECHARGE_FAIL, and the channel returns to DISCONNECTED (cause 0x0D clears at
once). A closed relay is opened. -/
def prechargeFail (n : Chan) (reason elapsed : Nat) (s : State) : State :=
  let s := prechargeEvent n reason elapsed s
  let s := if reason = 2 then s else sendPrecharge n false .protect s
  let r := countDecision n 13 s
  let s := if r.1 then
      let s := modCon n (fun c => { c with retireCause := 13, retireByCount := true }) r.2
      raiseFault 0x0281 n.val 1 true (lastSeq s).toNat s
    else r.2
  let s := clearHolds n s
  let s := setCh n .disconnected 13 true s
  endSeq n .wrongState s

/-- The contactor is welded (R332, R337): kind 0 or 1, and the channel is retired. -/
def welded (n : Chan) (kind : Nat) (s : State) : State :=
  let s := weldEvent n kind s
  match (s.con[n].seq.map (fun (q : ConSeq) => q.kind)) with
  | some .retire => retireNow n s
  | some .restore => endSeq n .wrongState s
  | _ => causeOn n 14 (abandon n .wrongState s)

/-- Stuck open or contradictory (R332): fenced with cause 0x0F. -/
def contactBad (n : Chan) (kind : Nat) (s : State) : State :=
  let s := weldEvent n kind s
  causeOn n 15 (abandon n .fenced s)

/-- The opening refused for good (R337). -/
def openFailed (n : Chan) (s : State) : State :=
  match (s.con[n].seq.map (fun (q : ConSeq) => q.kind)) with
  | some .retire => retireNow n s
  | _ => causeOn n 15 (abandon n .fenced s)

/-- End of a disconnection with the contactor open and the relay open (R336, R345, R348, R350). -/
def discEnd (n : Chan) (s : State) : State :=
  match s.con[n].seq with
  | none => s
  | some q =>
    match q.kind with
    | .retire => retireNow n s
    | .dormant =>
      let s := setCh n .disconnected 0 q.host (clearHolds n s)
      seqStep n .dormantCmd (sendCmd n 0x0020 [] .sequence s)
    | .restore =>
      let s := modCon n (fun c => { c with retiredRec := false, retireCause := 0, retireByCount := false, retiredNode := 0,
                                           retiredPack := 0, counts := [] }) s
      let s := endL1 0x0203 n.val (endL1 0x020E n.val (endL1 0x0281 n.val s))
      let s := queueWrite (.retirement n) s
      endSeq n .ok (setCh n .disconnected 0 true (clearHolds n s))
    | _ =>
      let old := s.con[n].state
      let s := setCh n .disconnected q.cause.toNat q.host (clearHolds n s)
      let s := if q.host then s
               else chEvent 0x8203 n old.code 1 q.cause.toNat false false (countOf s n q.cause.toNat) s
      endSeq n .ok s

/-- The window of the newest report lies wholly after the record that shows BYPASSED (R330). -/
def currentLow (s : State) (n : Chan) (windowStart : Int) : Bool :=
  match s.con[n].bypassedAt with
  | none => false
  | some t => windowStart ≥ (t.toNat : Int) && s.meas[n].packI.natAbs ≤ pNat s Prm.conOpenImax

/-- The closed test of a connection has passed (R333 step 5): the relay opens while the node reports BYPASSED (R330). -/
def closedPassed (n : Chan) (s : State) : State :=
  if reported s n = some .bypassed then seqStep n .relayOpen (sendPrecharge n false .sequence s)
  else modCon n (fun c => { c with seq := c.seq.map (fun q => { q with tries := 2 }) }) s

/-- Advance the running sequence of a channel by one step when its condition is met. `report` is the start of the window
of a CELLS report just taken, in ticks. -/
def seqAdvance (n : Chan) (report : Option Int) (s : State) : State :=
  match s.con[n].seq with
  | none => s
  | some q =>
    match q.step with
    | .waitBypass =>
      if reported s n ≠ some .bypassed || (s.con[n].state == .active && !s.insCh[n].held) then s
      else (match q.kind with
        | .connect _ => seqStep n .openTest s
        | .toBypass => endSeq n .ok (setCh n .bypass 0 q.host s)
        | _ =>
          let s := if s.con[n].state = .active then setCh n .bypass q.cause.toNat q.host s else s
          seqStep n .waitCurrent s)
    | .waitRelease =>
      if s.con[n].state = .quenched then s else seqStep n .waitBypass s
    | .openTest =>
      if !s.meas[n].hasReport || !apart s n then s
      else (match q.kind with
        | .restore => discEnd n s
        | _ => if reported s n ≠ some .bypassed then s else seqStep n .prechargeCmd (sendPrecharge n true .sequence s))
    | .precharging =>
      if report.isNone || !together s n then s
      else
        let ms := (s.tim.tb - q.since) / tMs
        if s.tim.tb - q.since < pNat s Prm.conPrechargeMin * tMs then prechargeFail n 1 ms s
        else if reported s n ≠ some .bypassed then s
        else seqStep n .closeCmd (sendContactor n true s)
    | .closedTest =>
      if contactor s n == some 3 then contactBad n 3 s
      else if q.tries = 2 then closedPassed n s
      else if q.tries = 0 then
        (if contactor s n == some 1 then
           seqStep n .closedTest (modCon n (fun c => { c with seq := c.seq.map (fun q => { q with tries := 1 }) }) s)
         else s)
      else if report.isSome && !together s n then contactBad n 2 s
      else s
    | .waitCurrent =>
      match report with
      | none => s
      | some w =>
        if currentLow s n w && reported s n = some .bypassed then seqStep n .openCmd (sendContactor n false s) else s
    | .openedTest =>
      if contactor s n == some 3 then contactBad n 3 s
      else if contactOpen s n && report.isSome && apart s n then
        (if relayClosed s n then seqStep n .relayOff (sendPrecharge n false .sequence s) else discEnd n s)
      else s
    | _ => s

/-- Advance while steps follow one another without an outside event. -/
def seqPoll (n : Chan) (report : Option Int) (s : State) : State :=
  seqAdvance n report (seqAdvance n report (seqAdvance n report s))

/-- The final REPLY of a CMD of the sequence, or its failure under 05 R149 (`result` none). -/
def seqReply (n : Chan) (result : Option Nat) (s : State) : State :=
  match s.con[n].seq with
  | none => s
  | some q =>
    let ok := result = some 0
    match q.step with
    | .prechargeCmd => if ok then seqStep n .precharging s else prechargeFail n 2 0 s
    | .closeCmd => if ok then seqStep n .closedTest s else contactBad n 3 s
    | .relayOpen =>
      let s := setCh n .bypass 0 true s
      if !ok then endSeq n .wrongState s
      else (match q.kind with
        | .connect true => (match gateStatus s n with
          | some st => endSeq n st s
          | none => seqStep n .release s)
        | _ => endSeq n .ok s)
    | .openCmd =>
      if ok then seqStep n .openedTest s
      else if result = none then contactBad n 3 s
      else if q.tries + 1 ≥ 4 then openFailed n s
      else seqStep n .openRetry (modCon n (fun c => { c with seq := c.seq.map (fun q => { q with tries := q.tries + 1 }) }) s)
    | .relayOff => discEnd n s
    | .dormantCmd =>
      if ok then
        let s := queueWrite (.learned n false) s
        let s := modCyc n (fun c => { c with dormantAt := (s.tim.station >>> 32).truncate 32 }) s
        endSeq n .ok (setCh n .dormant 0 true (modCon n (fun c => { c with darkSaid := false }) s))
      else endSeq n .wrongState s
    | _ => s

/-! ## Arm-trip request (R347, 08 R255, R256) -/

/-- ARM_TRIP_REQUEST. -/
def tripEvent (ended : Bool) (by_ : Byte) (packI : Int) (s : State) : State :=
  raise 0x8208 0xFFFF [ef 28 0 (bN (by_ == 0xFF)), ef 28 2 (bN ended), ef 29 0 by_.toNat, ef 32 0 (wrapI 32 packI)] s

/-- Assert the request: only by a master (R256). -/
def assertTrip (by_ : Byte) (packI : Int) (s : State) : State :=
  if !isMaster s || s.qm.tripreq then s
  else
    let s := { s with qm := { s.qm with tripreq := true, tripreqAt := s.tim.tb, tripBy := by_ } }
    tripEvent false by_ packI s

/-- A cause of the request is present. -/
def tripCause (s : State) : Bool := s.qm.tripA1 ≠ 0 || s.qm.tripA2

/-- The request ends when no cause is present. -/
def endTrip (s : State) : State :=
  if s.qm.tripreq && !tripCause s then
    let by_ := s.qm.tripBy
    let i := if by_.toNat < 64 then s.meas[(Fin.ofNat 64 by_.toNat)].packI else 0
    tripEvent true by_ i { s with qm := { s.qm with tripreq := false } }
  else s

/-- Release the request once it has stood 100 ms and no cause is present. -/
def releaseTrip (s : State) : State := if s.tim.tb - s.qm.tripreqAt ≥ 100 * tMs then endTrip s else s

/-- A channel whose bypass has to be achieved: a protective hold, a disconnection, a fence or a retirement, with the
contactor not confirmed open. -/
def mustBypass (s : State) (n : Chan) : Bool :=
  let c := s.con[n]
  let disc : Bool := match c.seq with
    | some q => (match q.kind with
      | .disconnect | .dormant | .retire => true
      | _ => false)
    | none => false
  (c.protective || disc || c.state = .fenced || c.state = .retired) && !contactOpen s n

/-- Arm-trip condition A1 on a CELLS report whose window starts at `w` (R347). -/
def checkA1 (n : Chan) (w : Int) (s : State) : State :=
  let bit := 1#64 <<< n.val
  let big := s.meas[n].packI.natAbs > pNat s Prm.conOpenImax
  let late := match s.con[n].holdSent with
    | some t => w ≥ (t.toNat + pNat s Prm.conBypassTimeout * tUs : Nat)
    | none => false
  if isMaster s && mustBypass s n && big && late then
    let s := { s with qm := { s.qm with tripA1 := s.qm.tripA1 ||| bit } }
    causeOn n 16 (assertTrip (BitVec.ofNat 8 n.val) s.meas[n].packI s)
  else if s.qm.tripA1.getLsbD n.val && (!big || !mustBypass s n) then
    let s := { s with qm := { s.qm with tripA1 := s.qm.tripA1 &&& ~~~bit } }
    releaseTrip (causeOff n 16 s)
  else s

end Sys2Proof.Machine
end

