-- ==== Sys2Proof/Machine/Quench.lean ====
section
/-! DEFINITION. The quench matrix (08 R243 to R254): its inputs, latching, the effect on channels, the trip broadcast that
follows (16 R463), and release. -/

namespace Sys2Proof.Machine

/-! ## Inputs -/

/-- A used trip input (R246). -/
def tripUsed (s : State) (i : TripIn) : Bool := pNat s (Prm.insTripMap + i.val) ≠ 0

/-- In demand by R247. -/
def inDemand (t : TripSt) : Bool := t.demand || t.wiring || t.chatter

/-- Used inputs in demand, as a mask. -/
def tripsInDemand (s : State) : Nat :=
  maskOf 8 (fun i => tripUsed s (Fin.ofNat 8 i) && inDemand s.qm.trips[(Fin.ofNat 8 i : TripIn)])

/-- A trip input acts on a group: in demand, mapped, and not held by blanking (R246 to R248). -/
def tripActs (s : State) (i : TripIn) (g : Group) : Bool :=
  let t := s.qm.trips[i]
  inDemand t && (pNat s (Prm.insTripMap + i.val)).testBit g.val && !t.blanked.getLsbD g.val

/-- A trip input is present for release: in demand, and for 10 ms after (R247). -/
def tripHolds (s : State) (i : TripIn) (g : Group) : Bool :=
  let t := s.qm.trips[i]
  (inDemand t || t.lately) && (pNat s (Prm.insTripMap + i.val)).testBit g.val

/-- Configuration byte of a remote temperature input (13 *Remote input configuration object*). -/
def tsCfg (s : State) (i : TempIn) (off len : Nat) : List Byte := slice (valueIn s.cfg.eff (Prm.thmTs + i.val)) off len

/-- SCOPE of a remote temperature input. -/
def tsScope (s : State) (i : TempIn) : Nat := ofLe (tsCfg s i 2 1)

/-- Groups the crucible requests (13 R397). -/
def crucibleMask (s : State) : Nat :=
  ((List.finRange 16).foldl (fun a (i : TempIn) =>
    if s.thm.ts[i].trip || s.thm.ts[i].faultTrip then a ||| tsScope s i else a) 0) &&& pNat s Prm.insThmMap

/-- Groups of the firmware request (R253, R254; 17 R488). -/
def firmwareMask (s : State) : Nat :=
  (if s.qm.fwSilence then pNat s Prm.insSilenceMap else 0) ||| (if s.qm.fwHalt then pNat s Prm.insHaltMap else 0) |||
    (if s.qm.fwSafe then 0xFF else 0)

/-- Groups of the safety supervisor request. -/
def safetyMask (s : State) : Nat := if s.qm.safety then pNat s Prm.insSafMap else 0

/-- A port whose tone calls for a quench: armed, FAULT or LOST (R107). -/
def toneCalls (s : State) (p : Chan) : Bool := armed s p && (s.ports[p].tone == .fault || s.ports[p].tone == .lost)

/-- Ports of a group whose tone calls for a quench. -/
def tonePorts (s : State) (g : Group) : List Chan := (groupChans s g).filter (toneCalls s)

/-- What calls for the quench of a group now. -/
def callsFor (s : State) (g : Group) : QCause :=
  let ps := tonePorts s g
  let acting := (List.finRange 8).filter (fun i => tripActs s i g)
  { trip := !acting.isEmpty
    tone := !ps.isEmpty
    hardware := !s.qm.hw.isEmpty
    safety := (safetyMask s).testBit g.val
    crucible := (crucibleMask s).testBit g.val
    bus := false
    firmware := (firmwareMask s).testBit g.val
    trips := BitVec.ofNat 8 (tripsInDemand s)
    hwCause := s.qm.hw.headD 0
    ports := BitVec.ofNat 64 (maskOf 64 (fun i => ps.any (fun p => p.val = i))) }

/-- Some input calls. -/
def QCause.any (c : QCause) : Bool := c.trip || c.tone || c.hardware || c.safety || c.crucible || c.bus || c.firmware

/-- Cause bits of QUENCH byte 29 and of a class 0 frame. -/
def QCause.bits (c : QCause) : Nat :=
  bN c.trip + 2 * bN c.tone + 4 * bN c.hardware + 8 * bN c.safety + 16 * bN c.crucible + 32 * bN c.bus + 64 * bN c.firmware

/-- Causes of two groups quenched together. -/
def QCause.join (a b : QCause) : QCause :=
  { trip := a.trip || b.trip, tone := a.tone || b.tone, hardware := a.hardware || b.hardware, safety := a.safety || b.safety
    crucible := a.crucible || b.crucible, bus := a.bus || b.bus, firmware := a.firmware || b.firmware
    trips := a.trips ||| b.trips, hwCause := if a.hwCause = 0 then b.hwCause else a.hwCause, ports := a.ports ||| b.ports }

/-- A cause is present for release (R252): a tone only while FAULT, a trip input for 10 ms after its demand. -/
def presentFor (s : State) (g : Group) : Bool :=
  (List.finRange 8).any (fun i => tripHolds s i g) ||
    (groupChans s g).any (fun p => armed s p && s.ports[p].tone == .fault) ||
    !s.qm.hw.isEmpty || (safetyMask s).testBit g.val || (crucibleMask s).testBit g.val || (firmwareMask s).testBit g.val

/-! ## Trip broadcast (16 R460, R463) -/

/-- A bus is in BUS_ENABLE. -/
def busEnabled (s : State) (b : BusId) : Bool := (pNat s Prm.busEnable).testBit b.val

/-- The bus can send: enabled, in normal mode, and its controller is on the bus (R459, R466, R474). -/
def busSends (s : State) (b : BusId) : Bool :=
  let x := s.bus.one[b]
  busEnabled s b && x.mode = 0 && (x.state == .errorActive || x.state == .errorPassive) && !s.bus.clash

/-- Put a class 0 frame into the queue of a bus (R460). -/
def queueTrip (b : BusId) (f : Trip0) (s : State) : State :=
  modBus b (fun x =>
    if x.class0.length < 8 then { x with class0 := x.class0 ++ [f] }
    else
      let rev := x.class0.reverse
      match rev.findIdx? (fun q => q.zone = f.zone) with
      | some k =>
        { x with class0 := (rev.modify k (fun q => { q with groups := q.groups ||| f.groups, causes := q.causes ||| f.causes })).reverse }
      | none => { x with class0 := x.class0.drop 1 ++ [f], tripTxLost := x.tripTxLost + 1 }) s

/-- Zone of a group; none when it has none. -/
def zoneOf (s : State) (g : Group) : Option Nat :=
  let z := pNat s (Prm.busTripTxZone + g.val)
  if z ≤ 63 then some z else none

/-- Class 0 frames of a quench of `mask` (R463): one per distinct zone, on every enabled bus. -/
def broadcastTrip (mask : Byte) (c : QCause) (s : State) : State :=
  let sendable := (c.bits &&& pNat s Prm.busTripTxCauses) &&& 0x5F
  if !isMaster s || sendable = 0 then s
  else
    let gs := finsOf 8 (fun g => mask.getLsbD g.val)
    let zones := (gs.filterMap (zoneOf s)).eraseDups
    forEach zones (fun z s =>
      let s := { s with bus := { s.bus with tripCount := s.bus.tripCount + 1 } }
      let buses := finsOf 2 (fun b => busEnabled s b)
      let out := buses.filter (fun b => busSends s b)
      let f : Trip0 := { zone := z, groups := BitVec.ofNat 8 (maskOf 8 (fun g => gs.any (fun x => x.val = g && zoneOf s x = some z))),
                         causes := BitVec.ofNat 8 c.bits, count := s.bus.tripCount, at_ := s.tim.tb,
                         mask := BitVec.ofNat 2 (maskOf 2 (fun b => out.any (fun x => x.val = b))) }
      forEach buses (fun b s => queueTrip b f s) s) s

/-! ## Latching (R244, R245, R338) -/

/-- The sequence connects the channel or holds it for the host. -/
def connects (q : ConSeq) : Bool :=
  match q.kind with
  | .connect _ | .toBypass => true
  | _ => false

/-- A channel whose group is quenched (R338): PRECHARGE, CONNECTED-BYPASS and ACTIVE become QUENCHED; a connection in
progress is abandoned. Its node takes its safe state (R237). -/
def quenchChan (n : Chan) (s : State) : State :=
  let old := s.con[n].state
  let s := if running s n then modIns n (fun x => { x with awaitSafe := true, noRecord := false }) s else s
  if old = .precharge || old = .bypass || old = .active then
    let connecting := s.con[n].seq.any connects
    let inter := s.con[n].seq.any (fun q => q.step == .precharging)
    let s := if inter && connecting then prechargeEvent n 3 ((s.tim.tb - ((s.con[n].seq.map (·.since)).getD s.tim.tb)) / tMs) s else s
    let s := modCon n (fun c => { c with wasActive := old == .active, gap := false, rest := false, assayRest := false }) s
    let s := setCh n .quenched 0 false s
    let s := if connecting then endSeq n .wrongState s else s
    if s.con[n].seq.isSome && !quenchBypass s n then seqStep n .waitRelease s else s
  else s

/-- Latch the groups of `mask` under causes `c`: QUENCH, the L0 record of each group for a hardware reaction (17 R483), the
broadcast, and the channels. A standby records and reports (R245). -/
def latch (mask : Byte) (c : QCause) (s : State) : State :=
  let gs := finsOf 8 (fun g => mask.getLsbD g.val)
  let s := { s with qm := { s.qm with
    latched := s.qm.latched ||| mask
    quenches := s.qm.quenches + BitVec.ofNat 32 gs.length
    causes := gs.foldl (fun v g => vmod v g (fun _ => c)) s.qm.causes } }
  let s := raise 0x8301 mask.toNat [ef 28 0 mask.toNat, ef 29 0 c.bits, ef 29 7 (bN (!isMaster s)), ef 30 0 c.trips.toNat,
    ef 31 0 c.hwCause.toNat, ef 32 0 c.ports.toNat] s
  if !isMaster s then s
  else
    let origin := (lastSeq s).toNat
    let s := if c.tone || c.hardware || c.crucible then forEach gs (fun g s => openL0 g.val origin s) s else s
    let s := broadcastTrip mask c s
    forEach gs (fun g s => forEach (groupChans s g) quenchChan s) s

/-- Evaluate the matrix: every group that some input calls for and that is not latched is quenched (R244, R250). -/
def evalMatrix (s : State) : State :=
  let new := finsOf 8 (fun g => !quenched s g && (callsFor s g).any)
  if new.isEmpty then s
  else
    let c := new.foldl (fun a g => a.join (callsFor s g)) ({} : QCause)
    latch (BitVec.ofNat 8 (maskOf 8 (fun i => new.any (fun g => g.val = i)))) c s

/-- The bus trip request on groups `mask` (16 R464): the groups it newly quenches. -/
def busTrip (mask : Byte) (s : State) : Byte × State :=
  let new := mask &&& ~~~s.qm.latched
  if new = 0 then (0, s) else (new, latch new { bus := true, trips := BitVec.ofNat 8 (tripsInDemand s) } s)

/-! ## Release (R252, R339) -/

/-- A channel of a released group passes to the state its node's STAT gives (R339). -/
def releaseChan (n : Chan) (s : State) : State :=
  if s.con[n].state != .quenched then s
  else
    let was := s.con[n].wasActive
    let busy := s.con[n].seq.isSome
    match contactor s n with
    | some 1 =>
      if was && !busy && pNat s Prm.conResume = 1 && gateStatus s n = none then setCh n .active 0 false s
      else seqPoll n none (setCh n .bypass 0 false s)
    | some 0 => if busy then seqPoll n none (setCh n .bypass 0 false s) else placeByStat n 0 false s
    | _ => causeOn n 15 s

/-- Release the groups of `mask` that are quenched and have no cause present (R252): the released mask. -/
def releaseGroups (mask : Byte) (s : State) : Byte × State :=
  let gs := finsOf 8 (fun g => mask.getLsbD g.val && quenched s g && !presentFor s g)
  let m : Byte := BitVec.ofNat 8 (maskOf 8 (fun i => gs.any (fun g => g.val = i)))
  let s := { s with qm := { s.qm with latched := s.qm.latched &&& ~~~m,
                                      causes := gs.foldl (fun v g => vmod v g (fun _ => {})) s.qm.causes } }
  let s := forEach gs (fun g s => match findFault s 0x0310 g.val with
    | some r => closeFault r 0 s
    | none => s) s
  let s := if gs.isEmpty then s else raise 0x8302 m.toNat [ef 28 0 m.toNat] s
  (m, forEach gs (fun g s => forEach (groupChans s g) releaseChan s) s)

/-! ## Hardware faults and lanes (R249 to R251) -/

/-- A hardware fault is presented to the matrix: all groups, and its L3 fault in the handler (17 *Fault causes*). The event
that reports it is the QUENCH it causes. -/
def hwFault (cause : Nat) (subject : Nat) (s : State) : State :=
  let c : Byte := BitVec.ofNat 8 cause
  let s := { s with qm := { s.qm with hw := if s.qm.hw.contains c then s.qm.hw else s.qm.hw ++ [c] } }
  let t := evalMatrix s
  raiseFault (0x0301 + cause) subject 3 true (if t.qm.quenches = s.qm.quenches then noId else s.ev.seq.toNat) t

/-- TRIP_INPUT_FAULT (R247). -/
def tripFaultEvent (i : TripIn) (kind : Nat) (ended : Bool) (s : State) : State :=
  raise 0x8304 i.val [ef 28 0 i.val, ef 29 0 kind, ef 29 2 (bN ended)] s

end Sys2Proof.Machine
end

