-- ==== Sys2Proof/Machine/Decisions.lean ====
section
/-! DEFINITION. When the causes of *Module decisions* are present and when they clear (11 R340, R341, R344; 06 R189),
judged on the module's own tables. -/

namespace Sys2Proof.Machine

/-- Cell of a channel that a limit condition finds. -/
def cellWhere (s : State) (n : Chan) (p : CellSt → Bool) : Option Nat :=
  ((validCells s n).find? (fun c => p c.2)).map (·.1)

/-- Deep discharge (cause 0x03): a cell at or below CON_UV_RETIRE. R341: not while the tone is laid to an open wire. -/
def deepCell (s : State) (n : Chan) : Option Nat :=
  if s.meas[n].toneByWire then none else cellWhere s n (fun c => lowOf c ≤ pNat s Prm.conUvRetire)

/-- Every cell at or below ASY_VMAX. -/
def cellsBelow (s : State) (n : Chan) : Bool :=
  allCellsValid s n && (validCells s n).all (fun c => highOf c.2 ≤ pNat s Prm.asyVmax)

/-- Every cell at or above ASY_VSD. -/
def cellsAbove (s : State) (n : Chan) : Bool :=
  allCellsValid s n && (validCells s n).all (fun c => lowOf c.2 ≥ pNat s Prm.asyVsd)

/-- A sensor at or above CON_T_DISCONNECT. -/
def hotSensor (s : State) (n : Chan) : Option Nat :=
  ((validTemps s n).find? (fun t => t.2 ≥ pInt s Prm.conTDisconnect)).map (·.1)

/-- Every sensor at or below CON_T_DISCONNECT − 10 K, and no request of the crucible. -/
def cooled (s : State) (n : Chan) : Bool :=
  (validTemps s n).all (fun t => t.2 ≤ pInt s Prm.conTDisconnect - 100) && s.thmCh[n].ror.isNone

/-- First cell with PLAUS; 0xFFFF for the stack sum. -/
def plausCell (s : State) (n : Chan) : Nat :=
  ((List.range (cellCount s n)).find? (fun i => (cellAt s n i).plaus)).getD 0xFFFF

/-- Causes 0x01 to 0x03 after a change of the cell table. -/
def judgeCells (n : Chan) (s : State) : State :=
  let s := match deepCell s n with
    | some i => causeOnAt n 3 i s
    | none => s
  let s := if cellsBelow s n then causeOff n 1 s else s
  if cellsAbove s n then causeOff n 2 s else s

/-- Cause 0x04 after a change of the temperature table or of the crucible's request. -/
def judgeTemps (n : Chan) (s : State) : State :=
  match hotSensor s n, s.thmCh[n].ror with
  | some t, _ => causeOnAt n 4 t s
  | none, some r => causeOnAt n 4 r.2 s
  | none, none => if cooled s n then causeOff n 4 s else s

/-- Cause 0x05 after a change of PLAUS or of the stack sum. -/
def judgePlaus (n : Chan) (s : State) : State :=
  if plausPresent s n then causeOnAt n 5 (plausCell s n) s else causeOff n 5 s

/-- Cause 0x06 after a change of the confirmed open wires. -/
def judgeWires (n : Chan) (s : State) : State :=
  match s.meas[n].openWires with
  | [] => causeOff n 6 s
  | w :: _ => causeOnAt n 6 w.wire s

/-- Cause 0x07. -/
def judgeAuth (n : Chan) (s : State) : State :=
  if s.cyc[n].authOk then causeOff n 7 s
  else if pBool s Prm.asyTmRequire && s.cyc[n].authBad then causeOn n 7 s else s

/-- Tone causes of a cause character (04 */TF/ cause character*). -/
def toneOv (c : Byte) : Bool := c.getLsbD 0
def toneUv (c : Byte) : Bool := c.getLsbD 1
def toneOc (c : Byte) : Bool := c.getLsbD 2
def toneDesat (c : Byte) : Bool := c.getLsbD 3
def toneNode (c : Byte) : Bool := c.getLsbD 4 || c.getLsbD 5 || c == 0

/-- The disconnection that an OV or UV tone calls for while an open wire is recorded as its cause (R341). -/
def wireTone (n : Chan) (s : State) : State := decideDisconnect n 6 true (judgeWires n s)

/-- A second DESAT within 24 h retires the channel under cause 0x09 (R344). -/
def desat (n : Chan) (s : State) : State :=
  let s := addCount n 0x89 s
  if countOf s n 0x89 ≥ 2 && strength s n < 4 then
    let s := if hasCause s n 9 then s
      else modCon n (fun x => { x with present := x.present ||| causeBit 9 }) (addCount n 9 s)
    let s := modCon n (fun c => { c with retireCause := 9, retireByCount := true }) s
    markDirty n (raiseFault 0x0281 n.val 1 true (lastSeq s).toNat s)
  else s

/-- The causes that a fault tone brings (R340). -/
def toneCauses (n : Chan) (c : Byte) (s : State) : State :=
  if !isMaster s || !populated s n then s
  else
    let wired := !s.meas[n].openWires.isEmpty && (toneOv c || toneUv c)
    let s := if wired then wireTone n (modMeas n (fun m => { m with toneByWire := true }) s) else s
    let s := if toneOv c && !wired then causeOn n 1 s else s
    let s := if toneUv c && !wired then causeOn n 2 s else s
    let s := if toneDesat c then desat n s else s
    let s := if toneOc c || toneDesat c then causeOn n 9 s else s
    if toneNode c then causeOn n 10 s else s

/-- Forget the newest count of a cause. -/
def uncount (n : Chan) (cause : Nat) (s : State) : State :=
  modCon n (fun c => { c with counts := (c.counts.takeWhile (fun k => k.1.toNat ≠ cause)) ++
    (c.counts.dropWhile (fun k => k.1.toNat ≠ cause)).drop 1 }) s

/-- An open wire has been confirmed within 10 s of a comparator tone: it is recorded as the tone's cause, and what the tone
has set going goes on under cause 0x06 (R189, R341). -/
def layToWire (n : Chan) (s : State) : State :=
  match s.meas[n].toneAt with
  | none => s
  | some t =>
    if s.tim.tb - t > 10 * tSec || s.meas[n].toneByWire then s
    else
      let s := modMeas n (fun m => { m with toneByWire := true }) s
      let move (k : Nat) (s : State) : State :=
        if !hasCause s n k then s
        else
          let s := modCon n (fun c => { c with
            present := c.present &&& ~~~(causeBit k)
            cause := if c.cause.toNat = k then 6 else c.cause
            seq := c.seq.map (fun q => { q with cause := if q.cause.toNat = k then 6 else q.cause }) }) s
          uncount n k s
      move 1 (move 2 s)

/-- The tone has returned to HEALTHY on a RUNNING port: causes 0x09, 0x0A and 0x0B clear (R340). -/
def toneHealed (n : Chan) (s : State) : State :=
  let s := modMeas n (fun m => { m with toneByWire := false }) s
  let s := causeOff n 10 (causeOff n 9 s)
  if running s n then causeOff n 11 s else s

/-- Cause 0x0F clears when an open or closed test passes (R332): the reported contact and the voltages agree. -/
def judgeContact (n : Chan) (s : State) : State :=
  if hasCause s n 15 && s.meas[n].hasReport &&
      ((contactor s n == some 0 && apart s n) || (contactor s n == some 1 && together s n)) then causeOff n 15 s else s

/-- Every cause that the module's own tables show (12 R372). -/
def judgeAll (n : Chan) (s : State) : State :=
  let s := judgeWires n (judgePlaus n (judgeTemps n (judgeCells n s)))
  let s := judgeAuth n s
  let s := if s.ports[n].tone == .fault then toneCauses n s.ports[n].tfCause s else s
  if populated s n && s.con[n].state != .dormant && s.ports[n].tone == .lost && s.ports[n].settled then causeOn n 11 s else s

end Sys2Proof.Machine
end

