-- ==== Sys2Proof/Machine/Frames.lean ====
section
/-! DEFINITION. The frame layer of a port as frames arrive (05 R130 to R135): SEQ, ACK, RESEND, the reliable stream and its
reset; and the set-up CMDs of a port (06 R159, R160). -/

namespace Sys2Proof.Machine

/-- A valid frame can arrive: the port is populated and its receiver is locked onto the node. -/
def receiving (s : State) (p : Chan) : Bool :=
  populated s p && (match s.ports[p].state with
    | .tone | .ranging | .exchange | .running | .unpartnered | .crossWired | .refused => true
    | _ => false)

/-- `a` is newer than `b` modulo 256 within a half-space of 128 (R130). -/
def newer8 (a b : Byte) : Bool := a ≠ b && (a - b).toNat < 128

/-- Frames missing by SEQ between two received ones. -/
def seqMissing (last now : Half) : Nat :=
  let d := (now - last - 1).toNat
  if d < 2 ^ 15 then d else 0

/-- Retransmit the unacknowledged frames newer than an ACK (R132, R133). -/
def retransmit (ack : Byte) (x : TxnSt) : TxnSt :=
  let k := (x.unacked.filter (fun f => newer8 f.rcnt ack)).length
  { x with retxSent := x.retxSent + BitVec.ofNat 32 k, seqTx := x.seqTx + BitVec.ofNat 16 k,
           resend := if k = 0 then x.resend else false }

/-- Take the ACK of a frame: the frames that it covers are released and the window opens (R132). -/
def takeAck (ack : Byte) (now : Nat) (x : TxnSt) : TxnSt :=
  if newer8 ack x.rcntTx then x
  else
    let left := x.unacked.filter (fun f => newer8 f.rcnt ack)
    let moved := left.length < x.unacked.length
    let x := { x with unacked := left, tries := if moved then 0 else x.tries, oldestAt := if moved then now else x.oldestAt }
    drainWaiting now x.waiting.length x

/-- Take RESEND (R132): a further one with the same ACK within 200 µs is ignored. -/
def takeResend (ack : Byte) (now : Nat) (x : TxnSt) : TxnSt :=
  let again := match x.goBack with
    | some g => g.1 == ack && now - g.2 < 200 * tUs
    | none => false
  if again then x else { retransmit ack x with goBack := some (ack, now) }

/-- Place a reliable frame in the stream (R131): accepted, or discarded as a duplicate or out of order. -/
def takeRcnt (rcnt : Byte) (x : TxnSt) : Bool × TxnSt :=
  if rcnt = x.rcntRx + 1 then (true, { x with rcntRx := rcnt })
  else if newer8 rcnt x.rcntRx then (false, { x with resend := true })
  else (false, x)

/-- The header of a valid frame (R130 to R134): whether the frame is taken, and the state. While a stream reset runs, a
frame without SRESET belongs to the old stream: its counts are not used, and no reliable one is taken. -/
def acceptHdr (p : Chan) (h : FrameHdr) (reliable : Bool) (s : State) : Bool × State :=
  let now := s.tim.tb
  let s := modTxn p (fun x => { x with
    framesRx := x.framesRx + 1
    seqGaps := x.seqGaps + BitVec.ofNat 32 ((x.seqRx.map (fun q => seqMissing q h.seq)).getD 0)
    seqRx := some h.seq }) s
  if s.txns[p].sreset && !h.sreset then (!reliable, s)
  else
    let s := if s.txns[p].sreset then streamResumed p s else s
    let s := modTxn p (takeAck h.ack now) s
    let s := if h.resend then modTxn p (takeResend h.ack now) s else s
    let s := modIns p (fun x => { x with abortWait := x.abortWait && abortOut s.txns[p] }) s
    if reliable then
      let r := takeRcnt h.rcnt s.txns[p]
      (r.1, modTxn p (fun _ => r.2) s)
    else (true, if newer8 h.rcnt s.txns[p].rcntRx then modTxn p (fun x => { x with resend := true }) s else s)

/-! ## Set-up of a node (06 R159, R160; 13 R389) -/

/-- Temperature divisor in force for a channel (13 R389). -/
def divisorOf (s : State) (n : Chan) : Nat :=
  if s.thmCh[n].fast then max 1 (pNat s Prm.thmFastMs * 100 / max 1 (pNat s Prm.asyReportInterval))
  else pNat s Prm.asyTempDivisor

/-- Carrier period that SET_AVERAGING conveys: the one in force, or the one that the next reload applies (R165). -/
def conveyedCarrier (s : State) : Nat := tNat s.cfg.stored Prm.insCarrierPeriod

/-- ARGS of set-up CMD `k`, 1 to 5 (05 *Node command set*). A channel where measure under balance is not effective runs in
suspend mode (R180). -/
def setupArgs (s : State) (n : Chan) (k : Nat) : List Byte :=
  match k with
  | 1 => (if pNat s Prm.asyAvgMode = 1 then leBytes 2 (0x8000 + pNat s Prm.asyAvgPeriods) else leBytes 2 (pNat s Prm.asyAvgSamples))
      ++ leBytes 4 (conveyedCarrier s)
  | 2 => leBytes 2 (pNat s Prm.asyReportInterval) ++ leBytes 1 (divisorOf s n) ++ leBytes 2 (pNat s Prm.asyTouchInterval)
  | 3 => leBytes 2 (pNat s Prm.asyOvThresh) ++ leBytes 2 (pNat s Prm.asyUvThresh) ++ leBytes 2 (pNat s Prm.asyCmpFilter) ++
      leBytes 4 (pNat s Prm.asyOcThresh) ++ leBytes 2 (pNat s Prm.asyOcFilter)
  | 4 => leBytes 4 (pNat s Prm.asyEdgePre) ++ leBytes 4 (pNat s Prm.asyEdgePost1) ++ leBytes 4 (pNat s Prm.asyEdgePost2) ++
      leBytes 4 (pNat s Prm.asyEdgePost3)
  | _ => leBytes 32 s.asyCh[n].bleedWant.toNat ++ leBytes 1 (bN (mubEffective s n)) ++ leBytes 2 (pNat s Prm.asyBalLead)

/-- Send set-up CMD `k`; the divisor that SET_REPORTING carries is the one last sent. -/
def sendSetup (n : Chan) (k : Nat) (p : CmdPurpose) (s : State) : State :=
  let s := if k = 2 then modThm n (fun t => { t with divisor := divisorOf s n }) s else s
  sendCmd n k (setupArgs s n k) p s

/-- The five set-up CMDs after a capability exchange, in order (R159): only a master sends CMDs (02 R43). -/
def sendSetups (n : Chan) (s : State) : State :=
  if !isMaster s then s
  else forEach [1, 2, 3, 4, 5] (fun k s => sendSetup n k (.setup k) s) (modMeas n (fun m => { m with setupLeft := 5 }) s)

end Sys2Proof.Machine
end

