-- ==== Sys2Proof/Machine/CellModel.lean ====
section
/-! DEFINITION. The cell model (09 R264), the temperature and capacity of a group (09 R262, R265), its impedance values
(10 R289, R298) and the curves read from them. Voltages are in V, currents in A, resistances in Ω, times in s, charges in
Ah, states of charge as fractions. -/

namespace Sys2Proof.Machine

/-! ## The record -/

/-- The cell model in force; empty when none is. -/
def cellModel (s : State) : List Byte := valueIn s.cfg.eff Prm.asyCellModel

def mU16 (m : List Byte) (off : Nat) : Nat := ofLe (slice m off 2)
def mI16 (m : List Byte) (off : Nat) : Int := ofLeI (slice m off 2)
def mU32 (m : List Byte) (off : Nat) : Nat := ofLe (slice m off 4)

/-- Temperature grid, 0.1 °C. -/
def mTemp (m : List Byte) (t : Nat) : Rat := mI16 m (4 + 2 * t)
/-- Rate grid, C. -/
def mRate (m : List Byte) (r : Nat) : Rat := (mU16 m (20 + 2 * r) : Rat) / 100
/-- CAP_NOM, Ah. -/
def capNom (m : List Byte) : Rat := (mU32 m 36 : Rat) / 100
/-- R_REF at a grid temperature, Ω. -/
def mRref (m : List Byte) (t : Nat) : Rat := (mU32 m (40 + 4 * t) : Rat) / 1000000
/-- OCV_CHG or OCV_DIS at a grid temperature and percent, V. -/
def mOcv (m : List Byte) (chg : Bool) (t k : Nat) : Rat :=
  (mU16 m ((if chg then 72 else 1688) + 2 * (101 * t + k)) : Rat) / 10000
/-- EMPTY at a grid temperature and rate, fraction. -/
def mEmpty (m : List Byte) (t r : Nat) : Rat := (mU16 m (3304 + 2 * (8 * t + r)) : Rat) / 10000
/-- ICAP at a grid temperature, entry 0 to 5, A. -/
def mIcap (m : List Byte) (t k : Nat) : Rat := (mU32 m (3432 + 4 * (6 * t + k)) : Rat) / 10

/-! ## Interpolation: linear, clamped at the ends of a grid -/

/-- Position of `x` on a grid of `n` ascending points: the lower point and the fraction toward the next. -/
def gridPos (grid : Nat → Rat) (n : Nat) (x : Rat) : Nat × Rat :=
  if n < 2 || x ≤ grid 0 then (0, 0)
  else if x ≥ grid (n - 1) then (n - 2, 1)
  else
    let k := ((List.range (n - 1)).filter (fun k => grid k ≤ x)).getLastD 0
    (k, if grid (k + 1) = grid k then 0 else (x - grid k) / (grid (k + 1) - grid k))

/-- A table read at a position. -/
def lerp (f : Nat → Rat) (p : Nat × Rat) : Rat := f p.1 + (f (p.1 + 1) - f p.1) * p.2

/-- Position on the temperature grid. -/
def tempPos (m : List Byte) (t : Rat) : Nat × Rat := gridPos (mTemp m) 8 t

/-- R_REF(T). -/
def rRef (m : List Byte) (t : Rat) : Rat := lerp (mRref m) (tempPos m t)

/-- A point of an OCV curve at T. -/
def ocvPoint (m : List Byte) (chg : Bool) (t : Rat) (k : Nat) : Rat := lerp (fun i => mOcv m chg i k) (tempPos m t)

/-- A curve of 101 points over 0 to 1. -/
def curveAt (c : Nat → Rat) (z : Rat) : Rat := lerp c (gridPos (fun k => (k : Rat) / 100) 101 z)

/-- OCV on a branch. -/
def ocv (m : List Byte) (chg : Bool) (t z : Rat) : Rat := curveAt (ocvPoint m chg t) z

/-- Inverse of a non-decreasing curve: the middle of the range where it is flat (R273). -/
def curveInv (c : Nat → Rat) (v : Rat) : Rat :=
  let lo : Rat := match (List.range 101).find? (fun k => c k ≥ v) with
    | none => 1
    | some 0 => 0
    | some (k + 1) => ((k : Rat) + (v - c k) / (c (k + 1) - c k)) / 100
  let hi : Rat := match ((List.range 101).filter (fun k => c k ≤ v)).getLast? with
    | none => 0
    | some k => if k ≥ 100 then 1 else ((k : Rat) + (v - c k) / (c (k + 1) - c k)) / 100
  (lo + hi) / 2

/-- EMPTY(T, r). -/
def emptyAt (m : List Byte) (t r : Rat) : Rat :=
  let q := gridPos (mRate m) 8 r
  lerp (fun i => lerp (fun k => mEmpty m i k) q) (tempPos m t)

/-- ICAP at T. -/
def icapAt (m : List Byte) (t : Rat) (k : Nat) : Rat := lerp (fun i => mIcap m i k) (tempPos m t)

/-! ## Groups -/

/-- A cell group. -/
def grpAt (s : State) (n : Chan) (i : Nat) : GrpSt := tabGet {} s.asyCh[n].grps i

/-- Update a cell group. -/
def modGrp (n : Chan) (i : Nat) (f : GrpSt → GrpSt) (s : State) : State :=
  modAsy n (fun a => { a with grps := tabPut {} a.grps i (f (tabGet {} a.grps i)) }) s

/-- Populated groups of a channel. -/
def groupsOf (s : State) (n : Chan) : List Nat := List.range (cellCount s n)

/-- C(i) in Ah: learned, or CAP_NOM (R262). -/
def capOf (s : State) (n : Chan) (i : Nat) : Rat := (grpAt s n i).cap.getD (capNom (cellModel s))

/-- u_C, fraction: given with a learned capacity, else ASY_UNC_CAP; while UNVERIFIED at least ASY_UNC_CAP (R270, R323). -/
def ucOf (s : State) (n : Chan) (i : Nat) : Rat :=
  let g := grpAt s n i
  let p : Rat := (pNat s Prm.asyUncCap : Rat) / 10000
  if g.cap.isNone then p else if g.unverified then max g.uc p else g.uc

/-- A sensor that counts: valid and not STALE. -/
def sensorOk (s : State) (n : Chan) (t : Nat) : Bool := (tempAt s n t).valid && !(tempAt s n t).stale

/-- Distance of two numbers. -/
def apartN (a b : Nat) : Nat := if a < b then b - a else a - b

/-- The two usable sensors nearest to `k`, the lower number first where two are equally near. -/
def nearestTwo (s : State) (n : Chan) (k : Nat) : List Nat :=
  let ok := (List.range (tempCount s n)).filter (sensorOk s n)
  let pick (l : List Nat) : Option Nat := l.foldl (fun a x => match a with
    | none => some x
    | some y => if apartN x k < apartN y k then some x else some y) none
  match pick ok with
  | none => []
  | some a => match pick (ok.filter (· ≠ a)) with
    | none => [a]
    | some b => [a, b]

/-- Temperature of a group, 0.1 °C, and whether it is the node's own for want of a sensor (R265). None when not even
that is known. -/
def groupTemp (s : State) (n : Chan) (i : Nat) : Option (Rat × Bool) :=
  let k := i * tempCount s n / max 1 (cellCount s n)
  if tempCount s n ≠ 0 && sensorOk s n k then some ((tempAt s n k).temp.toInt, false)
  else match nearestTwo s n k with
    | a :: rest => some (rest.foldl (fun v b => min v ((tempAt s n b).temp.toInt : Rat)) (tempAt s n a).temp.toInt, false)
    | [] => s.txns[n].stat.map (fun x => ((x.nodeTemp.toInt : Rat), true))

/-! ## Impedance (10 R289, R298) -/

/-- Values in use for a group, in Ω and s. -/
structure Imp where
  rOhm : Rat
  rCt1 : Rat
  tau1 : Rat
  rCt2 : Rat
  tau2 : Rat
  fast : Bool
  slow : Bool
deriving DecidableEq, Repr, Inhabited

/-- Temperature index of a bin: the nearest grid point, the lower one on a tie. -/
def tempIndex (m : List Byte) (t : Rat) : Nat :=
  let d (k : Nat) : Rat := if mTemp m k < t then t - mTemp m k else mTemp m k - t
  (List.range 8).foldl (fun a k => if d k < d a then k else a) 0

/-- Band of a raw state of charge. -/
def bandOf (z : Rat) : Nat := ((4 * clampR 0 (9999 / 10000) z).floor).toNat

/-- Bin number (R298). -/
def binOf (m : List Byte) (t z : Rat) : Nat := 4 * tempIndex m t + bandOf z

/-- A bin of a group. -/
def binAt (g : GrpSt) (b : Nat) : BinSt := tabGet {} g.bins b

/-- Whether candidate `a` is nearer than `b` for temperature `t` and band `k`: by grid temperature, then by band. -/
def nearer (m : List Byte) (t : Rat) (k a b : Nat) : Bool :=
  let d (x : Nat) : Rat := if mTemp m (x / 4) < t then t - mTemp m (x / 4) else mTemp m (x / 4) - t
  if a / 4 ≠ b / 4 then d a < d b else apartN (a % 4) k < apartN (b % 4) k

/-- The bin whose values are in use (R298). -/
def pickBin (m : List Byte) (g : GrpSt) (has : BinSt → Bool) (t : Rat) (k : Nat) : Option Nat :=
  ((List.range 32).filter (fun b => has (binAt g b))).foldl (fun a b => match a with
    | none => some b
    | some c => if nearer m t k b c then some b else some c) none

/-- Values in use at a temperature and band (R298); resistances of another temperature are scaled by R_REF. -/
def impAt (m : List Byte) (g : GrpSt) (t : Rat) (k : Nat) : Imp :=
  let scale (b : Nat) : Rat :=
    if b / 4 = tempIndex m t || mRref m (b / 4) = 0 then 1 else rRef m t / mRref m (b / 4)
  let f := pickBin m g (·.fast) t k
  let l := pickBin m g (·.slow) t k
  let fb := (f.map (binAt g)).getD {}
  let lb := (l.map (binAt g)).getD {}
  let fs := (f.map scale).getD 0
  let ls := (l.map scale).getD 0
  { rOhm := fb.rOhm * fs / 1000000, rCt1 := fb.rCt1 * fs / 1000000, tau1 := fb.tau1, rCt2 := lb.rCt2 * ls / 1000000,
    tau2 := lb.tau2, fast := f.isSome, slow := l.isSome }

/-- Values in use for a group in its present bin. -/
def impOf (s : State) (n : Chan) (i : Nat) : Imp :=
  let g := grpAt s n i
  match groupTemp s n i with
  | none => default
  | some t => impAt (cellModel s) g t.1 (bandOf g.z)

/-- e^(−t/τ); 0 without a pair. -/
def decay (t tau : Rat) : Rat := if tau ≤ 0 then 0 else Config.expNeg (t / tau)

/-- A filtered current over an interval of constant current (R273). -/
def filterI (i f t tau : Rat) : Rat := i + (f - i) * decay t tau

/-- r(t) of R289. -/
def rOfT (x : Imp) (t : Rat) : Rat := x.rOhm + x.rCt1 * (1 - decay t x.tau1) + x.rCt2 * (1 - decay t x.tau2)

/-- Absolute value. -/
def absR (x : Rat) : Rat := if x < 0 then -x else x

/-- A group carries a flag that keeps it out of anchors (R271). -/
def grpClear (s : State) (n : Chan) (i : Nat) : Bool :=
  let c := cellAt s n i
  c.valid && !c.plaus && !c.stale && !cellSuspect s n i && !cellOpen s n i

/-- A measured cell voltage in V. -/
def voltV (c : CellSt) : Rat := (c.volt.toNat : Rat) / 10000

/-- Report interval in s. -/
def reportSec (s : State) : Rat := (pNat s Prm.asyReportInterval : Rat) / 100000

/-- Longest window that the measurement parameters give, in ticks (R161): the longest carrier in carrier-locked mode. -/
def windowTicks (s : State) : Nat :=
  if pNat s Prm.asyAvgMode = 1 then pNat s Prm.asyAvgPeriods * carrierP s else pNat s Prm.asyAvgSamples * 25000

/-- Bleed current of a group in A (R262). -/
def bleedAmps (s : State) (n : Chan) (i : Nat) : Rat :=
  match s.meas[n].calib with
  | some c => if c.rBleed = 0 then 0 else ((cellAt s n i).raw.toNat : Rat) / 10000 / ((c.rBleed : Rat) / 100)
  | none => ((s.txns[n].caps.map (fun c => (c.bleedMax.toNat : Rat))).getD 0) / 1000

/-- Share of an interval that a bleed is on: less the suspension of R179 in suspend mode. -/
def bleedShare (s : State) (n : Chan) : Rat :=
  if mubEffective s n then 1
  else
    let w : Rat := (pNat s Prm.asyBalLead : Rat) / 1000000 + (windowTicks s : Rat) / 800000000
    if reportSec s ≤ 0 then 0 else clampR 0 1 (1 - w / reportSec s)

end Sys2Proof.Machine
end

