-- ==== Sys2Proof/Machine/Crypto.lean ====
section
/-! DEFINITION. CRC-32 (05 R127), SHA-256, and the verification of an ECDSA signature over P-256 (10 R321, R526; 12 R378).
The manual names these algorithms and gives their encodings; their constants are the published ones (log 13). -/

namespace Sys2Proof.Machine

/-! ## CRC-32 (R127) -/

/-- One bit of the reflected CRC. -/
def crcBit (c : Word) : Word := if c.getLsbD 0 then (c >>> 1) ^^^ 0xEDB88320 else c >>> 1

/-- Eight bits. -/
def crcByte (c : Word) (b : Byte) : Word :=
  crcBit (crcBit (crcBit (crcBit (crcBit (crcBit (crcBit (crcBit (c ^^^ b.zeroExtend 32))))))))

/-- CRC-32 of R127. -/
def crc32 (bs : List Byte) : Word := (bs.foldl crcByte 0xFFFFFFFF) ^^^ 0xFFFFFFFF

/-! ## SHA-256 -/

/-- Round constants. -/
def shaK : List Word :=
  [0x428a2f98, 0x71374491, 0xb5c0fbcf, 0xe9b5dba5, 0x3956c25b, 0x59f111f1, 0x923f82a4, 0xab1c5ed5,
   0xd807aa98, 0x12835b01, 0x243185be, 0x550c7dc3, 0x72be5d74, 0x80deb1fe, 0x9bdc06a7, 0xc19bf174] ++
  [0xe49b69c1, 0xefbe4786, 0x0fc19dc6, 0x240ca1cc, 0x2de92c6f, 0x4a7484aa, 0x5cb0a9dc, 0x76f988da,
   0x983e5152, 0xa831c66d, 0xb00327c8, 0xbf597fc7, 0xc6e00bf3, 0xd5a79147, 0x06ca6351, 0x14292967] ++
  [0x27b70a85, 0x2e1b2138, 0x4d2c6dfc, 0x53380d13, 0x650a7354, 0x766a0abb, 0x81c2c92e, 0x92722c85,
   0xa2bfe8a1, 0xa81a664b, 0xc24b8b70, 0xc76c51a3, 0xd192e819, 0xd6990624, 0xf40e3585, 0x106aa070] ++
  [0x19a4c116, 0x1e376c08, 0x2748774c, 0x34b0bcb5, 0x391c0cb3, 0x4ed8aa4a, 0x5b9cca4f, 0x682e6ff3,
   0x748f82ee, 0x78a5636f, 0x84c87814, 0x8cc70208, 0x90befffa, 0xa4506ceb, 0xbef9a3f7, 0xc67178f2]

/-- Working variables. -/
structure Sha where
  a : Word
  b : Word
  c : Word
  d : Word
  e : Word
  f : Word
  g : Word
  h : Word
deriving DecidableEq, Repr, Inhabited

/-- Initial hash value. -/
def shaInit : Sha :=
  { a := 0x6a09e667, b := 0xbb67ae85, c := 0x3c6ef372, d := 0xa54ff53a, e := 0x510e527f, f := 0x9b05688c, g := 0x1f83d9ab,
    h := 0x5be0cd19 }

/-- One round. -/
def shaRound (v : Sha) (k w : Word) : Sha :=
  let s1 := v.e.rotateRight 6 ^^^ v.e.rotateRight 11 ^^^ v.e.rotateRight 25
  let ch := (v.e &&& v.f) ^^^ (~~~v.e &&& v.g)
  let t1 := v.h + s1 + ch + k + w
  let s0 := v.a.rotateRight 2 ^^^ v.a.rotateRight 13 ^^^ v.a.rotateRight 22
  let mj := (v.a &&& v.b) ^^^ (v.a &&& v.c) ^^^ (v.b &&& v.c)
  { a := t1 + (s0 + mj), b := v.a, c := v.b, d := v.c, e := v.d + t1, f := v.e, g := v.f, h := v.g }

/-- Message schedule, newest word first: `n` more words. -/
def shaExpand : Nat → List Word → List Word
  | 0, w => w
  | n + 1, w =>
    let at_ (k : Nat) : Word := w.getD (k - 1) 0
    let x := at_ 15
    let y := at_ 2
    let s0 := x.rotateRight 7 ^^^ x.rotateRight 18 ^^^ (x >>> 3)
    let s1 := y.rotateRight 17 ^^^ y.rotateRight 19 ^^^ (y >>> 10)
    shaExpand n ((at_ 16 + s0 + at_ 7 + s1) :: w)

/-- One block of 16 words. -/
def shaBlock (v : Sha) (blk : List Word) : Sha :=
  let w := (shaExpand 48 blk.reverse).reverse
  let r := (shaK.zip w).foldl (fun x k => shaRound x k.1 k.2) v
  { a := v.a + r.a, b := v.b + r.b, c := v.c + r.c, d := v.d + r.d, e := v.e + r.e, f := v.f + r.f, g := v.g + r.g,
    h := v.h + r.h }

/-- The number that bytes give, most significant first. -/
def ofBe (bs : List Byte) : Nat := bs.foldl (fun a b => 256 * a + b.toNat) 0

/-- Bytes of a number, most significant first. -/
def beBytes (n v : Nat) : List Byte := (leBytes n v).reverse

/-- Words of a padded message. -/
def beWords : Nat → List Byte → List Word
  | 0, _ => []
  | n + 1, bs => BitVec.ofNat 32 (ofBe (bs.take 4)) :: beWords n (bs.drop 4)

/-- `n` blocks. -/
def shaBlocks : Nat → List Word → Sha → Sha
  | 0, _, v => v
  | n + 1, ws, v => shaBlocks n (ws.drop 16) (shaBlock v (ws.take 16))

/-- SHA-256. -/
def sha256 (m : List Byte) : List Byte :=
  let pad := (119 - m.length % 64) % 64
  let p := m ++ [0x80] ++ List.replicate pad 0 ++ beBytes 8 (8 * m.length)
  let n := p.length / 64
  let v := shaBlocks n (beWords (16 * n) p) shaInit
  [v.a, v.b, v.c, v.d, v.e, v.f, v.g, v.h].flatMap (fun w => beBytes 4 w.toNat)

/-! ## ECDSA over P-256 -/

def ecP : Nat := 2 ^ 256 - 2 ^ 224 + 2 ^ 192 + 2 ^ 96 - 1
def ecB : Nat := 0x5AC635D8AA3A93E7B3EBBD55769886BC651D06B0CC53B0F63BCE3C3E27D2604B
def ecN : Nat := 0xFFFFFFFF00000000FFFFFFFFFFFFFFFFBCE6FAADA7179E84F3B9CAC2FC632551
def ecG : Nat × Nat :=
  (0x6B17D1F2E12C4247F8BCE6E563A440F277037D812DEB33A0F4A13945D898C296,
   0x4FE342E2FE1A7F9B8EE7EB4A7C0F9E162BCE33576B315ECECBB6406837BF51F5)

/-- `b^e mod m` over the lowest `k` bits of `e`. -/
def powMod (m : Nat) : Nat → Nat → Nat → Nat
  | 0, _, _ => 1 % m
  | k + 1, b, e =>
    let r := powMod m k (b * b % m) (e / 2)
    if e % 2 = 1 then b * r % m else r

/-- Inverse modulo a prime. -/
def invMod (m a : Nat) : Nat := powMod m 256 (a % m) (m - 2)

/-- The point lies on the curve (10 R326). -/
def onCurve (q : Nat × Nat) : Bool :=
  q.1 < ecP && q.2 < ecP && q.2 * q.2 % ecP = (q.1 * q.1 * q.1 + (ecP - 3) * q.1 + ecB) % ecP

/-- Sum of two points; none is the point at infinity. -/
def ecAdd : Option (Nat × Nat) → Option (Nat × Nat) → Option (Nat × Nat)
  | none, q => q
  | p, none => p
  | some (x1, y1), some (x2, y2) =>
    if x1 = x2 && (y1 + y2) % ecP = 0 then none
    else
      let l := if x1 = x2 then (3 * x1 * x1 + (ecP - 3)) * invMod ecP (2 * y1) % ecP
               else (y2 + (ecP - y1)) * invMod ecP (x2 + (ecP - x1)) % ecP
      let x := (l * l + (ecP - x1) + (ecP - x2)) % ecP
      some (x, (l * (x1 + (ecP - x)) + (ecP - y1)) % ecP)

/-- A multiple of a point over the lowest `n` bits of `k`. -/
def ecMul : Nat → Nat → Option (Nat × Nat) → Option (Nat × Nat)
  | 0, _, _ => none
  | n + 1, k, p =>
    let r := ecMul n (k / 2) (ecAdd p p)
    if k % 2 = 1 then ecAdd p r else r

/-- A public key: X then Y, most significant byte first (R526). -/
def pubKey (k : List Byte) : Nat × Nat := (ofBe (k.take 32), ofBe ((k.drop 32).take 32))

/-- ECDSA P-256 verification of a 64-byte signature over a SHA-256 digest (R526). -/
def ecdsaOk (key digest sig : List Byte) : Bool :=
  let q := pubKey key
  let r := ofBe (sig.take 32)
  let t := ofBe ((sig.drop 32).take 32)
  if key.length ≠ 64 || sig.length ≠ 64 || r = 0 || t = 0 || r ≥ ecN || t ≥ ecN || !onCurve q then false
  else
    let w := invMod ecN t
    let u1 := ofBe digest * w % ecN
    let u2 := r * w % ecN
    match ecAdd (ecMul 256 u1 (some ecG)) (ecMul 256 u2 (some q)) with
    | none => false
    | some p => p.1 % ecN = r

end Sys2Proof.Machine
end

