-- ==== Sys2Proof/Machine/Learned.lean ====
section
/-! DEFINITION. What the assay engine has learned of a pack, as records (10 R313, R314) and in force (R322, R323). -/

namespace Sys2Proof.Machine

/-- A quantity in units, held to `n` bytes. -/
def units (n : Nat) (x : Rat) : Nat := clampN (2 ^ (8 * n) - 1) (toLsb x)

/-! ## Learned-data record (R313) -/

/-- The record that a channel's learned data makes. -/
def learnedNow (s : State) (n : Chan) : LearnedRec :=
  let c := s.cyc[n]
  { packId := c.packId, seq := c.seq, cycles := BitVec.ofNat 32 c.cycles, throughput := BitVec.ofNat 64 s.asyCh[n].throughput,
    unverified := c.unverified, groupsN := BitVec.ofNat 16 (cellCount s n), dormantAt := c.dormantAt,
    groups := (groupsOf s n).map (fun i =>
      let g := grpAt s n i
      (BitVec.ofNat 32 (units 4 (g.cap.getD 0 * 100)), BitVec.ofNat 16 (units 2 (g.uc * 10000)))) }

/-- Its 1,572 bytes. -/
def learnedBytes (r : LearnedRec) : List Byte :=
  let gs := (r.groups.take 256).flatMap (fun g => leBytes 4 g.1.toNat ++ leBytes 2 g.2.toNat)
  let b := leBytes 8 r.packId.toNat ++ leBytes 4 r.seq.toNat ++ leBytes 4 r.cycles.toNat ++ leBytes 8 r.throughput.toNat ++
    [BitVec.ofNat 8 (bN r.unverified), 0] ++ leBytes 2 r.groupsN.toNat ++ leBytes 4 r.dormantAt.toNat ++ gs ++
    List.replicate (1536 - gs.length) 0
  b ++ leBytes 4 (crc32 b).toNat

/-- A record read from bytes; none when its CRC fails. -/
def parseLearned (b : List Byte) : Option LearnedRec :=
  if b.length < 1572 || ofLe (slice b 1568 4) ≠ (crc32 (b.take 1568)).toNat then none
  else
    let w (o k : Nat) : Nat := ofLe (slice b o k)
    some { packId := BitVec.ofNat 64 (w 0 8), seq := BitVec.ofNat 32 (w 8 4), cycles := BitVec.ofNat 32 (w 12 4),
           throughput := BitVec.ofNat 64 (w 16 8), unverified := bitOf (w 24 1) 0, groupsN := BitVec.ofNat 16 (w 26 2),
           dormantAt := BitVec.ofNat 32 (w 28 4),
           groups := (List.range (min 256 (w 26 2))).map (fun i => (BitVec.ofNat 32 (w (32 + 6 * i) 4), BitVec.ofNat 16 (w (36 + 6 * i) 2))) }

/-- Put a record in force: capacities, SEQ, CYCLES, THROUGHPUT and UNVERIFIED. -/
def loadLearned (n : Chan) (r : LearnedRec) (s : State) : State :=
  let s := modCyc n (fun c => { c with packId := r.packId, seq := r.seq, cycles := r.cycles.toNat, unverified := r.unverified,
                                       dormantAt := r.dormantAt, hasRec := true }) s
  let s := modAsy n (fun a => { a with throughput := r.throughput.toNat }) s
  forEach (numbered 0 (r.groups.take (cellCount s n))) (fun g s =>
    modGrp n g.1 (fun x => { x with cap := if g.2.1 = 0 then none else some ((g.2.1.toNat : Rat) / 100),
                                    uc := (g.2.2.toNat : Rat) / 10000, unverified := r.unverified }) s) s

/-! ## Impedance records (R314) -/

/-- The stored form of a bin. -/
def binRec (b : BinSt) : ImpBinRec :=
  let w (x : Rat) : Half := BitVec.ofNat 16 (units 2 x)
  { rOhm := if b.fast then w b.rOhm else 0, rCt1 := if b.fast then w b.rCt1 else 0, rCt2 := if b.slow then w b.rCt2 else 0,
    tau1 := if b.fast then w (b.tau1 * 1000000) else 0, tau2 := if b.slow then w (b.tau2 * 100) else 0 }

/-- The record of a group. Its flags are laid out as those of the stream entry are: UNVERIFIED, BASELINE (log 14). -/
def impNow (s : State) (n : Chan) (i : Nat) : ImpRec :=
  let g := grpAt s n i
  { index := BitVec.ofNat 16 (n.val * 256 + i),
    flags := BitVec.ofNat 16 (bN (g.bins.any (fun b => b.2.unverified)) + 2 * bN g.baseRatio.isSome),
    seq := s.cyc[n].seq, baseRatio := BitVec.ofNat 16 (units 2 (g.baseRatio.getD 0 * 1000)),
    bins := (List.range 32).map (fun b => binRec (binAt g b)) }

/-- Its 336 bytes. -/
def impBytes (r : ImpRec) : List Byte :=
  let head := leBytes 2 r.index.toNat ++ leBytes 2 r.flags.toNat ++ leBytes 4 r.seq.toNat ++ leBytes 2 r.baseRatio.toNat ++ [0, 0]
  let bins := r.bins.flatMap (fun b =>
    leBytes 2 b.rOhm.toNat ++ leBytes 2 b.rCt1.toNat ++ leBytes 2 b.rCt2.toNat ++ leBytes 2 b.tau1.toNat ++ leBytes 2 b.tau2.toNat)
  head ++ leBytes 4 (crc32 (head ++ bins)).toNat ++ bins

/-- A record read from bytes; none when its CRC fails. -/
def parseImp (b : List Byte) : Option ImpRec :=
  if b.length < 336 || ofLe (slice b 12 4) ≠ (crc32 (b.take 12 ++ slice b 16 320)).toNat then none
  else
    let w (o : Nat) : Half := BitVec.ofNat 16 (ofLe (slice b o 2))
    some { index := w 0, flags := w 2, seq := BitVec.ofNat 32 (ofLe (slice b 4 4)), baseRatio := w 8,
           bins := (List.range 32).map (fun k =>
             { rOhm := w (16 + 10 * k), rCt1 := w (18 + 10 * k), rCt2 := w (20 + 10 * k), tau1 := w (22 + 10 * k),
               tau2 := w (24 + 10 * k) }) }

/-- A bin from its stored form, with NFIT and AGE at 0; a bin holds a fast fit when R_ohm is not 0, a slow one when τ2 is
not 0. -/
def binOfRec (unverified : Bool) (now : Nat) (r : ImpBinRec) : BinSt :=
  { rOhm := r.rOhm.toNat, rCt1 := r.rCt1.toNat, rCt2 := r.rCt2.toNat, tau1 := (r.tau1.toNat : Rat) / 1000000,
    tau2 := (r.tau2.toNat : Rat) / 100, fast := r.rOhm ≠ 0, slow := r.tau2 ≠ 0,
    unverified := unverified && (r.rOhm ≠ 0 || r.tau2 ≠ 0), fitAt := now }

/-- Load the bins of a group. -/
def loadImp (n : Chan) (i : Nat) (r : ImpRec) (s : State) : State :=
  let un := r.flags.getLsbD 0
  modGrp n i (fun g => { g with
    bins := (numbered 0 (r.bins.take 32)).foldl (fun t b => tabPut {} t b.1
      (if b.2 = { rOhm := 0, rCt1 := 0, rCt2 := 0, tau1 := 0, tau2 := 0 } then {} else binOfRec un s.tim.tb b.2)) []
    baseRatio := if r.flags.getLsbD 1 then some ((r.baseRatio.toNat : Rat) / 1000) else none }) s

/-! ## Learned data in force (R322, R323) -/

/-- Nominal data: CAP_NOM with ASY_UNC_CAP, empty bins, CYCLES and THROUGHPUT at 0; u at 100 % until the first anchor. -/
def loadNominal (n : Chan) (s : State) : State :=
  let s := modCyc n (fun c => { c with cycles := 0, unverified := false }) s
  let s := modAsy n (fun a => { a with throughput := 0, eps := 0, eps0 := 0, pub := none }) s
  forEach (groupsOf s n) (fun i s => modGrp n i (fun g => { g with
    cap := none, uc := 0, unverified := false, bins := [], baseRatio := none, ratio := 0, drift := 0, driftAt := [],
    ub := 1, u := 1, eps := 0, eps0 := 0, pub := none }) s) s

/-- A new pack's state of charge is taken from its first anchor (R322), and ε starts at 0 (09 R269). -/
def newPackSoc (n : Chan) (s : State) : State :=
  let s := modAsy n (fun a => { a with eps := 0, eps0 := 0, pub := none }) s
  forEach (groupsOf s n) (fun i s => modGrp n i (fun g => { g with ub := 1, u := 1, eps := 0, eps0 := 0, pub := none }) s) s

/-- A learned-data record is written with the next SEQ (R315). -/
def writeLearned (n : Chan) (s : State) : State := queueWrite (.learned n false) s

/-- TOUCHMARK_UNVERIFIED (R323). -/
def unverifiedEvent (n : Chan) (cause : Nat) (ended : Bool) (s : State) : State :=
  let s := modCyc n (fun c => { c with unverCause := BitVec.ofNat 3 cause }) s
  raise 0x840B n.val [ef 28 0 n.val, ef 29 0 cause, ef 29 3 (bN ended),
    ef 32 0 ((s.txns[n].caps.map (fun c => c.packId.toNat)).getD 0)] s

/-- Set UNVERIFIED on the channel, its capacities and its bins. -/
def setUnverified (n : Chan) (s : State) : State :=
  let was := s.cyc[n].unverified
  let s := modCyc n (fun c => { c with unverified := true }) s
  let s := forEach (groupsOf s n) (fun i s => modGrp n i (fun g => { g with
    unverified := true, bins := g.bins.map (fun b => (b.1, { b.2 with unverified := b.2.fast || b.2.slow })) }) s) s
  if was then s else writeLearned n s

/-- UNVERIFIED is set because NODE_ID or continuity changed while nothing verifies the pack (R322). Which of the two the event
names as its CAUSE, why nothing verifies it (0 to 2) or the change (3), is open: a free value (log 5). -/
def unverifiedFor (n : Chan) (cause : Nat) (s : State) : State :=
  let b := drawBool s
  unverifiedEvent n (if b.1 then cause else 3) false (setUnverified n b.2)

/-- Clear UNVERIFIED: TOUCHMARK_UNVERIFIED with END when it stood. -/
def clearUnverified (n : Chan) (s : State) : State :=
  let was := s.cyc[n].unverified
  let s := modCyc n (fun c => { c with unverified := false }) s
  let s := forEach (groupsOf s n) (fun i s => modGrp n i (fun g => { g with unverified := false }) s) s
  if was then writeLearned n (unverifiedEvent n s.cyc[n].unverCause.toNat true s) else s

/-- The channel's UNVERIFIED clears when every populated group is clear (R323). -/
def checkVerified (n : Chan) (s : State) : State :=
  if s.cyc[n].unverified && (groupsOf s n).all (fun i => !(grpAt s n i).unverified) then clearUnverified n s else s

/-- PACK_CHANGED (R323). -/
def packChanged (n : Chan) (loaded : Bool) (old new : DWord) (s : State) : State :=
  raise 0x840C n.val [ef 28 0 n.val, ef 29 0 (bN loaded), ef 32 0 old.toNat, ef 40 0 new.toNat] s

/-- TOUCHMARK_AUTH_FAIL (R323). -/
def authFailEvent (n : Chan) (cause : Nat) (pack : DWord) (s : State) : State :=
  raise 0x840A n.val [ef 28 0 n.val, ef 29 0 cause, ef 32 0 pack.toNat] s

/-- Wake from dormancy (R324): `caps` is the station time of the first CAPS. -/
def wake (n : Chan) (now : DWord) (s : State) : State :=
  if s.cyc[n].dormantAt = 0 then s
  else
    let td : Rat := ((now.toNat : Rat) - (s.cyc[n].dormantAt.toNat : Rat) * 4294967296) / 800000000
    let days := td / 86400
    let lost : Rat := (pNat s Prm.asySelfdis : Rat) / 10000 * days / 30
    let s := forEach (groupsOf s n) (fun i s => modGrp n i (fun g => { g with z := g.z - lost, ub := g.ub + lost }) s) s
    let s := modCyc n (fun c => { c with dormantAt := 0 }) s
    let s := if days > pNat s Prm.asyStaleDays then unverifiedEvent n 4 false (setUnverified n s) else s
    writeLearned n s

end Sys2Proof.Machine
end

