-- ==== Sys2Proof/Machine/Touchmark.lean ====
section
/-! DEFINITION. The touchmark (10 R318 to R323): authentication, provisioning and the history slots, as exchanges of TOUCH
CMDs with the node. -/

namespace Sys2Proof.Machine

/-- The touchmark anchor; empty when unset. -/
def tmAnchor (s : State) : List Byte := valueIn s.cfg.eff Prm.asyTmAnchor

/-- Offset of a history slot (*Touchmark memory map*). -/
def slotBase (b : Bool) : Nat := if b then 0x18000 else 0x1000

/-- Reads of at most 1,008 bytes that cover `len` bytes from `off` (05 TOUCH_READ). -/
def splitReads : Nat → Nat → Nat → List (Nat × Nat)
  | 0, _, _ => []
  | k + 1, off, len => if len = 0 then [] else (off, min 1008 len) :: splitReads k (off + 1008) (len - 1008)

/-- Writes of at most 1,008 bytes. -/
def splitWrites : Nat → Nat → List Byte → List (Nat × List Byte)
  | 0, _, _ => []
  | k + 1, off, d => if d.isEmpty then [] else (off, d.take 1008) :: splitWrites k (off + 1008) (d.drop 1008)

/-- Reads of the identity block and the device public key. -/
def identReads : List (Nat × Nat) := [(0, 256), (0x100, 64)]

/-- Reads of the learned-data records of both slots. -/
def slotReads : List (Nat × Nat) := splitReads 2 (slotBase false) 1572 ++ splitReads 2 (slotBase true) 1572

/-- Reads of the impedance records of a slot. -/
def impReads (b : Bool) : List (Nat × Nat) := splitReads 86 (slotBase b + 1600) 86016

/-- Send the next TOUCH CMD of the exchange. -/
def touchSend (n : Chan) (s : State) : State :=
  match s.cyc[n].touch with
  | none => s
  | some t =>
    match t.stage with
    | .sign => sendCmd n 0x0052 t.challenge .touchSign s
    | .write => match t.writes with
      | w :: _ => sendCmd n 0x0051 (leBytes 4 w.1 ++ [0, 0, 0, 0] ++ w.2) .touchWrite s
      | [] => s
    | _ => match t.reads with
      | r :: _ => sendCmd n 0x0050 (leBytes 4 r.1 ++ leBytes 2 r.2) .touchRead s
      | [] => s

/-- Set the exchange and send its first CMD. -/
def setTouch (n : Chan) (t : TouchSt) (s : State) : State := touchSend n (modCyc n (fun c => { c with touch := some t }) s)

/-- The exchange is over. -/
def endTouch (n : Chan) (s : State) : State := modCyc n (fun c => { c with touch := none }) s

/-- An exchange that begins with the identity block. -/
def startIdent (n : Chan) (job : TouchJob) (changed : Bool) (s : State) : State :=
  setTouch n { job := job, stage := .ident, reads := identReads, writes := [], buffer := [], ident := [], challenge := [],
               slotB := false, changed := changed } s

/-! ## ASSAY_CYCLE_DONE (R311) -/

/-- The write-back has ended: the event that waits for it. -/
def cycleDoneEvent (n : Chan) (stored tm : Bool) (s : State) : State :=
  match s.cyc[n].doneWait with
  | none => s
  | some d =>
    let secs := (s.tim.station - s.cyc[n].started).toNat / tSec
    raise 0x8406 n.val [ef 28 0 n.val, ef 29 0 (bN stored), ef 29 1 (bN tm), ef 30 0 d.1, ef 32 0 d.2.1, ef 36 0 d.2.2.1,
      ef 40 0 d.2.2.2, ef 44 0 (min 0xFFFFFFFF secs)] (modCyc n (fun c => { c with doneWait := none }) s)

/-! ## History slots (R319) -/

/-- A history may be written: the module is master, the port RUNNING, the pack authenticated since the last exchange and
not UNVERIFIED, no other exchange runs and no power-fail warning stands (R315, R319). -/
def mayHistory (s : State) (n : Chan) : Bool :=
  isMaster s && running s n && s.cyc[n].authOk && !s.cyc[n].unverified && s.cyc[n].touch.isNone && !s.pwr.warn &&
    !s.pwr.holdupFault

/-- Start a history write; where none may be made it stays pending (R317). -/
def startHistory (n : Chan) (s : State) : State :=
  if mayHistory s n then
    setTouch n { job := .history, stage := .slots, reads := slotReads, writes := [], buffer := [], ident := [], challenge := [],
                 slotB := false, changed := false } s
  else cycleDoneEvent n true false (modCyc n (fun c => { c with tmPending := true }) s)

/-- The history write has ended. -/
def historyEnd (n : Chan) (ok : Bool) (s : State) : State :=
  cycleDoneEvent n true ok (endTouch n (modCyc n (fun c => { c with tmPending := !ok }) s))

/-- Both records are read: write the slot whose record is older (R319). -/
def historyWrite (n : Chan) (t : TouchSt) (s : State) : State :=
  let a := parseLearned (t.buffer.take 1572)
  let b := parseLearned (t.buffer.drop 1572)
  let useB := match a, b with
    | none, _ => false
    | some _, none => true
    | some x, some y => newer32 x.seq y.seq
  let s := modCyc n (fun c => { c with seq := c.seq + 1 }) s
  let rec_ := learnedBytes (learnedNow s n)
  let imps := (List.range 256).flatMap (fun i => impBytes (impNow s n i))
  let base := slotBase useB
  setTouch n { t with stage := .write, writes := splitWrites 86 (base + 1600) imps ++ splitWrites 2 base rec_, buffer := [],
                      ident := rec_, slotB := useB } s

/-! ## Authentication (R321, R322) -/

/-- Fields of an identity block. -/
def idPack (b : List Byte) : Nat := ofLe (slice b 0 8)
def idFormat (b : List Byte) : Nat := ofLe (slice b 8 2)
def idGroups (b : List Byte) : Nat := ofLe (slice b 10 2)
def idModelCrc (b : List Byte) : Nat := ofLe (slice b 16 4)
def idKey (b : List Byte) : List Byte := slice b 32 64
def idCert (b : List Byte) : List Byte := slice b 96 64

/-- CERT verifies under ASY_TM_ANCHOR. -/
def certOk (s : State) (b : List Byte) : Bool := ecdsaOk (tmAnchor s) (sha256 (b.take 96)) (idCert b)

/-- PACK_ID from CAPS. -/
def capsPack (s : State) (n : Chan) : DWord := (s.txns[n].caps.map (·.packId)).getD 0

/-- What of identity block and key fails, by the causes of TOUCHMARK_AUTH_FAIL. The CAPS at hand is older than the identity
that a provisioning has just written and read back. -/
def identFault (s : State) (n : Chan) (job : TouchJob) (b : List Byte) : Option Nat :=
  if idFormat b ≠ 1 || (job != .confirm && idPack b ≠ (capsPack s n).toNat) || idGroups b ≠ cellCount s n then some 3
  else if idKey b ≠ slice b 256 64 then some 1
  else if !certOk s b then some 0
  else none

/-- The host's TOUCHMARK_PROVISION ends. -/
def provEnd (n : Chan) (r : Reply) (s : State) : State :=
  finishAll (fun p => p.op == 0x0404#16 && p.target == .channel n) (fun _ => r) (modCyc n (fun c => { c with provRec := [] }) s)

/-- A provisioning waits for this authentication. -/
def provWaits (s : State) (n : Chan) : Bool := s.cmd.pend.any (fun p => p.op == 0x0404#16 && p.target == .channel n)

/-- Authentication after an exchange has failed (R322): the retained record stays for the same pack, nominal data for a new
one; UNVERIFIED is set. -/
def authLost (n : Chan) (cause : Nat) (s : State) : State :=
  let pack := capsPack s n
  let old := s.cyc[n].packId
  let s := endTouch n (modCyc n (fun c => { c with authBad := true, authOk := false, exchanged := true, authAgain := false }) s)
  let s := if pack = old then setUnverified n s
    else
      let s := loadNominal n (modCyc n (fun c => { c with packId := pack, hasRec := true }) s)
      causeOff n 8 (writeLearned n (packChanged n false old pack (setUnverified n s)))
  judgeAuth n (authFailEvent n cause pack s)

/-- Authentication has failed: that of a provisioning ends the command (R320). -/
def authFail (n : Chan) (cause : Nat) (s : State) : State :=
  if s.cyc[n].touch.any (fun t => t.job == .confirm) then provEnd n (reply .authFail) (endTouch n s) else authLost n cause s

/-- An exchange that could authenticate nothing (R322): UNVERIFIED is set when NODE_ID changed or continuity broke. -/
def noAuth (n : Chan) (cause : Nat) (changed : Bool) (s : State) : State :=
  let s := endTouch n (modCyc n (fun c => { c with noMark := some (BitVec.ofNat 3 cause) }) s)
  if changed then unverifiedFor n cause s else s

/-- The signature verified: the pack is authenticated; the history decides the learned data. -/
def authDone (n : Chan) (t : TouchSt) (s : State) : State :=
  let s := modCyc n (fun c => { c with authOk := true, authBad := false, exchanged := true, authAgain := false }) s
  let s := judgeAuth n s
  if t.job = .confirm then
    let pack := BitVec.ofNat 64 (idPack t.ident)
    let s := endTouch n (modCyc n (fun c => { c with packId := pack, hasRec := true }) s)
    let s := forEach (groupsOf s n) (fun i s => modGrp n i (fun g => { g with baseRatio := none }) s) (clearUnverified n s)
    startHistory n (writeLearned n (provEnd n (reply .ok) s))
  else setTouch n { t with stage := .slots, reads := slotReads, buffer := [] } s

/-- The slots are read: which data is in force (R322). -/
def authSlots (n : Chan) (t : TouchSt) (s : State) : State :=
  let pack := capsPack s n
  let old := s.cyc[n].packId
  let a := parseLearned (t.buffer.take 1572)
  let b := parseLearned (t.buffer.drop 1572)
  let best : Option (Bool × LearnedRec) := match a, b with
    | none, none => none
    | some x, none => some (false, x)
    | none, some y => some (true, y)
    | some x, some y => if newer32 y.seq x.seq then some (true, y) else some (false, x)
  let take := match best with
    | none => false
    | some r => pack ≠ old || !s.cyc[n].hasRec || newer32 r.2.seq s.cyc[n].seq
  match best with
  | some r =>
    if take then
      let s := if pack ≠ old then newPackSoc n s else s
      let s := loadLearned n { r.2 with packId := pack, unverified := false, dormantAt := 0 } s
      let s := if pack ≠ old then causeOff n 8 (packChanged n true old pack s) else s
      setTouch n { t with stage := .imps, reads := impReads r.1, buffer := [], slotB := r.1 } (writeLearned n s)
    else
      let s := endTouch n (clearUnverified n s)
      if s.cyc[n].tmPending then startHistory n s else s
  | none =>
    let s := endTouch n s
    let s := if pack = old then clearUnverified n s
      else
        let s := loadNominal n (modCyc n (fun c => { c with packId := pack, hasRec := true }) s)
        causeOff n 8 (writeLearned n (packChanged n false old pack s))
    if s.cyc[n].tmPending then startHistory n s else s

/-- The history's impedance records are read. -/
def authImps (n : Chan) (t : TouchSt) (s : State) : State :=
  let s := forEach (groupsOf s n) (fun i s => match parseImp (slice t.buffer (336 * i) 336) with
    | some r => loadImp n i { r with flags := r.flags &&& ~~~1#16 } s
    | none => modGrp n i (fun g => { g with bins := [], baseRatio := none }) s) s
  endTouch n s

/-- The identity block and the key are read. -/
def identRead (n : Chan) (t : TouchSt) (s : State) : State :=
  let b := t.buffer
  match t.job with
  | .provision =>
    let r := s.cyc[n].provRec
    if !(b.take 256).all (· == 0xFF) then provEnd n (reply .wrongState) (endTouch n s)
    else if tmAnchor s = [] || !certOk s r || idKey r ≠ slice b 256 64 then provEnd n (reply .authFail) (endTouch n s)
    else if idPack r = 0 || idFormat r ≠ 1 || idModelCrc r ≠ mU32 (cellModel s) 3624 then provEnd n (reply .badParam) (endTouch n s)
    else if idGroups r ≠ cellCount s n then provEnd n (reply .outOfRange) (endTouch n s)
    else setTouch n { t with stage := .write, reads := [], writes := [(0, r)], buffer := [], ident := r } s
  | _ =>
    match identFault s n t.job b with
    | some c => authFail n c s
    | none =>
      let c := Config.challenge s.free
      setTouch n { t with stage := .sign, ident := b, buffer := [], challenge := c } { s with free := s.free + 1 }

/-- A TOUCH_READ has come back: the next read, or what the bytes decide. -/
def touchRead (n : Chan) (ok : Bool) (data : List Byte) (s : State) : State :=
  match s.cyc[n].touch with
  | none => s
  | some t =>
    if !ok then (match t.job, t.stage with
      | .history, _ => historyEnd n false s
      | .provision, _ | .confirm, _ => provEnd n (reply .timeout) (endTouch n s)
      | .auth, .ident => noAuth n 1 (t.changed || s.asyCh[n].contLost) s
      | .auth, _ => endTouch n s)
    else
      let len := (t.reads.headD (0, 0)).2
      let t := { t with buffer := t.buffer ++ data.take len, reads := t.reads.drop 1 }
      if !t.reads.isEmpty then setTouch n t s
      else match t.stage with
        | .ident => identRead n t s
        | .slots => if t.job = .history then historyWrite n t s else authSlots n t s
        | .imps => authImps n t s
        | .verify =>
          (match t.job with
          | .history => historyEnd n (decide (t.buffer = t.ident)) s
          | _ => if t.buffer = t.ident then startIdent n .confirm false s else provEnd n (reply .wrongState) (endTouch n s))
        | _ => s

/-- A TOUCH_WRITE has been answered. -/
def touchWritten (n : Chan) (ok : Bool) (s : State) : State :=
  match s.cyc[n].touch with
  | none => s
  | some t =>
    if !ok then (if t.job = .history then historyEnd n false s else provEnd n (reply .timeout) (endTouch n s))
    else
      let t := { t with writes := t.writes.drop 1 }
      if !t.writes.isEmpty then setTouch n t s
      else
        let back := if t.job = .history then splitReads 2 (slotBase t.slotB) 1572 else [(0, 160)]
        setTouch n { t with stage := .verify, reads := back, buffer := [] } s

/-- A TOUCH_SIGN has been answered: the signature is over the challenge, PACK_ID and the module address (R321). -/
def touchSigned (n : Chan) (ok : Bool) (data : List Byte) (s : State) : State :=
  match s.cyc[n].touch with
  | none => s
  | some t =>
    if !ok then authFail n 4 s
    else
      let msg := t.challenge ++ leBytes 8 (idPack t.ident) ++ leBytes 2 (address s).toNat
      if ecdsaOk (idKey t.ident) (sha256 msg) (data.take 64) then authDone n t s else authFail n 2 s

/-- What a capability exchange starts (R321, R322): `changed` says that NODE_ID differs from the retained record. Only a
master sends CMDs (02 R43). -/
def packExchange (n : Chan) (c : Caps) (changed : Bool) (s : State) : State :=
  if !isMaster s then s
  else
    let x := s.cyc[n]
    let need := !x.exchanged || x.packId ≠ c.packId || changed || x.authAgain || x.tmPending
    let s := modCyc n (fun x => { x with authOk := false, authBad := false, noMark := none, nodeId := c.nodeId, touch := none }) s
    let s := judgeAuth n s
    if !c.tmark || c.packId = 0 then noAuth n 0 changed s
    else if tmAnchor s = [] then noAuth n 2 changed s
    else if need then startIdent n .auth changed s
    else s

end Sys2Proof.Machine
end

