-- ==== Sys2Proof/Machine/Anchor.lean ====
section
/-! DEFINITION. Anchors of the state of charge (09 R271 to R273, R276; 10 R307) and the slow fit from relaxations (10 R296). -/

namespace Sys2Proof.Machine

/-- Seconds between two station times. -/
def secsBetween (a b : DWord) : Rat := ((b.toNat : Int) - a.toNat : Int) / (800000000 : Rat)

/-! ## Filtered currents (R273) -/

/-- Time constants in use for the filters: without a slow pair, 60 s (R296). -/
def tau2Of (x : Imp) : Rat := if x.slow then x.tau2 else 60

/-- Advance the filtered currents of every group over an interval of constant current (A, s). -/
def advanceFilters (n : Chan) (i secs : Rat) (s : State) : State :=
  forEach (groupsOf s n) (fun k s =>
    let x := impOf s n k
    modGrp n k (fun g => { g with if1 := filterI i g.if1 secs x.tau1, if2 := filterI i g.if2 secs (tau2Of x) }) s) s

/-- Overpotentials of a group after `secs` more seconds at current `i`, V. -/
def etaAt (x : Imp) (g : GrpSt) (i secs : Rat) : Rat × Rat :=
  (x.rCt1 * filterI i g.if1 secs x.tau1, x.rCt2 * filterI i g.if2 secs (tau2Of x))

/-- Seconds since the last executed edge of a channel. -/
def sinceEdge (s : State) (n : Chan) (t : DWord) : Rat :=
  match s.asyCh[n].seen with
  | e :: _ => max 0 (secsBetween e.time t)
  | [] => 0

/-! ## Gaps (R271, R272) -/

/-- Length of a gap that a group without an accepted entry needs, and of any gap, in ticks. -/
def gapLong : Nat := 300 * tSec
def gapShort : Nat := 20 * tMs

/-- A gap begins at the end of an executed falling edge. -/
def gapBegin (n : Chan) (t : DWord) (s : State) : State :=
  let s := modAsy n (fun a => { a with
    gap := some { since := t, own := s.con[n].gap, good := true, windows := 0, lastEnd := t }, lastGap := some t }) s
  forEach (groupsOf s n) (fun k s => modGrp n k (fun g => { g with gapV := none }) s) s

/-- A report of the gap: its window counts when it lies wholly after the first 10 ms (R271, R273). -/
def gapReport (n : Chan) (wStart : Int) (wEnd : DWord) (packI : Int) (s : State) : State :=
  match s.asyCh[n].gap with
  | none => s
  | some g =>
    if wStart < (g.since.toNat : Int) then s
    else
      let ok := packI.natAbs ≤ pNat s Prm.asyGapImax
      let counts := wStart ≥ ((g.since.toNat + 10 * tMs : Nat) : Int)
      let s := modAsy n (fun a => { a with gap := some { g with
        good := g.good && ok, windows := if counts then g.windows + 1 else g.windows,
        lastEnd := if counts then wEnd else g.lastEnd } }) s
      if !counts then s
      else
        let i : Rat := (packI : Rat) / 1000
        let dt := sinceEdge s n wEnd
        forEach (groupsOf s n) (fun k s =>
          let c := cellAt s n k
          if !grpClear s n k then modGrp n k (fun x => { x with gapV := none }) s
          else
            let x := impOf s n k
            let g := grpAt s n k
            let e := if x.fast then etaAt x g i dt else (0, 0)
            let v := voltV c - i * x.rOhm - e.1 - e.2
            let sig := (c.unc.toNat : Rat) / 10000 + (absR e.1 + absR e.2) / 5 + (if x.fast then 0 else 2 / 1000)
            modGrp n k (fun x => { x with gapV := some (match x.gapV with
              | none => { first := v, prevV := v, prevSig := sig, lastV := v, lastSig := sig }
              | some o => { first := o.first, prevV := o.lastV, prevSig := o.lastSig, lastV := v, lastSig := sig }) }) s) s

/-- What a gap that ends at `t` gives a group (R273): z_anc and u_a; none where a rejection of ASY_ANCHOR_TOL or of zero
slope applies. -/
def anchorOf (s : State) (n : Chan) (k : Nat) (v : GapVal) (late : Bool) : Option (Rat × Rat) :=
  let m := cellModel s
  match groupTemp s n k with
  | none => none
  | some t =>
    let g := grpAt s n k
    let last := if late then v.prevV else v.lastV
    let sig := if late then v.prevSig else v.lastSig
    let c := capOf s n k
    let known := absR g.netQ > (pNat s Prm.asyHystQ : Rat) / 1000 * c
    let up := ocvPoint m true t.1
    let dn := ocvPoint m false t.1
    let curve : Nat → Rat := if known then (if g.netQ > 0 then up else dn) else fun i => (up i + dn i) / 2
    let z := curveInv curve last
    let h := if known then 0 else absR (curveAt up z - curveAt dn z) / 2
    let slope := (curveAt curve (z + 1 / 100) - curveAt curve (z - 1 / 100)) / (2 / 100)
    if absR (last - v.first) > (pNat s Prm.asyAnchorTol : Rat) / 10000 || slope ≤ 0 then none
    else some (z, (sig + h) / slope)

/-- The gap itself qualifies at its end (R271). -/
def gapOk (s : State) (n : Chan) (g : GapSt) (t : DWord) : Bool :=
  let late := g.lastEnd.toNat > t.toNat
  t.toNat - g.since.toNat ≥ gapShort && g.good && (if late then g.windows ≥ 3 else g.windows ≥ 2) &&
    (match s.meas[n].bleedAt with
     | some b => b.toNat ≤ g.since.toNat || b.toNat > t.toNat
     | none => true)

/-- Set a group on an accepted anchor. -/
def adopt (n : Chan) (k : Nat) (z u : Rat) (s : State) : State :=
  modAsy n (fun a => { a with anchors := a.anchors + 1, anchorAt := some s.tim.station })
    (modGrp n k (fun g => { g with z := z, ub := u, za := z, u := u }) s)

/-- Anchor one group from a gap that ended at `t`. -/
def anchorGroup (n : Chan) (g : GapSt) (t : DWord) (k : Nat) (s : State) : State :=
  match (grpAt s n k).gapV with
  | none => s
  | some v =>
    let x := impOf s n k
    if !grpClear s n k || (!x.fast && t.toNat - g.since.toNat < gapLong) then s
    else
      let no := modAsy n (fun a => { a with rejected := a.rejected + 1 }) s
      match anchorOf s n k v (g.lastEnd.toNat > t.toNat) with
      | none => no
      | some a => if a.2 ≥ (grpAt s n k).u then no else adopt n k a.1 a.2 s

/-- Take the anchor of a gap that ends at `t`. -/
def takeAnchor (n : Chan) (t : DWord) (s : State) : State :=
  match s.asyCh[n].gap with
  | none => s
  | some g => if gapOk s n g t && modelOk s then forEach (groupsOf s n) (anchorGroup n g t) s else s

/-- The gap is over: the anchor, and the gap goes. -/
def gapEnd (n : Chan) (t : DWord) (s : State) : State := modAsy n (fun a => { a with gap := none }) (takeAnchor n t s)

/-- A gap is discarded (R272). -/
def gapDrop (n : Chan) (s : State) : State := modAsy n (fun a => { a with gap := none }) s

/-- The overpotentials of every group taking part have fallen below 0.2 mV in the measure of R276. -/
def relaxed (s : State) (n : Chan) (t : DWord) (packI : Int) : Bool :=
  let part := (groupsOf s n).filter (grpClear s n)
  !part.isEmpty && part.all (fun k =>
    let e := etaAt (impOf s n k) (grpAt s n k) ((packI : Rat) / 1000) (sinceEdge s n t)
    (absR e.1 + absR e.2) / 5 < 2 / 10000)

/-! ## Relaxations (10 R296) -/

/-- The channel stands in what R296 calls a relaxation. -/
def relaxing (s : State) (n : Chan) : Bool :=
  s.asyCh[n].gap.isSome && (s.con[n].rest || s.con[n].assayRest || s.con[n].state == .bypass)

/-- Mean of a list. -/
def meanR (l : List Rat) : Rat := if l.isEmpty then 0 else l.sum / (l.length : Nat)

/-- A relaxation begins. -/
def relaxBegin (n : Chan) (s : State) : State :=
  match s.asyCh[n].gap with
  | none => s
  | some g =>
    let m := cellModel s
    modAsy n (fun a => { a with relax := some {
      since := g.since, ib := meanR a.i60
      grp := (groupsOf s n).map (fun k => (((groupTemp s n k).map (fun t => binOf m t.1 (grpAt s n k).z)).getD 0, (grpAt s n k).if2))
      pts := [] } }) s

/-- A report window of the relaxation. -/
def relaxReport (n : Chan) (wStart : Int) (wEnd : DWord) (packI : Int) (s : State) : State :=
  if !relaxing s n then s
  else
    let s := if s.asyCh[n].relax.isNone then relaxBegin n s else s
    match s.asyCh[n].relax with
    | none => s
    | some r =>
      if wStart < ((r.since.toNat + tSec : Nat) : Int) then s
      else
        let i : Rat := (packI : Rat) / 1000
        let dt := sinceEdge s n wEnd
        let vals := (groupsOf s n).map (fun k =>
          let x := impOf s n k
          if !grpClear s n k then none
          else some (voltV (cellAt s n k) - i * x.rOhm - (etaAt x (grpAt s n k) i dt).1))
        modAsy n (fun a => { a with relax := some { r with pts := r.pts ++ [(secsBetween r.since wEnd, vals)] } }) s

/-- One group's slow fit. -/
def slowFit (n : Chan) (r : RelaxSt) (lasted : Rat) (k : Nat) (s : State) : State :=
  match r.grp[k]? with
  | none => s
  | some (b, f2) =>
    let pts := r.pts.filterMap (fun p => ((p.2[k]?).bind id).map (fun v => (p.1, v)))
    let f := Config.fitSlow pts
    let a := f.2.1
    let tau := f.2.2.1
    let rms := f.2.2.2
    let rct2 := if f2 = 0 then -1 else a / f2
    if pts.isEmpty || tau < 1 || tau > 3600 || lasted < tau || rct2 < 0 || rms > 1 / 1000 then s
    else
      let upd (g : GrpSt) : BinSt := { binAt g b with rCt2 := rct2 * 1000000, tau2 := tau, slow := true, unverified := false, fitAt := s.tim.tb }
      let s := modGrp n k (fun g => { g with bins := tabPut {} g.bins b (upd g) }) s
      modCyc n (fun c => { c with fits := c.fits + 1 }) s

/-- The relaxation ends at `t`: the slow fit when it counts. The array makes no fit while it is stopped (17 *Fault causes*). -/
def relaxEnd (n : Chan) (t : DWord) (s : State) : State :=
  match s.asyCh[n].relax with
  | none => s
  | some r =>
    let lasted := secsBetween r.since t
    let s := modAsy n (fun a => { a with relax := none }) s
    if lasted < 30 || absR r.ib < pNat s Prm.asyImpStepMin || s.asy.arrayOff then s
    else forEach (groupsOf s n) (slowFit n r lasted) s

/-- A rising edge ends a gap and a relaxation. -/
def gapClose (n : Chan) (t : DWord) (s : State) : State := gapEnd n t (relaxEnd n t s)

end Sys2Proof.Machine
end

