-- ==== Sys2Proof/Machine/Burst.lean ====
section
/-! DEFINITION. Impedance from edge bursts (10 R291 to R302): points, acceptance, the fast fit at an update, the baseline and
the drift alarms. -/

namespace Sys2Proof.Machine

/-! ## Points (R291 to R294) -/

/-- Times of a burst: whether the step lies at the start of the edge, the elapsed time of each post-edge sample, its time
from the pre-edge sample, and whether a later edge spares it (R291 to R293). -/
structure BurstTimes where
  dI    : Rat
  iPre  : Rat
  post  : List (Nat × Rat × Rat)
  /-- no later edge starts before the third sample -/
  alone : Bool
deriving DecidableEq, Repr, Inhabited

/-- Nanoseconds of the three post-edge delays. -/
def postNs (s : State) : List Nat := [pNat s Prm.asyEdgePost1, pNat s Prm.asyEdgePost2, pNat s Prm.asyEdgePost3]

/-- The state reached inserts the channel. -/
def insertsCode (c : Byte) : Bool := c == 1 || c == 3

/-- Times of a burst around edge `e`. -/
def burstTimes (s : State) (n : Chan) (b : BurstSt) (e : EdgeSeen) : BurstTimes :=
  let pre : Rat := (b.pre.toInt : Rat) / 1000
  let post : Rat := (b.post.toInt : Rat) / 1000
  let ins := insertsCode e.state
  let iIns := if ins then post else pre
  let atStart := if ins then decide (iIns > 0) else decide (iIns < 0)
  let dead : Rat := (e.dead.toNat : Rat) / 800000000
  let lead : Rat := (pNat s Prm.asyEdgePre : Rat) / 1000000000
  let later := s.asyCh[n].seen.filter (fun x => x.edgeCnt ≠ e.edgeCnt && (x.edgeCnt - e.edgeCnt).toNat < 2 ^ 31)
  let free (ns : Nat) : Bool := later.all (fun x => secsBetween e.time x.time > dead + (ns : Rat) / 1000000000)
  { dI := post - pre, iPre := pre
    post := (numbered 0 (postNs s)).filterMap (fun p =>
      let t : Rat := (p.2 : Rat) / 1000000000
      if free p.2 then some (p.1, (if atStart then t + dead else t), lead + dead + t) else none)
    alone := free (pNat s Prm.asyEdgePost3) }

/-- Post-edge sample `j` of a cell. -/
def postOf (x : BurstSample) (j : Nat) : Half := if j = 0 then x.post1 else if j = 1 then x.post2 else x.post3

/-- The four samples are valid. -/
def sampleOk (x : BurstSample) : Bool := x.pre ≠ 0xFFFF && x.post1 ≠ 0xFFFF && x.post2 ≠ 0xFFFF && x.post3 ≠ 0xFFFF

/-- Points of a reading: (elapsed time, r) (R292). -/
def pointsOf (t : BurstTimes) (x : Imp) (f : Rat × Rat) (v0 : Rat) (v : Nat → Rat) : List (Rat × Rat) :=
  t.post.map (fun p =>
    let d1 := x.rCt1 * (f.1 - t.iPre) * (decay p.2.2 x.tau1 - 1)
    let d2 := x.rCt2 * (f.2 - t.iPre) * (decay p.2.2 (tau2Of x) - 1)
    (p.2.1, (v p.1 - v0 - d1 - d2) / t.dI))

/-- A group's points pass the plausibility of R294. -/
def pointsOk (s : State) (g : GrpSt) (b : Nat) (t : Rat) (pts : List (Rat × Rat)) : Bool :=
  let m := cellModel s
  let ref := rRef m t
  let bin := binAt g b
  let lim : Rat := (pNat s Prm.asyImpReject : Rat) / 100
  let x : Imp := { rOhm := bin.rOhm / 1000000, rCt1 := bin.rCt1 / 1000000, tau1 := bin.tau1, rCt2 := bin.rCt2 / 1000000,
                   tau2 := bin.tau2, fast := bin.fast, slow := bin.slow }
  (match pts with
    | [] => false
    | p :: _ => ref / 5 ≤ p.2 && p.2 ≤ 5 * ref) &&
    (!bin.fast || pts.all (fun p => absR (p.2 - rOfT x p.1) ≤ lim * absR (rOfT x p.1)))

/-- A cell's voltage of a sample in V. -/
def sampleV (h : Half) : Rat := (h.toNat : Rat) / 10000

/-- Take the burst for one group: whether it was accepted. -/
def burstGroup (n : Chan) (t : BurstTimes) (e : EdgeSeen) (k : Nat) (x : BurstSample) (s : State) : Bool × State :=
  let c := cellAt s n k
  match groupTemp s n k with
  | some (temp, false) =>
    if !sampleOk x || !c.valid || c.plaus || c.stale || cellOpen s n k || cellSuspect s n k then (false, s)
    else
      let g := grpAt s n k
      let b := binOf (cellModel s) temp g.z
      let pts := pointsOf t (impOf s n k) (e.filt.getD k (g.if1, g.if2)) (sampleV x.pre) (fun j => sampleV (postOf x j))
      if !pointsOk s g b temp pts then (false, s)
      else
        let new := pts.map (fun p => (p.1, p.2 * 1000000, t.dI, s.tim.tb))
        let upd (g : GrpSt) : BinSt := { binAt g b with points := new ++ (binAt g b).points, fresh := true }
        (true, modGrp n k (fun g => { g with burstsAcc := g.burstsAcc + 1, bins := tabPut {} g.bins b (upd g) }) s)
  | _ => (false, s)

/-- The pair across a suspected wire (R297): its points are kept apart. -/
def burstPair (n : Chan) (t : BurstTimes) (e : EdgeSeen) (samples : List BurstSample) (s : State) : State :=
  match s.meas[n].suspects with
  | [] => s
  | w :: _ =>
    let k := w.wire
    match (if k = 0 then none else samples[k - 1]?), samples[k]? with
    | some a, some b =>
      if !t.alone || !sampleOk a || !sampleOk b then s
      else
        let x := impOf s n (k - 1)
        let y := impOf s n k
        let f := e.filt.getD k (0, 0)
        let z : Imp := { x with rOhm := x.rOhm + y.rOhm, rCt1 := x.rCt1 + y.rCt1, rCt2 := x.rCt2 + y.rCt2 }
        let pts := pointsOf t z f (sampleV a.pre + sampleV b.pre) (fun j => sampleV (postOf a j) + sampleV (postOf b j))
        modAsy n (fun c => { c with pair := pts.map (fun p => (p.1, p.2, t.dI * t.dI, s.tim.tb)) ++ c.pair }) s
    | _, _ => s

/-- A complete burst whose EDGES record has arrived (R294). -/
def burstDone (n : Chan) (b : BurstSt) (e : EdgeSeen) (s : State) : State :=
  let s := modAsy n (fun a => { a with burst := none }) s
  let t := burstTimes s n b e
  let no := modCyc n (fun c => { c with burstsRej := c.burstsRej + 1 }) s
  if e.safe || e.stale || absR t.dI < pNat s Prm.asyImpStepMin || t.dI = 0 || t.post.isEmpty || s.asy.arrayOff || !modelOk s then no
  else
    let r := (numbered 0 (b.samples.take (cellCount s n))).foldl (fun (a : Bool × State) x =>
      let y := burstGroup n t e x.1 x.2 a.2
      (a.1 || y.1, y.2)) (false, s)
    let s := burstPair n t e b.samples r.2
    modCyc n (fun c => if r.1 then { c with burstsOk := c.burstsOk + 1 } else { c with burstsRej := c.burstsRej + 1 }) s

/-- Match the burst with its EDGES record when both are there. -/
def burstMatch (n : Chan) (s : State) : State :=
  match s.asyCh[n].burst with
  | none => s
  | some b =>
    if !b.last then s
    else match s.asyCh[n].seen.find? (fun e => e.edgeCnt == b.edgeCnt) with
      | some e => burstDone n b e s
      | none => s

/-- A burst segment (05 R140): segments come in ascending order of cells. -/
def burstSegment (n : Chan) (x : CellsBurst) (s : State) : State :=
  let fresh : BurstSt := { edgeCnt := x.edgeCnt, time := x.time, pre := x.packIPre, post := x.packIPost, samples := x.samples,
                           last := x.last }
  let joined : Option BurstSt :=
    if x.first = 0 then some fresh
    else match s.asyCh[n].burst with
      | some b => if b.edgeCnt = x.edgeCnt && x.first.toNat = b.samples.length && !b.last then
          some { b with samples := b.samples ++ x.samples, last := x.last } else none
      | none => none
  match joined with
  | none =>
    let s := modAsy n (fun a => { a with burst := none }) s
    if x.last then modCyc n (fun c => { c with burstsRej := c.burstsRej + 1 }) s else s
  | some b =>
    let s := modAsy n (fun a => { a with burst := some b }) s
    if b.last then burstMatch n (modMeas n (fun m => { m with bursts := m.bursts + 1 }) s) else s

/-! ## The fast fit (R295) -/

/-- Weight of a point now: ΔI², halved every hour. -/
def pointWeight (now : Nat) (p : Rat × Rat × Rat × Nat) : Rat :=
  let age : Rat := ((now - p.2.2.2 : Nat) : Rat) / 800000000
  p.2.2.1 * p.2.2.1 * Config.expNeg (age / 3600 * Config.ln 2)

/-- Insert into a rising list. -/
def insertR (x : Rat) : List Rat → List Rat
  | [] => [x]
  | y :: ys => if x ≤ y then x :: y :: ys else y :: insertR x ys

/-- Median of a list. -/
def medianR (l : List Rat) : Rat :=
  let a := l.foldr insertR []
  let k := a.length
  if k = 0 then 0 else if k % 2 = 1 then a.getD (k / 2) 0 else (a.getD (k / 2 - 1) 0 + a.getD (k / 2) 0) / 2

/-- ρ of a bin (R301). -/
def rhoOf (m : List Byte) (b : Nat) (x : BinSt) : Rat :=
  if mRref m (b / 4) = 0 then 0 else (x.rOhm + x.rCt1) / 1000000 / mRref m (b / 4)

/-- IMPEDANCE_DRIFT (R302). -/
def driftEvent (n : Chan) (k kind : Nat) (ended : Bool) (b : Nat) (s : State) : State :=
  let g := grpAt s n k
  raise 0x8409 n.val [ef 28 0 n.val, ef 29 0 kind, ef 29 2 (bN ended), ef 30 0 k, ef 32 0 (units 2 (g.ratio * 1000)), ef 34 0 b,
    ef 36 0 (units 4 (binAt g b).rOhm)] s

/-- One kind of drift at a fit: entry at most once in 24 h, end for the kinds that have one. -/
def driftKind (n : Chan) (k kind b : Nat) (met : Bool) (s : State) : State :=
  let g := grpAt s n k
  let on := g.drift.getLsbD kind
  let set (v : Bool) (s : State) : State :=
    modGrp n k (fun g => { g with drift := if v then g.drift ||| (1#4 <<< kind) else g.drift &&& ~~~(1#4 <<< kind) }) s
  let said := tabGet 0 g.driftAt kind
  let silent := decide (said ≠ 0) && s.tim.tb + 1 - said < 86400 * tSec
  if met && (!on || kind = 2) then
    let s := set true s
    if silent then s
    else
      let s := modGrp n k (fun g => { g with driftAt := tabPut 0 g.driftAt kind (s.tim.tb + 1) }) s
      let s := driftEvent n k kind false b s
      if kind = 1 || kind = 2 then causeOnAt n 8 k s else s
  else if !met && on && kind ≠ 2 then driftEvent n k kind true b (set false s)
  else s

/-- The baseline is taken once at least four bins have a fast fit, after provisioning or the first authentication (R301). -/
def takeBaseline (n : Chan) (k : Nat) (s : State) : State :=
  let g := grpAt s n k
  let m := cellModel s
  let l := (List.range 32).filter (fun b => (binAt g b).fast)
  if g.baseRatio.isSome || !s.cyc[n].authOk || l.length < 4 then s
  else modGrp n k (fun g => { g with baseRatio := some (meanR (l.map (fun b => rhoOf m b (binAt g b)))) }) s

/-- Drift at an accepted fit of bin `b` (R302). -/
def driftCheck (n : Chan) (k b : Nat) (s : State) : State :=
  let g := grpAt s n k
  let warn : Rat := (pNat s Prm.asyDriftWarn : Rat) / 100
  let lim : Rat := (pNat s Prm.asyDriftLimit : Rat) / 100
  let step : Rat := (pNat s Prm.asyDriftStep : Rat) / 100
  let bin := binAt g b
  let s := match bin.fits.find? (fun f => s.tim.tb - f.1 ≥ 3600 * tSec) with
    | some f => driftKind n k 2 b (decide (absR (bin.rOhm - f.2) > step * absR f.2)) s
    | none => s
  match g.baseRatio with
  | none => s
  | some base =>
    if g.bins.any (fun x => x.2.unverified) then s
    else
      let med := medianR (((groupsOf s n).map (fun i => (grpAt s n i).ratio)).filter (· ≠ 0))
      let s := driftKind n k 0 b (decide (g.ratio ≥ base * (1 + warn))) s
      let s := driftKind n k 1 b (decide (g.ratio ≥ base * (1 + lim))) s
      driftKind n k 3 b (decide (absR (g.ratio - med) > warn * med)) s

/-- Fit one bin that received points (R295). -/
def fitBin (n : Chan) (k b : Nat) (s : State) : State :=
  let bin := binAt (grpAt s n k) b
  if !bin.fresh then s
  else
    let now := s.tim.tb
    let pts := bin.points.map (fun p => (p.1, p.2.1 / 1000000, pointWeight now p))
    let weight := (pts.map (fun p => p.2.2)).sum
    let mean := meanR (bin.points.map (fun p => absR p.2.2.1))
    let count := if mean = 0 then 0 else weight / (mean * mean)
    let f := Config.fitFast pts (if bin.slow then bin.rCt2 / 1000000 else 0) (if bin.slow then bin.tau2 else 0)
    let rOhm := f.1
    let rCt1 := f.2.1
    let tau := f.2.2.1
    let sigma := f.2.2.2
    let top := min (3 * (pNat s Prm.asyEdgePost3 : Rat) / 1000000000) (65535 / 10000000)
    let ok := count ≥ pNat s Prm.asyImpMinN && rOhm > 0 && rCt1 ≥ 0 && 2 / 1000000 ≤ tau && tau ≤ top && sigma ≤ rOhm / 10
    let put (x : BinSt) (s : State) : State := modGrp n k (fun g => { g with bins := tabPut {} g.bins b x }) s
    if !ok then put { bin with fresh := false } s
    else
      let recent := bin.fits.takeWhile (fun x => now - x.1 < 3600 * tSec)
      let older := (bin.fits.dropWhile (fun x => now - x.1 < 3600 * tSec)).take 1
      let x := { bin with rOhm := rOhm * 1000000, rCt1 := rCt1 * 1000000, tau1 := tau, sigma := sigma * 1000000, fast := true,
                          unverified := false, nfit := min 65535 count.floor.toNat, fitAt := now, fresh := false,
                          fits := (now, rOhm * 1000000) :: (recent ++ older) }
      let s := put x s
      let s := modGrp n k (fun g => { g with ratio := rhoOf (cellModel s) b x }) s
      let s := modCyc n (fun c => { c with fits := c.fits + 1 }) s
      driftCheck n k b (takeBaseline n k s)

/-- Fits at an update: every bin that received points since its last fit. -/
def fitChannel (n : Chan) (s : State) : State :=
  if s.asy.arrayOff then s
  else forEach (groupsOf s n) (fun k s =>
    forEach ((grpAt s n k).bins.map (·.1)) (fun b s => fitBin n k b s) s) s

/-! ## Views (R299, R300) -/

/-- R_DC in use, Ω. -/
def rDc (x : Imp) : Rat := x.rOhm + x.rCt1 + x.rCt2

end Sys2Proof.Machine
end

