-- ==== Sys2Proof/Machine/Measure.lean ====
section
/-! DEFINITION. Cell measurement (06): the update of the cell and temperature tables from a CELLS report, the stack sum, the
touchstone comparison and the classification of sense wires. -/

namespace Sys2Proof.Machine

/-! ## Corrections while balancing (R180 to R183). Voltages in 100 µV, currents in A, resistances in mΩ -/

/-- Resistance of a wire on record, mΩ. -/
def wireR (c : Calib) (k : Nat) : Rat := ((c.rw[k]?).getD 0 : Nat)

/-- Bleed current of cell `j` of a report under a mask, A. -/
def bleedI (c : Calib) (cells : List Half) (mask : BitVec 256) (j : Int) : Rat :=
  if j < 0 then 0
  else match cells[j.toNat]? with
    | some v => if mask.getLsbD j.toNat && v ≠ 0xFFFF && c.rBleed ≠ 0 then (v.toNat : Rat) / 100 / c.rBleed else 0
    | none => 0

/-- Net current of wire `k`. -/
def wireI (c : Calib) (cells : List Half) (mask : BitVec 256) (k : Nat) : Rat :=
  bleedI c cells mask k - bleedI c cells mask ((k : Int) - 1)

/-- corr(i) of R181, 100 µV. -/
def corrOf (c : Calib) (cells : List Half) (mask : BitVec 256) (i : Nat) : Int :=
  toLsb (10 * (wireI c cells mask i * wireR c i - wireI c cells mask (i + 1) * wireR c (i + 1)))

/-- The bound of R183, 100 µV. -/
def corrBound (s : State) (c : Calib) (cells : List Half) (mask : BitVec 256) (i : Nat) : Nat :=
  let dr : Rat := if (s.tim.station - c.taken).toNat < 30 * 86400 * tSec then 5 else 10
  let b (j : Int) : Rat := bleedI c cells mask j
  let sum := dr * (absR (wireI c cells mask i) + absR (wireI c cells mask (i + 1))) +
    (b i * (wireR c i + wireR c (i + 1)) + b (i + 1) * wireR c (i + 1) + b ((i : Int) - 1) * wireR c i) / 50
  (toLsb (10 * sum)).toNat

/-- Bleed mask that held over a window that ends at `t`. -/
def maskOver (s : State) (n : Chan) (t : DWord) : BitVec 256 :=
  match s.meas[n].bleedAt with
  | some a => if t.toNat ≤ a.toNat then s.meas[n].bleedOld else s.meas[n].bleed
  | none => s.meas[n].bleed

/-! ## The cell table (R169) -/

/-- The cell across the open wire beside cell `i`; none for an end wire. -/
def acrossOpen (s : State) (n : Chan) (i : Nat) : Option Nat :=
  if i + 1 < cellCount s n && wireOpen s n (i + 1) then some (i + 1)
  else if i ≥ 1 && wireOpen s n i then some (i - 1) else none

/-- A cell takes a value: VOLT, TIME, VALID, and STALE and HELD end. -/
def takeVolt (v : Nat) (unc : Nat) (time : DWord) (now : Nat) (c : CellSt) : CellSt :=
  { c with volt := BitVec.ofNat 16 v, unc := BitVec.ofNat 16 unc, valid := true, stale := false, held := false, time := time,
           acceptedAt := now }

/-- Update cell `i` from a report (R169). -/
def updateCell (n : Chan) (x : CellsReport) (mask : BitVec 256) (i : Nat) (v : Half) (s : State) : State :=
  let now := s.tim.tb
  let tested := x.owTest && (match s.meas[n].testing with
    | some k => i + 1 = k || i = k
    | none => true)
  let near := mask.getLsbD i || mask.getLsbD (i + 1) || (i ≥ 1 && mask.getLsbD (i - 1))
  let hold := modCell n i (fun c => { c with held := true }) s
  if v = 0xFFFF then modCell n i (fun c => { c with valid := false }) s
  else if tested then hold
  else if cellOpen s n i then
    match (acrossOpen s n i).bind (fun k => x.cells[k]?) with
    | some w => if w = 0xFFFF then hold else modCell n i (takeVolt ((v.toNat + w.toNat) / 2) 20 x.time now) s
    | none => hold
  else if x.balOn && !x.balSusp && near then
    match s.meas[n].calib with
    | some c =>
      if mubEffective s n then
        let k := corrOf c x.cells mask i
        let unc := min 65535 (20 + corrBound s c x.cells mask i)
        modCell n i (fun q => takeVolt (clampN 65534 (v.toNat + k)) unc x.time now { q with raw := v, corr := k, corrected := true }) s
      else hold
    | none => hold
  else modCell n i (fun c => takeVolt v.toNat 20 x.time now { c with raw := v, corr := 0, corrected := false }) s

/-- STALE of a channel's cells (R170) and temperatures. -/
def markStale (n : Chan) (s : State) : State :=
  let now := s.tim.tb
  let lim := 3 * pNat s Prm.asyReportInterval * 8000
  let s := forEach (groupsOf s n) (fun i s =>
    let c := cellAt s n i
    if c.valid && !c.stale && now - c.acceptedAt ≥ lim then modCell n i (fun c => { c with stale := true }) s else s) s
  forEach (List.range (tempCount s n)) (fun t s =>
    let c := tempAt s n t
    if c.valid && !c.stale && now - c.updatedAt ≥ lim * divisorOf s n then modTemp n t (fun c => { c with stale := true }) s else s) s

/-! ## The temperature table (R171), 0.1 °C -/

/-- Take a temperature. -/
def takeTemp (v : Half) (now : Nat) (c : TempSt) : TempSt :=
  { c with temp := v, valid := true, stale := false, nodeInvalid := false, unconfirmed := none, updatedAt := now }

/-- Update a sensor from a report. -/
def updateTemp (n : Chan) (t : Nat) (v : Half) (s : State) : State :=
  let now := s.tim.tb
  modTemp n t (fun c =>
    if v = 0x8000 then { c with nodeInvalid := true, valid := false, unconfirmed := none }
    else if c.temp = 0x8000 || v.toInt ≥ c.temp.toInt - 50 then takeTemp v now c
    else match c.unconfirmed with
      | some u => if (v.toInt - u.toInt).natAbs ≤ 10 then takeTemp v now c else { c with unconfirmed := some v, nodeInvalid := false }
      | none => { c with unconfirmed := some v, nodeInvalid := false }) s

/-- An accepted TEMP value goes into the window that RATE is computed from (13 R390): no window is longer than 120 s. -/
def keepTemp (n : Chan) (t : Nat) (v : Half) (s : State) : State :=
  if v = 0x8000 || (tempAt s n t).unconfirmed.isSome then s
  else
    let now := s.tim.tb
    let add (h : Tab (List (Nat × Int))) : Tab (List (Nat × Int)) :=
      tabPut [] h t ((now, v.toInt) :: (tabGet [] h t).filter (fun x => now - x.1 ≤ 120 * tSec))
    modThm n (fun c => { c with hist := add c.hist }) s

/-! ## Plausibility (R172 to R175) -/

/-- PLAUSIBILITY_FAULT. -/
def plausEvent (n : Chan) (cell : Nat) (sum ended : Bool) (main other : Nat) (s : State) : State :=
  let s := modMeas n (fun m => { m with plausFaults := m.plausFaults + 1 }) s
  raise 0x8404 n.val [ef 28 0 cell, ef 30 0 (bN sum), ef 30 1 (bN ended), ef 32 0 (main % 65536), ef 34 0 (other % 65536)] s

/-- A cell's value in a TOUCH frame: MAIN and STONE in 100 µV; none when either is invalid. -/
def touchPair (x : TouchFrame) (i : Nat) : Option (Int × Int) :=
  match x.main[i]?, x.stone[i]? with
  | some a, some b => if a = 0xFFFF || b = 0x3FF then none else some (a.toNat, 50 * b.toNat)
  | _, _ => none

/-- Cases of R173 that skip every comparison of a frame. -/
def touchNearEdge (s : State) (n : Chan) (t : Nat) : Bool :=
  s.meas[n].edges.any (fun e => e.1.toNat ≤ t + 25000 && t ≤ e.2.toNat + 80000) ||
    (match s.meas[n].bleedAt with
     | some b => b.toNat ≤ t && t ≤ b.toNat + tMs
     | none => false)

/-- The comparison of a cell: none skipped, else its sign, 0 when it agrees. -/
def compareCell (s : State) (n : Chan) (x : TouchFrame) (i : Nat) : Option Int :=
  let tested := match s.meas[n].testing with
    | some k => i + 1 = k || i = k
    | none => false
  if tested || touchNearEdge s n x.time.toNat then none
  else (touchPair x i).map (fun p =>
    let d := p.1 - p.2
    if d.natAbs > pNat s Prm.asyPlausThresh then (if d > 0 then 1 else -1) else 0)

/-- The sense-wire pattern of R184's first case on cell `i`: the wire it points to. -/
def wirePattern (s : State) (n : Chan) (x : TouchFrame) (i : Nat) (c : CellSt) : Option Nat :=
  let count := pNat s Prm.asyPlausCount
  let sums (a b : Nat) : Bool := match touchPair x a, touchPair x b with
    | some p, some q => (p.1 + q.1 - p.2 - q.2).natAbs ≤ pNat s Prm.asyPlausThresh
    | _, _ => false
  if i ≥ 1 && 2 * c.oppLow ≥ count && sums (i - 1) i then some i
  else if i + 1 < cellCount s n && 2 * c.oppHigh ≥ count && sums i (i + 1) then some (i + 1)
  else none

/-! ## Sense wires (R184 to R188) -/

/-- Start an open-wire test when none runs on the channel; only a master tests (R188; 02 R43). -/
def startWireTest (n : Chan) (k : Nat) (s : State) : State :=
  if !isMaster s || !running s n || s.meas[n].testing.isSome then s
  else sendCmd n 0x0012 (leBytes 2 k ++ leBytes 2 (pNat s Prm.asyOwTestMs)) (.openWire k)
    (modMeas n (fun m => { m with testing := some k, testTries := 0 }) s)

/-- Start the test of the next suspected wire that has not been tested. -/
def nextSuspect (n : Chan) (s : State) : State :=
  match s.meas[n].suspects.find? (fun w => w.opened.isNone) with
  | some w => startWireTest n w.wire s
  | none => s

/-- Suspect a wire (R184). -/
def suspectWire (n : Chan) (k : Nat) (s : State) : State :=
  if wireSuspect s n k || wireOpen s n k then s
  else
    let s := if s.meas[n].suspects.isEmpty then modAsy n (fun a => { a with pair := [] }) s else s
    let w : Suspect := { wire := k, since := s.tim.tb, tries := 0, tone := false, opened := none }
    nextSuspect n (modMeas n (fun m => { m with suspects := m.suspects ++ [w], owSuspects := m.owSuspects + 1 }) s)

/-- The suspicion of a wire is over. -/
def endSuspect (n : Chan) (k : Nat) (s : State) : State :=
  nextSuspect n (modAsy n (fun a => { a with pair := [] })
    (modMeas n (fun m => { m with suspects := m.suspects.filter (fun w => w.wire ≠ k) }) s))

/-- Latch PLAUS on a cell (R174). -/
def latchPlaus (n : Chan) (i : Nat) (main other : Nat) (s : State) : State :=
  if (cellAt s n i).plaus then s
  else plausEvent n i false false main other (modCell n i (fun c => { c with plaus := true, agreeRun := 0 }) s)

/-- A wire is confirmed open (R187, R189). -/
def confirmOpen (n : Chan) (w : Suspect) (checked cellFault : Bool) (s : State) : State :=
  let d := w.opened.getD (0, 0)
  let s := modMeas n (fun m => { m with openWires := m.openWires ++ [{ wire := w.wire, impChecked := checked, cellFault := cellFault }] }) s
  let s := endSuspect n w.wire s
  let s := raise 0x8405 n.val [ef 28 0 w.wire, ef 30 0 (bN checked), ef 30 1 (bN cellFault), ef 30 2 (bN w.tone),
    ef 32 0 d.1.toNat, ef 34 0 d.2.toNat] s
  let s := nodeService n 6 w.wire s
  let s := markDirty n (layToWire n (judgeWires n s))
  if !cellFault then s
  else judgePlaus n (forEach [w.wire - 1, w.wire] (fun i s =>
    let c := cellAt s n i
    if c.plausRun ≥ pNat s Prm.asyPlausCount then latchPlaus n i c.raw.toNat c.stone.toNat s else s) s)

/-- Non-overlapped bursts of the pair since the suspicion. -/
def pairBursts (s : State) (n : Chan) : Nat := s.asyCh[n].pair.length / 3

/-- The impedance check of R186: the fitted pair sum against the tabled one. -/
def pairWithin (s : State) (n : Chan) (k : Nat) : Bool :=
  let x := impOf s n (k - 1)
  let y := impOf s n k
  let f := Config.fitFast (s.asyCh[n].pair.map (fun p => (p.1, p.2.1, p.2.2.1))) (x.rCt2 + y.rCt2) (tau2Of x)
  let tab := x.rOhm + y.rOhm
  absR (f.1 - tab) ≤ (pNat s Prm.asyOwRtol : Rat) / 100 * tab

/-- Suspected inner wires whose test read open are classified as their bursts come in, or without the check after 10 s
(R186). -/
def classifyWires (n : Chan) (s : State) : State :=
  forEach (s.meas[n].suspects.filter (fun w => w.opened.isSome)) (fun w s =>
    if pairBursts s n ≥ 16 then
      let ok := pairWithin s n w.wire
      confirmOpen n w true (!ok) s
    else if s.tim.tb - w.since ≥ 10 * tSec then confirmOpen n w false false s
    else s) s

/-- What a test result reads (R185): 0 open, 1 intact, 2 inconclusive. -/
def testReads (s : State) (n : Chan) (k : Nat) (lo hi : Int) : Nat :=
  let o := pNat s Prm.asyOwOpen
  let it := pNat s Prm.asyOwIntact
  let first := k = 0
  let last := k = cellCount s n
  let big := (first || lo.natAbs ≥ o) && (last || hi.natAbs ≥ o)
  let opposed := first || last || (lo < 0 && hi > 0) || (lo > 0 && hi < 0)
  if big && opposed then 0 else if lo.natAbs ≤ it && hi.natAbs ≤ it then 1 else 2

/-- The result of the test of wire `k`; none when the CMD failed (R185, R186, R188). -/
def wireTested (n : Chan) (k : Nat) (d : Option (Half × Half)) (s : State) : State :=
  let reads := match d with
    | some x => testReads s n k x.1.toInt x.2.toInt
    | none => 2
  let s := if d.isSome then modMeas n (fun m => { m with owTests := m.owTests + 1 }) s else s
  let tries := s.meas[n].testTries
  if reads = 2 && tries < 2 && running s n then
    sendCmd n 0x0012 (leBytes 2 k ++ leBytes 2 (pNat s Prm.asyOwTestMs)) (.openWire k)
      (modMeas n (fun m => { m with testTries := tries + 1 }) s)
  else
    let s := modMeas n (fun m => { m with testing := none, testTries := 0 }) s
    match s.meas[n].suspects.find? (fun w => w.wire = k) with
    | some w =>
      if reads ≠ 0 then endSuspect n k s
      else if k = 0 || k = cellCount s n then confirmOpen n { w with opened := d } false false s
      else
        let s := modMeas n (fun m => { m with suspects := m.suspects.map (fun q => if q.wire = k then { q with opened := d } else q) }) s
        classifyWires n (nextSuspect n s)
    | none =>
      if reads = 0 then (if wireOpen s n k then nextSuspect n s else suspectWire n k s)
      else if reads = 1 && wireOpen s n k then
        nextSuspect n (markDirty n (judgeWires n (modMeas n (fun m => { m with openWires := m.openWires.filter (fun w => w.wire ≠ k) }) s)))
      else nextSuspect n s

/-! ## The stack sum (R176) and the deviation from the median (R184) -/

/-- Median of the channel's valid cells, 100 µV. -/
def medianVolt (s : State) (n : Chan) : Rat := medianR ((validCells s n).map (fun c => (c.2.volt.toNat : Rat)))

/-- Deviation of a cell from the median, 100 µV. -/
def deviation (s : State) (n : Chan) (med : Rat) (i : Nat) : Rat := ((cellAt s n i).volt.toNat : Rat) - med

/-- The stack-sum check of a report (R176). -/
def stackSum (n : Chan) (s : State) : State :=
  if !allCellsValid s n then s
  else
    let sum : Int := ((groupsOf s n).map (fun i => ((cellAt s n i).raw.toNat : Int) + (cellAt s n i).corr)).sum
    let diff : Rat := (sum : Rat) / 10 - s.meas[n].packV
    let tol : Rat := pNat s Prm.asySumTol
    let bad := decide (absR diff > tol)
    let s := modMeas n (fun m => { m with sumErr := satI 32 (toLsb diff), sumRun := if bad then m.sumRun + 1 else 0 }) s
    let main := (sum / 100).natAbs
    let other := (s.meas[n].packV / 10).natAbs
    if !bad then
      (if s.meas[n].sumFault then plausEvent n 0xFFFF true true main other (modMeas n (fun m => { m with sumFault := false }) s) else s)
    else if s.meas[n].sumRun < 8 || s.meas[n].sumFault then s
    else
      let med := medianVolt s n
      let last := cellCount s n - 1
      let fits (i : Nat) : Bool := decide (absR (diff - deviation s n med i / 10) ≤ tol)
      let ends := [(0, 0), (last, last + 1)].filter (fun e => fits e.1)
      if ends.any (fun e => wireOpen s n e.2 || wireSuspect s n e.2) then s
      else if s.meas[n].sumRun = 8 && !ends.isEmpty then
        (match ends with
         | e :: _ => suspectWire n e.2 s
         | [] => s)
      else plausEvent n 0xFFFF true false main other (modMeas n (fun m => { m with sumFault := true }) s)

/-- Pairs of cells that deviate with opposite signs (R184, second case). -/
def deviations (n : Chan) (s : State) : State :=
  let med := medianVolt s n
  let lim : Rat := 4 * pNat s Prm.asyPlausThresh
  let met (k : Nat) : Bool :=
    let a := deviation s n med (k - 1)
    let b := deviation s n med k
    (cellAt s n (k - 1)).valid && (cellAt s n k).valid && absR a > lim && absR b > lim && (decide (a < 0) != decide (b < 0)) &&
      5 * absR (absR a - absR b) ≤ max (absR a) (absR b)
  let run (k : Nat) : Nat := if met k then tabGet 0 s.meas[n].devRun k + 1 else 0
  let wires := (List.range (cellCount s n)).drop 1
  let next := wires.filterMap (fun k => if run k = 0 then none else some (k, run k))
  let s := modMeas n (fun m => { m with devRun := next }) s
  forEach (next.filter (fun x => x.2 = 8)) (fun x s => suspectWire n x.1 s) s

/-! ## TOUCH (R172 to R175) -/

/-- One cell's comparison counted. -/
def countCell (n : Chan) (x : TouchFrame) (cmp : List (Option Int)) (i : Nat) (s : State) : State :=
  let sgn (j : Nat) : Int := ((cmp[j]?).bind id).getD 0
  match (cmp[i]?).bind id with
  | none => modMeas n (fun m => { m with skipped := m.skipped + 1 }) s
  | some 0 =>
    let c := cellAt s n i
    let done := c.plaus && c.agreeRun + 1 ≥ 64
    let s := modCell n i (fun c => { c with plausRun := 0, oppLow := 0, oppHigh := 0,
                                            agreeRun := if done || !c.plaus then 0 else c.agreeRun + 1, plaus := c.plaus && !done }) s
    match done, touchPair x i with
    | true, some p => plausEvent n i false true p.1.toNat p.2.toNat s
    | _, _ => s
  | some d =>
    let count := pNat s Prm.asyPlausCount
    let oppo (j : Int) : Nat := if j * d < 0 then 1 else 0
    let s := modCell n i (fun c => { c with plausRun := min 255 (c.plausRun + 1), agreeRun := 0
                                            oppLow := c.oppLow + (if i = 0 then 0 else oppo (sgn (i - 1)))
                                            oppHigh := c.oppHigh + oppo (sgn (i + 1)) }) s
    let c := cellAt s n i
    if c.plaus || c.plausRun < count || cellSuspect s n i || cellOpen s n i then s
    else match (if c.plausRun = count then wirePattern s n x i c else none), touchPair x i with
      | some k, _ => suspectWire n k s
      | none, some p => latchPlaus n i p.1.toNat p.2.toNat s
      | none, none => s

/-- A TOUCH frame (R172 to R175). -/
def touchCompare (n : Chan) (x : TouchFrame) (s : State) : State :=
  let k := cellCount s n
  let cmp := (List.range k).map (compareCell s n x)
  let s := modMeas n (fun m => { m with touches := m.touches + 1 }) s
  let s := forEach (numbered 0 (x.stone.take k)) (fun p s =>
    if p.2 = 0x3FF then s else modCell n p.1 (fun c => { c with stone := BitVec.ofNat 16 (50 * p.2.toNat) }) s) s
  judgePlaus n (forEach (List.range k) (fun i s => countCell n x cmp i s) s)

/-! ## CELLS report (R165, R169 to R171, R176, R184) -/

/-- Length of a report's window in ticks. -/
def windowOf (s : State) (n : Chan) (x : CellsReport) : Nat :=
  let p := match s.insCh[n].eng.carrier with
    | some c => c.period
    | none => carrierP s
  if x.locked then x.nsamp.toNat * p else x.nsamp.toNat * 25000

/-- The report contains the reload that changed the carrier (R165). -/
def spansCarrier (s : State) (n : Chan) (wStart : Int) (x : CellsReport) : Bool :=
  match s.meas[n].carrierAt with
  | some t => decide (wStart < (t.toNat : Int)) && decide (t.toNat < x.time.toNat)
  | none => false

/-- The tables after a valid report. -/
def takeReport (n : Chan) (x : CellsReport) (s : State) : State :=
  let mask := maskOver s n x.time
  let s := modMeas n (fun m => { m with reports := m.reports + 1, packI := x.packI.toInt, packV := x.packV.toInt,
                                        capV := x.capV.toInt, hasReport := true }) s
  let s := forEach (numbered 0 (x.cells.take (cellCount s n))) (fun c s => updateCell n x mask c.1 c.2 s) s
  let s := match x.temps with
    | some ts => forEach (numbered 0 (ts.take (tempCount s n))) (fun t s => keepTemp n t.1 t.2 (updateTemp n t.1 t.2 s)) s
    | none => s
  markStale n s

end Sys2Proof.Machine
end

