-- ==== Sys2Proof/Machine/Service.lean ====
section
/-! DEFINITION. Node services under a service hold (12 R380, R381): the transfer and activation of a node image, and node
calibration. -/

namespace Sys2Proof.Machine

/-- The node service of a channel. -/
def serviceOf (s : State) (n : Chan) : Option ServiceSt :=
  (s.img.service.find? (fun x => x.1 = n.val)).map (·.2)

/-- Set the node service of a channel. -/
def putService (n : Chan) (v : ServiceSt) (s : State) : State :=
  let low := s.img.service.filter (fun x => x.1 < n.val)
  let high := s.img.service.filter (fun x => x.1 > n.val)
  { s with img := { s.img with service := low ++ [(n.val, v)] ++ high } }

/-- The node's reported output allows UPDATE_ACTIVATE or CALIBRATE (R380): BYPASSED; for a channel that no SCHED reaches,
BLOCKED as well. An ACTIVE channel must be held in the set in force. -/
def serviceBypassed (s : State) (n : Chan) : Bool :=
  match s.con[n].state with
  | .active => reported s n == some .bypassed && s.insCh[n].held
  | .disconnected => reported s n == some .bypassed || reported s n == some .blocked
  | _ => reported s n == some .bypassed

/-- UPDATE_ACTIVATE or CALIBRATE goes out once the bypass is reported (R380). -/
def servicePoll (n : Chan) (s : State) : State :=
  match serviceOf s n with
  | none => s
  | some v =>
    if v.stage = 3 && serviceBypassed s n then
      let s := putService n { v with stage := 4 } s
      if v.update then sendCmd n 0x0043 [] .update s else sendCmd n 0x0030 [v.kind] .calibrate s
    else s

/-- Take the service hold when no channel of the segment is under one (R381). -/
def takeHold (n : Chan) (s : State) : State :=
  match serviceOf s n with
  | none => s
  | some v =>
    if s.twn.serviceOwner.isSome then
      let s := putService n { v with stage := 2 } s
      { s with twn := { s.twn with serviceWait := s.twn.serviceWait ++ [n] } }
    else
      let s := putService n { v with stage := 3, wasActive := s.con[n].state == .active } s
      let s := { s with twn := { s.twn with serviceOwner := some n } }
      servicePoll n (markDirty n (modCon n (fun c => { c with service := true }) (abortCycle n 1 s)))

/-- The next command that waits for the hold takes it (R381). -/
def nextHold (s : State) : State :=
  match s.twn.serviceOwner, s.twn.serviceWait with
  | none, n :: rest => takeHold n { s with twn := { s.twn with serviceWait := rest } }
  | _, _ => s

/-- Start a node service on a channel. -/
def startService (n : Chan) (v : ServiceSt) (s : State) : State :=
  if v.update then
    sendCmd n 0x0040 (leBytes 4 v.image.length ++ leBytes 4 v.version.toNat) .update (putService n v s)
  else takeHold n (putService n v s)

/-- The service ends. -/
def endService (n : Chan) (st : Status) (s : State) : State := nextHold (markDirty n (dropService n st s))

/-- The hold is released at a reload point when R334 is met; a channel that was not ACTIVE needs no gate (R380). -/
def serviceRelease (n : Chan) (s : State) : State :=
  match serviceOf s n with
  | none => s
  | some v =>
    if v.stage ≠ 7 then s
    else if s.con[n].state = .active && (gateStatus s n).isSome then endService n .wrongState (setCh n .bypass 0 true s)
    else endService n .ok s

/-- The work under the hold is done. -/
def serviceDone (n : Chan) (v : ServiceSt) (s : State) : State :=
  if s.con[n].state = .active then putService n { v with stage := 7 } s else endService n .ok s

/-- The next chunk of the image, or the verification (R380). -/
def nextChunk (n : Chan) (v : ServiceSt) (s : State) : State :=
  if v.offset < v.image.length then
    sendCmd n 0x0041 (leBytes 4 v.offset ++ [0, 0, 0, 0] ++ slice v.image v.offset 1008) .update
      (putService n { v with offset := v.offset + 1008 } s)
  else sendCmd n 0x0042 [] .update (putService n { v with stage := 1 } s)

/-- The exchange of R150 begins while the port stays RUNNING. -/
def reExchange (n : Chan) (s : State) : State := streamReset n true (modTxn n (fun x => { x with reExchange := true }) s)

/-- Calibration data of kind 0x04 (06 R182): nothing of a reply too short to hold them. -/
def calibOf (s : State) (n : Chan) (data : List Byte) : Option Calib :=
  if data.length < 516 then none
  else some { rBleed := ofLe (slice data 0 2), rw := (List.range 257).map (fun k => ofLe (slice data (2 + 2 * k) 2)),
              taken := s.tim.station, node := (s.txns[n].caps.map (·.nodeId)).getD 0 }

/-- The final REPLY of a CMD of the service, or its failure (R380; 05 R149). -/
def serviceReply (n : Chan) (result : Option Nat) (data : List Byte) (s : State) : State :=
  match serviceOf s n with
  | none => s
  | some v =>
    match result with
    | none => endService n .timeout s
    | some 6 => endService n .authFail s
    | some 0 =>
      (match v.stage with
      | 0 => nextChunk n v s
      | 1 => takeHold n s
      | 4 =>
        if v.update then reExchange n (putService n { v with stage := 5 } s)
        else
          let s := if v.kind = 4 then
              (match calibOf s n data with
              | some c =>
                let s := queueWrite (.calibration n) (modMeas n (fun m => { m with calib := some c }) s)
                if mubEffective s n then sendSetup n 5 .config s else s
              | none => s)
            else s
          serviceDone n v s
      | _ => s)
    | some _ => endService n .wrongState s

/-- The exchange after an update has been accepted: the image runs, or the command fails (R380). -/
def serviceCaps (n : Chan) (image : Word) (s : State) : State :=
  match serviceOf s n with
  | none => s
  | some v =>
    if v.stage ≠ 5 then s
    else if image = v.version then putService n { v with stage := 6 } s
    else endService n .wrongState s

/-- All five set-up CMDs have answered DONE (R380). -/
def serviceSetup (n : Chan) (s : State) : State :=
  match serviceOf s n with
  | none => s
  | some v => if v.stage = 6 then serviceDone n v s else s

/-! ## What the REPLY of each CMD does (05 R148, R149) -/

/-- A bleed mask takes effect at the next window boundary (06 R180, R160). -/
def bleedTaken (n : Chan) (args : List Byte) (s : State) : State :=
  let mask := BitVec.ofNat 256 (ofLe (args.take 32))
  if mask = s.meas[n].bleed then s
  else
    let w := max 1 (pNat s Prm.asyReportInterval * 8000)
    let at_ := (s.tim.station.toNat / w + 1) * w
    modMeas n (fun m => { m with bleedOld := m.bleed, bleed := mask, bleedAt := some (BitVec.ofNat 64 at_) }) s

/-- One set-up CMD of R159 has ended. -/
def setupReply (n : Chan) (k : Nat) (ok : Bool) (args : List Byte) (s : State) : State :=
  if !ok then causeOn n 12 s
  else
    let s := if k = 5 then bleedTaken n args s else s
    let left := s.meas[n].setupLeft - 1
    let s := modMeas n (fun m => { m with setupLeft := left }) s
    if left = 0 then serviceSetup n (causeOff n 12 s) else s

/-- A CMD has ended: with a result and its DATA, or failed (05 R149). -/
def cmdDone (p : Chan) (c : NodeCmd) (result : Option Nat) (data : List Byte) (s : State) : State :=
  let ok := result = some 0
  match c.purpose with
  | .setup k => setupReply p k ok c.args s
  | .config => if ok && c.code = 0x0005 then bleedTaken p c.args s else s
  | .balance => if ok then bleedTaken p c.args s else s
  | .sequence => seqReply p result s
  | .protect => s
  | .openWire k => wireTested p k (if ok then some (BitVec.ofNat 16 (ofLe (slice data 0 2)), BitVec.ofNat 16 (ofLe (slice data 2 2))) else none) s
  | .touchRead => touchRead p ok data s
  | .touchSign => touchSigned p ok data s
  | .touchWrite => touchWritten p ok s
  | .update => serviceReply p result data s
  | .calibrate => serviceReply p result data s

/-- Every outstanding CMD of a port is taken as failed (05 R149). -/
def failCmds (p : Chan) (s : State) : State :=
  let cs := s.txns[p].cmds
  let s := modTxn p (fun x => { x with cmds := [] }) s
  forEach cs (fun c s => cmdDone p c none [] s) s

end Sys2Proof.Machine
end

