-- ==== Sys2Proof/Machine/PortRows.lean ====
section
/-! DEFINITION. Cell link ports: bring-up, tone and ranging (04 R105 to R121; 02 R44, R45), and the timers of the frame layer
(05 R128, R133, R149, R157). -/

namespace Sys2Proof.Machine

/-- The port takes part in bring-up: populated, its transmitter on (R109; 02 R40). -/
def portOn (s : State) (p : Chan) : Bool := populated s p && !s.pwr.dark && mainUp s

/-- State that the receiver alone gives: DARK, LIGHT or ALIGNED (R112). -/
def rxState (s : State) (p : Chan) : LinkState :=
  if !s.ports[p].light then .dark else if s.ports[p].lock then .aligned else .light

/-- A received power reading: a measured value (log 5). -/
def readPower (p : Chan) (s : State) : State :=
  let r := drawWord s
  modPort p (fun x => { x with rxPower := if x.light then r.1.truncate 16 else 0x8000 }) r.2

/-- The last valid /TK/ status character: a received value (log 5). -/
def readTk (p : Chan) (s : State) : State :=
  let r := drawWord s
  modPort p (fun x => { x with tkStatus := r.1.truncate 8 }) r.2

/-- The port has left RUNNING four times within 60 s (R110). -/
def mustWait (s : State) (p : Chan) : Bool :=
  s.ports[p].left.length ≥ 4 && s.tim.tb - (s.ports[p].left.getD 3 0) < 60 * tSec

/-! ## Leaving RUNNING, and bring-up that fails -/

/-- What a LINK_RETEST answers with when the port leaves RUNNING. -/
def retestFailed (p : Chan) (s : State) : State :=
  let d := match s.ports[p].delay with
    | some d => units 4 d
    | none => 0xFFFFFFFF
  finishAll (fun q => q.target == .port p) (fun _ => replyWords .wrongState [(3, d)])
    (modPort p (fun x => { x with retest := none }) s)

/-- A port leaves RUNNING for a link state: open CMDs fail (05 R149), a LINK_RETEST ends, the deadline follows (03 R79). -/
def leaveRunning (p : Chan) (new : LinkState) (s : State) : State :=
  if !running s p then modPort p (fun x => { x with state := new }) s
  else
    let s := modPort p (fun x => { x with state := new, left := (s.tim.tb :: x.left).take 4, ranging := [], verified := 0, sent := [] }) s
    let s := modPort p (fun x => { x with waiting := mustWait s p }) s
    let s := retestFailed p (failCmds p s)
    let s := modTxn p (fun x => { x with sched := none, reExchange := false, sreset := false, unacked := [], waiting := [] }) s
    let s := modMeas p (fun m => { m with hasReport := false, testing := none, setupLeft := 0 }) s
    let s := modAsy p (fun a => { a with gap := none, relax := none, burst := none }) s
    recomputeDeadline (modIns p (fun x => { x with abortWait := false }) s)

/-- Bring-up fails before RUNNING: back to what the receiver finds, and the next attempt (R110). -/
def bringupFails (p : Chan) (new : LinkState) (s : State) : State :=
  modPort p (fun x => { x with state := new, ranging := [], verified := 0, sent := [], waiting := x.waiting || mustWait s p }) s

/-- The states that R111 retries. -/
def stopped (l : LinkState) : Bool := l == .unpartnered || l == .crossWired || l == .refused

/-- Bring-up has begun and has not ended. -/
def bringing (l : LinkState) : Bool := l == .tone || l == .ranging || l == .exchange

/-! ## Placing channels (02 R44, R45; 11 R349) -/

/-- Mark a port settled. -/
def settlePort (p : Chan) (s : State) : State := modPort p (fun x => { x with settled := true }) s

/-- A channel is placed FENCED at the start. -/
def placeFenced (n : Chan) (cause : Nat) (s : State) : State :=
  let s := modCon n (fun c => { c with present := c.present ||| causeBit cause, fenceCause := BitVec.ofNat 8 cause, fenceK := 1 }) s
  setCh n .fenced cause false s

/-- Place the channel of a port that no node answers on (R44, R45, R349). -/
def placeDark (n : Chan) (s : State) : State :=
  if s.con[n].retiredRec then setCh n .retired s.con[n].retireCause.toNat false s
  else if s.cyc[n].dormantAt ≠ 0 && s.ports[n].state == .dark then setCh n .dormant 0 false s
  else placeFenced n 11 s

/-- Place a channel by the report of its node at bring-up (R44): once per start, and when a DORMANT channel's port comes up
with the contactor open (R349). -/
def placeStart (n : Chan) (s : State) : State :=
  if s.con[n].retiredRec then settlePort n (setCh n .retired s.con[n].retireCause.toNat false s)
  else if s.con[n].state = .dormant then
    (match contactor s n with
    | some 0 => settlePort n (setCh n .disconnected 0 false s)
    | some 1 => settlePort n (setCh n .bypass 0 false s)
    | _ => s)
  else if s.ports[n].settled then s
  else match contactor s n with
    | some 0 => settlePort n (setCh n .disconnected 0 false s)
    | some 1 =>
      let s := settlePort n (setCh n .bypass 0 false s)
      if reported s n ≠ some .bypassed then sendAbort n 0xB4 s else s
    | some 3 => settlePort n (placeFenced n 15 s)
    | _ => s

/-- A port reaches UNPARTNERED, CROSS_WIRED or REFUSED at the start: its channel is FENCED (R44). -/
def settleRefused (n : Chan) (s : State) : State :=
  if s.ports[n].settled then s else settlePort n (placeDark n s)

/-- PORT_UNPARTNERED, once until the port has been RUNNING (R111, R146). -/
def unpartner (p : Chan) (cause : Nat) (s : State) : State :=
  let said := s.ports[p].saidUnpartnered
  let s := leaveRunning p .unpartnered s
  let s := modTxn p (fun x => { x with unpartCause := BitVec.ofNat 4 cause }) (modPort p (fun x => { x with saidUnpartnered := true }) s)
  settleRefused p (if said then s else raise 0x8505 p.val [ef 28 0 cause] s)

/-! ## Light and lock (R95, R109, R110; 01 R12) -/

/-- PORT_LIGHT_DETECT (R109). -/
def execPortLightDetect (p : Chan) (s : State) : Out :=
  if !portOn s p then done s s
  else done s (readPower p (modPort p (fun x => { x with light := true, state := if x.state = .dark then .light else x.state }) s))

/-- LIGHT_ON_UNPOPULATED (01 R12). -/
def execLightOnUnpopulated (p : Chan) (s : State) : Out :=
  if populated s p then done s s
  else done s (readPower p (modPort p (fun x => { x with light := true }) (raise 0x8504 p.val [] s)))

/-- PORT_LIGHT_LOSS (R110): a port that has light and no tone. -/
def execPortLightLoss (p : Chan) (s : State) : Out :=
  let t := modPort p (fun x => { x with light := false, lock := false, rxPower := 0x8000 }) s
  if s.ports[p].state = .off then done s t
  else if running s p then done s t
  else done s (bringupFails p .dark t)

/-- CHARACTER_LOCK (R95, R110). Losing lock takes four invalid characters. -/
def execCharacterLock (p : Chan) (gained : Bool) (s : State) : Out :=
  if !portOn s p then done s s
  else if gained then
    done s (modPort p (fun x => { x with lock := true, state := if x.state = .light then .aligned else x.state }) s)
  else
    let t := modPort p (fun x => { x with lock := false, codeErrors := x.codeErrors + (if x.lock then 4 else 0) }) s
    let l := s.ports[p].state
    done s (if l = .aligned || bringing l || stopped l then bringupFails p .light t else t)

/-- TONE_QUALIFIED (R109): 100 µs of valid /TK/. -/
def execToneQualified (p : Chan) (s : State) : Out :=
  if !portOn s p || s.ports[p].state != .aligned || s.ports[p].waiting then done s s
  else
    let t := readTk p (modPort p (fun x => { x with state := .tone, ranging := [], verified := 0, sent := [] }) s)
    done s (if t.ports[p].tone = .fault then t else toneHealed p (modPort p (fun x => { x with tone := .healthy }) t))

/-- BRINGUP_STAGE_OVERRUN (R110). -/
def execBringupStageOverrun (p : Chan) (s : State) : Out :=
  let l := s.ports[p].state
  if l = .light || l = .aligned || bringing l then
    done s (bringupFails p (if s.ports[p].light then .light else .dark) (modPort p (fun x => { x with lock := false }) s))
  else done s s

/-- BRINGUP_RETRY (R111). -/
def execBringupRetry (p : Chan) (s : State) : Out :=
  if stopped s.ports[p].state && portOn s p then
    done s (modPort p (fun x => { x with state := .tone, ranging := [], verified := 0, sent := [] }) s)
  else done s s

/-- BRINGUP_WAIT_EXPIRY (R110). -/
def execBringupWaitExpiry (p : Chan) (s : State) : Out :=
  if s.ports[p].waiting && !running s p then
    done s (modPort p (fun x => { x with waiting := false, state := if x.state = .off then .off else rxState s p }) s)
  else done s s

/-! ## Ranging (R113 to R121). Delays in 0.1 ns -/

/-- A SYNC leaves on a port; T1 is its stamp (R113). -/
def sendSync (p : Chan) (step : Bool) (s : State) : State :=
  let f := drawWord s
  let t1 : Int := (s.tim.station.toNat : Int) * 65536 + (f.1.toNat % 65536 : Nat)
  let q : SyncSent := { seq := f.2.txns[p].seqTx, t1 := t1, step := step && f.2.ports[p].delay.isSome }
  sendPlain p (modPort p (fun x => { x with syncs := x.syncs + 1, sent := (q :: x.sent).take 64 }) f.2)

/-- LNK_ASYMMETRY of a port, 0.1 ns. -/
def asymmetry (s : State) (p : Chan) : Rat := pInt s (Prm.lnkAsymmetry + p.val)

/-- A stamp in 1/65,536 tick. -/
def stampVal (x : Stamp) : Int := (x.ticks.toNat : Int) * 65536 + x.frac.toNat

/-- 1/65,536 ticks in 0.1 ns. -/
def tenths (i : Int) : Rat := (i : Rat) * 25 / 131072

/-- Whole ticks of a commit lead: 5 µs and the delay, rounded up (R119; 03 R79). -/
def leadTicks (d : Rat) : Int := 4000 + (d / (25 / 2)).ceil

/-- A port's delay changes (R119): the deadline, and a restage when the commit lead moved by a tick. -/
def setDelay (p : Chan) (d round : Rat) (s : State) : Bool × State :=
  let moved : Bool := s.ports[p].delay.any (fun o => running s p && leadTicks o ≠ leadTicks d)
  let s := recomputeDeadline (modPort p (fun x => { x with delay := some d, round := some round }) s)
  (moved, if moved then restage 3 s else s)

/-- DELAY_CHANGED (R528). -/
def delayEvent (p : Chan) (old new : Rat) (moved : Bool) (s : State) : State :=
  raise 0x8503 p.val [ef 28 0 (units 4 old), ef 32 0 (units 4 new), ef 36 0 (bN moved)] s

/-- A delay measurement on a RUNNING port (R118). -/
def trackDelay (p : Chan) (down : Rat) (s : State) : State :=
  match s.ports[p].delay with
  | none => s
  | some d =>
    let tol : Rat := pNat s Prm.lnkDelayTolerance
    let a := asymmetry s p
    if absR (down - d) ≤ tol then
      let n := d + (down - d) / 16
      (setDelay p n (2 * n + a) (modPort p (fun x => { x with outlierList := [] }) s)).2
    else
      let l := (down :: s.ports[p].outlierList).take 16
      let s := modPort p (fun x => { x with outlierList := l, outliers := x.outliers + 1 }) s
      let m := meanR l
      if l.length < 16 || !l.all (fun x => decide (absR (x - m) ≤ tol)) then s
      else
        let r := setDelay p m (2 * m + a) (modPort p (fun x => { x with outlierList := [] }) s)
        delayEvent p d m r.1 r.2

/-- Mean of 64 measurements without the eight highest and the eight lowest, and the spread of those retained (R116, R117). -/
def trimmed (l : List Rat) : Rat × Rat :=
  let k := (((l.take 64).foldr insertR []).drop 8).take 48
  (meanR k, k.getLastD 0 - k.headD 0)

/-- A measurement of a LINK_RETEST (R116). -/
def retestTake (p : Chan) (down : Rat) (s : State) : State :=
  match s.ports[p].retest with
  | none => s
  | some l =>
    let l := down :: l
    if l.length < 64 then modPort p (fun x => { x with retest := some l }) s
    else
      finishAll (fun q => q.target == .port p) (fun _ => okWords [(3, units 4 (trimmed l).1)])
        (modPort p (fun x => { x with retest := none }) s)

/-- A timing reply (R115, R116, R118). -/
def timingReply (p : Chan) (x : Stat) (t4 : Stamp) (s : State) : State :=
  match s.ports[p].sent.find? (fun q => q.seq == x.syncSeq) with
  | none => s
  | some q =>
    let round := tenths ((stampVal t4 - q.t1) - (stampVal x.t3 - stampVal x.t2))
    let down := round / 2 - asymmetry s p / 2
    let s := modPort p (fun y => { y with sent := y.sent.filter (fun z => z.seq ≠ q.seq) }) s
    match s.ports[p].state with
    | .running => retestTake p down (trackDelay p down s)
    | .ranging =>
      (match s.ports[p].delay with
      | none => modPort p (fun y => { y with ranging := (down :: y.ranging).take 64, round := some (y.round.getD round) }) s
      | some d =>
        let e := tenths (stampVal x.t2 - q.t1) - d
        modPort p (fun y => { y with verified := if decide (absR e ≤ 5) then y.verified + 1 else 0 }) s)
    | _ => s

/-- RANGING_SYNC (R116): the first one takes the port from TONE into RANGING. -/
def execRangingSync (p : Chan) (s : State) : Out :=
  match s.ports[p].state with
  | .tone => done s (sendSync p false (modPort p (fun x => { x with state := .ranging, delay := none, round := none, ranging := [], verified := 0 }) s))
  | .ranging => done s (sendSync p true s)
  | _ => done s s

/-- Ranging has failed (R117). -/
def refuse (p : Chan) (cause value : Nat) (s : State) : State :=
  let said := s.ports[p].saidRefused
  let s := modPort p (fun x => { x with state := .refused, saidRefused := true, ranging := [] }) s
  settleRefused p (if said then s else nodeService p cause value s)

/-- RANGING_COMPLETE (R116, R117). -/
def execRangingComplete (p : Chan) (freqErr : Word) (s : State) : Out :=
  if s.ports[p].state != .ranging || s.ports[p].delay.isSome || s.ports[p].ranging.length < 64 then done s s
  else
    let t := trimmed s.ports[p].ranging
    if t.1 > (10 * pNat s Prm.lnkDelayMax : Nat) then done s (refuse p 0 (units 4 t.1) s)
    else if t.2 > 20 then done s (refuse p 1 (units 4 t.2) s)
    else if freqErr.toInt.natAbs > 2000 then done s (refuse p 2 freqErr.toNat s)
    else done s (setDelay p t.1 (2 * t.1 + asymmetry s p) (modPort p (fun x => { x with ranging := [], verified := 0 }) s)).2

/-- RANGING_VERIFIED (R116; 05 R144): EXCHANGE begins with a stream reset. -/
def execRangingVerified (p : Chan) (s : State) : Out :=
  if s.ports[p].state != .ranging || s.ports[p].verified < 8 then done s s
  else done s (streamReset p true (modTxn p (fun x => { x with stat := none, cmds := [] })
    (modPort p (fun x => { x with state := .exchange, outlierList := [] }) s)))

/-- EXCHANGE_TIMEOUT (05 R145). -/
def execExchangeTimeout (p : Chan) (s : State) : Out :=
  if s.ports[p].state = .exchange || (running s p && s.txns[p].reExchange) then
    done s (unpartner p 0 (if (serviceOf s p).isSome then endService p .timeout s else s))
  else done s s

/-- SYNC_INTERVAL (R118, R124): a SYNC on every RUNNING port; a changed LNK_ASYMMETRY enters the delay here. -/
def execSyncInterval (s : State) : Out :=
  done s (forEach (runningPorts s) (fun p s =>
    let s := match s.ports[p].round, s.ports[p].delay with
      | some r, some d =>
        let n := (r - asymmetry s p) / 2
        if n = d then s else (setDelay p n r s).2
      | _, _ => s
    sendSync p false s) s)

/-- TIMING_REPLY_ABSENT (R121). -/
def execTimingReplyAbsent (p : Chan) (s : State) : Out :=
  if running s p then done s (nodeService p 3 0 s) else done s s

/-- LINK_RETEST (R116). -/
def execLinkRetest (h : Hdr) (p : Chan) (s : State) : Out :=
  hostCmd h 0x0503 4 (.port p) true (fun s =>
    if running s p then .later (.port p) 0 (modPort p (fun x => { x with retest := some [] }) s)
    else
      let d := match s.ports[p].delay with
        | some d => units 4 d
        | none => 0xFFFFFFFF
      .now (replyWords .wrongState [(3, d)]) s) s

/-! ## Tone (R101 to R108, R528) -/

/-- FAULT_TONE. -/
def faultToneEvent (p : Chan) (cause : Byte) (wasArmed : Bool) (s : State) : State :=
  raise 0x8502 p.val [ef 28 0 cause.toNat, ef 29 0 s.ports[p].state.code, ef 29 4 (bN wasArmed)] s

/-- LINK_LOSS. -/
def linkLossEvent (p : Chan) (cause : Nat) (st : LinkState) (wasArmed : Bool) (s : State) : State :=
  raise 0x8501 p.val [ef 28 0 cause, ef 29 0 st.code, ef 29 4 (bN wasArmed)] s

/-- FAULT_TONE_ARRIVAL (R105, R107, R108, R528). The quench is the hardware's; the causes of 11 follow it. -/
def execFaultToneArrival (p : Chan) (cause : Byte) (s : State) : Out :=
  if !portOn s p then done s s
  else
    let fresh := s.ports[p].tone != .fault
    let a := armed s p
    let t := modPort p (fun x => { x with tone := .fault, tfCause := cause, toneLosses := x.toneLosses + (if fresh then 1 else 0) }) s
    let t := evalMatrix t
    let t := if fresh then faultToneEvent p cause a t else t
    let comp := toneOv cause || toneUv cause || toneOc cause
    let t := modMeas p (fun m => { m with toneAt := if comp then some t.tim.tb else m.toneAt
                                          suspects := m.suspects.map (fun w => { w with tone := w.tone || comp }) }) t
    done s (toneCauses p cause t)

/-- The receiver after a loss by cause. -/
def lossRx (cause : BitVec 2) (x : PortSt) : PortSt :=
  match cause.toNat with
  | 0 => { x with light := false, lock := false, rxPower := 0x8000 }
  | 1 => { x with light := true, lock := false }
  | _ => { x with light := true, lock := true }

/-- TONE_LOST (R105, R107, R108, R112; 11 R348). -/
def execToneLost (p : Chan) (cause : BitVec 2) (s : State) : Out :=
  if !portOn s p || s.ports[p].tone = .lost then done s s
  else
    let st := s.ports[p].state
    let a := armed s p
    let t := modPort p (fun x => { lossRx cause x with tone := .lost, lostCause := cause, toneLosses := x.toneLosses + 1 }) s
    let t := evalMatrix t
    let dormant := t.con[p].state = .dormant
    let t := if dormant && t.con[p].darkSaid then t
      else linkLossEvent p cause.toNat st a (modCon p (fun c => { c with darkSaid := dormant }) t)
    let t := if st = .running then leaveRunning p (rxState t p) t
      else if bringing st || stopped st then bringupFails p (if t.ports[p].light then .light else .dark) t
      else t
    done s (if dormant || !t.ports[p].settled then t else causeOn p 11 t)

/-- DOWNSTREAM_DETECT (R108). -/
def execDownstreamDetect (p : Chan) (s : State) : Out :=
  if !portOn s p || s.ports[p].tone = .downstream || s.ports[p].tone = .fault then done s s
  else
    let a := armed s p
    let t := modPort p (fun x => { x with tone := .downstream, tkStatus := x.tkStatus ||| 1 }) s
    let t := linkLossEvent p 3 s.ports[p].state a t
    done s (if running t p then causeOn p 11 t else t)

/-- TONE_HEALTHY_RETURN (R106). -/
def execToneHealthyReturn (p : Chan) (s : State) : Out :=
  if !portOn s p || s.ports[p].tone = .healthy then done s s
  else done s (toneHealed p (readTk p (modPort p (fun x => { x with tone := .healthy }) s)))

/-- PORT_SETTLE_TIMEOUT (02 R45): a populated port that has not settled. -/
def execPortSettleTimeout (p : Chan) (s : State) : Out :=
  if !populated s p || s.ports[p].settled || !s.pwr.configLoaded then done s s
  else
    let cause := if !s.ports[p].light then 0 else if !s.ports[p].lock then 1 else 2
    done s (settlePort p (placeDark p (linkLossEvent p cause s.ports[p].state false s)))

/-! ## Frame layer timers -/

/-- FRAME_INVALID (05 R128). -/
def execFrameInvalid (p : Chan) (s : State) : Out :=
  if receiving s p then done s (modTxn p (fun x => { x with framesBad := x.framesBad + 1 }) s) else done s s

/-- FRAME_ERROR_CHECK (05 R157). -/
def execFrameErrorCheck (p : Chan) (s : State) : Out :=
  let grown := (s.txns[p].framesBad - s.txns[p].badAtCheck).toNat
  let t := modTxn p (fun x => { x with badAtCheck := x.framesBad }) s
  let silent := match s.txns[p].badSaidAt with
    | some a => decide (s.tim.tb - a < 60 * tSec)
    | none => false
  if running s p && grown > 100 && !silent then
    done s (nodeService p 5 grown (modTxn p (fun x => { x with badSaidAt := some s.tim.tb }) t))
  else done s t

/-- RETRANSMIT_TIMEOUT (05 R133). -/
def execRetransmitTimeout (p : Chan) (s : State) : Out :=
  match s.txns[p].unacked with
  | [] => done s s
  | f :: _ =>
    if s.txns[p].sreset then done s s
    else if s.txns[p].tries + 1 > 8 then done s (streamReset p false s)
    else done s (modTxn p (fun x => { retransmit (f.rcnt - 1) x with tries := x.tries + 1, oldestAt := s.tim.tb }) s)

/-- CMD_REPLY_TIMEOUT (05 R149). -/
def execCmdReplyTimeout (p : Chan) (cmdId : Half) (s : State) : Out :=
  match s.txns[p].cmds.find? (fun c => c.id == cmdId) with
  | none => done s s
  | some c => done s (cmdDone p c none [] (modTxn p (fun x => { x with cmds := x.cmds.filter (fun y => y.id ≠ cmdId) }) s))

/-- OPEN_WIRE_SCAN (06 R188). -/
def execOpenWireScan (s : State) : Out :=
  if !isMaster s || pNat s Prm.asyOwScan = 0 then done s s
  else done s (forEach (runningPorts s) (fun n s =>
    if s.meas[n].testing.isSome then s
    else
      let k := s.meas[n].scanNext
      startWireTest n k (modMeas n (fun m => { m with scanNext := if k + 1 > cellCount s n then 0 else k + 1 }) s)) s)

end Sys2Proof.Machine
end

