-- ==== Sys2Proof/Machine/EdgeRows.lean ====
section
/-! DEFINITION. What arrives from a running node: executed edges (08 R236 to R239; 09 R260, R261), CELLS reports, bursts,
trigger samples and TOUCH frames (06, 07 R219, 10 R294). -/

namespace Sys2Proof.Machine

/-! ## Charge (09 R260, R261) -/

/-- A difference of CHARGE, µC. -/
def chargeDiff (old new : DWord) : Int := (new - old).toInt

/-- Charge continuity is broken (R261): a new base, ASY_UNC_RESTART on every group, the cycle ends (10 R310), and a pack
that no touchmark confirms becomes UNVERIFIED (10 R322). -/
def breakContinuity (n : Chan) (s : State) : State :=
  let add : Rat := (pNat s Prm.asyUncRestart : Rat) / 10000
  let s := forEach (groupsOf s n) (fun k s => modGrp n k (fun g => { g with ub := g.ub + add }) s) s
  let s := abortCycle n 6 (modAsy n (fun a => { a with contLost := true }) s)
  match s.cyc[n].noMark with
  | some c => unverifiedFor n c.toNat s
  | none => s

/-- The charge of the interval that a record ends: the exact difference, or none when it takes a new base. -/
def intervalCharge (s : State) (n : Chan) (r : EdgeRec) : Option Int :=
  match s.asyCh[n].cont with
  | none => none
  | some (q, cnt, node) =>
    let same := !s.insCh[n].noRecord ||
      ((s.txns[n].caps.map (·.nodeId)).getD 0 = node && (r.edgeCnt - cnt).toNat < 2 ^ 31)
    if same then some (chargeDiff q r.charge) else none

/-- Count a record's charge. -/
def countCharge (n : Chan) (r : EdgeRec) (s : State) : State :=
  let node := (s.txns[n].caps.map (·.nodeId)).getD 0
  let first := s.insCh[n].noRecord
  let d := intervalCharge s n r
  let s := match d with
    | some q => modAsy n (fun a => { a with charge := a.charge + q, throughput := a.throughput + q.natAbs, contLost := a.contLost && !first }) s
    | none => breakContinuity n s
  modAsy n (fun a => { a with prov := 0, cont := some (r.charge, r.edgeCnt, node) }) s

/-! ## An executed edge -/

/-- Filtered currents at the pre-edge sample of a burst (10 R292). -/
def filtAt (s : State) (n : Chan) (i secs : Rat) : List (Rat × Rat) :=
  (groupsOf s n).map (fun k =>
    let x := impOf s n k
    let g := grpAt s n k
    (filterI i g.if1 secs x.tau1, filterI i g.if2 secs (tau2Of x)))

/-- The record agrees with the entry closed for its time (R238): within 2 ns, 1.6 ticks. -/
def closedMatch (s : State) (n : Chan) (time : DWord) (st : Option OutState) : Bool :=
  s.insCh[n].closedEdges.any (fun e => ((time.toNat : Int) - e.1.toNat).natAbs ≤ 1 && st = some e.2.1)

/-- Put an executed edge before every stream of kind 0x05 that carries the channel (R239; 03 R74). -/
def edgeStream (n : Chan) (x : ExecRec) (s : State) : State :=
  forEach (List.finRange 64) (fun (r : Ring) => modRing r (fun g =>
    if g.kind == 5 && g.enable && g.mask.getLsbD n.val then { g with edges := g.edges ++ [(n, x)] } else g)) s

/-- Gaps and relaxations at an executed edge (09 R271): a rising edge ends one, a falling edge begins one. -/
def edgeGap (n : Chan) (time stop : DWord) (st : Option OutState) (s : State) : State :=
  match st with
  | some .inserted => gapClose n time s
  | some .insertedNeg => gapClose n time s
  | some .bypassed => if s.asyCh[n].gap.isSome then s else gapBegin n stop s
  | some .bypassedUpper => if s.asyCh[n].gap.isSome then s else gapBegin n stop s
  | _ => gapDrop n (if s.asyCh[n].restFrom.isSome then takeAnchor n time s else s)

/-- What a record tells the insertion engine (R236 to R238; 11 R330). -/
def edgeEngine (n : Chan) (r : EdgeRec) (stop : DWord) (stale : Bool) (s : State) : State :=
  let st := OutState.ofCode r.state
  let coast := r.safe && !s.insCh[n].awaitSafe && !s.insCh[n].noRecord && !quenched s (groupOf s n)
  let s := { s with stg := { s.stg with coasts := s.stg.coasts + BitVec.ofNat 32 (bN coast) } }
  let s := modIns n (fun x => { x with
    execState := st, repState := st, noRecord := false, awaitSafe := x.awaitSafe && !r.safe, staleNow := x.staleNow + bN stale
    eng := if r.safe then { x.eng with inserted := insertsCode r.state, neg := r.state == 3, done := true } else x.eng }) s
  let s := modCon n (fun c => { c with bypassedAt := if st = some .bypassed then some stop else none }) s
  let newest := match s.stg.reported with
    | none => true
    | some g => newer32 r.gen g
  { s with stg := { s.stg with staleExec := if stale then s.stg.staleExec + 1 else s.stg.staleExec,
                               reported := if newest then some r.gen else s.stg.reported } }

/-- Take one EDGES record. -/
def takeEdge (n : Chan) (base : DWord) (s : State) (r : EdgeRec) : State :=
  let time := base + r.delta.zeroExtend 64
  let stop := time + r.dead.zeroExtend 64
  let st := OutState.ofCode r.state
  let first := s.insCh[n].noRecord
  let missing := match first, s.txns[n].edgeCnt with
    | false, some c => let d := (r.edgeCnt - c - 1).toNat; if d < 2 ^ 31 then d else 0
    | _, _ => 0
  let stale := !r.safe && !closedMatch s n time st
  let secs : Rat := if first then 0 else sinceEdge s n time
  let d := (intervalCharge s n r).getD 0
  let i : Rat := if secs = 0 then 0 else (d : Rat) / 1000000 / secs
  let lead := max 0 (secs - (pNat s Prm.asyEdgePre : Rat) / 1000000000)
  let filt := if r.burst then filtAt s n i lead else []
  let s := countCharge n r s
  let s := if secs = 0 then s else advanceFilters n i secs s
  let s := modTxn n (fun x => { x with edgeCnt := some r.edgeCnt, edgeGaps := x.edgeGaps + BitVec.ofNat 32 missing }) s
  let s := modMeas n (fun m => { m with edges := ((time, stop) :: m.edges).take 16 }) s
  let e : EdgeSeen := { edgeCnt := r.edgeCnt, time := time, dead := r.dead, state := r.state, safe := r.safe, stale := stale, filt := filt }
  let s := modAsy n (fun a => { a with seen := (e :: a.seen).take 32 }) s
  let s := edgeEngine n r stop stale s
  let flags := bN r.safe + 2 * bN r.burst + 4 * bN r.deadRaised + 8 * bN stale + 16 * bN (decide (missing ≠ 0))
  let x : ExecRec := { state := r.state, flags := BitVec.ofNat 8 flags, edgeCnt := r.edgeCnt, gen := r.gen, time := time,
                       dead := r.dead, charge := r.charge }
  let s := edgeStream n x s
  burstMatch n (edgeGap n time stop st s)

/-- EDGES_RECEIVED (R236 to R239; 05 R142). -/
def execEdgesReceived (p : Chan) (hdr : FrameHdr) (x : EdgesFrame) (s : State) : Out :=
  if !receiving s p then done s s
  else
    let a := acceptHdr p hdr true s
    if !a.1 || !running a.2 p then done s a.2
    else done s (servicePoll p (seqPoll p none (x.recs.foldl (takeEdge p x.base) a.2)))

/-! ## CELLS and TOUCH -/

/-- What a report's window gives the assay engine: the provisional charge (R260), gaps and relaxations. -/
def reportAssay (n : Chan) (x : CellsReport) (wStart : Int) (s : State) : State :=
  let i := x.packI.toInt
  let s := modAsy n (fun a => { a with prov := a.prov + i * pNat s Prm.asyReportInterval / 100 }) s
  relaxReport n wStart x.time i (gapReport n wStart x.time i s)

/-- CELLS_REPORT_RECEIVED (06 R165, R169 to R176; 11 R330, R347). -/
def execCellsReportReceived (p : Chan) (hdr : FrameHdr) (x : CellsReport) (s : State) : Out :=
  if !receiving s p then done s s
  else
    let a := acceptHdr p hdr false s
    let t := a.2
    if !a.1 || !running t p then done s t
    else
      let wStart : Int := (x.time.toNat : Int) - windowOf t p x
      let discard := modMeas p (fun m => { m with discarded := m.discarded + 1 }) t
      let badTemps := match x.temps with
        | some l => l.length ≠ tempCount t p
        | none => false
      if x.cells.length ≠ cellCount t p || badTemps || spansCarrier t p wStart x then done s discard
      else
        let t := takeReport p x t
        let t := classifyWires p (deviations p (stackSum p t))
        let t := judgePlaus p (judgeTemps p (judgeCells p t))
        let t := reportAssay p x wStart t
        let t := seqPoll p (some wStart) t
        done s (judgeContact p (checkA1 p wStart t))

/-- CELLS_BURST_RECEIVED (10 R294; 06 R166, R167). -/
def execCellsBurstReceived (p : Chan) (hdr : FrameHdr) (x : CellsBurst) (s : State) : Out :=
  if !receiving s p then done s s
  else
    let a := acceptHdr p hdr false s
    if !a.1 || !running a.2 p then done s a.2 else done s (burstSegment p x a.2)

/-- CELLS_TRIGGER_RECEIVED (07 R219): the sample answers the trigger closed for its time. The manual gives the assay engine
no rule for its values. -/
def execCellsTriggerReceived (p : Chan) (hdr : FrameHdr) (x : CellsTrigger) (s : State) : Out :=
  if !receiving s p then done s s
  else
    let a := acceptHdr p hdr false s
    if !a.1 || !running a.2 p then done s a.2
    else
      let near (t : DWord) : Bool := ((x.time.toNat : Int) - t.toNat).natAbs ≤ 40
      done s (modIns p (fun c => { c with trigDue := match c.trigDue.find? near with
        | some t => c.trigDue.erase t
        | none => c.trigDue }) a.2)

/-- TOUCH_RECEIVED (06 R172 to R175). -/
def execTouchReceived (p : Chan) (hdr : FrameHdr) (x : TouchFrame) (s : State) : Out :=
  if !receiving s p then done s s
  else
    let a := acceptHdr p hdr false s
    if !a.1 || !running a.2 p || x.main.length ≠ cellCount a.2 p || x.stone.length ≠ cellCount a.2 p then done s a.2
    else done s (markStale p (touchCompare p x a.2))

/-- REPLY_RECEIVED (05 R148, R149). -/
def execReplyReceived (p : Chan) (hdr : FrameHdr) (x : NodeReply) (s : State) : Out :=
  if !receiving s p then done s s
  else
    let a := acceptHdr p hdr true s
    if !a.1 || x.result = 1 then done s a.2
    else match a.2.txns[p].cmds.find? (fun c => c.id == x.cmdId && c.code == x.code) with
      | none => done s a.2
      | some c =>
        done s (cmdDone p c (some x.result.toNat) x.data
          (modTxn p (fun y => { y with cmds := y.cmds.filter (fun z => z.id ≠ c.id) }) a.2))

end Sys2Proof.Machine
end

