-- ==== Sys2Proof/Machine/Crucible.lean ====
section
/-! DEFINITION. The crucible's evaluation at each estimator update (13 R389 to R396): rates of rise, throttling, the fast
temperature mode; and the remote inputs (R385 to R387, R397). -/

namespace Sys2Proof.Machine

/-! ## Rate of rise (R390, R391) -/

/-- RATE of a sensor that takes no part. -/
def noRate : Int := -32768

/-- Least-squares slope in 0.001 K/s of values in 0.1 K against `tb`; none where all were taken at one time. -/
def slopeOf (l : List (Nat × Int)) : Option Rat :=
  let pts := l.map (fun p => ((p.1 : Rat) / 800000000, (p.2 : Rat)))
  let mx := meanR (pts.map (·.1))
  let my := meanR (pts.map (·.2))
  let sxx := (pts.map (fun p => (p.1 - mx) * (p.1 - mx))).sum
  if sxx = 0 then none else some (100 * (pts.map (fun p => (p.1 - mx) * (p.2 - my))).sum / sxx)

/-- Set RATE of a sensor (R390). -/
def setRate (n : Chan) (t : Nat) (s : State) : State :=
  let win := pNat s Prm.thmRorWindow * tSec
  let l := (tabGet [] s.thmCh[n].hist t).filter (fun x => s.tim.tb - x.1 ≤ win)
  if l.length < 8 || !sensorOk s n t then modTemp n t (fun c => { c with rate := noRate }) s
  else match slopeOf l with
    | some r => modTemp n t (fun c => { c with rate := satI 16 (toLsb r) }) s
    | none =>
      let f := drawWord s
      modTemp n t (fun c => { c with rate := (f.1.truncate 16 : Half).toInt }) f.2

/-- Sensors with a RATE. -/
def rated (s : State) (n : Chan) : List (Nat × Int) :=
  ((List.range (tempCount s n)).map (fun t => (t, (tempAt s n t).rate))).filter (fun x => x.2 ≠ noRate)

/-- The condition that a sensor meets: its kind. -/
def rorKind (s : State) (n : Chan) (med : Rat) (t : Nat) (r : Int) : Option Nat :=
  if (tempAt s n t).temp.toInt < pInt s Prm.thmRorTmin then none
  else if r ≥ pNat s Prm.thmRorAbs then some 0
  else if (r : Rat) - med ≥ pNat s Prm.thmRorRel then some 1
  else none

/-- RATE_OF_RISE. -/
def rorEvent (n : Chan) (kind t : Nat) (ended : Bool) (s : State) : State :=
  let c := tempAt s n t
  raise 0x8602 n.val [ef 28 0 n.val, ef 29 0 kind, ef 29 1 (bN ended), ef 30 0 t, ef 32 0 (wrapI 16 c.rate),
    ef 34 0 (wrapI 16 s.thmCh[n].median), ef 36 0 c.temp.toNat] s

/-- Rate of rise of a channel (R390, R391). A request is raised once, by the sensor whose run completes first, and stands
until its end. -/
def rateOfRise (n : Chan) (s : State) : State :=
  let s := forEach (List.range (tempCount s n)) (setRate n) s
  let rs := rated s n
  let med := medianR (rs.map (fun x => (x.2 : Rat)))
  let met := rs.filterMap (fun x => (rorKind s n med x.1 x.2).map (fun k => (x.1, k)))
  let run := met.foldl (fun t x => tabPut 0 t x.1 (tabGet 0 s.thmCh[n].rorRun x.1 + 1)) ([] : Tab Nat)
  let s := modThm n (fun c => { c with
    median := toLsb med, rorRun := run, rorMetAt := if met.isEmpty then c.rorMetAt else some s.tim.tb }) s
  match s.thmCh[n].ror with
  | some r =>
    if elapsed s.tim.tb s.thmCh[n].rorMetAt (pNat s Prm.thmRorClear * tSec) then judgeTemps n (rorEvent n r.1 r.2 true (modThm n (fun c => { c with ror := none }) s)) else s
  | none =>
    match met.find? (fun x => tabGet 0 run x.1 ≥ pNat s Prm.thmRorConfirm) with
    | none => s
    | some x =>
      let s := { s with thm := { s.thm with rorAlarms := s.thm.rorAlarms + 1 } }
      judgeTemps n (rorEvent n x.2 x.1 false (modThm n (fun c => { c with ror := some (x.2, x.1) }) s))

/-! ## Fast temperature mode (R389) -/

/-- Highest valid cell temperature of a channel with its sensor, 0.1 °C. -/
def hottest (s : State) (n : Chan) : Option (Nat × Int) := highest (validTemps s n)

/-- The channel is near. -/
def nearNow (s : State) (n : Chan) : Bool :=
  (match hottest s n with
   | some t => decide (t.2 ≥ pInt s Prm.thmCellStart - pNat s Prm.thmNear)
   | none => false) ||
  (match s.thmCh[n].rorMetAt with
   | some a => decide (s.tim.tb - a ≤ 10 * tSec)
   | none => false)

/-- Fast mode: while near and for 60 s after. A master sends the divisor, at most once a second; a standby follows for its
own STALE. -/
def fastMode (n : Chan) (s : State) : State :=
  let now := s.tim.tb
  let s := if nearNow s n then modThm n (fun c => { c with nearAt := some now }) s else s
  let want := lately now s.thmCh[n].nearAt (60 * tSec)
  if !isMaster s || !running s n || s.meas[n].setupLeft ≠ 0 then modThm n (fun c => { c with fast := want }) s
  else
    let may := elapsed now s.thmCh[n].divAt tSec
    let t := modThm n (fun c => { c with fast := want }) s
    if divisorOf t n = s.thmCh[n].divisor then t
    else if may then sendSetup n 2 .config (modThm n (fun c => { c with divAt := some now }) t)
    else s

/-! ## Throttling (R392 to R395) -/

/-- Temperature of boundary b(k). -/
def stepBound (start : Int) (width k : Nat) : Int := start + ((k : Int) - 1) * width

/-- Step that a temperature reaches on the rising boundaries. -/
def stepReach (start : Int) (width : Nat) (t : Int) : Nat :=
  ((List.range 4).filter (fun k => t ≥ stepBound start width (k + 1))).length

/-- One evaluation of a source in step-wise mode (R393); a fresh start takes the step that its temperature reaches (R396). -/
def stepEval (s : State) (fresh : Bool) (start : Int) (width : Nat) (t : Int) (x : StepSt) : StepSt :=
  let now := s.tim.tb
  let reach := stepReach start width t
  if fresh then { step := reach, since := [none, none, none, none] }
  else
    let since := (List.range 4).map (fun j =>
      if t ≤ stepBound start width (j + 1) - pNat s Prm.thmHyst then some (((x.since[j]?).bind id).getD now) else none)
    if reach > x.step then { step := reach, since := since }
    else
      let down := (List.range x.step).find? (fun j => match (since[j]?).bind id with
        | some a => decide (now - a ≥ pNat s Prm.thmHold * tSec)
        | none => false)
      { step := down.getD x.step, since := since }

/-- Factor of a step (*Throttle steps*). -/
def stepFactor (k : Nat) : Rat := 1 - (k : Rat) / 4

/-- Factor of proportional mode (R394). -/
def propFactor (start : Int) (width : Nat) (t : Int) : Rat :=
  ((100 * clampR 0 1 (1 - ((t : Rat) - start) / (4 * (width : Rat)))).floor : Rat) / 100

/-- A remote input's object: TYPE, ROLE, FAULT_TRIP, START, TRIP. -/
def tsType (s : State) (i : TempIn) : Nat := ofLe (tsCfg s i 0 1)
def tsRole (s : State) (i : TempIn) : Nat := ofLe (tsCfg s i 1 1) % 4
def tsFaultTrip (s : State) (i : TempIn) : Bool := bitOf (ofLe (tsCfg s i 1 1)) 2
def tsStart (s : State) (i : TempIn) : Int := ofLeI (tsCfg s i 4 2)
def tsTrip (s : State) (i : TempIn) : Int := ofLeI (tsCfg s i 6 2)

/-- Throttle role; trip role. -/
def tsThrottles (s : State) (i : TempIn) : Bool := tsType s i ≠ 0 && bitOf (tsRole s i) 0
def tsTrips (s : State) (i : TempIn) : Bool := tsType s i ≠ 0 && bitOf (tsRole s i) 1

/-- Evaluate the step of every throttle input. -/
def tsSteps (fresh : Bool) (s : State) : State :=
  forEach (List.finRange 16) (fun i s =>
    if !tsThrottles s i then { s with thm := { s.thm with tsStep := vmod s.thm.tsStep i (fun _ => {}) } }
    else match s.thm.ts[i].reading with
      | none => { s with thm := { s.thm with tsStep := vmod s.thm.tsStep i (fun x => { x with since := [none, none, none, none] }) } }
      | some t =>
        let x := stepEval s fresh (tsStart s i) (pNat s Prm.thmTsWidth) t s.thm.tsStep[i]
        { s with thm := { s.thm with tsStep := vmod s.thm.tsStep i (fun _ => x) } }) s

/-- A throttle source as a channel sees it. -/
structure ThSource where
  factor : Rat
  step   : Nat
  source : Nat
  sensor : Option Nat
  temp   : Int
deriving DecidableEq, Repr, Inhabited

/-- The cell source: the highest valid temperature, or the node's own (R392). -/
def cellSource (s : State) (n : Chan) : Option (Int × Nat × Option Nat) :=
  match hottest s n with
  | some t => some (t.2, 0, some t.1)
  | none => s.txns[n].stat.map (fun x => (x.nodeTemp.toInt, 3, none))

/-- The source of a throttle input; one in fault stands at the step with factor 0.50
(R387), and so does every one while the converter is fenced (17 *Fault causes*, 0x0601). -/
def tsSource (s : State) (i : TempIn) : Option ThSource :=
  if s.thm.ts[i].fault.isSome || blockFenced s 0x0601 0xFFFF then some { factor := 1 / 2, step := 2, source := 1, sensor := some i.val, temp := -32768 }
  else s.thm.ts[i].reading.map (fun t =>
    if s.thm.mode then { factor := propFactor (tsStart s i) (pNat s Prm.thmTsWidth) t, step := 7, source := 1, sensor := some i.val, temp := t }
    else { factor := stepFactor s.thm.tsStep[i].step, step := s.thm.tsStep[i].step, source := 1, sensor := some i.val, temp := t })

/-- THERMAL_THROTTLE. -/
def throttleEvent (subject chan step source factor sensor : Nat) (temp : Int) (s : State) : State :=
  raise 0x8601 subject [ef 28 0 chan, ef 29 0 step, ef 29 3 source, ef 30 0 factor, ef 32 0 sensor, ef 34 0 (wrapI 16 temp)] s

/-- f_thm of a channel (R392 to R395). -/
def throttle (fresh : Bool) (n : Chan) (s : State) : State :=
  let cell := cellSource s n
  let s := match cell with
    | none => s
    | some c =>
      let x := stepEval s fresh (pInt s Prm.thmCellStart) (pNat s Prm.thmCellWidth) c.1 s.thmCh[n].cell
      modThm n (fun q => { q with cell := x }) s
  let first : List ThSource := match cell with
    | none => []
    | some c =>
      if s.thm.mode then
        [{ factor := propFactor (pInt s Prm.thmCellStart) (pNat s Prm.thmCellWidth) c.1, step := 7, source := c.2.1, sensor := c.2.2, temp := c.1 }]
      else [{ factor := stepFactor s.thmCh[n].cell.step, step := s.thmCh[n].cell.step, source := c.2.1, sensor := c.2.2, temp := c.1 }]
  let g := (groupOf s n).val
  let ins := ((List.finRange 16).filter (fun i => tsThrottles s i && (tsScope s i).testBit g)).filterMap (tsSource s)
  match first ++ ins with
  | [] => modThm n (fun q => { q with f := 1, step := if s.thm.mode then 7 else 0 }) s
  | a :: rest =>
    let m := rest.foldl (fun a b => if b.factor < a.factor then b else a) a
    let old := s.thmCh[n]
    let step := if s.thm.mode then 7 else m.step
    let s := modThm n (fun q => { q with f := m.factor, step := step, source := m.source, sensor := m.sensor, temp := m.temp }) s
    let was := if old.step = 7 then 0 else old.step
    let moved := absR (m.factor - old.saidF) ≥ 1 / 20 || ((m.factor = 1 || m.factor = 0) && m.factor ≠ old.saidF)
    let quiet := lately s.tim.tb old.saidAt (10 * tSec)
    if (if s.thm.mode then moved && !quiet else step ≠ was) then
      throttleEvent n.val n.val step m.source (units 2 (m.factor * 10000)) (m.sensor.getD 0xFFFF) m.temp
        (modThm n (fun q => { q with saidF := m.factor, saidAt := some s.tim.tb }) s)
    else s

/-- The crucible at an estimator update. -/
def crucibleUpdate (s : State) : State :=
  let fresh := match s.thm.modeReq with
    | some m => s.thm.mode && !m
    | none => false
  let s := { s with thm := { s.thm with mode := s.thm.modeReq.getD s.thm.mode, modeReq := none } }
  let s := tsSteps fresh s
  forEach (allChans.filter (populated s)) (fun n s => throttle fresh n (fastMode n (rateOfRise n s))) s

/-! ## Remote inputs (R386, R387, R397) -/

/-- SENSOR_FAULT. -/
def sensorFaultEvent (i : TempIn) (kind : Nat) (ended trip : Bool) (s : State) : State :=
  raise 0x8605 i.val [ef 28 0 i.val, ef 28 4 (bN ended), ef 28 5 kind, ef 28 7 (bN trip)] s

/-- A conversion: its reading, or the kind of fault it shows. -/
def tsRead : TsResult → Int ⊕ Nat
  | .reading t => if t.toInt < -550 || t.toInt > 1500 then .inr 2 else .inl t.toInt
  | .isOpen => .inr 0
  | .isShort => .inr 1
  | .outOfRange => .inr 2

/-- A reading that counts: fast conversion (R386) and the trip (R397). -/
def tsTake (i : TempIn) (t : Int) (s : State) : State :=
  let near := (tsThrottles s i && t ≥ tsStart s i - pNat s Prm.thmNear) || (tsTrips s i && t ≥ tsTrip s i - pNat s Prm.thmNear)
  let was := s.thm.ts[i].trip
  let trip := tsTrips s i && (t ≥ tsTrip s i || (was && t ≥ tsTrip s i - pNat s Prm.thmHyst))
  modTs i (fun x => { x with reading := some t, trip := trip, fastUntil := if near then s.tim.tb + 60 * tSec else x.fastUntil }) s

/-- TS_CONVERSION (R386, R387, R397). -/
def execTsConversion (i : TempIn) (res : TsResult) (s : State) : Out :=
  if tsType s i = 0 || !mainUp s || !s.pwr.configLoaded || blockFenced s 0x0601 0xFFFF then done s s
  else
    let x := s.thm.ts[i]
    match tsRead res with
    | .inr kind =>
      let t := modTs i (fun x => { x with bad := min 2 (x.bad + 1), good := 0 }) s
      if x.fault.isSome || x.bad + 1 < 2 then done s t
      else done s (sensorFaultEvent i kind false false
        (modTs i (fun x => { x with fault := some kind, faultAt := s.tim.tb, reading := none, trip := false }) t))
    | .inl v =>
      let t := modTs i (fun x => { x with bad := 0, good := min 2 (x.good + 1) }) s
      match x.fault with
      | none => done s (evalMatrix (tsTake i v t))
      | some kind =>
        if x.good + 1 < 2 then done s t
        else done s (evalMatrix (tsTake i v (sensorFaultEvent i kind true x.faultTrip
          (modTs i (fun x => { x with fault := none, faultTrip := false }) t))))

/-- TS_FAULT_TRIP (R387). -/
def execTsFaultTrip (i : TempIn) (s : State) : Out :=
  if s.thm.ts[i].fault.isSome && tsTrips s i && tsFaultTrip s i then
    done s (evalMatrix (modTs i (fun x => { x with faultTrip := true }) s))
  else done s s

/-- THERMAL_MODE (R396). -/
def execThermalMode (h : Hdr) (proportional : Bool) (s : State) : Out :=
  hostCmd h 0x0601 4 .none false (fun s =>
    .now (reply .ok) { s with thm := { s.thm with modeReq := some proportional, override := true } }) s

/-! ## Compensation (R25, R401) -/

/-- Bin of a die temperature. -/
def compBin (d0 : Int) : Nat := clampN 33 ((d0 + 400) / 50)

/-- Correction of a bin, 0.001 ppm. -/
def compValue (s : State) (b : Nat) : Int := tabGet 0 s.thm.factory b + tabGet 0 s.thm.learned b

/-- OSC_COMPENSATION (R25, R401). -/
def execOscCompensation (d0 : Half) (s : State) : Out :=
  if !mainUp s then done s s
  else
    let t := { s with thm := { s.thm with die := d0.toInt :: s.thm.die.drop 1 } }
    done s { t with tim := { t.tim with comp := compValue t (compBin d0.toInt) } }

/-- COMPENSATION_LEARN (R401): while LOCKED for 600 s; the table is written at most once an hour. -/
def execCompensationLearn (error : Half) (s : State) : Out :=
  if !mainUp s || s.tim.lock != .locked || s.tim.tb - s.thm.lockedAt < 600 * tSec then done s s
  else
    let b := compBin (s.thm.die.headD 0)
    let old := tabGet 0 s.thm.learned b
    let new := max (-500) (min 500 (toLsb ((old : Rat) + ((error.toInt : Rat) - old) / 64)))
    let t := { s with thm := { s.thm with learned := tabPut 0 s.thm.learned b new, tableDirty := s.thm.tableDirty || decide (new ≠ old) } }
    let due := elapsed t.tim.tb t.thm.tableAt (3600 * tSec)
    if t.thm.tableDirty && due then
      done s (queueWrite .compensation { t with thm := { t.thm with tableDirty := false, tableAt := some t.tim.tb } })
    else done s t

end Sys2Proof.Machine
end

