-- ==== Sys2Proof/Machine/Estimator.lean ====
section
/-! DEFINITION. The state of charge at an estimator update (09 R262 to R270): charge, empty points, the channel and segment
values, smoothing and uncertainty. States of charge are fractions, published values are in 0.01 %. -/

namespace Sys2Proof.Machine

/-! ## Smoothing (R269) -/

/-- What smoothing keeps of a value: ε, ε0, P. -/
structure Smooth where
  eps  : Rat
  eps0 : Rat
  pub  : Rat
deriving DecidableEq, Repr, Inhabited

/-- Smooth a value whose model goes from `old` to `new`, of which `counted` is the charge's part. -/
def smooth (eps eps0 : Rat) (pub : Option Rat) (old counted new : Rat) : Smooth :=
  match pub with
  | none => { eps := 0, eps0 := 0, pub := clampR 0 10000 new }
  | some _ =>
    let re := (new - old) - counted
    let e := eps - re
    let e0 := if re = 0 then eps0 else absR e
    let step := min (absR e) (min (e0 / 600) 10)
    let e := if e < 0 then e + step else e - step
    { eps := e, eps0 := e0, pub := clampR 0 10000 (new + e) }

/-- s(i) in 0.01 % (R267). -/
def rescaled (z z0 : Rat) : Rat := 10000 * clampR 0 1 ((z - z0) / (1 - z0))

/-! ## Charge of an update (R262, R266) -/

/-- Pack charge counted so far, the provisional part included, µC. -/
def packQ (s : State) (n : Chan) : Int := s.asyCh[n].charge + s.asyCh[n].prov

/-- Charge of a group over an update in Ah: the pack's, less what is bled. -/
def groupDq (s : State) (n : Chan) (d : Int) (i : Nat) : Rat :=
  (d : Rat) / 3600000000 -
    (if s.meas[n].bleed.getLsbD i then bleedAmps s n i / 10 * bleedShare s n / 3600 else 0)

/-- Discharge current over the last 10 s, A (R267). -/
def dischargeI (s : State) (n : Chan) : Rat :=
  let q10 := s.asyCh[n].q10
  max 0 (-(((packQ s n - q10.getLastD (packQ s n) : Int) : Rat) / 10000000))

/-- z0 of a group (R267). -/
def emptyPoint (m : List Byte) (g : GrpSt) (t id_ : Rat) : Rat :=
  let r := if capNom m = 0 then 0 else id_ / capNom m
  let e := emptyAt m t r
  let slope := (ocv m false t (e + 1 / 100) - ocv m false t e) * 100
  let x := impAt m g t 0
  let rdc := if x.fast then rDc x else rRef m t
  if slope > 0 then clampR 0 (1 / 2) (e + id_ * (rdc - rRef m t) / slope) else e

/-- Advance one group (R266, R267, R269, R270). -/
def advanceGroup (n : Chan) (d : Int) (id_ : Rat) (i : Nat) (s : State) : State :=
  let m := cellModel s
  let g := grpAt s n i
  let c := capOf s n i
  let dq := groupDq s n d i
  let raw := g.z + dq / c
  let z := clampR (-(1 / 10)) (11 / 10) raw
  let gain : Rat := (pNat s Prm.asyUncGain : Rat) / 100000
  let off : Rat := (pNat s Prm.asyUncOffset : Rat) / 1000 / 36000
  let ub := if z ≠ raw then 1 else g.ub + gain * absR dq / c + off / c
  let z0 := match groupTemp s n i with
    | some t => emptyPoint m g t.1 id_
    | none => g.z0
  let model := rescaled z z0
  let cOld := if g.cUsed = 0 then c else g.cUsed
  let counted := rescaled (g.z + dq / cOld) g.z0 - rescaled g.z g.z0
  let sm := smooth g.eps g.eps0 g.pub g.model counted model
  let netQ := if (g.netQ < 0 && dq > 0) || (g.netQ > 0 && dq < 0) then dq else g.netQ + dq
  let u := min 1 (ub + ucOf s n i * absR (z - g.za))
  modGrp n i (fun g => { g with z := z, ub := ub, z0 := z0, model := model, eps := sm.eps, eps0 := sm.eps0, pub := some sm.pub,
                                u := u, netQ := netQ, cUsed := c, burstsNow := g.burstsAcc, burstsAcc := 0 }) s

/-! ## Channel and segment (R268) -/

/-- What a group holds and can take, Ah. -/
structure Room where
  grp : Nat
  qd  : Rat
  qc  : Rat
  u   : Rat
deriving DecidableEq, Repr, Inhabited

/-- Qd(i) and Qc(i). -/
def roomOf (c z z0 u : Rat) (i : Nat) : Room := { grp := i, qd := c * max 0 (z - z0), qc := c * max 0 (1 - z), u := u }

/-- Rooms of a channel. -/
def rooms (s : State) (n : Chan) : List Room :=
  (groupsOf s n).map (fun i => let g := grpAt s n i; roomOf (capOf s n i) g.z g.z0 g.u i)

/-- Rooms of a channel with the charge of this update at the z0 and capacity that held before it. -/
def roomsOld (s : State) (n : Chan) (d : Int) (counted : Bool) : List Room :=
  (groupsOf s n).map (fun i =>
    let g := grpAt s n i
    let c := if g.cUsed = 0 then capOf s n i else g.cUsed
    roomOf c (if counted then g.z + groupDq s n d i / c else g.z) g.z0 g.u i)

/-- The room with the smallest value of `f`. -/
def least (f : Room → Rat) : List Room → Option Room
  | [] => none
  | a :: l => some (l.foldl (fun a b => if f b < f a then b else a) a)

/-- Qd and Qc of a channel. -/
def chanRoom (l : List Room) : Rat × Rat := (((least (·.qd) l).map (·.qd)).getD 0, ((least (·.qc) l).map (·.qc)).getD 0)

/-- SOC(channel) in 0.01 %. -/
def chanSoc (q : Rat × Rat) : Rat := if q.1 + q.2 = 0 then 0 else 10000 * q.1 / (q.1 + q.2)

/-- Channels that enter the segment's sums. -/
def segChans (s : State) : List Chan := (activeChans s).filter (fun n => !heldNow s n)

/-- SOC(segment) in 0.01 % from Qd and Qc of its channels with their voltages; none when nothing enters. -/
def segSoc (l : List (Rat × Rat × Rat)) : Option Rat :=
  let den := (l.map (fun x => x.1 * (x.2.1 + x.2.2))).sum
  if den = 0 then none else some (10000 * (l.map (fun x => x.1 * x.2.1)).sum / den)

/-- One channel: charge, groups, channel value. Answers the channel's Qd and Qc before and after the counted part. -/
def advanceChan (n : Chan) (s : State) : ((Rat × Rat) × (Rat × Rat)) × State :=
  let q := packQ s n
  let d := q - s.asyCh[n].lastQ
  let id_ := dischargeI s n
  let now := q - s.asyCh[n].q10.headD q
  let s := modAsy n (fun a => { a with q10 := (q :: a.q10).take 100, meanI := now / 100,
                                       i60 := ((now : Rat) / 100000 :: a.i60).take 600 }) s
  if !modelOk s then (((0, 0), (0, 0)), s)
  else
    let before := chanRoom (roomsOld s n d false)
    let counted := chanRoom (roomsOld s n d true)
    let s := forEach (groupsOf s n) (advanceGroup n d id_) s
    let l := rooms s n
    let r := chanRoom l
    let model := chanSoc r
    let a := s.asyCh[n]
    let sm := smooth a.eps a.eps0 a.pub a.model (chanSoc counted - chanSoc before) model
    let unc := max (((least (·.qd) l).map (·.u)).getD 0) (((least (·.qc) l).map (·.u)).getD 0)
    let worst := match l with
      | [] => (0, 0)
      | x :: xs => xs.foldl (fun w y => if y.u > w.1 then (y.u, y.grp) else w) (x.u, x.grp)
    ((before, counted), modAsy n (fun a => { a with lastQ := q, qd := r.1, qc := r.2, model := model, eps := sm.eps,
                                                    eps0 := sm.eps0, pub := some sm.pub, unc := unc, worst := worst }) s)

/-- Every populated channel, keeping what the segment's smoothing needs. -/
def advanceAll : List Chan → State → List (Chan × (Rat × Rat) × (Rat × Rat)) × State
  | [], s => ([], s)
  | n :: ns, s =>
    let r := advanceChan n s
    let t := advanceAll ns r.2
    ((n, r.1) :: t.1, t.2)

/-- The segment's value and uncertainty (R268, R269). Where no channel enters the sums the manual states neither; both
are then free (log 5). -/
def advanceSegment (l : List (Chan × (Rat × Rat) × (Rat × Rat))) (s : State) : State :=
  let cs := segChans s
  let v (n : Chan) : Rat := s.meas[n].capV
  let now := segSoc (cs.map (fun n => (v n, s.asyCh[n].qd, s.asyCh[n].qc)))
  let pick (f : (Rat × Rat) × (Rat × Rat) → Rat × Rat) : Option Rat :=
    segSoc ((l.filter (fun x => cs.contains x.1)).map (fun x => (v x.1, (f x.2).1, (f x.2).2)))
  match now with
  | some m =>
    let counted := (pick (·.2)).getD 0 - (pick (·.1)).getD 0
    let sm := smooth s.asy.eps s.asy.eps0 s.asy.pub s.asy.model counted m
    let w (n : Chan) : Rat := v n * (s.asyCh[n].qd + s.asyCh[n].qc)
    let unc := (cs.map (fun n => w n * s.asyCh[n].unc)).sum / (cs.map w).sum
    { s with asy := { s.asy with model := m, eps := sm.eps, eps0 := sm.eps0, pub := some sm.pub, unc := unc } }
  | none =>
    let a := drawWord s
    let b := drawWord a.2
    let m : Rat := (a.1.toNat % 10001 : Nat)
    let u : Rat := ((b.1.toNat % 10001 : Nat) : Rat) / 10000
    { b.2 with asy := { b.2.asy with model := m, eps := 0, eps0 := 0, pub := some m, unc := u } }

end Sys2Proof.Machine
end

