-- ==== Sys2Proof/Machine/Limits.lean ====
section
/-! DEFINITION. The rest of an estimator update: current limits (09 R277 to R281), rest requests (R274), gaps the module
creates (R272), bleed decisions (R283, R284), cycles counted (10 R303) and the phases of an assay cycle (10 R305 to R310). -/

namespace Sys2Proof.Machine

/-! ## Limits of a group (R278). Currents in 0.1 A -/

/-- The largest `x ≤ hi` that meets a condition which holds up to some point and not beyond; none when 0 does not. -/
def largest (ok : Nat → Bool) : Nat → Nat → Nat → Nat
  | 0, lo, _ => lo
  | k + 1, lo, hi =>
    if hi ≤ lo then lo
    else
      let mid := (lo + hi + 1) / 2
      if ok mid then largest ok k mid hi else largest ok k lo (mid - 1)

/-- The three horizons, s. -/
def horizonSecs : List Rat := [2, 10, 60]

/-- Limit of a group on one side at one horizon, 0.1 A. -/
def groupLimit (s : State) (n : Chan) (i : Nat) (m : List Byte) (t : Rat) (x : Imp) (eta : Rat × Rat) (chg : Bool) (k : Nat) : Nat :=
  let g := grpAt s n i
  let c := capOf s n i
  let h := (horizonSecs[k]?).getD 2
  let cell := cellAt s n i
  let vmax : Rat := (pNat s Prm.asyVmax : Rat) / 10000
  let vsd : Rat := (pNat s Prm.asyVsd : Rat) / 10000
  let r := if x.fast then rOfT x h else rRef m t
  let e := if x.fast then eta.1 * decay h x.tau1 + eta.2 * decay h x.tau2 else 0
  let up := ocvPoint m true t
  let dn := ocvPoint m false t
  let stop := if chg then decide (highOf cell ≥ pNat s Prm.asyVmax) else decide (lowOf cell ≤ pNat s Prm.asyVsd)
  let top := (icapAt m t (if chg then k else 3 + k) * 10).floor.toNat
  let ok (n : Nat) : Bool :=
    let i : Rat := (n : Rat) / 10
    let dz := i * h / 3600 / c
    if chg then decide (g.z + dz ≤ 1) && decide (curveAt up (g.z + dz) + i * r + e ≤ vmax)
    else decide (g.z - dz ≥ 0) && decide (curveAt dn (g.z - dz) - i * r + e ≥ vsd)
  if stop || !ok 0 then 0 else largest ok 40 0 top

/-- Six limits of a group in the order of LIMIT_GROUP. -/
def groupLimits (s : State) (n : Chan) (i : Nat) : Option (List Nat) :=
  match groupTemp s n i with
  | none => none
  | some t =>
    let m := cellModel s
    let x := impOf s n i
    let eta := etaAt x (grpAt s n i) ((s.meas[n].packI : Rat) / 1000) (sinceEdge s n s.tim.station)
    some ([0, 1, 2].map (groupLimit s n i m t.1 x eta true) ++ [0, 1, 2].map (groupLimit s n i m t.1 x eta false))

/-! ## Limits of a channel (R277, R279, R280) -/

/-- Six limits as a structure. -/
def limitsOf (l : List Rat) : Limits :=
  { c2 := l.getD 0 0, c10 := l.getD 1 0, c60 := l.getD 2 0, d2 := l.getD 3 0, d10 := l.getD 4 0, d60 := l.getD 5 0 }

/-- The same as a list. -/
def Limits.list (x : Limits) : List Rat := [x.c2, x.c10, x.c60, x.d2, x.d10, x.d60]

/-- The longer horizons lowered to the shorter (R279). -/
def Limits.lowered (x : Limits) : Limits :=
  let c10 := min x.c10 x.c2
  let d10 := min x.d10 x.d2
  { x with c10 := c10, c60 := min x.c60 c10, d10 := d10, d60 := min x.d60 d10 }

/-- Raw limits, the groups that set them, and whether they are halved for want of a sensor (R265, R279); none when no limit
can be computed. -/
def rawLimits (s : State) (n : Chan) : Option (Limits × List Nat × Bool) :=
  let gs := groupsOf s n
  if !modelOk s || gs.isEmpty then none
  else
    let all := gs.map (fun i => (i, groupLimits s n i))
    if all.any (fun x => x.2.isNone) then none
    else if !allCellsValid s n then some ({}, [0, 0, 0, 0, 0, 0], false)
    else
      let best := (List.range 6).map (fun k =>
        let vals : List (Nat × Nat) := all.map (fun x => (x.1, ((x.2.getD []).getD k 0)))
        vals.tail.foldl (fun (a b : Nat × Nat) => if b.2 < a.2 then b else a) (vals.headD (0, 0)))
      let half := (validTemps s n).all (fun t => (tempAt s n t.1).stale)
      let l := best.map (fun b => if half then (b.2 : Rat) / 2 else (b.2 : Rat))
      some ((limitsOf l).lowered, best.map (·.1), half)

/-- f_u of an uncertainty (R277). -/
def fuOf (u : Rat) : Rat :=
  if u ≤ 3 / 100 then 1 else if u < 1 / 10 then 1 - (u - 3 / 100) / (14 / 100) else 1 / 2

/-- Derating in force now: not suspended by a grant or an assay cycle (R277; 10 R308). -/
def deratingNow (s : State) (n : Chan) : Bool :=
  s.asyCh[n].derating && s.asyCh[n].grant.isNone && s.cyc[n].phase = 0

/-- The published limits (R280): whether some limit is held back. -/
def publish (s : State) (n : Chan) (raw : Limits) (fu : Rat) : Limits × Bool :=
  let a := s.asyCh[n]
  let f := fu * s.thmCh[n].f
  let stays := a.wasActive && s.con[n].state == .active && a.computed
  let pct : Rat := (pNat s Prm.asyLimitRise : Rat) / 100
  let one (p : Rat × Rat) : Rat × Bool :=
    let target := p.1 * f
    let most := p.2 + max (pct * p.2) 100
    if stays && target > most then (most, true) else (target, false)
  let l := (raw.list.zip a.pubLim.list).map one
  (limitsOf (l.map (·.1)), l.any (·.2))

/-- Limits of a channel at an update. -/
def limitsUpdate (n : Chan) (s : State) : State :=
  let u := s.asyCh[n].worst.1
  let s := if s.asyCh[n].derating && u ≤ 3 / 100 then modAsy n (fun a => { a with derating := false }) s else s
  let fu := if deratingNow s n then fuOf u else 1
  let active := s.con[n].state == .active
  match rawLimits s n with
  | none => modAsy n (fun a => { a with raw := {}, pubLim := {}, fu := fu, rise := false, noTemp := false, wasActive := active }) s
  | some r =>
    let p := publish s n r.1 fu
    modAsy n (fun a => { a with raw := r.1, limGroup := r.2.1, noTemp := r.2.2, pubLim := p.1, rise := p.2, fu := fu,
                                computed := true, wasActive := active }) s

/-- LIMITS_DERATED. -/
def deratedEvent (n : Chan) (cause : Nat) (ended : Bool) (factor : Rat) (s : State) : State :=
  raise 0x8402 n.val [ef 28 0 n.val, ef 29 0 cause, ef 29 1 (bN ended), ef 30 0 (units 2 (factor * 10000)),
    ef 32 0 (units 2 (s.asyCh[n].worst.1 * 10000))] s

/-- Smallest ratio of ICAP at the present temperatures to its largest entry, over groups, sides and horizons. -/
def icapRatio (s : State) (n : Chan) : Rat :=
  let m := cellModel s
  if !modelOk s then 1
  else
    let ts := (groupsOf s n).filterMap (fun i => (groupTemp s n i).map (·.1))
    (ts.flatMap (fun t => (List.range 6).map (fun k =>
      let top := (List.range 8).foldl (fun a i => max a (mIcap m i k)) 0
      if top = 0 then 1 else icapAt m t k / top))).foldl min 1

/-- LIMITS_DERATED at an update: entry, a fall of f_u by 0.05, end; for temperature entry and end; at most once per 60 s. -/
def deratedEvents (n : Chan) (s : State) : State :=
  let a := s.asyCh[n]
  if !elapsed s.tim.tb a.deratedSaid.2 (60 * tSec) then s
  else
    let said := a.deratedSaid.1
    let say (x : Rat) (s : State) : State := modAsy n (fun a => { a with deratedSaid := (x, some s.tim.tb) }) s
    if a.derating && a.fu < 1 && (said = 1 || a.fu ≤ said - 1 / 20) then say a.fu (deratedEvent n 0 false a.fu s)
    else if !a.derating && said < 1 then say 1 (deratedEvent n 0 true 1 s)
    else
      let r := icapRatio s n
      let low := decide (r < 1 / 2)
      if low = a.thermalDerated then s
      else say said (deratedEvent n 1 (!low) r (modAsy n (fun a => { a with thermalDerated := low }) s))

/-- Segment limits (R281). -/
def segmentLimits (s : State) : State :=
  let cs := segChans s
  let v (n : Chan) : Rat := s.meas[n].capV
  let den := (cs.map v).sum
  let mean (f : Limits → Rat) : Rat := if den = 0 then 0 else (cs.map (fun n => v n * f s.asyCh[n].pubLim)).sum / den
  { s with asy := { s.asy with lim := {
      c2 := mean (·.c2), c10 := mean (·.c10), c60 := mean (·.c60), d2 := mean (·.d2), d10 := mean (·.d10), d60 := mean (·.d60) } } }

/-- dmax(n) of the ACTIVE channels for the next period. -/
def dmaxNow (s : State) : List Rat :=
  let r := (governing s (nextStart s)).map (·.1)
  let i := iAt r 0 (max 1 (pNat s Prm.insHorizon))
  (activeChans s).map (fun n => dmaxAt s n i s.insCh[n].neg)

/-! ## Rest requests (R274) -/

/-- Requested rest in s: τ2 × ln(|η2| / 1 mV) of the limiting group. -/
def restLength (s : State) (n : Chan) : Nat :=
  let k := s.asyCh[n].worst.2
  let x := impOf s n k
  let e := (etaAt x (grpAt s n k) ((s.meas[n].packI : Rat) / 1000) (sinceEdge s n s.tim.station)).2
  max 1 (min 300 (tau2Of x * Config.ln (absR e * 1000)).ceil.toNat)

/-- REST_REQUEST. -/
def restEvent (n : Chan) (ended again : Bool) (s : State) : State :=
  let s := if ended then s else modAsy n (fun a => { a with requests := a.requests + 1 }) s
  let a := s.asyCh[n]
  raise 0x8401 n.val [ef 28 0 n.val, ef 29 0 (bN ended), ef 29 1 (bN again), ef 29 2 (bN a.derating),
    ef 30 0 (units 2 (a.worst.1 * 10000)), ef 32 0 (restLength s n), ef 34 0 a.worst.2] s

/-- Requests at an update. -/
def restRequests (n : Chan) (s : State) : State :=
  let a := s.asyCh[n]
  match a.restReq with
  | none =>
    if a.worst.1 > 3 / 100 && (s.con[n].state == .active || s.con[n].state == .bypass) && s.cyc[n].phase = 0 && modelOk s then
      restEvent n false false (modAsy n (fun a => { a with restReq := some s.tim.tb }) s)
    else s
  | some _ =>
    if a.worst.1 ≤ 5 / 200 then restEvent n true false (modAsy n (fun a => { a with restReq := none }) s) else s

/-! ## Rests and gaps (R272, R276) -/

/-- End a rest in force: the anchor, then the hold goes with the next reload point. A CONNECTED-BYPASS channel stays in its
gap, whose windows begin again. -/
def finishRest (n : Chan) (s : State) : State :=
  let t := s.tim.station
  let s := if s.con[n].rest then gapClose n t s else takeAnchor n t s
  let s := modAsy n (fun a => { a with restFrom := none, grant := none, gap := a.gap.map (fun g => { g with windows := 0, good := true }) }) s
  let s := forEach (groupsOf s n) (fun k s => modGrp n k (fun g => { g with gapV := none }) s) s
  markDirty n (modCon n (fun c => { c with rest := false }) s)

/-- The early end of a rest (R276). -/
def restEarly (n : Chan) (s : State) : State :=
  match s.asyCh[n].restFrom, s.asyCh[n].gap with
  | some _, some g =>
    if s.tim.station.toNat - g.since.toNat ≥ gapShort && relaxed s n s.tim.station s.meas[n].packI then finishRest n s else s
  | _, _ => s

/-- The gap of a CONNECTED-BYPASS channel: begun when none stands, its anchor once per ASY_GAP_INTERVAL. -/
def bypassGap (n : Chan) (s : State) : State :=
  if s.con[n].state != .bypass then s
  else match s.asyCh[n].gap with
    | none => if reported s n = some .bypassed then gapBegin n (s.con[n].bypassedAt.getD s.tim.station) s else s
    | some g =>
      let since := s.asyCh[n].bypassAnchor.getD g.since
      if s.tim.station.toNat - since.toNat < pNat s Prm.asyGapInterval * tSec || s.asyCh[n].restFrom.isSome then s
      else
        let s := takeAnchor n s.tim.station s
        let s := modAsy n (fun a => { a with bypassAnchor := some s.tim.station,
                                             gap := a.gap.map (fun g => { g with windows := 0, good := true }) }) s
        forEach (groupsOf s n) (fun k s => modGrp n k (fun g => { g with gapV := none }) s) s

/-- The channel may give a gap now (R272). -/
def gapFree (s : State) (n : Chan) : Bool :=
  let a := s.asyCh[n]
  s.con[n].state == .active && !heldNow s n && s.cyc[n].phase = 0 && s.tim.tb - a.tightAt > tSec &&
    a.lastGap.all (fun t => s.tim.station.toNat - t.toNat ≥ pNat s Prm.asyGapInterval * tSec)

/-- Create a gap (R272). -/
def ownGap (s : State) : State :=
  if !isMaster s || pNat s Prm.asyGapMode ≠ 1 || allChans.any (fun n => s.con[n].gap) || s.tim.tb - s.asy.busyAt ≤ tSec then s
  else match allChans.filter (gapFree s) with
    | [] => s
    | n :: ns =>
      let best := ns.foldl (fun a b => if s.asyCh[b].worst.1 > s.asyCh[a].worst.1 then b else a) n
      markDirty best (modCon best (fun c => { c with gap := true }) s)

/-! ## Bleed decisions (R283, R284) -/

/-- A group may bleed. -/
def mayBleed (s : State) (n : Chan) (i : Nat) : Bool :=
  grpClear s n i && pBool s Prm.asyBalEnable &&
    (match groupTemp s n i with
     | some t => decide (t.1 < pInt s Prm.asyBalTmax)
     | none => false)

/-- The channel bleeds no group. -/
def bleedsNone (s : State) (n : Chan) : Bool :=
  (match s.con[n].state with
   | .dormant | .fenced | .retired => true
   | _ => false) || s.cyc[n].phase ≠ 0 || !modelOk s

/-- The mask that an update decides. -/
def bleedMask (s : State) (n : Chan) : BitVec 256 :=
  if bleedsNone s n then 0
  else
    let l := rooms s n
    let med := medianR (l.map (·.qc))
    let low := (chanRoom l).1
    let start : Rat := (pNat s Prm.asyBalStart : Rat) / 100
    let stop : Rat := (pNat s Prm.asyBalStop : Rat) / 100
    BitVec.ofNat 256 (l.foldl (fun a r =>
      let on := s.asyCh[n].bleedWant.getLsbD r.grp
      let want := if on then !(decide (r.qc ≥ med - stop) || decide (r.qd ≤ low + stop))
                  else decide (r.qc < med - start) && decide (r.qd > low + start)
      if want && mayBleed s n r.grp then a + 2 ^ r.grp else a) 0)

/-- Bleed decisions of a channel and SET_BALANCE, at most once per second. -/
def bleedUpdate (n : Chan) (s : State) : State :=
  if !isMaster s then s
  else
    let frozen := s.asyCh[n].gap.isSome || s.asyCh[n].restFrom.isSome
    let s := if frozen && !bleedsNone s n then s
             else
               let mask := bleedMask s n
               modAsy n (fun a => { a with bleedWant := mask }) s
    if running s n && s.meas[n].setupLeft = 0 && s.asyCh[n].bleedWant ≠ s.meas[n].bleed &&
        !s.txns[n].cmds.any (fun c => c.purpose == .balance) && elapsed s.tim.tb s.asyCh[n].balanceAt tSec then
      sendSetup n 5 .balance (modAsy n (fun a => { a with balanceAt := some s.tim.tb }) s)
    else s

/-! ## Cycles counted (10 R303) -/

/-- C_ch, Ah. -/
def packCap (s : State) (n : Chan) : Rat :=
  match (groupsOf s n).filterMap (fun i => (grpAt s n i).cap) with
  | [] => capNom (cellModel s)
  | l => meanR l

/-- CYCLES. -/
def countCycles (n : Chan) (s : State) : State :=
  let c := packCap s n
  if c = 0 then s
  else
    let k := units 4 ((s.asyCh[n].throughput : Rat) / 3600000000 / (2 * c) * 100)
    modCyc n (fun x => { x with cycles := k }) s

/-! ## The assay cycle (10 R305 to R310) -/

/-- CAPACITY_NOT_STORED. -/
def notStored (n : Chan) (reason : Nat) (s : State) : State :=
  raiseAt 0x8408 0xF true s.tim.station n.val [ef 28 0 n.val, ef 29 0 reason] s

/-- SOCm of R210 in 0.01 %. -/
def socMean (s : State) : Option Rat :=
  match ((activeChans s).filter (fun n => s.cyc[n].phase = 0)).filterMap (fun n => s.asyCh[n].pub) with
  | [] => none
  | l => some (meanR l)

/-- Why a cycle aborts at an update, by *Abort reasons*. -/
def cycleAbort (s : State) (n : Chan) : Option Nat :=
  let c := s.cyc[n]
  let flag := (groupsOf s n).any (fun i => (cellAt s n i).plaus || cellSuspect s n i || cellOpen s n i)
  let stale := c.staleAt.isSome && elapsed s.tim.tb c.staleAt (10 * tSec)
  let sat := ((s.ins.satPeriods - s.asy.satHist.getLastD s.ins.satPeriods).toNat : Rat)
  let periods : Rat := if tctl s = 0 then 0 else (60 * tSec : Nat) / (tctl s : Rat)
  let hot := (groupsOf s n).any (fun i => (groupTemp s n i).any (fun t => decide (t.1 ≥ (pInt s Prm.asyBalTmax : Rat))))
  let thm := c.thmAt.isSome && elapsed s.tim.tb c.thmAt (60 * tSec)
  if flag || stale then some 2
  else if sat * 100 > (pNat s Prm.asyAcSatMax : Rat) * periods then some 3
  else if hot || thm then some 7
  else if (activeChans s).length < pNat s Prm.asyAcMinActive then some 8
  else none

/-- Anchor values of a rest for every group (R307); a group without one gets `miss`. -/
def restAnchors (n : Chan) (top : Bool) (miss : Rat) (s : State) : State :=
  let t := s.tim.station
  let ok := s.asyCh[n].gap.any (fun g => gapOk s n g t)
  let late := s.asyCh[n].gap.any (fun g => decide (g.lastEnd.toNat > t.toNat))
  forEach (groupsOf s n) (fun k s =>
    let a := if ok then ((grpAt s n k).gapV.bind (fun v => anchorOf s n k v late)).getD (miss, 0) else (miss, 0)
    modGrp n k (fun g => if top then { g with top := a } else { g with bot := a }) s) s

/-- The next phase begins. -/
def cyclePhase (n : Chan) (p : Nat) (s : State) : State :=
  let s := modCon n (fun c => { c with assayRest := decide (p = 2 ∨ p = 4) }) s
  modCyc n (fun c => { c with phase := p, phaseAt := s.tim.station }) s

/-- The rest of the cycle has ended: relaxed after 20 ms, or ASY_AC_REST (R276, R305). -/
def cycleRestOver (s : State) (n : Chan) : Bool :=
  s.tim.station.toNat - s.cyc[n].phaseAt.toNat ≥ pNat s Prm.asyAcRest * tSec ||
    (s.asyCh[n].gap.any (fun g => decide (s.tim.station.toNat - g.since.toNat ≥ gapShort)) && relaxed s n s.tim.station s.meas[n].packI)

/-- Learn one group (R309): whether it was learned. -/
def learnGroup (n : Chan) (dq : Rat) (k : Nat) (s : State) : Bool × State :=
  let g := grpAt s n k
  let span := g.top.1 - g.bot.1
  let minSpan : Rat := (pNat s Prm.asyAcMinSpan : Rat) / 1000
  let nom := capNom (cellModel s)
  let c := if span = 0 then 0 else -dq / span
  if span ≥ minSpan && c ≥ nom / 2 && c ≤ 11 / 10 * nom then
    let uc := (g.top.2 + g.bot.2) / span + (pNat s Prm.asyUncGain : Rat) / 100000
    (true, modGrp n k (fun g => { g with cap := some c, uc := uc, z := g.bot.1, ub := g.bot.2, za := g.bot.1,
                                         unverified := false, spanOk := true }) s)
  else (false, modGrp n k (fun g => { g with spanOk := decide (span ≥ minSpan) }) s)

/-- The write-back of R315 is due: the record, or CAPACITY_NOT_STORED (R317). -/
def writeBack (n : Chan) (s : State) : State :=
  if s.pwr.holdupFault then cycleDoneEvent n false false (notStored n 2 s)
  else
    let s := if s.pwr.warn then notStored n 0 s else s
    queueWrite (.learned n true) s

/-- The end of BOTTOM_REST: what the cycle learns (R309). -/
def cycleLearn (n : Chan) (s : State) : State :=
  let dq : Rat := ((packQ s n - s.cyc[n].qTop : Int) : Rat) / 3600000000
  let r := (groupsOf s n).foldl (fun (x : List Nat × State) k =>
    let y := learnGroup n dq k x.2
    (if y.1 then x.1 ++ [k] else x.1, y.2)) ([], s)
  let s := r.2
  let caps := r.1.map (fun k => units 4 ((grpAt s n k).cap.getD 0 * 100))
  let d := (r.1.length, (groupsOf s n).length - r.1.length, caps.foldl min (caps.headD 0), caps.foldl max 0)
  let s := modCyc n (fun c => { c with doneWait := some d, done := c.done + 1 }) s
  cyclePhase n 5 (writeBack n (checkVerified n s))

/-- One update of a running cycle: only a master runs it (R311). -/
def cycleUpdate (n : Chan) (s : State) : State :=
  if s.cyc[n].phase = 0 || !isMaster s then s
  else
    let stale := (groupsOf s n).any (fun i => (cellAt s n i).stale)
    let warm := decide (s.thmCh[n].f < 1)
    let now := s.tim.tb
    let s := modCyc n (fun c => { c with staleAt := if stale then some (c.staleAt.getD now) else none,
                                         thmAt := if warm then some (c.thmAt.getD now) else none,
                                         cycleQ := if c.phase ≥ 3 then packQ s n - c.qTop else 0 }) s
    match cycleAbort s n with
    | some r => abortCycle n r s
    | none =>
      let taper : Rat := (pNat s Prm.asyAcItaper : Rat) / 1000 * capNom (cellModel s) * 10
      let c := s.cyc[n]
      match c.phase with
      | 1 => if s.asyCh[n].raw.c60 < taper then cyclePhase n 2 s else s
      | 2 =>
        if cycleRestOver s n then
          let s := gapClose n s.tim.station (restAnchors n true (-1) s)
          cyclePhase n 3 (modCyc n (fun c => { c with tTop := s.tim.station, qTop := packQ s n, cycleQ := 0 }) s)
        else s
      | 3 => if s.asyCh[n].model = 0 || s.asyCh[n].raw.d60 < taper then cyclePhase n 4 s else s
      | 4 =>
        if cycleRestOver s n then
          let s := gapClose n s.tim.station (restAnchors n false 2 s)
          cycleLearn n (modCyc n (fun c => { c with tBot := s.tim.station }) s)
        else s
      | _ =>
        match s.asyCh[n].pub, socMean s with
        | some p, some m => if absR (p - m) ≤ 100 then modCyc n (fun c => { c with phase := 0 }) s else s
        | _, _ => s

end Sys2Proof.Machine
end

