-- ==== Sys2Proof/Machine/AssayRows.lean ====
section
/-! DEFINITION. The commands of the assay engine: the estimator update (09 R263), rests (R275 to R277), READ_LIMITS (R282), the
assay cycle (10 R304, R310), the periodic saves (R314) and TOUCHMARK_PROVISION (R320). -/

namespace Sys2Proof.Machine

/-- Firmware runs: the image is started, and no debug halt stands (02 R45; 08 R253). -/
def fwRuns (s : State) : Bool := mainUp s && s.pwr.imageRuns && s.pwr.configLoaded && !s.qm.fwHalt

/-- Populated channels. -/
def popChans (s : State) : List Chan := allChans.filter (populated s)

/-- A rest that something else has ended: a protective decision, a quench, or the channel's leaving of both states (R276). -/
def restCut (s : State) (n : Chan) : Bool :=
  let c := s.con[n]
  s.asyCh[n].restFrom.isSome && (c.protective || (match c.state with
    | .active => !c.rest
    | .bypass => false
    | _ => true))

/-- Start a TOUCHMARK_PROVISION that waits for the channel's touchmark to be free. -/
def provPoll (n : Chan) (s : State) : State :=
  if s.cyc[n].provRec ≠ [] && s.cyc[n].touch.isNone && provWaits s n && isMaster s then
    (if running s n then startIdent n .provision false s else provEnd n (reply .wrongState) s)
  else s

/-- What only the master of the segment does at an update, by channel. -/
def masterUpdate (n : Chan) (s : State) : State :=
  if !isMaster s then s
  else
    let s := if restCut s n then finishRest n s else restEarly n s
    provPoll n (restRequests n s)

/-- The estimator update (R263). -/
def estimate (s : State) : State :=
  let chans := popChans s
  let s := forEach chans markStale s
  let r := advanceAll chans s
  let s := advanceSegment r.1 r.2
  let s := crucibleUpdate s
  let before := dmaxNow s
  let s := forEach chans (fun n s => deratedEvents n (limitsUpdate n s)) s
  let s := segmentLimits s
  let s := if dmaxNow s = before then s else restage 1 s
  let s := forEach chans (fun n s => bypassGap n (masterUpdate n s)) s
  let s := { s with asy := { s.asy with satHist := (s.ins.satPeriods :: s.asy.satHist).take 600, lastUpdate := some s.tim.station } }
  let s := forEach chans (fun n s => cycleUpdate n (countCycles n (fitChannel n s))) s
  forEach chans bleedUpdate (ownGap s)

/-- ESTIMATOR_UPDATE (R263). The active module sends a RECONCILE with it, the impedance records of one channel in rotation
(12 R363). -/
def execEstimatorUpdate (s : State) : Out :=
  if !fwRuns s || (blockFenced s 0x0401 0 && blockFenced s 0x0401 1) then done s s
  else
    let t := estimate s
    if isMaster t then done s (sendSeam (.reconcile t.tim.station) { t with twn := { t.twn with impRotate := t.twn.impRotate + 1 } })
    else done s t

/-! ## Rests (R274 to R277) -/

/-- REST_REQUEST_REPEAT (R274). -/
def execRestRequestRepeat (n : Chan) (s : State) : Out :=
  if isMaster s && s.asyCh[n].restReq.isSome && s.asyCh[n].grant.isNone && s.asyCh[n].worst.1 > 3 / 100 && s.cyc[n].phase = 0 then
    done s (restEvent n false true s)
  else done s s

/-- REST_WAIT_EXPIRY (R277). -/
def execRestWaitExpiry (n : Chan) (s : State) : Out :=
  if s.asyCh[n].restReq.isSome && s.asyCh[n].grant.isNone && s.asyCh[n].worst.1 > 3 / 100 then
    done s (modAsy n (fun a => { a with derating := true }) s)
  else done s s

/-- A rest begins (R275): the hold of an ACTIVE channel enters at the next reload point. -/
def restBegin (n : Chan) (s : State) : State :=
  let active := s.con[n].state == .active
  let s := modCon n (fun c => { c with rest := c.rest || active }) s
  markDirty n (modAsy n (fun a => { a with restFrom := some (a.restFrom.getD s.tim.station) }) s)

/-- The channel can rest. -/
def restable (s : State) (n : Chan) : Bool :=
  (s.con[n].state == .active || s.con[n].state == .bypass) && s.cyc[n].phase = 0

/-- REST_GRANT (R275). -/
def execRestGrant (h : Hdr) (n : Chan) (duration : Word) (start : DWord) (s : State) : Out :=
  hostCmd h 0x0403 16 (.channel n) false (fun s =>
    let now := s.tim.station
    if !populated s n || !restable s n then .now (reply .wrongState) s
    else if duration.toNat < 1 || duration.toNat > 300 then .now (reply .outOfRange 4) s
    else if start.toNat > now.toNat + 3600 * tSec then .now (reply .outOfRange 5) s
    else
      let begin_ := if start.toNat ≤ now.toNat then now else start
      let later := begin_ ≠ now
      let s := if later && s.asyCh[n].restFrom.isSome then finishRest n s else s
      let s := modAsy n (fun a => { a with grants := a.grants + 1, grant := some (begin_, duration.toNat) }) s
      .now (reply .ok) (if later then markDirty n s else restBegin n s)) s

/-- REST_START (R275). -/
def execRestStart (n : Chan) (s : State) : Out :=
  if s.asyCh[n].grant.isNone || s.asyCh[n].restFrom.isSome then done s s
  else if isMaster s && restable s n then done s (restBegin n s)
  else done s (modAsy n (fun a => { a with grant := none }) s)

/-- REST_END (R276). -/
def execRestEnd (n : Chan) (s : State) : Out :=
  if isMaster s && s.asyCh[n].restFrom.isSome then done s (finishRest n s) else done s s

/-! ## READ_LIMITS (R282) -/

/-- Flags of word 11 for a channel. -/
def limitFlags (s : State) (n : Chan) : Nat :=
  let a := s.asyCh[n]
  bN (deratingNow s n) + 2 * bN (decide (s.thmCh[n].f < 1)) + 4 * bN a.rise + 8 * bN (!modelOk s) +
    16 * bN (s.con[n].state != .active) + 32 * bN (heldNow s n) + 64 * bN (decide (s.cyc[n].phase ≠ 0)) + 128 * bN a.noTemp

/-- Words 4 to 9 of a reply. -/
def limitWords (l : Limits) : List (Nat × Nat) := (numbered 4 (l.list.map (fun x => units 4 (max 0 x))))

/-- READ_LIMITS (R282). -/
def execReadLimits (h : Hdr) (sel : Byte) (s : State) : Out :=
  hostCmd h 0x0405 4 .none false (fun s =>
    if sel == 0xFF then
      let cs := segChans s
      let each := cs.foldl (fun a n => a ||| limitFlags s n) 0
      let flags := (each &&& 0xE7) + 8 * bN (!modelOk s) + 16 * bN cs.isEmpty
      let soc := if modelOk s then units 2 (s.asy.pub.getD 0) + 65536 * units 2 (s.asy.unc * 10000) else 0
      .now (okWords (limitWords (if modelOk s then s.asy.lim else {}) ++ [(10, soc), (11, flags)])) s
    else if sel.toNat ≥ 64 then .now (reply .outOfRange 3) s
    else
      let n : Chan := Fin.ofNat 64 sel.toNat
      if !populated s n then .now (reply .wrongState) s
      else
        let a := s.asyCh[n]
        let z := !modelOk s
        let soc := units 2 (a.pub.getD 0) + 65536 * units 2 (a.unc * 10000)
        .now (okWords (limitWords (if z then {} else a.pubLim) ++ [(10, if z then 0 else soc), (11, limitFlags s n)])) s) s

/-! ## The assay cycle -/

/-- A group's flags keep a cycle from starting (R304). -/
def cycleFlag (s : State) (n : Chan) : Bool :=
  (groupsOf s n).any (fun i => let c := cellAt s n i; c.plaus || c.stale || cellSuspect s n i || cellOpen s n i)

/-- ASSAY_CYCLE_START (R304). -/
def execAssayCycleStart (h : Hdr) (n : Chan) (s : State) : Out :=
  hostCmd h 0x0401 4 (.channel n) false (fun s =>
    if s.con[n].state == .fenced then .now (reply .fenced) s
    else if s.con[n].state != .active || s.ins.direct || allChans.any (fun k => s.cyc[k].phase ≠ 0) || !modelOk s ||
        (activeChans s).length < pNat s Prm.asyAcMinActive || s.asyCh[n].grant.isSome || cycleFlag s n || s.pwr.warn ||
        s.pwr.holdupFault then .now (reply .wrongState) s
    else
      let now := s.tim.station
      .now (reply .ok) (modCyc n (fun c => { c with
        phase := 1, started := now, phaseAt := now, tTop := 0, tBot := 0, qTop := 0, cycleQ := 0, staleAt := none, thmAt := none }) s)) s

/-- ASSAY_CYCLE_ABORT (R304, R310). -/
def execAssayCycleAbort (h : Hdr) (n : Chan) (s : State) : Out :=
  hostCmd h 0x0402 4 (.channel n) false (fun s =>
    if s.cyc[n].phase = 0 then .now (reply .wrongState) s else .now (reply .ok) (abortCycle n 0 s)) s

/-- ASSAY_TIMEOUT (R310). -/
def execAssayTimeout (n : Chan) (s : State) : Out := if isMaster s then done s (abortCycle n 4 s) else done s s

/-- IMPEDANCE_SAVE (R314, R315, R317). -/
def execImpedanceSave (s : State) : Out :=
  if !fwRuns s then done s s
  else done s (forEach (popChans s) (fun n s =>
    let s := queueWrite (.learned n false) (queueWrite (.impedance n) s)
    if s.cyc[n].tmPending && mayHistory s n then startHistory n s else s) s)

/-! ## TOUCHMARK_PROVISION (R320) -/

/-- TOUCHMARK_PROVISION (R320). -/
def execTouchmarkProvision (h : Hdr) (n : Chan) (bulk : Bulk) (s : State) : Out :=
  hostCmd h 0x0404 12 (.channel n) true (fun s =>
    if !bulkOk s bulk 160 || bulkValid s bulk < 160 then .now (reply .badParam 4) s
    else
      let free := bulkFree s bulk
      if !running s n || s.con[n].state == .dormant || !s.txns[n].caps.any (·.tmark) then .now (reply .wrongState) s free
      else .later (.channel n) 0 (modCyc n (fun c => { c with provRec := (bulkRead s bulk).take 160 }) s) free) s

end Sys2Proof.Machine
end

