-- ==== Sys2Proof/Machine/TimeBase.lean ====
section
/-! DEFINITION. Time base and station time (02 R28 to R38): SET_TIME, the 1PPS edge, the lock states, and the tick that
passes while no command waits. -/

namespace Sys2Proof.Machine

/-- Units of phase in one tick: the unit in which an edge, a stamp's fraction and 0.1 ns are whole numbers. -/
def tUnit : Int := 1638400

/-- One second in the same units. -/
def secUnits : Int := 800000000 * tUnit

/-- Lock state codes (*Station time lock states*). -/
def LockState.code : LockState → Nat
  | .unset => 0
  | .free => 1
  | .acquire => 2
  | .locked => 3
  | .holdover => 4

/-- Phase in 0.1 ns, reported in whole units (log 4). -/
def phaseLsb (e : Int) : Int := satI 32 (toLsb ((e : Rat) / 131072))

/-- TIME_STATE (R524). -/
def timeEvent (old : LockState) (byCmd : Bool) (s : State) : State :=
  raise 0x8106 0xFFFF [ef 28 0 old.code, ef 28 3 s.tim.lock.code, ef 28 6 (bN s.tim.seamSrc), ef 28 7 (bN byCmd),
    ef 32 0 (match s.tim.phase with
      | some e => wrapI 32 e
      | none => 0x80000000)] s

/-- Change the lock state (R32). The slew belongs to ACQUIRE; FREE takes its next edge as a first one (R31). -/
def setLock (new : LockState) (seam byCmd : Bool) (s : State) : State :=
  let old := s.tim.lock
  if old = new && s.tim.seamSrc = seam then s
  else
    let s := { s with tim := { s.tim with
      lock := new, seamSrc := seam, good := 0, moved := 0, lastRejected := none
      slewLeft := if new = .acquire then s.tim.slewLeft else 0
      slewStep := if new = .acquire then s.tim.slewStep else 0
      lastEdge := if new = .free || seam then none else s.tim.lastEdge
      holdoverAt := if new = .holdover then s.tim.tb else s.tim.holdoverAt } }
    let s := if new = .locked && old ≠ .locked then { s with thm := { s.thm with lockedAt := s.tim.tb } } else s
    timeEvent old byCmd s

/-- The module's own second boundary nearest to an arrival, and the arrival's distance from it. -/
def phaseError (s : State) (a : Int) : Option Int :=
  s.tim.anchor.map (fun t =>
    let d := (a - (t.toNat : Int) * tUnit) % secUnits
    if 2 * d > secUnits then d - secUnits else d)

/-- An arrival in units, with TIME_PPS_CABLE_DELAY taken off (R38). -/
def arrivalOf (s : State) (ticks : DWord) (frac : Half) : Int :=
  ((ticks.toNat : Int) * 65536 + frac.toNat) * 25 - (pNat s Prm.timePpsCableDelay : Int) * 131072

/-- Within `u` microseconds. -/
def withinUs (u : Nat) (e : Int) : Bool := (e.natAbs : Int) ≤ (u : Int) * tUs * tUnit

/-- Validity as UNSET and FREE judge it: the first edge, then one second after the last (R31). -/
def validFree (s : State) (a : Int) : Bool := match s.tim.lastEdge with
  | none => true
  | some l => withinUs 10 (a - l - secUnits)

/-- Validity of an edge (R31). -/
def edgeValid (s : State) (a : Int) : Bool :=
  if s.tim.seamSrc then validFree s a
  else match s.tim.lock with
    | .unset | .free => validFree s a
    | .acquire => (match s.tim.lastEdge with
      | none => true
      | some l => withinUs 1 (a - l - secUnits - s.tim.slewStep))
    | .locked | .holdover => (match phaseError s a with
      | none => true
      | some e => withinUs 1 e)

/-- Set the slew of ACQUIRE toward a phase error: at most TIME_SLEW_LIMIT, in 0.001 ppm, which is 1 ns each second (R33). -/
def setSlew (e : Int) (s : State) : State :=
  let most : Int := (pNat s Prm.timeSlewLimit : Int) * 1310720
  { s with tim := { s.tim with slewLeft := -e * tSec, slewStep := max (-most) (min most (-e)) } }

/-- Enter ACQUIRE on an edge with phase error `e` (R32, R33). -/
def acquire (a : Int) (e : Option Int) (byCmd : Bool) (s : State) : State :=
  let s := { s with tim := { s.tim with phase := e.map phaseLsb } }
  let s := setLock .acquire false byCmd s
  setSlew (e.getD 0) { s with tim := { s.tim with lastEdge := some a, good := 0, validAt := s.tim.tb } }

/-- Correction at an edge in LOCKED (R33): the manual gives the loop's bandwidth and no other rule, so what part of the
error the next second removes, and the root's steering, are free values (log 5). -/
def loopStep (e : Int) (s : State) : State :=
  let p := drawWord s
  let q := drawWord p.2
  { q.2 with tim := { q.2.tim with steer := q.1, slewStep := -(e * (p.1.toNat % 2 ^ 16 : Nat) / 65536) } }

/-- A rejected edge: LOCKED and HOLDOVER still test it for a source that has moved (R31, R32). -/
def edgeOutside (a : Int) (s : State) : State :=
  if s.tim.seamSrc || !(s.tim.lock == .locked || s.tim.lock == .holdover) then s
  else
    let k := match s.tim.lastRejected with
      | some l => if withinUs 1 (a - l - secUnits) then s.tim.moved + 1 else 1
      | none => 1
    if k ≥ 10 then acquire a (phaseError s a) false s
    else { s with tim := { s.tim with moved := k, lastRejected := some a } }

/-- What an accepted edge does to the lock state when it loads no SET_TIME (R32, R33). -/
def edgeAccepted (a : Int) (s : State) : State :=
  let e := phaseError s a
  let s := { s with tim := { s.tim with moved := 0, lastRejected := none } }
  match s.tim.lock with
  | .unset => { s with tim := { s.tim with lastEdge := some a, validAt := s.tim.tb } }
  | .free | .holdover => acquire a e false s
  | .acquire =>
    let e := e.getD 0
    let s := setSlew e { s with tim := { s.tim with lastEdge := some a, validAt := s.tim.tb, phase := some (phaseLsb e) } }
    let k := if (e.natAbs : Int) ≤ 4 * tUnit then s.tim.good + 1 else 0
    if k ≥ 4 then setLock .locked false false s else { s with tim := { s.tim with good := k } }
  | .locked =>
    let e := e.getD 0
    loopStep e { s with tim := { s.tim with lastEdge := some a, validAt := s.tim.tb, phase := some (phaseLsb e) } }

/-- An accepted edge at which a SET_TIME stands that was given at least 10 ms before (R29, R30): whether it was taken, and
the state. -/
def edgeLoads (a : Int) (p : Pend) (s : State) : Bool × State :=
  let t := p.arg
  let diff := (t.toNat : Int) * tUnit - a
  let same := withinUs 1 diff
  if !same && s.tim.lock != .unset && !(activeChans s).isEmpty then (false, finishAll (· == p) (fun _ => reply .wrongState) s)
  else
    let s := finishAll (· == p) (fun _ => reply .ok) s
    let step : Int := if same then 0 else (diff / tUnit)
    let s := { s with tim := { s.tim with
      everSet := true, anchor := some t, moved := 0, lastRejected := none, validAt := s.tim.tb
      station := if same then s.tim.station else s.tim.station + BitVec.ofInt 64 step } }
    let s := { s with ins := { s.ins with lastClosed := if same then s.ins.lastClosed else none } }
    let a := a + step * tUnit
    (true, match s.tim.lock with
      | .unset | .free | .holdover => acquire a (phaseError s a) true s
      | .acquire => setSlew ((phaseError s a).getD 0) { s with tim := { s.tim with lastEdge := some a, good := 0 } }
      | .locked => { s with tim := { s.tim with lastEdge := some a, phase := (phaseError s a).map phaseLsb } })

/-- Every SET_TIME that is due at an accepted edge, in order: whether one was taken, and the state. -/
def edgeLoadsAll (a : Int) (due : List Pend) (s : State) : Bool × State :=
  let r := due.foldl (fun (x : Bool × Int × State) p =>
    let y := edgeLoads x.2.1 p x.2.2
    (x.1 || y.1, if y.1 then y.2.tim.lastEdge.getD x.2.1 else x.2.1, y.2)) (false, a, s)
  (r.1, r.2.2)

/-- A valid edge while the module follows its own 1PPS. -/
def edgeTakes (a : Int) (due : List Pend) (s : State) : State :=
  let r := edgeLoadsAll a due s
  if r.1 then r.2 else edgeAccepted a r.2

/-- A valid edge while the seam is the source (R35): it ends that source, but on a standby that follows the active. -/
def edgeOnSeam (a : Int) (due : List Pend) (s : State) : State :=
  let t := if s.tim.follow then { s with tim := { s.tim with lastEdge := some a } } else acquire a (phaseError s a) false s
  (edgeLoadsAll a due t).2

/-- PPS_EDGE (R29 to R33, R35, R38). -/
def execPpsEdge (ticks : DWord) (frac : Half) (s : State) : Out :=
  let a := arrivalOf s ticks frac
  let due := s.cmd.pend.filter (fun p => p.op == 0x0105#16 && s.tim.tb - p.at_ ≥ 10 * tMs)
  if !mainUp s then done s s
  else if !edgeValid s a then done s (edgeOutside a s)
  else if s.tim.seamSrc then done s (edgeOnSeam a due s)
  else done s (edgeTakes a due s)

/-- PPS_LOSS_TIMEOUT (R32). A seam source that a reset has kept ends here when no partner has answered since (R35). -/
def execPpsLossTimeout (s : State) : Out :=
  if !mainUp s then done s s
  else if s.tim.seamSrc then (if s.twn.lost then done s (setLock .holdover false false s) else done s s)
  else match s.tim.lock with
    | .locked => done s (setLock .holdover false false s)
    | .acquire => done s (setLock .free false false { s with tim := { s.tim with phase := none } })
    | _ => done s s

/-- HOLDOVER_EXPIRY (R34). -/
def execHoldoverExpiry (s : State) : Out :=
  if s.tim.lock = .holdover && mainUp s then done s (setLock .free false false { s with tim := { s.tim with phase := none } }) else done s s

/-- The next own second boundary at least 10 ms ahead. -/
def nextSecond (s : State) : Option Nat :=
  s.tim.anchor.map (fun t =>
    let now : Int := (s.tim.station.toNat : Int) + 10 * tMs
    let d := ((t.toNat : Int) - now) % tSec
    (now + d).toNat)

/-- SET_TIME would change the station time: its value is further than 1 µs from the second boundary that the next edge
marks (R30). -/
def wouldChange (s : State) (t : DWord) : Bool := match nextSecond s with
  | none => true
  | some b => ((b : Int) - t.toNat).natAbs > tUs

/-- SET_TIME (R29, R30). -/
def execSetTime (h : Hdr) (t : DWord) (s : State) : Out :=
  hostCmd h 0x0105 8 .none true (fun s =>
    if s.tim.lock != .unset && !(activeChans s).isEmpty && wouldChange s t then .now (reply .wrongState) s
    else .later .none t s) s

/-- SET_TIME_TIMEOUT (R29). -/
def execSetTimeTimeout (s : State) : Out := match pendOp s 0x0105 with
  | some p => done s (finishAll (· == p) (fun _ => reply .timeout) s)
  | none => done s s

/-- One tick of the time base passes: station time counts it, and the slew adds or withholds a tick when it has gathered
one (R28, R33; log 6). A slew toward a source stops when it has removed the phase. -/
def tick (s : State) : State :=
  let bounded := s.tim.lock = .acquire || s.tim.seamSrc
  let move := if bounded && s.tim.slewLeft.natAbs < s.tim.slewStep.natAbs then s.tim.slewLeft else s.tim.slewStep
  let acc := s.tim.slewAcc + move
  let whole := secUnits
  let up := acc ≥ whole
  let down := acc ≤ -whole
  { s with tim := { s.tim with
      tb := s.tim.tb + 1
      slewLeft := if bounded then s.tim.slewLeft - move else s.tim.slewLeft
      slewAcc := if up then acc - whole else if down then acc + whole else acc
      station := if up then s.tim.station + 2 else if down then s.tim.station else s.tim.station + 1 } }

end Sys2Proof.Machine
end

