-- ==== Sys2Proof/Machine/Twin.lean ====
section
/-! DEFINITION. Twin operation (12): epochs, readiness, changes of role, takeover and hand-over. The commands that call these
are in TwinRows.lean; the offer is made at a reload point (EngineRows.lean). -/

namespace Sys2Proof.Machine

/-! ## Epochs and generations (R357, R371) -/

/-- The newest of the values given. -/
def newestOf (l : List (Option Word)) : Option Word :=
  l.foldl (fun (a b : Option Word) => match a, b with
    | some x, some y => if newer32 y x then some y else some x
    | none, y => y
    | x, none => x) none

/-- Newest epoch that the module has seen, its own included. -/
def newestEpoch (s : State) : Option Word := newestOf [s.twn.seen, s.twn.portEpoch, s.twn.epoch]

/-- Bit 0 of the module's address. -/
def oddAddr (s : State) : Bool := (address s).getLsbD 0

/-- The epoch that a new master of a parity takes (R357). -/
def epochFor (odd : Bool) (s : State) : Word :=
  match newestEpoch s with
  | none => if odd then 1 else 0
  | some e => if (e + 1).getLsbD 0 = odd then e + 1 else e + 2

/-- Newest generation that the module has seen (R371). -/
def newestGen (s : State) : Option Word :=
  newestOf [s.twn.mirror.map (·.gen), s.twn.partner.map (·.genLast), s.stg.reported]

/-! ## The pair (R355, R369, R373) -/

/-- A seam lane is UP. -/
def anyLane (s : State) : Bool := s.twn.lanes[(0 : SeamLane)].up || s.twn.lanes[(1 : SeamLane)].up

/-- The pair stands: the partner is heard and not refused. -/
def paired (s : State) : Bool := twinBit s && s.twn.mismatch.isNone && !s.twn.lost && s.twn.partner.isSome

/-- The conditions of R373. -/
def horizonOk (s : State) : Bool := 2 ≤ pNat s Prm.insHorizon && pNat s Prm.insHorizon * tctl s ≥ 100 * tUs

/-- The partner's heartbeat shows a ready standby. -/
def partnerReady (s : State) : Bool := paired s && s.twn.partner.any (fun h => h.ready && h.role.toNat = 3)

/-- The bank the module runs. -/
def bankOf (s : State) : Bank → BankSt
  | .a => s.img.a
  | .b => s.img.b

/-- The image that runs. -/
def runningBank (s : State) : BankSt := bankOf s s.pwr.bank

/-- Two images pair: each version lies between the other's oldest and its own (R369). -/
def seamPairs (ver least ver' least' : Nat) : Bool := least' ≤ ver && ver ≤ ver' && least ≤ ver' && ver' ≤ ver

/-- The running image pairs with the partner's. -/
def seamMatches (s : State) (h : Heartbeat) : Bool :=
  seamPairs (runningBank s).seamVer.toNat (runningBank s).seamMin.toNat h.seamVer.toNat h.seamMin.toNat

/-- Every port whose channel is live at the active runs here (R369). -/
def portsFollow (s : State) : Bool := allChans.all (fun n => !populated s n || !live s.con[n].state || running s n)

/-- A standby is ready (R369). An ENDED fault record is not present (17 R491). -/
def standbyReady (s : State) : Bool :=
  s.pwr.mod == .ready && anyLane s && s.twn.mismatch.isNone &&
    s.twn.partner.any (fun h => h.configSeq == s.cfg.seq && seamMatches s h) &&
    lately s.tim.tb s.twn.reconciledAt (300 * tMs + 1) && !s.twn.diverged && portsFollow s &&
    (s.tim.lock == .locked || s.tim.lock == .holdover || s.tim.follow) &&
    !s.flt.recs.any (fun r => faultPresent r && r.level ≥ 2) && !s.pwr.holdupFault && !s.pwr.warn

/-- READY of HEARTBEAT. -/
def readyBit (s : State) : Bool :=
  match s.twn.role with
  | .standby => standbyReady s
  | .active => s.pwr.mod == .ready
  | _ => false

/-! ## Reliable frames (R354; 05 R130 to R133) -/

/-- ACK releases the frames it covers. -/
def seamAck (ack : Half) (s : State) : State :=
  if newer16 ack s.twn.rcntTx then s
  else { s with twn := { s.twn with unacked := s.twn.unacked.filter (fun f => newer16 f.1 ack) } }

/-- RESEND asks for a go-back: a further one with the same ACK within 200 µs is ignored. -/
def seamGoBack (ack : Half) (s : State) : State :=
  if s.twn.goBack.any (fun g => g.1 == ack && decide (s.tim.tb - g.2 < 200 * tUs)) then s
  else
    let s := seamAgain ack s
    { s with twn := { s.twn with goBack := some (ack, s.tim.tb) } }

/-- What the header of every valid seam frame tells: ACK and RESEND. -/
def seamCommon (h : SeamHdr) (s : State) : State :=
  let s := seamAck h.ack s
  if h.resend then seamGoBack h.ack s else s

/-- The header of an unreliable seam frame: a count that is ahead asks for a go-back. -/
def seamPlain (h : SeamHdr) (s : State) : State :=
  let s := seamCommon h s
  if newer16 h.rcnt s.twn.rcntRx then { s with twn := { s.twn with resend := true } } else s

/-! ## Roles (R358, R359, R370 to R372) -/

/-- ROLE_CHANGE. -/
def roleEvent (old new cause : Nat) (hitless : Bool) (gen : Word) (from_ : DWord) (s : State) : State :=
  raiseAt 0x8A01 0xF (new = 2 || cause = 5) s.tim.station 0xFFFF [ef 28 0 old, ef 28 3 new, ef 29 0 cause, ef 29 3 (bN hitless), ef 32 0 (epochOf s).toNat,
    ef 36 0 gen.toNat, ef 40 0 from_.toNat] s

/-- Raise the ROLE_CHANGE of a takeover once it can be judged. -/
def judgeRole (s : State) : State :=
  match s.twn.judge with
  | none => s
  | some j =>
    roleEvent j.old 2 j.cause (s.stg.coasts == j.coasts) j.gen j.from_ { s with twn := { s.twn with judge := none } }

/-- The seam stops being the time source (02 R35). -/
def seamEnds (s : State) : State :=
  let s := { s with tim := { s.tim with follow := false } }
  if s.tim.seamSrc then setLock .holdover false false s else s

/-- What becoming master changes in the twin's own state. -/
def becomeMaster (cause : Nat) (epoch : Word) (s : State) : State :=
  seamEnds { s with twn := { s.twn with
    role := .active, epoch := some epoch, seen := newestOf [s.twn.seen, some epoch], lastCause := BitVec.ofNat 3 cause
    takeovers := s.twn.takeovers + 1, hadLane := anyLane s, overRun := 0, within := 0, diverged := false } }

/-- Commands of the host whose node or channel work a deposed master drops (R359, R377). -/
def dropsAtDepose (op : Nat) : Bool :=
  (0x0200 ≤ op && op ≤ 0x02FF) || (0x0500 ≤ op && op ≤ 0x05FF) || op = 0x0404 || op = 0x0A02 || op = 0x0A03

/-- The hand-over that is open is the one that IMAGE_ACTIVATE asked for: its command completes with the hand-over (R379). -/
def activateOpen (s : State) : Bool :=
  match s.twn.open_ with
  | some (.activate _) => true
  | _ => false

/-- The trip request is withdrawn by a module that is no master (R359; 08 R256). -/
def dropTrip (s : State) : State :=
  if !s.qm.tripreq then s
  else
    let by_ := s.qm.tripBy
    let i := if by_.toNat < 64 then s.meas[(Fin.ofNat 64 by_.toNat : Chan)].packI else 0
    tripEvent true by_ i { s with qm := { s.qm with tripreq := false, tripA1 := 0 } }

/-- A master's frames and CMDs that have not left are dropped (R359). -/
def dropFrames (p : Chan) (s : State) : State :=
  modTxn p (fun x => { x with cmds := [], waiting := [] }) (modIns p (fun x => { x with abortWait := false }) s)

/-- The module becomes STANDBY (R358, R359). -/
def becomeStandby (cause : Nat) (s : State) : State :=
  let old := roleCode s
  let was := isMaster s
  let s := judgeRole s
  let s := { s with twn := { s.twn with role := .standby, lastCause := BitVec.ofNat 3 cause, hadLane := anyLane s
                                        takeFrom := none, dirty := 0, reconciledAt := none
                                        offer := if s.twn.open_.isSome then s.twn.offer else none } }
  let s := if !was then s
    else
      let s := finishAll (fun p => dropsAtDepose p.op.toNat && !(p.op == 0x0A03#16 && activateOpen s)) (fun _ => reply .notActive) s
      let s := completeTaken 0x0302 (reply .notActive) (completeTaken 0x0305 (reply .notActive) s)
      let s := { s with
        ins := { s.ins with snapshot := none, modeReq := none }
        img := { s.img with service := [] }
        stg := { s.stg with next := none }
        twn := { s.twn with serviceOwner := none, serviceWait := [] } }
      let s := forEach allChans (fun n s => dropFrames n (modCyc n (fun c => { c with touch := none, provRec := [] })
        (modCon n (fun c => { c with seq := none, service := false }) s))) s
      dropTrip s
  roleEvent old 3 cause false 0 0 s

/-- A valid STAT, CAPS or SYNC carried an epoch (R357 to R359). An epoch newer than a master's own deposes it; the one that
it has itself offered makes the change a planned hand-over. A standalone module has no other master: what its nodes report at its
start it takes as seen. -/
def sawEpoch (e : Word) (s : State) : State :=
  let s := { s with twn := { s.twn with seen := newestOf [s.twn.seen, some e], portEpoch := newestOf [s.twn.portEpoch, some e] } }
  match s.twn.epoch with
  | some own =>
    if !isMaster s || !newer32 e own then s
    else if !twinBit s && s.pwr.mod == .booting then { s with twn := { s.twn with epoch := some (epochFor (oddAddr s) s) } }
    else
      becomeStandby (if s.twn.offer.any (fun o => o.epoch == e) then 4 else 5) s
  | none => s

/-- Send TAKEOVER on every RUNNING port (R371); a port of a quenched group sends /QN/ (08 R244). -/
def sendTakeovers (gen : Word) (from_ : DWord) (s : State) : State :=
  let e := epochOf s
  forEach ((runningPorts s).filter (fun p => !sendsQn s p)) (fun p s => sendBody p (.takeover e (address s) gen from_) s) s

/-- Place a channel that stood in a sequence by its node's report (R372 step 3; 02 R44), and let what the mirror and the
module's own tables call for go on. -/
def replaceChan (n : Chan) (s : State) : State :=
  if s.con[n].seq.isNone then s
  else
    let s := markDirty n (modCon n (fun c => { c with seq := none }) s)
    let s := match contactor s n with
      | some 2 => modCon n (fun c => { c with recheck := true }) s
      | some 3 => causeOn n 15 s
      | _ => placeByStat n 0 false s
    if s.con[n].state != .bypass then s
    else
      let s := if reported s n ≠ some .bypassed then sendAbort n 0xB4 s else s
      if s.con[n].retireCause ≠ 0 then retireBegin n s.con[n].retireCause.toNat s.con[n].retireByCount false s
      else match [1, 2, 4, 7].find? (fun c => hasCause s n c) with
        | some c => startDisc n .disconnect false c true s
        | none => s

/-- R372 steps 1 to 4. -/
def masterSteps (s : State) : State :=
  let gs := finsOf 8 (fun g => quenched s g)
  let s := forEach gs (fun g s =>
    let c := s.qm.causes[g]
    let s := if c.tone || c.hardware || c.crucible then openL0 g.val noId s else s
    forEach (groupChans s g) quenchChan s) s
  let pop := allChans.filter (populated s)
  let s := forEach pop judgeAll s
  let s := forEach pop replaceChan s
  forEach (runningPorts s) sendSetups s

/-- First period whose port commit time on the longest RUNNING port lies at least 6 µs after now (R371). -/
def firstPeriod (s : State) : Nat :=
  let t := max 1 (tctl s)
  let lead := 4000 + (longestDelay s / (25 / 2)).ceil.toNat + 6 * tUs
  ((s.tim.station.toNat + lead + t - 1) / t) * t

/-- End of the horizon of the newest set the module holds. -/
def heldEnd (s : State) : Nat :=
  let h := max 1 (pNat s Prm.insHorizon) * tctl s
  match s.twn.mirror, s.ins.lastClosed with
  | some m, _ => m.period.toNat + h
  | none, some l => l.toNat + h
  | none, none => 0

/-- A takeover (R370 to R372). -/
def takeover (cause : Nat) (s : State) : State :=
  let gen := (newestGen s).getD 0 + 65536
  let first := firstPeriod s
  let old := roleCode s
  let s := closeTo 64 first s
  let s := becomeMaster cause (epochFor (oddAddr s) s) s
  let stop := BitVec.ofNat 64 (first + max 1 (pNat s Prm.insHorizon) * tctl s)
  let j : RoleJudge := ⟨old, cause, gen, BitVec.ofNat 64 first, stop, s.stg.coasts⟩
  let s := { s with stg := { s.stg with next := some gen }, twn := { s.twn with judge := some j } }
  let s := sendTakeovers gen (BitVec.ofNat 64 first) s
  let h := (heldEnd s - first) / max 1 (tctl s)
  masterSteps (formHorizon false first (max 1 h) s)

/-- A standby may take over (R370). -/
def mayTake (s : State) : Bool := s.twn.role == .standby && s.pwr.mod == .ready

/-- The planned hand-over at the partner that receives the arm (R375). -/
def receiveArm (o : Offer) (s : State) : State :=
  let old := roleCode s
  let s := becomeMaster 4 o.epoch s
  let stop := o.at_ + BitVec.ofNat 64 (max 1 (pNat s Prm.insHorizon) * tctl s)
  let j : RoleJudge := ⟨old, 4, o.gen, o.at_, stop, s.stg.coasts⟩
  let s := { s with stg := { s.stg with next := some o.gen }, twn := { s.twn with takeFrom := some o.at_, judge := some j }
                    thm := { s.thm with receivedAt := some s.tim.tb } }
  masterSteps (sendTakeovers o.gen o.at_ s)

/-! ## The hand-over at the module that offers (R374 to R376) -/

/-- A hand-over can be opened (R374, R383). -/
def mayOffer (s : State) : Bool := isMaster s && s.pwr.mod != .booting && partnerReady s && horizonOk s

/-- Open a hand-over; the offer is made at the next reload point. -/
def openHandover (a : Asked) (s : State) : State := { s with twn := { s.twn with open_ := some a } }

/-- Restart of the main domain, 1 ms after the reply (03 R73; R379). -/
def restartSoon (r : Restart) (s : State) : State := { s with pwr := { s.pwr with restart := some r } }

/-- The boot record names a bank as preferred, its attempt counter cleared (R379). -/
def preferBank (k : Bank) (s : State) : State := { s with pwr := { s.pwr with prefBank := k, attempts := 0 } }

/-- The partner has taken the arm: what asked for the hand-over completes. -/
def handedOver (s : State) : State :=
  match s.twn.open_ with
  | none => { s with twn := { s.twn with offer := none } }
  | some a =>
    let s := { s with twn := { s.twn with offer := if isMaster s then s.twn.offer else none, open_ := none }
                      pwr := { s.pwr with warnHandedOver := s.pwr.warnHandedOver || s.pwr.warn } }
    match a with
    | .command => finishOp 0x0A01 (reply .ok) s
    | .reset _ => restartSoon .resetModule (completeTaken 0x0110 (reply .ok) s)
    | .activate k => restartSoon (.activate k) (finishOp 0x0A03 (reply .ok) (preferBank k s))
    | .powerFail => s
    | .fault => s
    | .die => s

end Sys2Proof.Machine
end

