-- ==== Sys2Proof/Machine/BusRows.lean ====
section
/-! DEFINITION. The coordination bus (16): transmission, one-shot frames, errors, bus-off and recovery, address clash, received
frames, and the module's own frames. -/

namespace Sys2Proof.Machine

/-! ## Buses -/

/-- STATE codes (R480). -/
def BusState.code : BusState → Nat
  | .off => 0
  | .errorActive => 1
  | .errorPassive => 2
  | .busOff => 3
  | .recovering => 4
  | .noSupply => 5

/-- Both buses. -/
def allBuses : List BusId := List.finRange 2

/-- STATE as the status object shows it: a bus outside BUS_ENABLE or in off mode is OFF (R478). -/
def busShown (s : State) (b : BusId) : BusState :=
  if !busEnabled s b || s.bus.one[b].mode = 2 then .off else s.bus.one[b].state

/-- The controller takes frames off the bus (R478). -/
def busHears (s : State) (b : BusId) : Bool :=
  let x := s.bus.one[b]
  mainUp s && s.pwr.configLoaded && busEnabled s b && x.mode ≠ 2 && (x.state == .errorActive || x.state == .errorPassive)

/-- The controller puts frames on the bus. -/
def busTalks (s : State) (b : BusId) : Bool := mainUp s && s.pwr.configLoaded && busSends s b

/-- Bit of a bus in a mask. -/
def busBit (b : BusId) : Nat := 2 ^ b.val

/-! ## Events and faults of a bus (R474, R476; 17) -/

/-- ERROR_PASSIVE. -/
def passiveEvent (b : BusId) (ended : Bool) (s : State) : State :=
  let x := s.bus.one[b]
  raise 0x8903 b.val [ef 28 0 b.val, ef 28 1 (bN ended), ef 29 0 (min 255 x.tec), ef 30 0 (min 255 x.recv), ef 31 0 x.lastError.toNat] s

/-- BUS_OFF. -/
def busOffEvent (b : BusId) (ended supply : Bool) (s : State) : State :=
  raise 0x8904 b.val [ef 28 0 b.val, ef 28 1 (bN ended), ef 28 2 (bN supply), ef 31 0 s.bus.one[b].lastError.toNat] s

/-- ADDRESS_CLASH. -/
def clashEvent (b : BusId) (own ended : Bool) (ident : BitVec 29) (s : State) : State :=
  raise 0x8901 b.val [ef 28 0 b.val, ef 28 1 (bN own), ef 28 2 (bN ended), ef 32 0 ident.toNat] s

/-- BUS_ALONE. -/
def aloneEvent (b : BusId) (ended : Bool) (count : Nat) (s : State) : State :=
  raise 0x8902 b.val [ef 28 0 b.val, ef 28 1 (bN ended), ef 32 0 count] s

/-- TRIP_BROADCAST (R466). -/
def tripBroadcastEvent (b : BusId) (received : Bool) (buses zone source groups causes count hit : Nat) (s : State) : State :=
  raise 0x8905 b.val [ef 28 0 (bN received), ef 28 1 (buses % 4), ef 29 0 (zone % 64), ef 30 0 source, ef 32 0 groups,
    ef 33 0 causes, ef 34 0 count, ef 36 0 hit] s

/-! ## One-shot frames (R459, R461, R462) -/

/-- A BUS_SEND waits for an outcome of bus `b`: bit 3 of its part of the number it remembers. -/
def sendWaits (b : BusId) (p : Pend) : Bool := p.op == 0x0902#16 && p.arg.getLsbD (4 * b.val + 3)

/-- Store an outcome of bus `b`. -/
def sendOutcome (b : BusId) (code : Nat) (arg : DWord) : DWord :=
  (arg &&& ~~~(0xF#64 <<< (4 * b.val))) ||| (BitVec.ofNat 64 code <<< (4 * b.val))

/-- A BUS_SEND completes when no bus of its mask is open any more; word 3 gives the outcomes. -/
def sendsDone (s : State) : State :=
  finishAll (fun p => p.op == 0x0902#16 && !sendWaits 0 p && !sendWaits 1 p) (fun p => okWords [(3, p.arg.toNat % 128)]) s

/-- A one-shot frame of bus `b` has ended. -/
def oneShotEnds (b : BusId) (code : Nat) (f : OneShot) (s : State) : State :=
  if f.tag.isNone then s
  else sendsDone { s with cmd := { s.cmd with
    pend := s.cmd.pend.map (fun p => if sendWaits b p then { p with arg := sendOutcome b code p.arg } else p) } }

/-- Every waiting one-shot frame of a bus ends with an outcome. -/
def endFifo (b : BusId) (code : Nat) (s : State) : State :=
  forEach s.bus.one[b].fifo (oneShotEnds b code) (modBus b (fun x => { x with fifo := [] }) s)

/-- The oldest one-shot frame of a bus ends. -/
def endFirst (b : BusId) (code : Nat) (s : State) : State :=
  match s.bus.one[b].fifo with
  | [] => s
  | f :: fs => oneShotEnds b code f (modBus b (fun x => { x with fifo := fs }) s)

/-- Lengths that CAN FD carries (R461). -/
def fdLength (n : Nat) : Nat :=
  if n ≤ 8 then n else if n ≤ 12 then 12 else if n ≤ 16 then 16 else if n ≤ 20 then 20 else if n ≤ 24 then 24
  else if n ≤ 32 then 32 else if n ≤ 48 then 48 else 64

/-- Data padded to the next length. -/
def padded (d : List Byte) : List Byte := d ++ List.replicate (fdLength d.length - d.length) 0

/-- Identifier of a frame that the module sends (R458). -/
def identOf (s : State) (cls typ : Nat) : BitVec 29 := BitVec.ofNat 29 (cls * 2 ^ 25 + (address s).toNat * 2 ^ 13 + typ % 2 ^ 13)

/-- Put a one-shot frame into the FIFO of a bus; a newer SEGMENT_STATUS replaces one that waits (R469). -/
def queueOneShot (b : BusId) (f : OneShot) (s : State) : State :=
  modBus b (fun x =>
    let kept := if f.tag.isNone then x.fifo.filter (fun q => q.tag.isSome) else x.fifo
    if kept.length ≥ 32 then x else { x with fifo := kept ++ [f] }) s

/-! ## State of a controller (R472 to R477; ISO 11898-1) -/

/-- Held class 0 frames when a bus returns to normal operation: those younger than 1 s are sent (R466). -/
def busReturns (b : BusId) (s : State) : State :=
  modBus b (fun x =>
    let young := x.class0.filter (fun f => s.tim.tb - f.at_ < tSec)
    { x with class0 := young, tripTxLost := x.tripTxLost + BitVec.ofNat 16 (x.class0.length - young.length) }) s

/-- Error-active, error-passive and bus-off by the counters (R472). -/
def busJudge (b : BusId) (s : State) : State :=
  let x := s.bus.one[b]
  if x.state != .errorActive && x.state != .errorPassive then s
  else if x.tec > 255 then
    let s := busOffEvent b false false (modBus b (fun x => { x with state := .busOff, bitRun := none }) s)
    endFifo b 3 (raiseFault 0x0901 b.val 1 false (lastSeq s).toNat s)
  else if x.state == .errorActive && (x.tec ≥ 128 || x.recv ≥ 128) then
    passiveEvent b false (modBus b (fun x => { x with state := .errorPassive }) s)
  else if x.state == .errorPassive && x.tec < 128 && x.recv < 128 then
    passiveEvent b true (modBus b (fun x => { x with state := .errorActive }) s)
  else s

/-- The controller is back with both counters at 0. -/
def busRejoins (b : BusId) (supply : Bool) (s : State) : State :=
  let s := modBus b (fun x => { x with state := .errorActive, tec := 0, recv := 0, ackRun := 0, bitRun := none }) s
  let s := busOffEvent b true supply s
  let s := endL1 0x0901 b.val s
  busReturns b (if supply then endL1 0x0903 b.val s else s)

/-- An address clash is detected (R476): ADDRESS_CLASH once, one-shot frames end with outcome 4, both buses fall silent. -/
def declareClash (b : BusId) (own : Bool) (ident : BitVec 29) (s : State) : State :=
  if s.bus.clash then s
  else
    let s := clashEvent b own false ident { s with bus := { s.bus with clash := true, clashBy := (ident, b, own) } }
    let s := raiseFault 0x0902 0xFFFF 1 false (lastSeq s).toNat s
    forEach allBuses (fun b s => endFifo b 4 s) s

/-- The clash is cleared by BUS_RECOVER (R477). -/
def clearClash (s : State) : State :=
  let k := s.bus.clashBy
  let s := clashEvent k.2.1 k.2.2 true k.1 { s with bus := { s.bus with clash := false } }
  let s := forEach allBuses (fun b s => modBus b (fun x => { x with bitRun := none }) s) s
  forEach allBuses busReturns (endL1 0x0902 0xFFFF s)

/-- LAST_ERROR codes (R474). -/
def errCode : BusErr → Nat
  | .stuff => 1
  | .form => 2
  | .ack => 3
  | .bit1 => 4
  | .bit0 => 5
  | .crc => 6

/-! ## Commands of the host -/

/-- A bus of the mask. -/
def inMask (mask : BitVec 2) (b : BusId) : Bool := mask.getLsbD b.val

/-- BUS_MODE refuses a bus outside BUS_ENABLE (R478). -/
def execBusMode (h : Hdr) (mask mode : BitVec 2) (s : State) : Out :=
  hostCmd h 0x0903 8 (.bus mask) false (fun s =>
    if mode = 3 then .now (reply .badParam 4) s
    else if allBuses.any (fun b => inMask mask b && !busEnabled s b) then .now (reply .wrongState) s
    else .now (reply .ok) (forEach (allBuses.filter (inMask mask)) (fun b s =>
      modBus b (fun x => { x with modeReq := some mode.toNat }) s) s)) s

/-- BUS_MODE_APPLY (R478): the frame in progress has ended. -/
def execBusModeApply (b : BusId) (s : State) : Out :=
  match s.bus.one[b].modeReq with
  | none => done s s
  | some m =>
    let was := s.bus.one[b].mode
    let t := modBus b (fun x => { x with mode := m, modeReq := none, bitRun := none }) s
    done s (if m = 0 && was ≠ 0 then busReturns b t else t)

/-- The end of a BUS_RECOVER whose buses have all answered: bits 0 and 1 of the number it remembers are the buses that
still recover, bit 8 a WRONG_STATE, bit 9 a TIMEOUT. -/
def recoverStatus (arg : DWord) : Status := if arg.getLsbD 9 then .timeout else if arg.getLsbD 8 then .wrongState else .ok

/-- Complete the BUS_RECOVER commands that wait for no bus. -/
def recoversDone (s : State) : State :=
  finishAll (fun p => p.op == 0x0901#16 && p.arg &&& 3 == 0) (fun p => reply (recoverStatus p.arg)) s

/-- A frame with the module's own SOURCE was received within the last 10 s (R477). -/
def ownHeard (s : State) : Bool := lately s.tim.tb s.bus.ownHeardAt (10 * tSec)

/-- BUS_RECOVER (R473, R477). -/
def execBusRecover (h : Hdr) (mask : BitVec 2) (s : State) : Out :=
  hostCmd h 0x0901 4 (.bus mask) true (fun s =>
    let named := allBuses.filter (inMask mask)
    if named.any (fun b => !busEnabled s b || s.bus.one[b].mode ≠ 0) then .now (reply .pending) (later1 h 0x0901 (reply .wrongState) s)
    else
      let stands := s.bus.clash && !named.isEmpty
      let wrong := stands && ownHeard s
      let s := if stands && !wrong then clearClash s else s
      let off := named.filter (fun b => s.bus.one[b].state == .busOff)
      let s := forEach off (fun b s => modBus b (fun x => { x with state := .recovering }) s) s
      if off.isEmpty then .now (reply .pending) (later1 h 0x0901 (reply (if wrong then .wrongState else .ok)) s)
      else .later (.bus mask) (BitVec.ofNat 64 ((off.map busBit).sum + 256 * bN wrong)) s) s

/-- BUS_RECOVERY_DONE (R473). -/
def execBusRecoveryDone (b : BusId) (ok : Bool) (s : State) : Out :=
  let back := ok && s.bus.one[b].state == .recovering
  let t := if back then busRejoins b false s
    else modBus b (fun x => { x with state := if x.state = .recovering then .busOff else x.state }) s
  let bit : DWord := BitVec.ofNat 64 (busBit b)
  done s (recoversDone { t with cmd := { t.cmd with pend := t.cmd.pend.map (fun p =>
    if p.op == 0x0901#16 && p.arg &&& bit != 0 then { p with arg := (p.arg &&& ~~~bit) ||| (if back then 0 else 0x200) } else p) } })

/-- Data of a BUS_SEND: in words 6 to 13, or in the buffer of word 14. -/
def sendData (s : State) (len : Nat) (data : List Byte) (b : Bulk) : List Byte :=
  let d := if len > 32 then bulkRead s b else data
  (d ++ List.replicate len 0).take len

/-- BUS_SEND (R461, R462). -/
def execBusSend (h : Hdr) (mask : BitVec 2) (mtype : BitVec 13) (cls : BitVec 4) (len : BitVec 7) (data : List Byte) (bulk : Bulk)
    (s : State) : Out :=
  let n := len.toNat
  hostCmd h 0x0902 (if n > 32 then 52 else 12 + n) (.bus mask) true (fun s =>
    let named := allBuses.filter (inMask mask)
    if n > 64 then .now (reply .badParam 5) s
    else if cls.toNat ≤ 1 || (cls = 3 && mtype.toNat ≤ 0xFF) then .now (reply .badParam 4) s
    else if n > 32 && !bulkOk s bulk n then .now (reply .badParam 14) s
    else if named.any (fun b => !busEnabled s b || s.bus.one[b].mode ≠ 0) || s.bus.clash then
      .now (reply .pending) (later1 h 0x0902 (reply .wrongState) s)
    else
      let d := padded (sendData s n data bulk)
      let free := if n > 32 then bulkFree s bulk else []
      let f : OneShot := { ident := identOf s cls.toNat mtype.toNat, data := d, at_ := s.tim.tb, tag := some h.tag }
      let off := named.filter (fun b => s.bus.one[b].state == .busOff || s.bus.one[b].state == .recovering)
      let up := named.filter (fun b => !off.contains b)
      let arg := (allBuses.map (fun b => (if up.contains b then 8 else if off.contains b then 3 else 7) * 16 ^ b.val)).sum
      let s := forEach up (fun b s => queueOneShot b f s) s
      if up.isEmpty then .now (reply .pending) (later1 h 0x0902 (okWords [(3, arg)]) s) free
      else .later (.bus mask) (BitVec.ofNat 64 arg) s free) s

/-! ## Transmission -/

/-- The frame that a queue offers; none when it is empty. -/
def offered (s : State) (b : BusId) (k : TxKind) : Option (BitVec 29) :=
  match k with
  | .trip => s.bus.one[b].class0.head?.map (fun f => identOf s 0 f.zone)
  | .twin => s.bus.one[b].class1.map (fun _ => identOf s 1 1)
  | .oneShot => s.bus.one[b].fifo.head?.map (·.ident)

/-- A class 0 frame has been sent on bus `b`: TRIP_BROADCAST at its first acknowledge (R466). -/
def tripSent (b : BusId) (s : State) : State :=
  match s.bus.one[b].class0 with
  | [] => s
  | f :: fs =>
    let s := modBus b (fun x => { x with class0 := fs }) s
    if s.bus.tripSaid.contains f.count then s
    else
      let s := { s with bus := { s.bus with tripSaid := (f.count :: s.bus.tripSaid).take 16 } }
      tripBroadcastEvent b false (f.mask.toNat ||| busBit b) f.zone (address s).toNat f.groups.toNat f.causes.toNat f.count.toNat 0 s

/-- BUS_TX_COMPLETE (R459, R466, R475). -/
def execBusTxComplete (b : BusId) (k : TxKind) (s : State) : Out :=
  if !busTalks s b || (offered s b k).isNone then done s s
  else
    let x := s.bus.one[b]
    let t := if x.alone then aloneEvent b true x.ackRun s else s
    let t := modBus b (fun x => { x with framesTx := x.framesTx + 1, tec := x.tec - 1, ackRun := 0, alone := false, bitRun := none }) t
    let t := match k with
      | .trip => tripSent b t
      | .twin => modBus b (fun x => { x with class1 := none }) t
      | .oneShot => endFirst b 0 t
    done s (busJudge b t)

/-- How far an error while sending raises TEC (ISO 11898-1): by 8, but not for a missing acknowledge while error passive, and
not for some stuff errors during arbitration, which the error does not tell apart (log 5). -/
def tecRaise (e : BusErr) (dataPhase : Bool) (x : BusOne) (s : State) : Nat × State :=
  match e with
  | .ack => (if x.state == .errorPassive then 0 else 8, s)
  | .stuff =>
    if dataPhase then (8, s)
    else
      let r := drawBool s
      (if r.1 then 0 else 8, r.2)
  | _ => (8, s)

/-- The run of data-phase bit errors of one identifier (R476). -/
def bitRunNext (ident : BitVec 29) (e : BusErr) (dataPhase : Bool) (r : Option (BitVec 29 × Nat)) : Option (BitVec 29 × Nat) :=
  if dataPhase && (e == .bit1 || e == .bit0) then
    (match r with
    | some (i, k) => some (ident, if i = ident then k + 1 else 1)
    | none => some (ident, 1))
  else none

/-- BUS_TX_ERROR (R459, R472, R475, R476). -/
def execBusTxError (b : BusId) (k : TxKind) (e : BusErr) (dataPhase : Bool) (s : State) : Out :=
  if !busTalks s b then done s s
  else match offered s b k with
    | none => done s s
    | some ident =>
      let x := s.bus.one[b]
      let up := tecRaise e dataPhase x s
      let run := if e = .ack then x.ackRun + 1 else 0
      let t := modBus b (fun x => { x with
        tec := x.tec + up.1, lastError := BitVec.ofNat 3 (errCode e), ackErrors := if e = .ack then x.ackErrors + 1 else x.ackErrors
        ackRun := run, bitRun := bitRunNext ident e dataPhase x.bitRun }) up.2
      let t := if run ≥ 64 && !x.alone then aloneEvent b false run (modBus b (fun x => { x with alone := true }) t) else t
      let t := match k with
        | .oneShot => endFirst b (if e = .ack then 1 else 2) t
        | _ => t
      let t := if t.bus.one[b].bitRun.any (fun r => r.2 ≥ 3) then declareClash b false ident t else t
      done s (busJudge b t)

/-- BUS_RX_ERROR (R472; ISO 11898-1). -/
def execBusRxError (b : BusId) (e : BusErr) (s : State) : Out :=
  if !busHears s b || s.bus.one[b].mode = 1 then done s s
  else done s (busJudge b (modBus b (fun x => { x with recv := min 255 (x.recv + 1), lastError := BitVec.ofNat 3 (errCode e) }) s))

/-- ONE_SHOT_TIMEOUT (R462). -/
def execOneShotTimeout (b : BusId) (s : State) : Out := done s (endFirst b (if s.bus.one[b].alone then 1 else 2) s)

/-! ## Reception (R464, R465, R468, R471, R476) -/

/-- REC after a frame received without error (ISO 11898-1): one less, and from above 127 to a value between 119 and 127. -/
def recvAfter (b : BusId) (s : State) : State :=
  let x := s.bus.one[b]
  if x.recv > 127 then
    let r := drawWord s
    modBus b (fun x => { x with recv := 119 + r.1.toNat % 9 }) r.2
  else modBus b (fun x => { x with recv := x.recv - 1 }) s

/-- A valid frame has been received: counted, and a frame with the module's own SOURCE is a clash (R476). -/
def busTakes (b : BusId) (ident : BitVec 29) (s : State) : State :=
  let s := busJudge b (recvAfter b (modBus b (fun x => { x with framesRx := x.framesRx + 1 }) s))
  if ident.toNat / 2 ^ 13 % 2 ^ 12 = (address s).toNat then
    declareClash b true ident { s with bus := { s.bus with ownHeardAt := some s.tim.tb } }
  else s

/-- Put a received frame before every stream of kind 0x06 (R471). -/
def busRecord (b : BusId) (f : BusFrame) (s : State) : State :=
  if (pNat s Prm.busStreamClasses).testBit (f.ident.toNat / 2 ^ 25) then
    forEach (List.finRange 64) (fun (r : Ring) => modRing r (fun g =>
      if g.kind == 6 && g.enable then { g with frames := g.frames ++ [(b, f)] } else g)) s
  else s

/-- The frame of a row that gives SOURCE, TYPE and data: an FD frame with bit-rate switch, stamped as it arrives. -/
def busFrameOf (s : State) (cls : Nat) (source : BitVec 12) (typ : Nat) (data : List Byte) : BusFrame :=
  { extended := true, remote := false, fdf := true, brs := true, esi := false
    ident := BitVec.ofNat 29 (cls * 2 ^ 25 + source.toNat * 2 ^ 13 + typ % 2 ^ 13), data := data, time := s.tim.station }

/-- A received class 0 frame: a duplicate is counted; a zone with a map quenches its groups (R464, R465). -/
def takeTrip (b : BusId) (f : BusFrame) (s : State) : State :=
  let source : BitVec 12 := BitVec.ofNat 12 (f.ident.toNat / 2 ^ 13)
  let zone := f.ident.toNat % 2 ^ 13
  let count : Half := BitVec.ofNat 16 (ofLe (slice f.data 2 2))
  let recent := s.bus.accepted.filter (fun a => s.tim.tb - a.2.2 < tSec)
  if recent.any (fun a => a.1 == source && a.2.1 == count) then
    modBus b (fun x => { x with duplicates := x.duplicates + 1 }) { s with bus := { s.bus with accepted := recent } }
  else
    let map := if zone ≤ 63 then pNat s (Prm.busTripRxMap + zone) else 0
    let s := busRecord b f s
    if map = 0 then s
    else
      let s := { s with bus := { s.bus with accepted := (source, count, s.tim.tb) :: recent } }
      let r := busTrip (BitVec.ofNat 8 map) s
      tripBroadcastEvent b true (busBit b) zone source.toNat (ofLe (slice f.data 0 1)) (ofLe (slice f.data 1 1)) count.toNat r.1.toNat r.2

/-- Address of the partner: the module's own with bit 0 inverted (R467; 01 R15). -/
def partnerAddr (s : State) : BitVec 12 := address s ^^^ 1

/-- A TWIN_STATUS from the partner: it may depose a master whose seam is down (R468). -/
def takeStatus (b : BusId) (f : BusFrame) (s : State) : State :=
  let s := busRecord b f s
  let source : BitVec 12 := BitVec.ofNat 12 (f.ident.toNat / 2 ^ 13)
  if !twinBit s || source ≠ partnerAddr s || f.ident.toNat % 2 ^ 13 ≠ 1 || f.data.length < 16 then s
  else
    let s := modBus b (fun x => { x with partnerAt := some s.tim.tb }) s
    let e : Word := BitVec.ofNat 32 (ofLe (slice f.data 4 4))
    if isMaster s && !anyLane s && ofLe (slice f.data 0 1) % 8 = 2 && s.twn.epoch.any (fun own => newer32 e own) then becomeStandby 5 s
    else s

/-- A valid frame with a 29-bit identifier. -/
def takeFrame (b : BusId) (f : BusFrame) (s : State) : State :=
  let s := busTakes b f.ident s
  match f.ident.toNat / 2 ^ 25 with
  | 0 => takeTrip b f s
  | 1 => takeStatus b f s
  | _ => busRecord b f s

/-- TRIP_BROADCAST_RX (R464, R465). -/
def execTripBroadcastRx (b : BusId) (source : BitVec 12) (zone : BitVec 13) (data : List Byte) (s : State) : Out :=
  if busHears s b then done s (takeFrame b (busFrameOf s 0 source zone.toNat data) s) else done s s

/-- TWIN_STATUS_RX (R467, R468). -/
def execTwinStatusRx (b : BusId) (source : BitVec 12) (data : List Byte) (s : State) : Out :=
  if busHears s b then done s (takeFrame b (busFrameOf s 1 source 1 data) s) else done s s

/-- BUS_FRAME_RX (R471): frames with 11-bit identifiers and remote frames are discarded and counted. -/
def execBusFrameRx (b : BusId) (f : BusFrame) (s : State) : Out :=
  if !busHears s b then done s s
  else if f.extended && !f.remote then done s (takeFrame b f s)
  else done s (busJudge b (recvAfter b (modBus b (fun x => { x with framesRx := x.framesRx + 1, discarded := x.discarded + 1 }) s)))

/-! ## Supply (R474) -/

/-- BUS_SUPPLY_ABSENT. -/
def execBusSupplyAbsent (b : BusId) (s : State) : Out :=
  if !mainUp s || s.bus.one[b].state = .noSupply then done s s
  else
    let t := busOffEvent b false true (modBus b (fun x => { x with state := .noSupply, bitRun := none }) s)
    done s (raiseFault 0x0903 b.val 1 false (lastSeq t).toNat t)

/-- BUS_SUPPLY_RESTORED. -/
def execBusSupplyRestored (b : BusId) (s : State) : Out :=
  if s.bus.one[b].state = .noSupply then done s (busRejoins b true s) else done s s

/-! ## The module's own frames (R467, R469) -/

/-- Payload of TWIN_STATUS. -/
def statusBytes (s : State) : List Byte :=
  obj 16 [fld 0 0 (roleCode s), fld 0 3 (bN (readyBit s)), fld 0 4 (bN s.twn.lanes[(0 : SeamLane)].up),
    fld 0 5 (bN s.twn.lanes[(1 : SeamLane)].up), fld 4 0 (epochOf s).toNat, fld 8 0 s.cfg.seq.toNat, fld 12 0 s.stg.genLast.toNat]

/-- TWIN_STATUS_TIMER (R467): a newer frame replaces one that waits or retries (R460). -/
def execTwinStatusTimer (s : State) : Out :=
  if !twinBit s || !mainUp s || !s.pwr.configLoaded then done s s
  else
    let d := statusBytes s
    done s (forEach (allBuses.filter (fun b => busEnabled s b && s.bus.one[b].mode = 0)) (fun b s =>
      modBus b (fun x => { x with class1 := some d }) s) s)

/-- Payload of SEGMENT_STATUS. -/
def segmentBytes (s : State) : List Byte :=
  let sat := s.asy.satHist.getD 9 (s.asy.satHist.getLastD s.ins.satPeriods) != s.ins.satPeriods
  let l := s.asy.lim
  let a (x : Rat) : Nat := wrapI 32 (satI 32 (toLsb x))
  obj 32 [fld 0 0 (roleCode s), fld 1 0 (min 255 (activeChans s).length), fld 2 0 s.qm.latched.toNat, fld 3 0 (bN sat),
    fld 3 1 (bN (s.tim.lock == .locked || s.tim.lock == .holdover)), fld 3 2 (bN s.hst.silent), fld 3 3 (bN s.qm.safety),
    fld 4 0 (units 2 (s.asy.pub.getD 0)), fld 6 0 (units 2 (s.asy.unc * 10000)), fld 8 0 (wrapI 32 (satI 32 s.ins.vsum)),
    fld 12 0 (a l.c2), fld 16 0 (a l.d2), fld 20 0 (a l.c60), fld 24 0 (a l.d60)]

/-- SEGMENT_STATUS_TIMER (R469). -/
def execSegmentStatusTimer (s : State) : Out :=
  if pNat s Prm.busStatusInterval = 0 || !mainUp s || !s.pwr.configLoaded then done s s
  else
    let f : OneShot := { ident := identOf s 3 1, data := segmentBytes s, at_ := s.tim.tb, tag := none }
    done s (forEach (allBuses.filter (busSends s)) (fun b s => queueOneShot b f s) s)

/-! ## Status object and configuration -/

/-- Bus status object (R480). -/
def busObject (s : State) (b : BusId) : List Byte :=
  let x := s.bus.one[b]
  obj 32 [fld 0 0 (busShown s b).code, fld 0 3 (if busEnabled s b then x.mode else 2), fld 0 5 (bN s.bus.clash), fld 0 6 (bN x.alone),
    fld 0 7 (bN (lately s.tim.tb x.partnerAt (50 * tMs + 1))), fld 1 0 (min 255 x.tec), fld 2 0 (min 255 x.recv),
    fld 3 0 x.lastError.toNat, fld 4 0 (s.tim.station.toNat / 800 % 2 ^ 32), fld 8 0 x.framesTx.toNat, fld 12 0 x.framesRx.toNat,
    fld 16 0 x.ackErrors.toNat, fld 20 0 x.tripTxLost.toNat, fld 22 0 x.duplicates.toNat, fld 24 0 x.discarded.toNat,
    fld 28 0 s.bus.tripCount.toNat]

/-- BUS_ENABLE has changed from `old`: a bus that joins is in normal mode. -/
def busEnableChanged (old : Nat) (s : State) : State :=
  forEach allBuses (fun b s =>
    if old.testBit b.val == busEnabled s b then s
    else
      let s := modBus b (fun x => { x with mode := 0, modeReq := none, bitRun := none }) s
      if busEnabled s b then busReturns b s else s) s

/-- Record of a stream of kind 0x06 (R471). -/
def busRecordBytes (x : BusId × BusFrame) : List Byte :=
  let f := x.2
  obj 24 [fld 0 0 x.1.val, fld 0 1 (bN f.fdf), fld 0 2 (bN f.brs), fld 0 3 (bN f.esi), fld 1 0 (min 64 f.data.length),
    fld 4 0 f.ident.toNat, fld 8 0 (f.time.toNat / 800 % 2 ^ 32), fld 12 0 f.time.toNat] ++
    (f.data.take 64) ++ List.replicate (64 - f.data.length) 0

end Sys2Proof.Machine
end

