-- ==== Sys2Proof/Machine/EngineRows.lean ====
section
/-! DEFINITION. The commands of the insertion engine and of staging: the reload point (07 R203 to R208; 08 R223), load-all
requests (03 R57, R58), modes (07 R217), references (03 R75 to R81) and the reports of a second. -/

namespace Sys2Proof.Machine

/-- A host write on the observing port is discarded and counted (03 R52). -/
def dropWrite (p : HPort) (s : State) : State := modHp p (fun r => { r with drops := if r.drops = 0xFFFF_FFFF then r.drops else r.drops + 1 }) s

/-! ## Load-all requests (03 R57, R58; 07 R215) -/

/-- Offset of a channel's entry in the direct duty area. -/
def dutyOff (n : Chan) : Nat := 0x1000 + 16 * n.val

/-- Bytes 0 to 3 of an entry. -/
def dutyWord (s : State) (n : Chan) : Nat := memNum s.win (dutyOff n) 4

/-- An entry of the snapshot (R215). -/
def dutyEntry (s : State) (n : Chan) : DutyEntry :=
  let w := dutyWord s n
  let t (c : Nat) : Nat := memNum s.win (dutyOff n + 4 + 3 * c) 3
  { duty := w % 2 ^ 29, neg := bitOf w 29, keep := bitOf w 30, trig := { t0 := t 0, t1 := t 1, t2 := t 2, t3 := t 3 } }

/-- An entry is invalid (R215); what KEEP ignores is not looked at. -/
def dutyBad (s : State) (n : Chan) : Bool :=
  let w := dutyWord s n
  bitOf w 31 || (!bitOf w 30 && (decide (w % 2 ^ 29 > 16 * carrierP s) || (bitOf w 29 && !fullBridge s n)))

/-- Lowest populated channel with an invalid entry. -/
def badEntry (s : State) : Option Chan := allChans.find? (fun n => populated s n && dutyBad s n)

/-- The request is refused: INS_LOAD_ALL_STATUS.REJECTED. -/
def rejectLoad (s : State) : State := { s with hst := { s.hst with loadRejected := true } }

/-- The snapshot of a request replaces the one that waits (R58). -/
def takeLoad (byOpcode : Bool) (s : State) : State :=
  let old := s.ins.snapshot.isSome
  let s := if old && s.ins.snapByOpcode then completeTaken 0x0302 (reply .wrongState 1) s else s
  { s with
    ins := { s.ins with snapshot := some (allChans.map (dutyEntry s)), snapByOpcode := byOpcode }
    hst := { s.hst with loadRejected := false, loadSuperseded := if old then s.hst.loadSuperseded + 1 else s.hst.loadSuperseded } }

/-- A request in INS_LOAD_ALL.GO (R57, R58). -/
def loadGo (v : Word) (s : State) : State :=
  if !v.getLsbD 0 then s
  else if !s.ins.direct || !staging s || (badEntry s).isSome then rejectLoad s
  else takeLoad false s

/-- LOAD_ALL_GO (R57, R58): INS_LOAD_ALL is written. -/
def execLoadAllGo (port : HPort) (value : Word) (s : State) : Out :=
  if port ≠ s.hst.active || portFenced s port then done s (dropWrite port s)
  else done s (loadGo value s)

/-- LOAD_ALL (R58): completes in place at application. -/
def execLoadAll (h : Hdr) (s : State) : Out :=
  hostCmd h 0x0302 0 .none false (fun s =>
    if !s.ins.direct then .now (reply .wrongState) (rejectLoad s)
    else match badEntry s with
      | some n => .now (replyWords .badParam [(6, n.val)]) (rejectLoad s)
      | none => .wait (takeLoad true s)) s

/-- SET_MODE (R217): completes in place at the reload that applies it. -/
def execSetMode (h : Hdr) (direct : Bool) (s : State) : Out :=
  hostCmd h 0x0305 4 .none false (fun s => .wait { s with ins := { s.ins with modeReq := some direct } }) s

/-! ## References (03 R75 to R81) -/

/-- Why a reference is refused. -/
def refRefused (s : State) (r : RefDesc) : Option Reply :=
  let t := tctl s
  let p := r.period.toNat
  let now := s.tim.station.toNat
  if r.npred.toNat > 7 then some (reply .outOfRange 15)
  else if t = 0 || p % t ≠ 0 then some (reply .badParam 3)
  else if p ≤ now then some (reply .timeout)
  else if p - now > max 1 (pNat s Prm.insHorizon) * t then some (reply .outOfRange 3)
  else none

/-- Take a reference: the one posted later supersedes the one that names the same period (R78). -/
def keepRef (r : RefDesc) (at_ : DWord) (s : State) : State :=
  { s with ins := { s.ins with refs := ((r, at_) :: s.ins.refs.filter (fun x => x.1.period ≠ r.period)).take 32 } }

/-- Count a reference returned LATE (R80): ns past its reload point. -/
def countLate (r : RefDesc) (s : State) : State :=
  let ticks := s.tim.station.toNat + reloadLead s - r.period.toNat
  let ns : Word := BitVec.ofNat 32 (ticks * 5 / 4)
  { s with hst := { s.hst with lateCount := s.hst.lateCount + 1
                               lateWorst := if s.hst.lateWorst.toNat < ns.toNat then ns else s.hst.lateWorst } }

/-- The reply of a reference, and the state that has taken it. -/
def takeRef (r : RefDesc) (s : State) : Res :=
  match refRefused s r with
  | some x => .now x s
  | none =>
    let next := nextStart s
    let late := decide (r.period.toNat < next)
    let s := activity (keepRef r s.tim.station s)
    let first := if late then next else r.period.toNat
    let x := setFor s first ((first - next) / max 1 (tctl s)) (max 1 (pNat s Prm.insHorizon))
    let flags := bN x.saturated + 2 * bN late + 4 * bN x.clamped
    .now (okWords [(3, (nextGen s).toNat), (4, flags), (5, wrapI 32 x.vapplied), (6, (activeChans s).length)])
      (if late then countLate r s else s)

/-- ARM_REFERENCE (R75 to R81; R84): a standby keeps the newest per period and answers NOT_ACTIVE (R70, R80). -/
def execArmReference (h : Hdr) (ref : RefDesc) (s : State) : Out :=
  let kept := refusal 0x0301 s == some .notActive && h.ring.val = 0 && (takeSlot h.ring s).isSome && h.length.toNat ≥ 52 &&
    (refRefused s ref).isNone
  hostCmd h 0x0301 52 .none false (takeRef ref) (if kept then keepRef ref s.tim.station s else s)

/-! ## The reload point (07 R203 to R208) -/

/-- Identifiers whose change applies at the next reload (03 R88). -/
def reloadIds : List Nat :=
  paramRows.flatMap (fun r => if r.applies == .nextReload then (List.range r.count).map (fun k => r.base + k) else [])

/-- A carrier of the parameters follows the running one of every ACTIVE channel (R208; 06 R165). -/
def reloadCarriers (start : Nat) (old : Nat) (s : State) : State :=
  let s := forEach (activeChans s) (fun n s =>
    let c := carrierOf s n
    modIns n (fun x => { x with eng := { x.eng with nextCarrier := if x.eng.carrier.all (fun k => k = c) then none else some c } }) s) s
  if carrierP s = old then s
  else forEach allChans (modMeas · (fun m => { m with carrierAt := some (BitVec.ofNat 64 start) })) s

/-- Parameters that apply at the next reload take their persisted values. -/
def reloadParams (start : Nat) (s : State) : State :=
  let old := carrierP s
  let eff := reloadIds.foldl (fun e k => tabPut [] e k (tabGet [] s.cfg.stored k)) s.cfg.eff
  reloadCarriers start old { s with cfg := { s.cfg with eff := eff } }

/-- Bytes of a direct duty entry. -/
def dutyBytes (compare : Nat) (neg : Bool) (g : Trigs) : List Byte :=
  leBytes 4 (compare % 2 ^ 29 + 2 ^ 29 * bN neg) ++ leBytes 3 g.t0 ++ leBytes 3 g.t1 ++ leBytes 3 g.t2 ++ leBytes 3 g.t3

/-- A change to direct mode writes the values in force into the direct duty area, KEEP clear (R217). -/
def modeWrites (s : State) : List (Nat × List Byte) :=
  if s.ins.modeReq = some true && !s.ins.direct then
    allChans.map (fun n => (dutyOff n, dutyBytes s.insCh[n].compare s.insCh[n].neg (segTrigs s)))
  else []

/-- Apply a mode change (R217): a load-all that waits is discarded by a change to segment mode (R58), which also forgets
the references (R214); a change to direct mode ends an assay cycle (10 R310). -/
def applyMode (s : State) : State :=
  match s.ins.modeReq with
  | none => s
  | some d =>
    let g := nextGen s
    let s := if d && !s.ins.direct then
        forEach allChans (fun n s => abortCycle n 5 (modIns n (fun x => { x with trig := segTrigs s }) s)) s
      else if !d && s.ins.direct then
        let s := if s.ins.snapshot.isSome then
            rejectLoad (if s.ins.snapByOpcode then completeTaken 0x0302 (reply .wrongState 2) s else s)
          else s
        { s with ins := { s.ins with snapshot := none, refs := [] } }
      else s
    completeTaken 0x0305 (okWords [(3, g.toNat)]) { s with ins := { s.ins with direct := d, modeReq := none } }

/-- Apply the waiting snapshot (R204, R205). -/
def applyLoad (start : Nat) (s : State) : State :=
  match s.ins.snapshot with
  | none => s
  | some l =>
    let g := nextGen s
    let t : DWord := BitVec.ofNat 64 (start - reloadLead s)
    let s := forEach (numbered 0 l) (fun (x : Nat × DutyEntry) s =>
      if x.2.keep then s
      else modIns (Fin.ofNat 64 x.1) (fun c => { c with compare := x.2.duty, neg := x.2.neg, trig := x.2.trig }) s) s
    let s := if s.ins.snapByOpcode then
        completeTaken 0x0302 (okWords [(3, g.toNat), (4, t.toNat % 2 ^ 32), (5, t.toNat / 2 ^ 32)]) s
      else s
    { s with ins := { s.ins with snapshot := none }, hst := { s.hst with loadGen := g, loadTime := t } }

/-- Release the module's own gap hold (09 R272): ASY_GAP_LEN after the channel's bypass, or, its gap discarded, after a
period that was SATURATED under the hold. -/
def gapHold (start : Nat) (n : Chan) (s : State) : State :=
  if !s.con[n].gap then s
  else
    let release (s : State) : State := markDirty n (modCon n (fun c => { c with gap := false }) s)
    if s.ins.saturated && s.insCh[n].held then gapDrop n (release s)
    else
      let long := s.asyCh[n].gap.any (fun g => g.since.toNat + pNat s Prm.asyGapLen * tMs ≤ start - reloadLead s)
      if long then release s else s

/-- A connection whose gates passed becomes ACTIVE at this reload (11 R333 step 6). -/
def enterActive (n : Chan) (s : State) : State :=
  if s.con[n].seq.any (fun q => q.step == .release) then
    match gateStatus s n with
    | none => endSeq n .ok (sayRestaged 2 1 (nextGen s) (setCh n .active 0 true (clearHolds n s)))
    | some st => endSeq n st s
  else s

/-- Trigger samples that have not come are counted (R219): 100 µs after the sample, and the fibre. -/
def missTriggers (n : Chan) (s : State) : State :=
  let late (t : DWord) : Bool := t.toNat + 100 * tUs + (downTicks s n).ceil.toNat < s.tim.station.toNat
  modIns n (fun c => { c with
    trigMissed := c.trigMissed + BitVec.ofNat 32 (c.trigDue.filter late).length
    trigDue := c.trigDue.filter (fun t => !late t) }) s

/-- STALE_EXEC over consecutive control periods (08 R238). -/
def staleCheck (n : Chan) (s : State) : State :=
  let x := s.insCh[n]
  let run := if x.staleNow = 0 then [] else (x.staleNow :: x.staleRun).take 100
  let s := modIns n (fun c => { c with staleNow := 0, staleRun := run }) s
  if run.length ≥ 100 && !lately s.tim.tb x.staleSaidAt (60 * tSec) then
    nodeService n 7 run.sum (modIns n (fun c => { c with staleSaidAt := some s.tim.tb }) s)
  else s

/-- Make the offer of an open hand-over (12 R375). -/
def makeOffer (start : Nat) (s : State) : State :=
  if s.twn.open_.isSome && s.twn.offer.isNone then
    let o : Offer := { at_ := BitVec.ofNat 64 (start + tctl s), epoch := epochFor (!oddAddr s) s, gen := nextGen s }
    { s with twn := { s.twn with offer := some o } }
  else s

/-- What every reload point does beside forming the generation. -/
def reloadTurn (start : Nat) (s : State) : State :=
  let s := forEach allChans (fun n s => staleCheck n (missTriggers n s)) (reloadParams start s)
  if s.twn.judge.any (fun j => decide (j.until_.toNat ≤ start)) then judgeRole s else s

/-- The reload point of a period at the module that forms generations. -/
def reloadForm (start : Nat) (s : State) : State :=
  let s := forEach allChans (fun n s => enterActive n (gapHold start n s)) s
  let s := match s.twn.serviceOwner with
    | some n => serviceRelease n s
    | none => s
  let s := applyLoad start (applyMode s)
  let s := formGeneration true start (closeTo 64 start s)
  makeOffer start { s with twn := { s.twn with takeFrom := none } }

/-- The generation of the period is left to the partner (12 R375): an offer names it, or the arm is received later. -/
def heldBack (start : Nat) (s : State) : Bool :=
  s.twn.offer.any (fun o => decide (o.at_.toNat ≤ start)) || s.twn.takeFrom.any (fun t => decide (start < t.toNat))

/-- RELOAD_POINT (R203 to R208; 08 R223; 12 R361, R375). -/
def execReloadPoint (start : DWord) (s : State) : Out :=
  let k := start.toNat
  if tctl s = 0 || k % tctl s ≠ 0 || s.pwr.mod != .ready || s.ins.lastClosed = some start || !mainUp s then done s s
  else
    let t := reloadTurn k s
    match t.twn.role with
    | .active =>
      if heldBack k t then done s t
      else doneWin s (writeAll s.win (modeWrites t)) (reloadForm k t)
    | .standby => done s { t with twn := { t.twn with mirrored := t.twn.mirror.any (fun m => m.period == start) } }
    | _ => done s t

/-! ## Reports of a second -/

/-- PULSE_SUPPRESSED_REPORT (R202). -/
def execPulseSuppressedReport (s : State) : Out :=
  done s (forEach allChans (fun n s =>
    let e := s.insCh[n].eng
    let o := s.insCh[n].reported
    if e.suppressed = o.1 && e.closed = o.2.1 && e.reversals = o.2.2.1 then s
    else
      let s := modIns n (fun x => { x with reported := (e.suppressed, e.closed, e.reversals, e.moved) }) s
      raise 0x8307 n.val [ef 28 0 (e.suppressed - o.1).toNat, ef 32 0 (e.closed - o.2.1).toNat,
        ef 36 0 (min 0xFFFF (e.reversals - o.2.2.1).toNat), ef 38 0 (min 0xFFFF (e.moved - o.2.2.2).toNat)] s) s)

/-- SATURATION_REPORT (R222). -/
def execSaturationReport (s : State) : Out :=
  let k := (s.ins.satPeriods - s.ins.satReported).toNat
  if k = 0 then done s s
  else
    let w := wrapI 32 (satI 32 s.ins.shortfall)
    done s (raise 0x8306 0xFFFF [ef 28 0 k, ef 32 0 w] { s with ins := { s.ins with satReported := s.ins.satPeriods, shortfall := 0 } })

/-- REFERENCE_LATE_REPORT (R80, R525). -/
def execReferenceLateReport (s : State) : Out :=
  if s.hst.lateCount = 0 then done s s
  else
    done s (raise 0x8308 0xFFFF [ef 28 0 s.hst.lateCount.toNat, ef 32 0 s.hst.lateWorst.toNat]
      { s with hst := { s.hst with lateCount := 0, lateWorst := 0 } })

/-- RESTAGED_REPORT (R233). -/
def execRestagedReport (s : State) : Out :=
  let l := s.stg.byLimits
  let d := s.stg.byDelay
  let t := { s with stg := { s.stg with byLimits := (0, 0), byDelay := (0, 0) } }
  let t := if l.1 = 0 then t else sayRestaged 1 l.1 l.2 t
  done s (if d.1 = 0 then t else sayRestaged 3 d.1 d.2 t)

end Sys2Proof.Machine
end

