-- ==== Sys2Proof/Machine/QuenchRows.lean ====
section
/-! DEFINITION. The commands of the quench matrix (08): trip inputs, blanking, hardware faults, the lane test, debug halt, the
trip request, QUENCH_RELEASE and RESTAGE. -/

namespace Sys2Proof.Machine

/-! ## Trip inputs (R246 to R248) -/

/-- A blanking window of a group runs now: an edge of one of its populated channels has begun, and INS_BLANK_TIME has not
passed since its end (R248). -/
def blankingRuns (s : State) (g : Group) : Bool :=
  let now := s.tim.station.toNat
  (groupChans s g).any (fun n => s.insCh[n].closedEdges.any (fun e =>
    e.1.toNat ≤ now && now < e.1.toNat + e.2.2 + pNat s (Prm.insBlankTime + g.val) * 40))

/-- Groups on which blanking holds a demand of an input that begins now. -/
def blankedBy (s : State) (i : TripIn) : Nat :=
  maskOf 8 (fun g => (pNat s (Prm.insTripMap + i.val)).testBit g && !quenched s (Fin.ofNat 8 g) && blankingRuns s (Fin.ofNat 8 g))

/-- An input has come into demand by one of the three cases of R247: blanking, then the matrix. -/
def demandBegins (i : TripIn) (s : State) : State :=
  let m := blankedBy s i
  let s := modTrip i (fun t => { t with blanked := BitVec.ofNat 8 m, lately := false }) s
  let s := if m = 0 then s else { s with qm := { s.qm with blanked := s.qm.blanked + 1 } }
  evalMatrix s

/-- An input may have left demand. -/
def demandEnds (i : TripIn) (s : State) : State :=
  if inDemand s.qm.trips[i] then s else modTrip i (fun t => { t with blanked := 0, lately := true }) s

/-- TRIP_INPUT_DEMAND (R246, R247). -/
def execTripInputDemand (i : TripIn) (enters : Bool) (s : State) : Out :=
  let t := s.qm.trips[i]
  if !tripUsed s i || t.demand = enters then done s (modTrip i (fun t => { t with demand := enters }) s)
  else if enters then
    let was := inDemand t
    let es := ((s.tim.tb :: t.entries).take 10)
    let chat := decide (es.length = 10) && s.tim.tb - es.getLastD 0 < tSec
    let s' := modTrip i (fun t => { t with demand := true, entries := es, chatter := t.chatter || chat }) s
    let s' := if chat && !t.chatter then tripFaultEvent i 1 false s' else s'
    done s (if was then s' else demandBegins i s')
  else done s (demandEnds i (modTrip i (fun t => { t with demand := false }) s))

/-- TRIP_WIRING_FAULT (R247). -/
def execTripWiringFault (i : TripIn) (begins : Bool) (s : State) : Out :=
  let t := s.qm.trips[i]
  if !tripUsed s i || t.wiring = begins then done s (modTrip i (fun t => { t with wiring := begins }) s)
  else
    let s' := tripFaultEvent i 0 (!begins) (modTrip i (fun t => { t with wiring := begins }) s)
    done s (if begins then (if inDemand t then s' else demandBegins i s') else demandEnds i s')

/-- TRIP_CHATTER_END (R247). -/
def execTripChatterEnd (i : TripIn) (s : State) : Out :=
  if !s.qm.trips[i].chatter then done s s
  else done s (demandEnds i (tripFaultEvent i 1 true (modTrip i (fun t => { t with chatter := false, entries := [] }) s)))

/-- TRIP_PRESENCE_END (R247). -/
def execTripPresenceEnd (i : TripIn) (s : State) : Out := done s (modTrip i (fun t => { t with lately := false }) s)

/-- BLANKING_END (R248). -/
def execBlankingEnd (g : Group) (s : State) : Out :=
  done s (evalMatrix (forEach (List.finRange 8) (fun i =>
    modTrip i (fun t => { t with blanked := t.blanked &&& ~~~(1#8 <<< g.val) })) s))

/-! ## Hardware faults and lanes (R249 to R251) -/

/-- HW_FAULT_REQUEST (R249): the causes of *Hardware fault causes*; a code outside the table names no fault. -/
def execHwFaultRequest (cause : Byte) (s : State) : Out :=
  if 1 ≤ cause.toNat && cause.toNat ≤ 4 then done s (hwFault cause.toNat 0xFFFF s) else done s s

/-- The module enters the module safe state (17 R488, R489): the firmware request on all groups, then STATE 0x3. -/
def enterSafe (s : State) : State :=
  let s := evalMatrix { s with qm := { s.qm with fwSafe := true } }
  { s with pwr := { s.pwr with mod := .safe } }

/-- QUENCH_SELFTEST (R251). -/
def selftestEvent (lane kind : Nat) (vector : Half) (s : State) : State :=
  raiseAt 0x8303 0xF (kind ≠ 0) s.tim.station 0xFFFF [ef 28 0 lane, ef 29 0 kind, ef 30 0 vector.toNat] s

/-- Two lanes have failed (R251, R256; 11 R347 A2): every group, the trip requests, the L3 fault, the module safe state. -/
def twoLanes (origin : Nat) (s : State) : State :=
  let s := { s with qm := { s.qm with hw := if s.qm.hw.contains 1 then s.qm.hw else s.qm.hw ++ [1], tripA2 := true } }
  let s := assertTrip 0xFF 0 (evalMatrix s)
  let s := raiseFault 0x0302 0xFFFF 3 true origin s
  if isMaster s then enterSafe s else s

/-- LANE_SELFTEST (R251). -/
def execLaneSelftest (ok : Bool) (vector : Half) (s : State) : Out :=
  let l := s.qm.lane
  let bit : BitVec 3 := 1#3 <<< l.val
  let next : Fin 3 := l + 1
  if ok then
    done s { s with qm := { s.qm with lane := next, laneBad := s.qm.laneBad &&& ~~~bit, selftests := s.qm.selftests + 1 } }
  else
    let again := s.qm.laneBad.getLsbD l.val
    let failed := s.qm.laneFailed.getLsbD l.val
    let s' := { s with qm := { s.qm with lane := next, laneBad := s.qm.laneBad ||| bit
                                         selftestFails := s.qm.selftestFails + 1 } }
    if again && !failed then
      let others := s.qm.laneFailed ≠ 0
      let s' := { s' with qm := { s'.qm with laneFailed := s'.qm.laneFailed ||| bit } }
      let s' := selftestEvent l.val (if others then 2 else 1) vector s'
      let origin := (lastSeq s').toNat
      done s (if others then twoLanes origin s' else raiseFault 0x0301 l.val 2 true origin s')
    else done s (selftestEvent l.val 0 vector s')

/-! ## Debug halt (R253) -/

/-- DEBUG_HALT (R253). -/
def execDebugHalt (s : State) : Out := done s (evalMatrix { s with qm := { s.qm with fwHalt := true } })

/-- DEBUG_RESUME (R253). -/
def execDebugResume (s : State) : Out := done s { s with qm := { s.qm with fwHalt := false } }

/-! ## Trip request (R256) -/

/-- TRIPREQ_HOLD_END (R256). -/
def execTripreqHoldEnd (s : State) : Out := done s (endTrip s)

/-! ## Release and restage (R252, R233) -/

/-- Groups of a mask that stay quenched by a cause present. -/
def stillHeld (mask : Byte) (s : State) : Nat :=
  maskOf 8 (fun g => mask.getLsbD g && quenched s (Fin.ofNat 8 g) && presentFor s (Fin.ofNat 8 g))

/-- QUENCH_RELEASE (R252). -/
def execQuenchRelease (h : Hdr) (mask : Byte) (s : State) : Out :=
  hostCmd h 0x0303 4 .none false (fun s =>
    let held := stillHeld mask s
    let r := releaseGroups mask s
    let s' := if r.1 = 0 then r.2 else restage 4 r.2
    .now (okWords [(3, r.1.toNat), (4, held)]) s') s

/-- RESTAGE (R233). -/
def execRestage (h : Hdr) (s : State) : Out :=
  hostCmd h 0x0304 0 .none false (fun s =>
    let r := restageFor 0 s
    .now (okWords [(3, r.1.toNat)]) r.2) s

end Sys2Proof.Machine
end

