-- ==== Sys2Proof/Machine/Commit.lean ====
section
/-! DEFINITION. The configuration record (03 R86 to R91): the checks of COMMIT_CONFIG, the record in force, and what a change
of a parameter does at once (06 R160, R161; 07 R220; 10 R326; 12 R368; 13 R396). -/

namespace Sys2Proof.Machine

/-! ## The checks (R87) -/

/-- A check of COMMIT_CONFIG: the identifier under which it is made, whether it fails, its status, and the channel, port or
group that it refers to (0xFF none). -/
structure Check where
  id     : Nat
  fails  : Bool
  status : Status
  item   : Nat := 0xFF

/-- The record that the staged set would make. -/
def resulting (s : State) : Tab (List Byte) := s.cfg.staged.foldl (fun t p => putValue t p.1 p.2) s.cfg.stored

/-- Conditions on `n` neighbours, in order. -/
def allNext (n : Nat) (p : Nat → Bool) : Bool := (List.range n).all p

/-- The cell model meets R264. -/
def modelMeets (m : List Byte) : Bool :=
  m.length = 3628 && ofLe (slice m 3624 4) = (crc32 (m.take 3624)).toNat &&
    allNext 7 (fun t => mI16 m (4 + 2 * t) < mI16 m (6 + 2 * t)) && allNext 7 (fun r => mU16 m (20 + 2 * r) < mU16 m (22 + 2 * r)) &&
    allNext 8 (fun t => allNext 100 (fun k =>
      mU16 m (72 + 202 * t + 2 * k) ≤ mU16 m (74 + 202 * t + 2 * k) && mU16 m (1688 + 202 * t + 2 * k) ≤ mU16 m (1690 + 202 * t + 2 * k))) &&
    allNext 808 (fun k => mU16 m (1688 + 2 * k) ≤ mU16 m (72 + 2 * k)) && allNext 64 (fun k => mU16 m (3304 + 2 * k) ≤ 5000)

/-- Window length of R161 in ns. -/
def windowNs (r : Tab (List Byte)) : Nat :=
  if tNat r Prm.asyAvgMode = 0 then tNat r Prm.asyAvgSamples * 31250
  else tNat r Prm.asyAvgPeriods * tNat r Prm.insCarrierPeriod * 5 / 4

/-- Lowest identifier that the window length rests on. -/
def windowId (r : Tab (List Byte)) : Nat := if tNat r Prm.asyAvgMode = 0 then Prm.asyAvgMode else Prm.insCarrierPeriod

/-- A channel whose counts and bridge may change (R161, R220). -/
def changeable (s : State) (n : Chan) : Bool :=
  !populated s n || (match s.con[n].state with
    | .disconnected | .dormant | .retired => true
    | _ => false)

/-- Minimum dead time and pulse that the node of a RUNNING port declares, ns. -/
def nodeMin (s : State) (n : Chan) (f : Caps → Half) : Nat := if running s n then (s.txns[n].caps.map (fun c => (f c).toNat)).getD 0 else 0

/-- A value in units of 12.5 ns that is set, and below `ns`. -/
def below (v ns : Nat) : Bool := v ≠ 0 && v * 25 < ns * 2

/-- Checks of R161. -/
def checks06 (s : State) (r : Tab (List Byte)) : List Check :=
  let v := tNat r
  let changed (id : Nat) : Bool := valueIn r id ≠ valueIn s.cfg.stored id
  let counts (base : Nat) : List Check := allChans.map (fun n =>
    { id := base + n.val, fails := changed (base + n.val) && !changeable s n, status := .wrongState, item := n.val })
  [{ id := Prm.asyOvThresh, fails := v Prm.asyUvThresh + 5000 > v Prm.asyOvThresh, status := .outOfRange },
   { id := Prm.asyEdgePost1, fails := !(v Prm.asyEdgePost1 < v Prm.asyEdgePost2 && v Prm.asyEdgePost2 < v Prm.asyEdgePost3), status := .outOfRange },
   { id := windowId r, fails := windowNs r > 128000000, status := .outOfRange },
   { id := Prm.asyOwOpen, fails := v Prm.asyOwIntact ≥ v Prm.asyOwOpen, status := .outOfRange },
   { id := min (windowId r) Prm.asyReportInterval, status := .outOfRange,
     fails := v Prm.asyBalMode = 0 && v Prm.asyBalLead * 1000 + windowNs r > v Prm.asyReportInterval * 10000 }] ++
    counts Prm.asyCells ++ counts Prm.asyTemps

/-- Checks of R220. -/
def checks07 (s : State) (r : Tab (List Byte)) : List Check :=
  let v := tNat r
  let zeroed (id : Nat) : Bool := v id = 0 && tNat s.cfg.stored id ≠ 0
  let grp (n : Chan) : Nat := v (Prm.insGroup + n.val)
  let period := v Prm.insCarrierPeriod
  let phase (id item : Nat) : Check := { id := Prm.insCarrierPeriod, fails := period ≠ 0 && v id ≥ period, status := .outOfRange, item := item }
  let active := !(activeChans s).isEmpty
  let deadZero (g : Nat) : Check :=
    { id := Prm.insDeadTime + g, fails := zeroed (Prm.insDeadTime + g) && (activeChans s).any (fun n => grp n = g), status := .wrongState, item := g }
  let deadLow (n : Chan) : Check :=
    { id := Prm.insDeadTime + grp n, fails := below (v (Prm.insDeadTime + grp n)) (nodeMin s n (·.minDead)), status := .wrongState, item := n.val }
  let pulseLow (n : Chan) : Check :=
    { id := Prm.insMinPulse, fails := below (v Prm.insMinPulse) (nodeMin s n (·.minPulse)), status := .wrongState, item := n.val }
  [phase Prm.insSegmentPhase 0xFF] ++ allChans.map (fun n => phase (Prm.insPhase + n.val) n.val) ++
    allChans.map (fun n => ⟨Prm.insBridge, (v Prm.insBridge ^^^ tNat s.cfg.stored Prm.insBridge).testBit n.val && !changeable s n,
      .wrongState, n.val⟩) ++
    [{ id := Prm.insCarrierPeriod, fails := active && zeroed Prm.insCarrierPeriod, status := .wrongState },
     { id := Prm.insMinPulse, fails := active && zeroed Prm.insMinPulse, status := .wrongState }] ++
    (List.range 8).map deadZero ++ allChans.map deadLow ++ allChans.map pulseLow

/-- Checks of R257. -/
def checks08 (s : State) (r : Tab (List Byte)) : List Check :=
  let changed (id : Nat) : Bool := valueIn r id ≠ valueIn s.cfg.stored id
  let busy (n : Chan) : Bool := populated s n && (match s.con[n].state with
    | .precharge | .bypass | .active | .quenched => true
    | _ => false)
  let group (base : Nat) : List Check := (List.range 8).map (fun g =>
    { id := base + g, fails := s.qm.latched.getLsbD g && changed (base + g), status := .wrongState, item := g })
  allChans.map (fun n => { id := Prm.insGroup + n.val, fails := changed (Prm.insGroup + n.val) && busy n, status := .wrongState, item := n.val }) ++
    group Prm.insSafeState ++ group Prm.insBlankTime

/-- Checks of R288 and R326. -/
def checks09 (r : Tab (List Byte)) : List Check :=
  let v := tNat r
  let m := valueIn r Prm.asyCellModel
  let a := valueIn r Prm.asyTmAnchor
  [{ id := Prm.asyVsd, fails := v Prm.asyVsd ≤ v Prm.asyUvThresh, status := .outOfRange },
   { id := Prm.asyVmax, fails := v Prm.asyVmax ≥ v Prm.asyOvThresh, status := .outOfRange },
   { id := Prm.asyBalStart, fails := v Prm.asyBalStop ≥ v Prm.asyBalStart, status := .outOfRange },
   { id := min (windowId r) Prm.asyGapMode, status := .outOfRange,
     fails := v Prm.asyGapMode = 1 && v Prm.asyGapLen * 1000000 < 10000000 + windowNs r + 2 * (v Prm.asyReportInterval * 10000) },
   { id := Prm.asyCellModel, fails := m ≠ [] && !modelMeets m, status := .badParam },
   { id := Prm.asyDriftWarn, fails := v Prm.asyDriftWarn ≥ v Prm.asyDriftLimit, status := .outOfRange },
   { id := Prm.asyTmAnchor, fails := a ≠ [] && !onCurve (pubKey a), status := .badParam }]

/-- Checks of R351, R402 and R425. -/
def checksRest (r : Tab (List Byte)) : List Check :=
  let v := tNat r
  let i := tInt r
  let ts (k off len : Nat) : List Byte := slice (valueIn r (Prm.thmTs + k)) off len
  let lo (o off : Nat) : Nat := ofLe (slice (valueIn r (Prm.loCfg + o)) off 2)
  let ilim (g : Nat) : Nat := ((List.range 8).map (fun k => lo (8 * g + k) 0)).sum
  [{ id := Prm.conPrechargeMin, fails := v Prm.conPrechargeMin ≥ v Prm.conPrechargeTime, status := .outOfRange },
   { id := Prm.conPrechargeDv, fails := v Prm.conPrechargeDv ≥ v Prm.conWeldDv, status := .outOfRange },
   { id := Prm.conUvRetire, fails := v Prm.conUvRetire ≥ v Prm.asyUvThresh, status := .outOfRange },
   { id := Prm.conTDisconnect, fails := i Prm.conTDisconnect < 400, status := .outOfRange },
   { id := Prm.conTDisconnect, fails := i Prm.thmCellStart + 4 * (v Prm.thmCellWidth : Int) > i Prm.conTDisconnect, status := .outOfRange },
   { id := Prm.thmCellWidth, fails := v Prm.thmHyst ≥ v Prm.thmCellWidth || v Prm.thmHyst ≥ v Prm.thmTsWidth, status := .outOfRange }] ++
    (List.range 16).map (fun k =>
      ⟨Prm.thmTs + k, ofLe (ts k 0 1) = 2 && (ofLe (ts k 8 2) = 0 || ofLe (ts k 10 2) = 0), .outOfRange, 0xFF⟩) ++
    (List.range 16).map (fun k =>
      ⟨Prm.thmTs + k, ofLe (ts k 1 1) % 4 = 3 && ofLeI (ts k 6 2) < ofLeI (ts k 4 2), .outOfRange, 0xFF⟩) ++
    (List.range 4).map (fun g => { id := Prm.loCfg + 8 * g, fails := ilim g > 1600, status := .outOfRange }) ++
    (List.range 32).map (fun o => { id := Prm.loCfg + o, fails := lo o 2 < lo o 0, status := .outOfRange })

/-- The first failing check: lowest identifier, and for one identifier in the order of the chapters. -/
def firstFailing (l : List Check) : Option Check :=
  l.foldl (fun (a : Option Check) (c : Check) =>
    if !c.fails then a
    else match a with
      | none => some c
      | some b => if c.id < b.id then some c else a) none

/-- What COMMIT_CONFIG finds wrong with the record that would result. -/
def commitFault (s : State) : Option Check :=
  let r := resulting s
  firstFailing (checks06 s r ++ checks07 s r ++ checks08 s r ++ checks09 r ++ checksRest r)

/-! ## What a change does at once (R88) -/

/-- A parameter's value changed between two tables. -/
def differs (a b : Tab (List Byte)) (id : Nat) : Bool := valueIn a id ≠ valueIn b id

/-- The populated-channel set has changed from `old` (01 R12): a port that leaves it goes dark; a port that joins starts its
bring-up, and its channel is placed as at a start. -/
def populationChanged (old : Nat) (s : State) : State :=
  forEach allChans (fun n s =>
    if old.testBit n.val == populated s n then s
    else if populated s n then
      modPort n (fun x => { x with settled := false, state := if s.pwr.dark then .off else .dark, light := false, lock := false }) s
    else
      let s := leaveRunning n .off s
      markDirty n (clearHolds n (modCon n (fun c => { c with seq := none }) (abandon n .wrongState s)))) s

/-- A changed count or bridge: the port repeats the capability exchange, and entries beyond the counts are empty (R161, R168,
R220). -/
def countsChanged (n : Chan) (s : State) : State :=
  let cells := cellCount s n
  let temps := tempCount s n
  let s := modMeas n (fun m => { m with cells := m.cells.filter (fun c => c.1 < cells), temps := m.temps.filter (fun t => t.1 < temps) }) s
  if running s n then reExchange n s else s

/-- Set-up CMDs whose parameters differ (R160). -/
def setupsChanged (old : Tab (List Byte)) (carrier : Bool) (s : State) : List Nat :=
  let d := differs old s.cfg.eff
  (if carrier || [0x4800, 0x4801, 0x4802].any d then [1] else []) ++ (if [0x4803, 0x4804, 0x4805].any d then [2] else []) ++
    (if [0x4806, 0x4807, 0x4808, 0x4809, 0x480A].any d then [3] else []) ++
    (if [0x480F, 0x4810, 0x4811, 0x4812].any d then [4] else []) ++ (if [0x480D, 0x480E].any d then [5] else [])

/-- A remote input whose configuration changed (13 R386, R387, R397): of another TYPE it starts anew; a role or flag it has
lost presents nothing. -/
def tsChanged (old : Tab (List Byte)) (i : TempIn) (s : State) : State :=
  if !differs old s.cfg.eff (Prm.thmTs + i.val) then s
  else if slice (valueIn old (Prm.thmTs + i.val)) 0 1 ≠ tsCfg s i 0 1 then modTs i (fun _ => {}) s
  else
    let trips := tsTrips s i
    let ft := tsFaultTrip s i
    modTs i (fun x => { x with trip := x.trip && trips, faultTrip := x.faultTrip && ft }) s

/-- A changed polarity turns what a trip input reads into its opposite (08 R246). -/
def polarityChanged (old : Nat) (s : State) : State :=
  forEach (List.finRange 8) (fun (i : TripIn) s =>
    if old.testBit i.val == (pNat s Prm.insTripPolarity).testBit i.val then s
    else
      let was := inDemand s.qm.trips[i]
      let s := modTrip i (fun t => { t with demand := !t.demand }) s
      if inDemand s.qm.trips[i] && !was then demandBegins i s else demandEnds i s) s

/-- What the change of effective values from `old` does at once; `carrier` says that the persisted carrier period changed. -/
def configEffects (old : Tab (List Byte)) (carrier : Bool) (s : State) : State :=
  let d := differs old s.cfg.eff
  let s := populationChanged (tNat old Prm.modPopulated) s
  let bridge := tNat old Prm.insBridge ^^^ pNat s Prm.insBridge
  let s := forEach (allChans.filter (fun n =>
    bridge.testBit n.val || d (Prm.asyCells + n.val) || d (Prm.asyTemps + n.val))) countsChanged s
  let s := if isMaster s then
      let ks := setupsChanged old carrier s
      forEach (runningPorts s) (fun p s => forEach ks (fun k s => sendSetup p k .config s) s) s
    else s
  let s := if d Prm.thmMode then
      { s with thm := { s.thm with modeReq := some (pNat s Prm.thmMode = 1), override := false } }
    else s
  let s := forEach (List.finRange 16) (tsChanged old) s
  let s := busEnableChanged (tNat old Prm.busEnable) s
  let s := if d Prm.asyTmAnchor then forEach allChans (modCyc · (fun c => { c with authAgain := true })) s else s
  let s := forEach (allChans.filter (populated s)) judgeAuth s
  evalMatrix (recomputeDeadline (polarityChanged (tNat old Prm.insTripPolarity) s))

/-! ## The record is written (R87 to R89; 12 R365) -/

/-- Identifiers that apply at a point. -/
def idsAt (a : Applies) : List Nat :=
  paramRows.flatMap (fun r => if r.applies == a then (List.range r.count).map (fun k => r.base + k) else [])

/-- Effective values once `r` is the record: immediate values at once; values for the next commit that `r` does not mark. -/
def effAfter (r : CfgRecord) (s : State) : Tab (List Byte) :=
  let e := (idsAt .immediate).foldl (fun t k => tabPut [] t k (tabGet [] r.values k)) s.cfg.eff
  (idsAt .nextCommit).foldl (fun t k => tabPut [] t k (tabGet [] (if r.marked.contains k then s.cfg.stored else r.values) k)) e

/-- Parameters whose effective or persisted value differs between two records. -/
def changedCount (old new : CfgSt) : Nat :=
  ((idsAt .immediate ++ idsAt .nextReload ++ idsAt .restart ++ idsAt .nextCommit).filter (fun k =>
    differs old.stored new.stored k || differs old.eff new.eff k)).length

/-- The record of `cfg.next` is in the retained store: it is effective, CONFIG_COMMITTED, and the command completes. -/
def configWritten (s : State) : State :=
  match s.cfg.next with
  | none => s
  | some r =>
    let old := s.cfg
    let eff := effAfter r s
    let staged := old.staged.filter (fun p => tabGet [] r.taken p.1 ≠ p.2)
    let s := { s with cfg := { old with stored := r.values, marked := r.marked, seq := r.seq, eff := eff, staged := staged, next := none } }
    let mine := s.cmd.pend.any (fun p => p.op == 0x0103#16)
    let missed := mine && twinBit s && !(anyLane s && s.twn.mismatch.isNone)
    let s := if mine && twinBit s then sendSeam (.config r.seq) s else s
    let s := configEffects old.eff (differs old.stored r.values Prm.insCarrierPeriod) s
    let s := raise 0x8107 0xFFFF [ef 28 0 r.seq.toNat, ef 32 0 (bN missed), ef 32 1 (bN (!mine)), ef 34 0 (changedCount old s.cfg)] s
    finishOp 0x0103 { reply .ok (bN missed) with words := [(4, r.seq)] } s

/-- The write of the record failed: the previous record stays effective. -/
def configLost (s : State) : State := finishOp 0x0103 (reply .fenced) { s with cfg := { s.cfg with next := none } }

/-- COMMIT_CONFIG (R87, R89, R90). -/
def execCommitConfig (h : Hdr) (validateOnly : Bool) (s : State) : Out :=
  hostCmd h 0x0103 4 .commit true (fun s =>
    if s.pwr.warn then .now (reply .busy) s
    else if s.pwr.holdupFault then .now (reply .wrongState) s
    else if s.store.fenced || s.store.worn then .now (reply .fenced) s
    else match commitFault s with
      | some c => .now (reply .pending) (later1 h 0x0103 (replyWords c.status [(3, c.id), (5, c.item)]) s)
      | none =>
        if validateOnly then .now (reply .pending) (later1 h 0x0103 (okWords [(4, s.cfg.seq.toNat)]) s)
        else
          let values := resulting s
          let marked := (idsAt .nextCommit).filter (fun k => differs s.cfg.stored values k)
          let r : CfgRecord := { values := values, marked := marked, seq := s.cfg.seq + 1, taken := s.cfg.staged }
          .later .commit 0 (queueWrite .config { s with cfg := { s.cfg with next := some r } })) s

end Sys2Proof.Machine
end

