-- ==== Sys2Proof/Machine/ConnectionRows.lean ====
section
/-! DEFINITION. The commands of channel connection (11): the CH_ commands of the host and the timers of the sequences, fences
and counts. -/

namespace Sys2Proof.Machine

/-! ## Host commands (R333 to R336, R345, R348, R350) -/

/-- A CH_ command is refused, with the channel's state. -/
def chRefuse (n : Chan) (st : Status) (s : State) : Res := .now (replyWords st [(3, chCode s n)]) s

/-- A CH_ command is accepted: PENDING, and its work, which may complete it at once. -/
def chAccept (h : Hdr) (op : Nat) (n : Chan) (work : State → State) (s : State) : Res :=
  .now (reply .pending) (work (addPend h op (.channel n) 0 s))

/-- Complete the command of a channel with the state that results. -/
def chDone (n : Chan) (st : Status) (s : State) : State := finishChan n (replyWords st [(3, chCode s n)]) s

/-- A module sequence or the set-up of R159 runs on the channel: its state stays as it is until that has ended. -/
def chBusy (s : State) (n : Chan) : Bool := s.con[n].seq.isSome || s.meas[n].setupLeft ≠ 0

/-- What refuses a CH_ command other than CH_RETIRE and CH_RESTORE (*CH_ command outcomes*). -/
def chGate (n : Chan) (s : State) (go : Res) : Res :=
  if !populated s n then chRefuse n .wrongState s
  else if s.con[n].state = .fenced then chRefuse n .fenced s
  else if chBusy s n then chRefuse n .wrongState s
  else go

/-- CH_CONNECT (R333 to R335, R340). -/
def execChConnect (h : Hdr) (n : Chan) (active : Bool) (s : State) : Out :=
  hostCmd h 0x0201 4 (.channel n) true (fun s =>
    let go (work : State → State) : Res := chAccept h 0x0201 n work s
    chGate n s (
      if s.con[n].present ≠ 0 then chRefuse n .wrongState s
      else match s.con[n].state, active with
        | .disconnected, _ =>
          go (fun s => seqPoll n none (startSeq n (.connect active) .waitBypass true 0 (setCh n .precharge 0 true s)))
        | .bypass, true => (match gateStatus s n with
          | some st => chRefuse n st s
          | none => go (startSeq n (.connect true) .release true 0))
        | .active, false =>
          go (fun s => seqPoll n none (startSeq n .toBypass .waitBypass true 0 (modCon n (fun c => { c with hostHold := true }) s)))
        | .bypass, false => go (chDone n .ok)
        | .active, true => go (chDone n .ok)
        | _, _ => chRefuse n .wrongState s)) s

/-- CH_DISCONNECT (R336). -/
def execChDisconnect (h : Hdr) (n : Chan) (s : State) : Out :=
  hostCmd h 0x0202 4 (.channel n) true (fun s =>
    chGate n s (
      let st := s.con[n].state
      if st = .bypass || st = .active || (st = .quenched && quenchBypass s n) then
        chAccept h 0x0202 n (fun s => seqPoll n none (startDisc n .disconnect true 0 false s)) s
      else chRefuse n .wrongState s)) s

/-- CH_DORMANT (R348). -/
def execChDormant (h : Hdr) (n : Chan) (s : State) : Out :=
  hostCmd h 0x0203 4 (.channel n) true (fun s =>
    chGate n s (
      match s.con[n].state with
      | .bypass | .active => chAccept h 0x0203 n (fun s => seqPoll n none (startDisc n .dormant true 0 false s)) s
      | .disconnected =>
        if running s n then
          chAccept h 0x0203 n (fun s => sendCmd n 0x0020 [] .sequence (startSeq n .dormant .dormantCmd true 0 s)) s
        else chRefuse n .wrongState s
      | _ => chRefuse n .wrongState s)) s

/-- w4 of CH_RETIRE confirms the channel. -/
def retireConfirmed (n : Chan) (w4 : Word) : Bool := w4.getLsbD 0 && w4.toNat / 256 % 256 = n.val

/-- CH_RETIRE (R345). -/
def execChRetire (h : Hdr) (n : Chan) (w4 : Word) (s : State) : Out :=
  hostCmd h 0x0204 8 (.channel n) true (fun s =>
    if !retireConfirmed n w4 then .now (reply .badParam 4) s
    else if !populated s n || s.con[n].state = .retired then chRefuse n .wrongState s
    else chAccept h 0x0204 n (fun s => seqPoll n none (retireBegin n 0 false true s)) s) s

/-- CH_RESTORE (R350). -/
def execChRestore (h : Hdr) (n : Chan) (s : State) : Out :=
  hostCmd h 0x0205 4 (.channel n) true (fun s =>
    let go (work : State → State) : Res := chAccept h 0x0205 n work s
    if !populated s n then chRefuse n .wrongState s
    else match s.con[n].state with
      | .fenced =>
        if hasCause s n s.con[n].fenceCause.toNat then chRefuse n .wrongState s
        else go (fun s =>
          let t := anneal n true s
          chDone n (if t.con[n].state = .fenced then .wrongState else .ok) t)
      | .retired =>
        if running s n && contactOpen s n && s.con[n].present == 0 && s.con[n].seq.isNone then
          go (fun s => seqPoll n none (startSeq n .restore .openTest true 0 s))
        else chRefuse n .wrongState s
      | .bypass | .disconnected =>
        go (fun s => chDone n .ok (markDirty n (modCon n (fun c => { c with counts := [] }) (causeOff n 8 s))))
      | _ => chRefuse n .wrongState s) s

/-! ## Timers of the sequences (R332, R333, R336, R337) -/

/-- The step of the running sequence. -/
def atStep (s : State) (n : Chan) (st : ConStep) : Bool := s.con[n].seq.any (fun q => q.step == st)

/-- PRECHARGE_TIMEOUT (R333 step 3). -/
def execPrechargeTimeout (n : Chan) (s : State) : Out :=
  match s.con[n].seq with
  | some q => if q.step = .precharging then done s (prechargeFail n 0 ((s.tim.tb - q.since) / tMs) s) else done s s
  | none => done s s

/-- CONTACTOR_TEST_TIMEOUT (R332). -/
def execContactorTestTimeout (n : Chan) (s : State) : Out :=
  if atStep s n .openTest then
    done s (if s.meas[n].hasReport && apart s n then seqPoll n none s else welded n 1 s)
  else if atStep s n .openedTest && contactOpen s n then
    done s (if apart s n then seqPoll n (some 0) s else welded n 0 s)
  else if atStep s n .closedTest && s.con[n].seq.any (fun q => q.tries = 1) then
    done s (if together s n then closedPassed n s else contactBad n 2 s)
  else done s s

/-- CONTACTOR_OPEN_RETRY (R337). -/
def execContactorOpenRetry (n : Chan) (s : State) : Out :=
  if !atStep s n .openRetry then done s s
  else if reported s n = some .bypassed then done s (sendContactor n false (seqStep n .openCmd s))
  else done s (seqStep n .waitBypass s)

/-- DISCONNECT_BYPASS_TIMEOUT (R330; *CH_ command outcomes*): CH_DISCONNECT ends, the hold stays. -/
def execDisconnectBypassTimeout (n : Chan) (s : State) : Out :=
  match s.con[n].seq with
  | some q =>
    if q.host && q.kind = .disconnect && (q.step = .waitBypass || q.step = .waitCurrent) then
      done s (endSeq n .timeout s)
    else done s s
  | none => done s s

/-! ## Fences, causes and counts (R340, R343, R344; 12 R372) -/

/-- ANNEAL_DELAY_EXPIRY (R343). -/
def execAnnealDelayExpiry (n : Chan) (s : State) : Out :=
  let c := s.con[n]
  if isMaster s && c.state = .fenced && c.annealAt.isSome && !hasCause s n c.fenceCause.toNat then done s (anneal n false s)
  else done s s

/-- CELL_LIMIT_TIMER (R340): causes 0x01 and 0x02 after 1 s beyond the limit; 100 mV are 1,000 units. -/
def execCellLimitTimer (n : Chan) (cell : Byte) (above : Bool) (s : State) : Out :=
  let c := cellAt s n cell.toNat
  if !c.valid then done s s
  else if above then
    done s (if highOf c ≥ pNat s Prm.asyVmax + 1000 then causeOnAt n 1 cell.toNat s else s)
  else done s (if lowOf c + 1000 ≤ pNat s Prm.asyVsd then causeOnAt n 2 cell.toNat s else s)

/-- PLAUS_HOLD_EXPIRY (R340). -/
def execPlausHoldExpiry (n : Chan) (s : State) : Out :=
  if isMaster s && hasCause s n 5 && s.con[n].protective then done s (decideDisconnect n 5 false s) else done s s

/-- A channel whose contactor was moving at a takeover is placed again (12 R372 step 3). -/
def recheckChan (n : Chan) (s : State) : State :=
  if !s.con[n].recheck then s
  else
    let s := modCon n (fun c => { c with recheck := false }) s
    match contactor s n with
    | some 0 => placeByStat n 0 false s
    | some 1 =>
      let s := placeByStat n 0 false s
      if reported s n ≠ some .bypassed then sendAbort n 0xB4 s else s
    | _ => causeOn n 15 s

/-- CONTACT_RECHECK (12 R372). -/
def execContactRecheck (s : State) : Out := if isMaster s then done s (forEach allChans recheckChan s) else done s s

/-- CAUSE_COUNT_EXPIRY (R344): counts of a cause that have reached 24 h leave the window. -/
def execCauseCountExpiry (n : Chan) (cause : Byte) (s : State) : Out :=
  done s (modCon n (fun c => { c with
    counts := c.counts.filter (fun k => k.1 ≠ cause || decide ((s.tim.station - k.2).toNat < dayTicks)) }) s)

end Sys2Proof.Machine
end

