-- ==== Sys2Proof/Machine/LoadOut.lean ====
section
/-! DEFINITION. Protected load outputs (14): turning on, faults and attempts, undervoltage, the cut-off, resets, and their
commands. -/

namespace Sys2Proof.Machine

/-! ## Configuration and places -/

/-- A 16-bit field of LO_CFG. -/
def loHalf (s : State) (o : LoadOut) (off : Nat) : Nat := ofLe (slice (valueIn s.cfg.eff (Prm.loCfg + o.val)) off 2)

/-- A flag of LO_CFG: 0 INRUSH, 1 RESET_HOLD, 2 OPEN_OFF. -/
def loFlag (s : State) (o : LoadOut) (bit : Nat) : Bool := bitOf (loHalf s o 10) bit

/-- ON_MAX in seconds. -/
def loOnMax (s : State) (o : LoadOut) : Nat := ofLe (slice (valueIn s.cfg.eff (Prm.loCfg + o.val)) 12 4)

/-- Supply group of an output. -/
def loGroup (o : LoadOut) : Fin 4 := ⟨o.val / 8, by omega⟩

/-- Outputs of a supply group. -/
def loOuts (g : Fin 4) : List LoadOut := (List.finRange 32).filter (fun o => loGroup o == g)

/-- Bit of an output within its group. -/
def loBit (o : LoadOut) : Byte := 1#8 <<< (o.val % 8)

/-- The block acts: the main domain has declared READY, and no L2 action fences the block (R419). -/
def loRuns (s : State) : Bool := (s.pwr.mod == .ready || s.pwr.mod == .safe) && !s.lo.fenced

/-- State codes. -/
def LoState.code : LoState → Nat
  | .off => 0
  | .on => 1
  | .inrush => 2
  | .queued => 3
  | .wait => 4
  | .latched => 5
  | .uvOff => 6
  | .cut => 7
  | .fenced => 8
  | .retired => 9

/-- The output is on. -/
def loLit (x : LoSt) : Bool := x.state == .on || x.state == .inrush

/-- ms to the scheduled attempt, 0 none. -/
def loNext (now : Nat) (x : LoSt) : Nat :=
  match x.next with
  | some t => min 0xFFFFFFFF ((t - now) / tMs)
  | none => 0

/-! ## Events (*LO_FAULT, …, LO_OPEN_LOAD event data*) -/

/-- An output event. -/
def loEvent (code level : Nat) (o : LoadOut) (ended offState : Bool) (kind : Nat) (s : State) : State :=
  let x := s.lo.out[o]
  raiseAt code level false s.tim.station o.val [ef 28 0 o.val, ef 28 5 (bN ended), ef 28 6 (bN offState), ef 29 0 kind, ef 30 0 x.k,
    ef 32 0 x.current.toNat, ef 34 0 x.tj.toNat, ef 36 0 (loNext s.tim.tb x)] s

/-- What a measurement at an event gives. -/
def loMeasure (o : LoadOut) (m : LoMeas) (s : State) : State := modLo o (fun x => { x with current := m.current, tj := m.tj }) s

/-- LO_UNDERVOLTAGE. -/
def uvEvent (g : Fin 4) (ended : Bool) (s : State) : State :=
  let x := s.lo.grp[g]
  raise 0x8705 g.val [ef 28 0 g.val, ef 28 2 (bN ended), ef 29 0 x.uvNamed.toNat, ef 30 0 x.vmin.toNat] s

/-- An output named by the open LO_UNDERVOLTAGE no longer waits for its restart (R413): END with the last. -/
def uvDone (o : LoadOut) (s : State) : State :=
  let g := loGroup o
  let x := s.lo.grp[g]
  if x.uvLeft &&& loBit o = 0 then s
  else
    let left := x.uvLeft &&& ~~~(loBit o)
    let s := modLg g (fun x => { x with uvLeft := left }) s
    if left ≠ 0 then s else modLg g (fun x => { x with uvNamed := 0, vmin := 0xFFFF }) (uvEvent g true s)

/-! ## Turning on and off (R405, R406) -/

/-- The output turns on. What R421 records of a turn-on without inrush is measured and free (log 5); that of an inrush comes
with its end. -/
def loStart (o : LoadOut) (s : State) : State :=
  let a := drawWord s
  let b := drawWord a.2
  let lit (x : LoSt) : LoSt :=
    { x with state := if x.inrush then .inrush else .on, onAt := s.tim.tb, ons := x.ons + 1, annealing := x.attempt,
             attempt := false, next := none, cancelled := false,
             prof := if x.inrush then x.prof
               else { cold := a.1.truncate 16, peak := (a.1 >>> 16).truncate 16, tLimit := x.prof.tLimit,
                      i1ms := (a.1 >>> 32).truncate 16, i10ms := (a.1 >>> 48).truncate 16, i100ms := b.1.truncate 16 } }
  uvDone o (modLo o lit b.2)

/-- An output of the group is in inrush. -/
def inrushIn (s : State) (g : Fin 4) : Bool := (loOuts g).any (fun o => s.lo.out[o].state == .inrush)

/-- The next turn-on that waits in a group starts when no inrush runs there (R406). -/
def loNextQueued (g : Fin 4) (s : State) : State :=
  if inrushIn s g then s
  else match (loOuts g).find? (fun o => s.lo.out[o].state == .queued) with
    | some o => loStart o s
    | none => s

/-- A turn-on: in inrush mode it waits for the group's inrush. -/
def loTurnOn (o : LoadOut) (inrush attempt : Bool) (s : State) : State :=
  let g := loGroup o
  let s := modLo o (fun x => { x with inrush := inrush, attempt := attempt }) s
  if s.lo.grp[g].cut then modLo o (fun x => { x with state := .cut }) s
  else if inrush && inrushIn s g then modLo o (fun x => { x with state := .queued }) s
  else loStart o s

/-- A turn-on that no LO_SET orders takes its mode from the INRUSH flag (R405, R423). -/
def loAuto (o : LoadOut) (attempt : Bool) (s : State) : State := loTurnOn o (loFlag s o 0) attempt s

/-- The output is off in another state; when it was in inrush the next turn-on starts. -/
def loOff (o : LoadOut) (st : LoState) (s : State) : State :=
  loNextQueued (loGroup o) (modLo o (fun x => { x with state := st, annealing := false }) s)

/-! ## Faults (R407 to R412, R415, R416) -/

/-- Fault cause of an output's retirement or fence (17 *Fault causes*). -/
def loCause (kind : Nat) : Nat := 0x0700 + kind

/-- Retire an output: record, event, L1 fault (R410, R415, R416). -/
def loRetire (o : LoadOut) (kind : Nat) (s : State) : State :=
  let s := modLo o (fun x => { x with retired := some (BitVec.ofNat 4 kind), next := none, attempt := false, cancelled := false,
                                      lastKind := BitVec.ofNat 4 kind }) s
  let s := uvDone o (loOff o .retired s)
  let s := queueWrite (.loadOutput o) (loEvent 0x8703 1 o false false kind s)
  raiseFault (loCause kind) o.val 1 true (lastSeq s).toNat s

/-- Ticks from a fault to attempt `k` (R410). -/
def attemptDelay (k : Nat) : Nat := 100 * tMs * 2 ^ (k - 1)

/-- A transient fault turns an output off (R410, R412). While the main domain is in reset it stays off (R419). -/
def loFault (o : LoadOut) (kind : Nat) (m : LoMeas) (s : State) : State :=
  let s := loMeasure o m s
  let thermal := kind = 2
  let s := if thermal then modLo o (fun x => { x with latch := true }) s else s
  if !loRuns s then loOff o (if thermal then .latched else .off) (modLo o (fun x => { x with cmd := false }) s)
  else
    let s := modLo o (fun x => { x with faults := x.faults + 1, lastKind := BitVec.ofNat 4 kind }) s
    if s.lo.out[o].k ≥ 8 then
      let s := loEvent 0x8701 0xF o false false kind s
      loRetire o kind (if thermal then loEvent 0x8704 0xF o false false kind s else s)
    else
      let s := modLo o (fun x => { x with k := x.k + 1, next := some (s.tim.tb + attemptDelay (x.k + 1)), attempt := false,
                                          cancelled := false }) s
      let s := uvDone o (loOff o (if thermal then .latched else .wait) s)
      let s := loEvent 0x8701 0xF o false false kind s
      if thermal then loEvent 0x8704 0xF o false false kind s else s

/-- Whether a fault of a kind takes precedence over the one last recorded (R408). -/
def loPrecedes (kind : Nat) (last : BitVec 4) : Bool := (kind = 2 && last ≠ 2) || (kind = 0 && last = 1)

/-- A transient fault condition: it turns the output off, or, within 10 µs of another cause that did, decides the kind that
is recorded (R408). -/
def loTrip (o : LoadOut) (kind : Nat) (m : LoMeas) (s : State) : State :=
  let x := s.lo.out[o]
  if loLit x || x.state == .uvOff then loFault o kind m s
  else if x.state == .wait then
    if kind = 2 then
      loEvent 0x8704 0xF o false false 2 (loMeasure o m (modLo o (fun x => { x with state := .latched, latch := true, lastKind := 2 }) s))
    else if loPrecedes kind x.lastKind && x.next.any (fun t => decide (s.tim.tb + attemptDelay x.k ≤ t + 10 * tUs)) then
      loMeasure o m (modLo o (fun x => { x with lastKind := BitVec.ofNat 4 kind }) s)
    else s
  else s

/-- LO_SHORT (R404, R407, R408). -/
def execLoShort (o : LoadOut) (m : LoMeas) (s : State) : Out := done s (loTrip o 0 m s)

/-- LO_OVERLOAD (R407). -/
def execLoOverload (o : LoadOut) (m : LoMeas) (s : State) : Out :=
  if s.lo.out[o].state == .inrush then done s s else done s (loTrip o 1 m s)

/-- LO_THERMAL_LATCH (R412). -/
def execLoThermalLatch (o : LoadOut) (m : LoMeas) (s : State) : Out := done s (loTrip o 2 m s)

/-- An output whose state is decided anew by its flags: after a cut or a latch. -/
def loResume (o : LoadOut) (s : State) : State :=
  let x := s.lo.out[o]
  if x.retired.isSome then modLo o (fun x => { x with state := .retired }) s
  else if x.failed then modLo o (fun x => { x with state := .fenced }) s
  else if x.latch then modLo o (fun x => { x with state := .latched }) s
  else if !x.cmd || !loRuns s then modLo o (fun x => { x with state := .off, cancelled := x.next.isSome }) s
  else match x.next with
    | some t => if t > s.tim.tb then modLo o (fun x => { x with state := .wait }) s else loAuto o true s
    | none => loAuto o false s

/-- LO_THERMAL_RELEASE (R412). -/
def execLoThermalRelease (o : LoadOut) (tj : Half) (s : State) : Out :=
  if !s.lo.out[o].latch then done s s
  else
    let t := modLo o (fun x => { x with latch := false, tj := tj }) s
    let t := if loRuns t then loEvent 0x8704 0xF o true false 2 t else t
    done s (if t.lo.out[o].state == .latched then loResume o t else t)

/-- LO_UNDERVOLTAGE (R413): raised once for a group's event, when its first output turns off. -/
def execLoUndervoltage (o : LoadOut) (vfeed : Half) (s : State) : Out :=
  let g := loGroup o
  let x := s.lo.out[o]
  let t := modLg g (fun y => { y with vfeed := vfeed, vmin := if loLit x || y.uvNamed ≠ 0 then (if vfeed.toNat < y.vmin.toNat then vfeed else y.vmin) else y.vmin }) s
  if x.state == .queued then done s (modLo o (fun x => { x with state := .uvOff }) t)
  else if !loLit x then done s t
  else if !loRuns s then done s (loOff o .off (modLo o (fun x => { x with cmd := false }) t))
  else
    let first := t.lo.grp[g].uvNamed = 0
    let t := modLg g (fun y => { y with uvNamed := y.uvNamed ||| loBit o, uvLeft := y.uvLeft ||| loBit o }) t
    let t := loOff o .uvOff t
    done s (if first then uvEvent g false t else t)

/-- LO_UV_RESTART (R413). -/
def execLoUvRestart (o : LoadOut) (s : State) : Out :=
  let x := s.lo.out[o]
  if x.state == .uvOff && x.cmd && loRuns s then done s (loAuto o x.attempt s) else done s s

/-- LO_INRUSH_END (R405, R406, R421). -/
def execLoInrushEnd (o : LoadOut) (prof : LoProfile) (s : State) : Out :=
  if s.lo.out[o].state == .inrush then
    done s (loNextQueued (loGroup o) (modLo o (fun x => { x with state := .on, prof := prof }) s))
  else done s s

/-- LO_ATTEMPT_DUE (R410, R413). -/
def execLoAttemptDue (o : LoadOut) (s : State) : Out :=
  let x := s.lo.out[o]
  if x.state == .wait && x.cmd && loRuns s then done s (loAuto o true s)
  else if x.state == .uvOff && x.next.isSome then done s (modLo o (fun x => { x with attempt := true }) s)
  else done s s

/-- LO_ANNEALED (R411). -/
def execLoAnnealed (o : LoadOut) (s : State) : Out :=
  let x := s.lo.out[o]
  if loLit x && x.annealing && loRuns s then
    done s (modLo o (fun x => { x with annealing := false }) (loEvent 0x8702 0xF o false false x.lastKind.toNat s))
  else done s s

/-- LO_ATTEMPT_RESET (R411). -/
def execLoAttemptReset (o : LoadOut) (s : State) : Out :=
  if loLit s.lo.out[o] then done s (modLo o (fun x => { x with k := 0 }) s) else done s s

/-- LO_CLAMP_TURNOFF (R409): current in mA, duration in µs, so the estimate is in nJ; 320 mJ, and 800 mJ over 10 s. -/
def execLoClampTurnoff (o : LoadOut) (current duration : Half) (s : State) : Out :=
  let e := current.toNat * 48 * duration.toNat / 2
  let l := ((s.tim.tb, e) :: s.lo.out[o].clamps).filter (fun x => s.tim.tb - x.1 < 10 * tSec)
  let t := modLo o (fun x => { x with clampE := BitVec.ofNat 16 (clampN 65535 (toLsb ((e : Rat) / 1000000))), clamps := l, current := current }) s
  let mean := (l.map (fun x => x.2)).sum > 800000000 && elapsed s.tim.tb s.lo.out[o].clampSaidAt (10 * tSec)
  let t := if mean then modLo o (fun x => { x with clampSaidAt := some s.tim.tb }) t else t
  done s (if loRuns s && (e > 320000000 || mean) then loEvent 0x8701 0xF o false false 3 t else t)

/-- Open the isolation switch of a group (R415). -/
def loCutGroup (g : Fin 4) (s : State) : State :=
  forEach (loOuts g) (fun o s => uvDone o (modLo o (fun x => { x with state := .cut, annealing := false }) s))
    (modLg g (fun x => { x with cut := true }) s)

/-- An output is stuck on (R415). -/
def loStuck (o : LoadOut) (s : State) : State :=
  let s := loRetire o 6 s
  let g := loGroup o
  if (pNat s Prm.loCutoff).testBit g.val then loCutGroup g (modLo o (fun x => { x with stuck := true }) s) else s

/-- LO_STUCK_ON (R415). -/
def execLoStuckOn (o : LoadOut) (m : LoMeas) (s : State) : Out :=
  let x := s.lo.out[o]
  if x.cmd || x.retired.isSome || x.state == .cut || !loRuns s then done s s else done s (loStuck o (loMeasure o m s))

/-- LO_ON_MAX (R418). -/
def execLoOnMax (o : LoadOut) (s : State) : Out :=
  let x := s.lo.out[o]
  if !x.cmd || loOnMax s o = 0 || !loRuns s then done s s
  else
    let keep := x.state == .latched || x.state == .cut || x.state == .fenced || x.state == .retired
    let t := modLo o (fun x => { x with cmd := false, cancelled := x.next.isSome, lastKind := 5 }) s
    let t := if keep then t else uvDone o (loOff o .off t)
    done s (loEvent 0x8701 0xF o false false 5 t)

/-- LO_OPEN_LOAD (R422). -/
def execLoOpenLoad (o : LoadOut) (begins : Bool) (m : LoMeas) (s : State) : Out :=
  let x := s.lo.out[o]
  let t := loMeasure o m s
  if !loRuns s then done s s
  else if begins then
    if x.openLoad.isSome then done s t
    else if x.state == .on && loHalf s o 8 ≠ 0 then
      done s (loEvent 0x8706 0xF o false false x.lastKind.toNat (modLo o (fun x => { x with openLoad := some false }) t))
    else if x.state == .off && loFlag s o 2 then
      done s (loEvent 0x8706 0xF o false true x.lastKind.toNat (modLo o (fun x => { x with openLoad := some true }) t))
    else done s t
  else match x.openLoad with
    | none => done s t
    | some f => done s (loEvent 0x8706 0xF o true f x.lastKind.toNat (modLo o (fun x => { x with openLoad := none }) t))

/-! ## Self-test (R420) -/

/-- The self-test of the off state: a measured outcome and free (log 5): passed, failed, or stuck on. -/
def loSelfTest (o : LoadOut) (s : State) : Nat × State :=
  let r := drawWord s
  (r.1.toNat % 4, modLo o (fun x => { x with failed := false }) r.2)

/-- What a failed self-test does: 0 fences the output with kind 7, 1 retires it as stuck on. -/
def loTested (o : LoadOut) (outcome : Nat) (s : State) : State :=
  match outcome with
  | 0 =>
    let s := modLo o (fun x => { x with state := .fenced, failed := true, cmd := false, lastKind := 7, next := none }) s
    let s := loEvent 0x8701 0xF o false false 7 s
    raiseFault 0x0707 o.val 1 false (lastSeq s).toNat s
  | 1 => loStuck o s
  | _ => s

/-! ## Resets (R419) -/

/-- One output through a reset of the main domain, or at the block's fence: under RESET_HOLD it keeps its commanded state,
otherwise it turns off. A power-on keeps what the retained store holds of it. -/
def loResetOne (powerOn : Bool) (o : LoadOut) (s : State) : State :=
  let x := s.lo.out[o]
  let hold := !powerOn && loFlag s o 1
  let st : LoState := if x.state == .cut then .cut else if x.retired.isSome then .retired
    else if powerOn then .off
    else if x.failed then .fenced else if x.latch then .latched else if hold then x.state else .off
  let y : LoSt := if powerOn then { retired := x.retired, k := x.k, stuck := x.stuck, lastKind := (x.retired.getD 0) } else x
  modLo o (fun _ => { y with state := st, cmd := hold && y.cmd, cancelled := if hold then y.cancelled else y.next.isSome,
                             annealing := hold && y.annealing, openLoad := none, toggles := [], ons := 0, faults := 0 }) s

/-- The block through a reset. -/
def loReset (powerOn : Bool) (s : State) : State :=
  let s := { s with lo := { s.lo with
    grp := s.lo.grp.map (fun g => { g with uvNamed := 0, uvLeft := 0, vmin := 0xFFFF, vfeed := if powerOn then 0 else g.vfeed }) } }
  forEach (List.finRange 32) (loResetOne powerOn) s

/-- One output at READY: tested unless it is on under RESET_HOLD, out of use or cut off; then it resumes. -/
def loReadyOne (o : LoadOut) (s : State) : State :=
  let x := s.lo.out[o]
  if x.retired.isSome || x.state == .cut || loLit x then s
  else
    let r := loSelfTest o s
    let s := loTested o r.1 r.2
    if r.1 < 2 then s else loResume o s

/-- The block at READY (R419, R420). -/
def loReady (s : State) : State := forEach (List.finRange 32) loReadyOne { s with lo := { s.lo with fenced := false } }

/-! ## Commands (R417, R423, R424) -/

/-- One output of LO_SET: 0 applied, 1 refused, 2 dropped. -/
def loSetOne (o : LoadOut) (on inrush : Bool) (s : State) : Nat × State :=
  let x := s.lo.out[o]
  if !on then
    let keep := x.state == .latched || x.state == .cut || x.state == .fenced || x.state == .retired
    let s := modLo o (fun x => { x with cmd := false, cancelled := x.next.isSome, attempt := false }) s
    (0, if keep then s else uvDone o (loOff o .off s))
  else if x.failed || x.retired.isSome || x.latch then (1, s)
  else if x.cmd then (0, s)
  else
    let recent := x.toggles.filter (fun t => s.tim.tb - t < tSec)
    if recent.length ≥ pNat s Prm.loToggleMax then
      if lately s.tim.tb x.chatterAt tSec then (2, s)
      else (2, loEvent 0x8701 0xF o false false 4 (modLo o (fun x => { x with chatterAt := some s.tim.tb }) s))
    else
      let s := modLo o (fun x => { x with cmd := true, cmdAt := s.tim.tb, toggles := (s.tim.tb :: recent).take 50 }) s
      if x.state == .cut then (0, s)
      else match x.next with
        | some t => if t > s.tim.tb then (0, modLo o (fun x => { x with state := .wait, cancelled := false }) s)
                    else (0, loTurnOn o (inrush || loFlag s o 0) true s)
        | none => (0, loTurnOn o (inrush || loFlag s o 0) false s)

/-- Act on the outputs of a mask, turn-offs first, gathering the masks of each outcome. -/
def loSetAll (sel st inr : Word) (s : State) : (Nat × Nat) × State :=
  let os := (List.finRange 32).filter (fun o => sel.getLsbD o.val)
  let order := os.filter (fun o => !st.getLsbD o.val) ++ os.filter (fun o => st.getLsbD o.val)
  order.foldl (fun (a : (Nat × Nat) × State) o =>
    let r := loSetOne o (st.getLsbD o.val) (inr.getLsbD o.val) a.2
    ((a.1.1 + (if r.1 = 0 then 2 ^ o.val else 0), a.1.2 + (if r.1 = 1 then 2 ^ o.val else 0)), r.2)) ((0, 0), s)

/-- LO_SET (R417, R423). -/
def execLoSet (h : Hdr) (sel state inrush : Word) (s : State) : Out :=
  hostCmd h 0x0701 12 .none false (fun s =>
    if s.lo.fenced then .now (reply .fenced) s
    else
      let r := loSetAll sel state inrush s
      .now (okWords [(3, r.1.1), (4, r.1.2)]) r.2) s

/-- Close the isolation switch of a group again (R415): its outputs take the states that their commands give. -/
def loUncut (g : Fin 4) (s : State) : State := forEach (loOuts g) loResume (modLg g (fun x => { x with cut := false }) s)

/-- One output of LO_REARM: whether it was rearmed. -/
def loRearmOne (o : LoadOut) (s : State) : Bool × State :=
  let x := s.lo.out[o]
  if x.retired.isSome || x.failed then
    let s := endL1 0x0700 o.val (endL1 0x0701 o.val (endL1 0x0702 o.val (endL1 0x0706 o.val (endL1 0x0707 o.val s))))
    let s := if x.retired.isSome then queueWrite (.loadOutput o) s else s
    let s := modLo o (fun x => { x with retired := none, k := 0, cmd := false, next := none, cancelled := false, stuck := false,
                                        state := if x.state == .cut then .cut else .off }) s
    let r := loSelfTest o s
    if r.1 < 2 then (false, loTested o r.1 (modLo o (fun y => { y with stuck := x.stuck }) r.2))
    else if x.stuck && s.lo.grp[loGroup o].cut then (true, loUncut (loGroup o) r.2)
    else (true, r.2)
  else if x.state == .wait then (true, loAuto o true (modLo o (fun x => { x with k := 0 }) s))
  else (false, s)

/-- LO_REARM (R424). -/
def execLoRearm (h : Hdr) (mask : Word) (s : State) : Out :=
  hostCmd h 0x0702 4 .none false (fun s =>
    if s.lo.fenced then .now (reply .fenced) s
    else
      let r := ((List.finRange 32).filter (fun o => mask.getLsbD o.val)).foldl (fun (a : Nat × State) o =>
        let r := loRearmOne o a.2
        (a.1 + (if r.1 then 2 ^ o.val else 0), r.2)) (0, s)
      .now (okWords [(3, r.1)]) r.2) s

end Sys2Proof.Machine
end

