-- ==== Sys2Proof/Machine/TwinRows.lean ====
section
/-! DEFINITION. The rows of the seam link and of the roles (12): lanes, heartbeats, role resolution, takeover, hand-over. The
mirrored content is in MirrorRows.lean. -/

namespace Sys2Proof.Machine

/-! ## Lanes (R353 to R355) -/

/-- SEAM_LINK. -/
def seamLink (l : SeamLane) (up : Bool) (cause : Nat) (s : State) : State :=
  raise 0x8A03 0xFFFF [ef 28 0 l.val, ef 28 1 (bN up), ef 28 2 cause] s

/-- PARTNER_LOST. -/
def partnerEvent (ended : Bool) (s : State) : State :=
  raise 0x8A04 0xFFFF [ef 28 0 (bN ended), ef 28 1 ((s.twn.partner.map (fun h => h.role.toNat)).getD 0)] s

/-- On a change of the lane that carries reliable frames, the sender goes back to the last ACK it holds (R354). -/
def laneChanged (before : SeamLane) (s : State) : State :=
  if anyLane s && reliableLane s ≠ before then seamFrames (reliableLane s) s.twn.unacked.length s else s

/-- A valid HEARTBEAT on a lane: UP after 100 in a row. -/
def laneHeard (l : SeamLane) (s : State) : State :=
  let was := s.twn.lanes[l].up
  let s := modLane l (fun x => { x with lock := true, good := min 100 (x.good + 1), heardAt := s.tim.tb, up := x.up || x.good ≥ 99 }) s
  if s.twn.lanes[l].up && !was then seamLink l true 0 { s with twn := { s.twn with hadLane := true } } else s

/-- The lane that carries reliable frames, while one is UP. -/
def laneBefore (s : State) (l : SeamLane) : SeamLane := if anyLane s then reliableLane s else l

/-- The partner is lost: what rests on it ends. -/
def partnerLost (s : State) : State :=
  let s := partnerEvent false { s with twn := { s.twn with lost := true } }
  let s := seamEnds s
  if s.twn.askPartner then
    finishOp 0x0A01 (reply .wrongState) { s with twn := { s.twn with askPartner := false } }
  else s

/-- A lane goes DOWN (R355); the cause names lost character lock, no heartbeat, or frame errors. -/
def laneDown (l : SeamLane) (cause : Nat) (s : State) : State :=
  let was := s.twn.lanes[l].up
  let before := laneBefore s l
  let s := laneChanged before (modLane l (fun x => { x with up := false, good := 0 }) s)
  let s := if was then seamLink l false cause s else s
  if anyLane s || s.twn.lost then s
  else
    let s := partnerLost s
    if mayTake s && s.twn.hadLane && s.twn.mismatch.isNone then takeover 1 s else s

/-- SEAM_LANE_DOWN (R355, R370). -/
def execSeamLaneDown (lane : SeamLane) (s : State) : Out :=
  if !mainUp s || !twinBit s then done s s
  else done s (laneDown lane (if s.twn.lanes[lane].lock then 1 else 0) s)

/-- SEAM_LANE_LOCK (R353). -/
def execSeamLaneLock (lane : SeamLane) (gained : Bool) (s : State) : Out :=
  if mainUp s then done s (modLane lane (fun x => { x with lock := gained }) s) else done s s

/-- Invalid frames of the last second. -/
def laneBad (s : State) (l : SeamLane) : List Nat := s.twn.lanes[l].bad.filter (fun t => s.tim.tb - t < tSec)

/-- SEAM_FRAME_INVALID (R353): above 100 in a second the lane is fenced (17 *Fault causes* 0x0A01). -/
def execSeamFrameInvalid (lane : SeamLane) (s : State) : Out :=
  if !mainUp s then done s s
  else
    let bad := (s.tim.tb :: laneBad s lane).take 101
    let t := modLane lane (fun x => { x with good := 0, bad := bad }) { s with twn := { s.twn with seamBad := s.twn.seamBad + 1 } }
    if bad.length ≤ 100 then done s t
    else
      let t := raiseFault 0x0A01 lane.val 1 false noId t
      if t.twn.lanes[lane].fenced then done s t
      else done s (laneDown lane 2 (modLane lane (fun x => { x with fenced := true }) t))

/-- HEARTBEAT_TX (R356): hardware sends the heartbeat; changed bookkeeping leaves with it (R362). -/
def execHeartbeatTx (s : State) : Out :=
  if !mainUp s || !twinBit s then done s s
  else
    let t := seamBoth { s with twn := { s.twn with count := s.twn.count + 1 } }
    if isMaster t && anyLane t && t.twn.dirty ≠ 0 then
      done s (sendSeam (.stateMirror t.twn.dirty) { t with twn := { t.twn with dirty := 0 } })
    else done s t

/-- FW_COUNT_TICK (R356): firmware does not run while a debugger halts it. -/
def execFwCountTick (s : State) : Out :=
  if mainUp s && s.pwr.imageRuns && !s.qm.fwHalt then done s { s with twn := { s.twn with fwCount := s.twn.fwCount + 1 } }
  else done s s

/-! ## Role resolution (R358; 02 R43) -/

/-- The module becomes ACTIVE by role resolution. -/
def activeAtStart (s : State) : State :=
  let old := roleCode s
  let s := becomeMaster 0 (epochFor (oddAddr s) s) s
  let s := roleEvent old 2 0 false (nextGen s) 0 s
  let s := masterSteps s
  forEach (allChans.filter (fun n => populated s n && s.con[n].state == .bypass && reported s n ≠ some .bypassed)) (sendAbort · 0xB4) s

/-- A CANDIDATE resolves its role against its partner. -/
def resolveRole (s : State) : State :=
  if s.twn.role != .candidate then s
  else if s.twn.mismatch.isSome then activeAtStart s
  else if !paired s then s
  else match s.twn.partner.map (fun h => h.role.toNat) with
    | some 2 => becomeStandby 0 s
    | some 1 =>
      (match s.twn.portEpoch with
      | some e => if e.getLsbD 0 = oddAddr s then activeAtStart s else s
      | none => if oddAddr s then s else activeAtStart s)
    | _ => s

/-- Every populated port has completed bring-up (02 R45). -/
def portsSettled (s : State) : Bool := allChans.all (fun p => !populated s p || s.ports[p].settled)

/-- ROLE_RESOLUTION (R358). -/
def execRoleResolution (s : State) : Out :=
  if !mainUp s || !twinBit s || !s.pwr.imageRuns || !portsSettled s then done s s
  else if s.twn.role == .starting then done s (resolveRole { s with twn := { s.twn with role := .candidate } })
  else done s (resolveRole s)

/-- STAT shows OTHER_MASTER clear on more than half of the RUNNING ports (R358, R370). -/
def otherGone (s : State) : Bool :=
  let l := runningPorts s
  decide (l.length < 2 * (l.filter (fun p => s.txns[p].stat.any (fun x => !x.otherMaster))).length)

/-- ALONE_WAIT_EXPIRY (R358). -/
def execAloneWaitExpiry (s : State) : Out :=
  if mainUp s && s.twn.role == .candidate && s.twn.lost && otherGone s then done s (activeAtStart s) else done s s

/-! ## Heartbeats (R355, R357 to R360, R365, R375) -/

/-- Why a partner is refused (01 R15). -/
def pairingCause (s : State) (x : Heartbeat) : Option (BitVec 2) :=
  if x.address ≠ address s ^^^ 1 then some 0 else if !x.twin then some 1 else none

/-- PAIRING_MISMATCH. -/
def mismatchEvent (x : Heartbeat) (cause : Nat) (s : State) : State :=
  raise 0x8A02 0xFFFF [ef 28 0 (x.address.toNat + 4096 * bN x.twin), ef 30 0 cause] s

/-- Discipline to the partner (R360; 02 R35): the offset of the four stamps moves station time at once while it is UNSET or
FREE and no channel is ACTIVE here, and as slew otherwise. -/
def seamTime (x : Heartbeat) (s : State) : State :=
  if x.echoTx = ⟨0, 0⟩ then s
  else
    let sum : Int := (stampVal x.echoRx - stampVal x.echoTx) + (stampVal x.tTx - stampVal x.arrival)
    let s := { s with twn := { s.twn with timeOffset := tenths sum / 2 } }
    let on := pBool s Prm.timeSeamSource && paired s && x.timeOk
    let follow := on && s.twn.role == .standby && x.role.toNat = 2
    let s := { s with tim := { s.tim with follow := follow } }
    let free := s.tim.lock == .unset || s.tim.lock == .free
    if !on then (if s.tim.seamSrc then seamEnds s else s)
    else if !(follow || s.tim.seamSrc || free || s.tim.lock == .holdover) then s
    else
      let e : Int := -(sum * 25 / 2)
      let jump := free && (follow || (activeChans s).isEmpty)
      let s := setLock .locked true false s
      if jump then
        { s with tim := { s.tim with station := s.tim.station + BitVec.ofInt 64 (sum / 131072) },
                 ins := { s.ins with lastClosed := none } }
      else setSlew e s

/-- A group released at the active module leaves the standby's record unless a cause for it is present here (08 R245). -/
def seenReleased (x : Heartbeat) (s : State) : State :=
  let gone := s.qm.partnerQuenched &&& ~~~x.quenched
  let s := { s with qm := { s.qm with partnerQuenched := x.quenched } }
  if isMaster s then s
  else forEach (finsOf 8 (fun g => gone.getLsbD g.val && !presentFor s g)) (fun g s =>
    { s with qm := { s.qm with latched := s.qm.latched &&& ~~~(1#8 <<< g.val), causes := s.qm.causes.set g.val {} g.isLt } }) s

/-- A frame of a kind waits for its acknowledgement. -/
def configWaits (s : State) : Bool := s.twn.unacked.any (fun f => match f.2 with
  | .config _ => true
  | _ => false)

/-- What an active module sends on pairing, and when the configurations differ (R365, R362). -/
def onPairing (fresh : Bool) (x : Heartbeat) (s : State) : State :=
  if !isMaster s then s
  else
    let s := if fresh then { s with twn := { s.twn with dirty := BitVec.ofNat 64 (pNat s Prm.modPopulated) } } else s
    let s := if (fresh || x.configSeq ≠ s.cfg.seq) && !configWaits s then sendSeam (.config s.cfg.seq) s else s
    if fresh && pBool s Prm.twnImageFollow then sendSeam (.image (runningBank s).version) s else s

/-- What a HEARTBEAT tells about the partner's role: a CANDIDATE resolves, an offer is taken, a hand-over completes. -/
def partnerRole (x : Heartbeat) (s : State) : State :=
  let s := resolveRole s
  if s.twn.open_.isSome && x.role.toNat = 2 && s.twn.offer.any (fun o => o.epoch == x.epoch) then handedOver s
  else if mayTake s && x.role.toNat = 2 && x.handoverAt ≠ 0 && newer32 x.handoverEpoch x.epoch then
    let ask := s.twn.askPartner
    let s := receiveArm { at_ := x.handoverAt, epoch := x.handoverEpoch, gen := x.handoverGen } s
    if ask then finishOp 0x0A01 (reply .ok) { s with twn := { s.twn with askPartner := false } } else s
  else s

/-- A HEARTBEAT of an accepted partner. One whose COUNT has gone back has restarted, and with it the reliable counts of both
directions. -/
def takeHeartbeat (hdr : SeamHdr) (x : Heartbeat) (s : State) : State :=
  let fresh := !paired s
  let newVer := s.twn.lost || s.twn.partner.all (fun h => h.seamVer ≠ x.seamVer || h.seamMin ≠ x.seamMin)
  let again := s.twn.lost && s.twn.partner.isSome
  let s := if again then partnerEvent true s else s
  let s := if s.twn.partner.any (fun h => !newer32 x.count h.count) then
      { s with twn := { s.twn with rcntTx := 0, rcntRx := 0, resend := false, goBack := none, unacked := [] } }
    else s
  let s := seamPlain hdr s
  let seen := if x.role.toNat = 2 || x.epoch ≠ 0 then newestOf [s.twn.seen, some x.epoch] else s.twn.seen
  let s := { s with twn := { s.twn with partner := some x, lost := false, seen := seen } }
  let s := if newVer && !seamMatches s x then mismatchEvent x 2 s else s
  partnerRole x (onPairing fresh x (seenReleased x (seamTime x s)))

/-- A lane that was fenced for frame errors is heard again with the errors past. -/
def laneHealed (l : SeamLane) (s : State) : State :=
  if s.twn.lanes[l].fenced then endFault 0x0A01 l.val (modLane l (fun x => { x with fenced := false, bad := [] }) s) else s

/-- HEARTBEAT_RX (R354, R355; 01 R15). A partner that is refused stays so until the module restarts. -/
def execHeartbeatRx (lane : SeamLane) (hdr : SeamHdr) (x : Heartbeat) (s : State) : Out :=
  if !mainUp s || !twinBit s || (s.twn.lanes[lane].fenced && (laneBad s lane).length > 100) then done s s
  else
    let t := laneChanged (laneBefore s lane) (laneHeard lane (laneHealed lane s))
    if t.twn.mismatch.isSome then done s t
    else match pairingCause t x with
      | some c => done s (resolveRole (mismatchEvent x c.toNat { t with twn := { t.twn with mismatch := some c } }))
      | none =>
        if !t.twn.lost && t.twn.partner.any (fun h => !newer32 x.count h.count) then done s (seamPlain hdr t)
        else done s (takeHeartbeat hdr x t)

/-! ## Takeover (R370) -/

/-- FW_SILENCE (R370). -/
def execFwSilence (s : State) : Out := if mayTake s && paired s && anyLane s then done s (takeover 2 s) else done s s

/-- NODE_WITNESS (R370). -/
def execNodeWitness (s : State) : Out :=
  if mayTake s && !anyLane s && !s.twn.hadLane && otherGone s then done s (takeover 3 s) else done s s

/-! ## Planned hand-over (R374 to R376) -/

/-- TWIN_HANDOVER (R374). -/
def execTwinHandover (h : Hdr) (s : State) : Out :=
  hostCmd h 0x0A01 0 .none true (fun s =>
    if s.twn.open_.isSome || s.twn.askPartner then .now (reply .busy) s
    else if isMaster s then
      if mayOffer s then .later .none 0 (openHandover .command s) else .now (reply .wrongState) s
    else if paired s && standbyReady s && horizonOk s then
      .later .none 0 { s with twn := { s.twn with askPartner := true } }
    else .now (reply .wrongState) s) s

/-- What asked for a hand-over that was withdrawn (R376; 02 R41; 12 R379; 17 R488). -/
def handoverFails (a : Asked) (s : State) : State :=
  match a with
  | .command => finishOp 0x0A01 (reply .wrongState) s
  | .reset force =>
    if force then restartSoon .resetModule (completeTaken 0x0110 (reply .ok) s)
    else completeTaken 0x0110 (reply .wrongState) s
  | .activate _ => finishOp 0x0A03 (reply .wrongState) s
  | .powerFail => s
  | .fault => s
  | .die => s

/-- HANDOVER_WITHDRAW (R376): the module forms the period of the offer itself; a deposed one leaves it to the partner. -/
def execHandoverWithdraw (s : State) : Out :=
  match s.twn.open_, s.twn.offer with
  | some a, some o =>
    let t := handoverFails a { s with twn := { s.twn with open_ := none, offer := none } }
    if isMaster t && t.pwr.mod == .ready then doneWin s (writeAll s.win (modeWrites t)) (reloadForm o.at_.toNat t) else done s t
  | _, _ =>
    if s.twn.askPartner then
      done s (finishOp 0x0A01 (reply .wrongState) { s with twn := { s.twn with askPartner := false } })
    else done s s

end Sys2Proof.Machine
end

