-- ==== Sys2Proof/Machine/ImageRows.lean ====
section
/-! DEFINITION. Module images (12 R378, R379), the node service commands (12 R380, R381), RESET_MODULE (02 R41, 03 R73). -/

namespace Sys2Proof.Machine

/-! ## Banks (R378) -/

/-- The other bank. -/
def otherBank : Bank → Bank
  | .a => .b
  | .b => .a

/-- Update a bank. -/
def modBank (k : Bank) (f : BankSt → BankSt) (s : State) : State :=
  match k with
  | .a => { s with img := { s.img with a := f s.img.a } }
  | .b => { s with img := { s.img with b := f s.img.b } }

/-- Largest image: 128 MiB. -/
def imageMax : Nat := 128 * 1024 * 1024

/-- The header names IXW-6440 and the ECDSA P-256 signature with SHA-256 verifies under the key in the boot ROM. -/
def verifyImage (bytes : List Byte) : Option (Word × Byte × Byte) :=
  match Config.imageHeader bytes with
  | none => none
  | some (v, sv, sm, body, sig) => if ecdsaOk Config.bootRomKey (sha256 body) sig then some (v, sv, sm) else none

/-- The bank holds a whole image: it verifies and takes what the header says, or stays invalid. -/
def judgeBank (k : Bank) (s : State) : Bool × State :=
  match verifyImage (bankOf s k).bytes with
  | some (v, sv, sm) => (true, modBank k (fun b => { b with valid := true, version := v, seamVer := sv, seamMin := sm }) s)
  | none => (false, modBank k (fun b => { b with valid := false }) s)

/-- Why a chunk is refused. -/
def chunkRefused (s : State) (offset : Nat) (data : List Byte) : Option Reply :=
  let have_ := (bankOf s (otherBank s.pwr.bank)).bytes.length
  if data.length < 4 || data.length > 1048576 || data.length % 4 ≠ 0 || offset + data.length > imageMax then some (reply .outOfRange 4)
  else if offset ≠ 0 && offset ≠ have_ then some (reply .outOfRange 3)
  else none

/-- IMAGE_UPDATE (R378; R365: BUSY while the active module's image comes in; 17: FENCED while the image store is fenced). -/
def execImageUpdate (h : Hdr) (offset : Word) (bulk : Bulk) (last : Bool) (s : State) : Out :=
  hostCmd h 0x0A02 16 .none true (fun s =>
    if s.pwr.warn || s.img.chunk.isSome || s.img.following then .now (reply .busy) s
    else if blockFenced s 0x0103 0xFFFF then .now (reply .fenced) s
    else if !bulkOk s bulk 4 then .now (reply .badParam 4) s
    else
      let data := bulkRead s bulk
      match chunkRefused s offset.toNat data with
      | some r => .now r s (bulkFree s bulk)
      | none =>
        let k := otherBank s.pwr.bank
        let s := if offset = 0 then modBank k (fun b => { b with valid := false, bytes := [] }) s else s
        .later .none 0 { s with img := { s.img with chunk := some { bank := k, offset := offset.toNat, data := data, last := last } } }
          (bulkFree s bulk)) s

/-- IMAGE_CHUNK_WRITTEN (R378; R365 for an image that follows the active module). -/
def execImageChunkWritten (s : State) : Out :=
  match s.img.chunk with
  | none => done s s
  | some c =>
    let t := modBank c.bank (fun b => { b with bytes := b.bytes ++ c.data, valid := false })
      { s with img := { s.img with chunk := none, following := false } }
    let r := if c.last then judgeBank c.bank t else (true, t)
    done s (if s.img.following then r.2 else finishOp 0x0A02 (reply (if r.1 then .ok else .authFail)) r.2)

/-! ## IMAGE_ACTIVATE (R379) -/

/-- The image of a bank would pair with the partner's running one (R369). -/
def bankPairs (s : State) (k : Bank) : Bool :=
  s.twn.partner.any (fun h => seamPairs (bankOf s k).seamVer.toNat (bankOf s k).seamMin.toNat h.seamVer.toNat h.seamMin.toNat)

/-- IMAGE_ACTIVATE (R379). -/
def execImageActivate (h : Hdr) (bank : Bank) (s : State) : Out :=
  hostCmd h 0x0A03 4 .none true (fun s =>
    if s.twn.open_.isSome || s.pwr.restart.isSome then .now (reply .busy) s
    else if !(bankOf s bank).valid then .now (reply .wrongState) s
    else if paired s then
      if mayOffer s && bankPairs s bank then .later .none 0 (openHandover (.activate bank) s) else .now (reply .wrongState) s
    else if !(activeChans s).isEmpty then .now (reply .wrongState) s
    else .now (reply .pending) (restartSoon (.activate bank) (later1 h 0x0A03 (reply .ok) (preferBank bank s)))) s

/-! ## RESET_MODULE (02 R41; 03 R73; 12 R383) -/

/-- RESET_MODULE: the reply first, the reset 1 ms after it. -/
def execResetModule (h : Hdr) (force : Bool) (s : State) : Out :=
  hostCmd h 0x0110 4 .none false (fun s =>
    if isMaster s && s.twn.open_.isNone && mayOffer s then .wait (openHandover (.reset force) s)
    else if isMaster s && !(activeChans s).isEmpty && !force then .now (reply .wrongState) s
    else .now (reply .ok) (restartSoon .resetModule s)) s

/-! ## Node services (R380, R381) -/

/-- Why a node service is refused on a channel. -/
def serviceRefused (s : State) (n : Chan) (update : Bool) : Option Status :=
  if s.con[n].state = .fenced then some .fenced
  else if !serviceable s.con[n].state || !running s n || !populated s n || s.cyc[n].phase ≠ 0 then some .wrongState
  else if (serviceOf s n).isSome || s.con[n].seq.isSome then some .busy
  else if update && !s.txns[n].caps.any (fun c => c.features.getLsbD 4) then some .wrongState
  else none

/-- NODE_UPDATE (R380). -/
def execNodeUpdate (h : Hdr) (n : Chan) (bulk : Bulk) (s : State) : Out :=
  hostCmd h 0x0501 8 (.channel n) true (fun s =>
    match serviceRefused s n true with
    | some st => .now (reply st) s
    | none =>
      if !bulkOk s bulk 4 then .now (reply .badParam 4) s
      else
        let image := bulkRead s bulk
        let v : ServiceSt := { update := true, image := image, version := Config.nodeImageVersion image, kind := 0, offset := 0, stage := 0,
                               wasActive := s.con[n].state == .active }
        .later (.channel n) 0 (startService n v s) (bulkFree s bulk)) s

/-- NODE_CALIBRATE (R380). -/
def execNodeCalibrate (h : Hdr) (n : Chan) (kind : Byte) (s : State) : Out :=
  hostCmd h 0x0502 8 (.channel n) true (fun s =>
    match serviceRefused s n false with
    | some st => .now (reply st) s
    | none =>
      let v : ServiceSt := { update := false, image := [], version := 0, kind := kind, offset := 0, stage := 0,
                             wasActive := s.con[n].state == .active }
      .later (.channel n) 0 (startService n v s)) s

/-- SERVICE_HOLD_WAIT_TIMEOUT (R381): a command that waits for another channel's hold has reached its own bound. -/
def execServiceHoldWaitTimeout (n : Chan) (s : State) : Out :=
  if (serviceOf s n).any (fun v => v.stage == 2) then
    done s (endService n .timeout { s with twn := { s.twn with serviceWait := s.twn.serviceWait.filter (· ≠ n) } })
  else done s s

end Sys2Proof.Machine
end

