-- ==== Sys2Proof/Machine/MirrorRows.lean ====
section
/-! DEFINITION. What the standby holds (12 R361 to R368): the mirrored sets, the channel bookkeeping, the reconciliation, the
configuration and the image of the active module; the reliable frames that carry them (R354). -/

namespace Sys2Proof.Machine

/-! ## Reliable frames (R354) -/

/-- The header of a reliable seam frame: accepted in order; a gap asks for a go-back, a copy is discarded. -/
def seamHdr (h : SeamHdr) (s : State) : Bool × State :=
  let s := seamCommon h s
  if h.rcnt = s.twn.rcntRx + 1 then (true, { s with twn := { s.twn with rcntRx := h.rcnt } })
  else if newer16 h.rcnt s.twn.rcntRx then (false, { s with twn := { s.twn with resend := true } })
  else (false, s)

/-- Seam frames are taken from an accepted partner. -/
def seamOpen (s : State) : Bool := mainUp s && twinBit s && s.twn.mismatch.isNone

/-- A complete series of the active module reaches a standby: its header, then `f`. -/
def seamSeries (h : SeamHdr) (f : State → State) (s : State) : Out :=
  if !seamOpen s then done s s
  else
    let a := seamHdr h s
    if a.1 && s.twn.role == .standby then done s (f a.2) else done s a.2

/-- SEAM_RETX_TIMEOUT (R354; 05 R133): every unacknowledged frame goes out again. -/
def execSeamRetxTimeout (s : State) : Out :=
  if !mainUp s || !anyLane s || s.twn.mismatch.isSome then done s s
  else done s (seamFrames (reliableLane s) s.twn.unacked.length s)

/-! ## SET_MIRROR (R361) -/

/-- Values of a mirrored entry. -/
def takeEntry (n : Chan) (e : MirrorEntry) (s : State) : State :=
  modIns n (fun x => { x with
    compare := e.compare.toNat, neg := e.neg, carrying := e.carrying
    trig := { t0 := e.trig0.toNat, t1 := e.trig1.toNat, t2 := e.trig2.toNat, t3 := e.trig3.toNat } }) s

/-- The reference of a mirrored set: of two for one period, the one taken later (R80). -/
def mirrorRef (m : SetMirror) (s : State) : State :=
  if m.refArrival = 0 then s
  else match s.ins.refs.find? (fun r => r.1.period == m.reference.period) with
    | some r => if r.2.toNat < m.refArrival.toNat then keepRef m.reference m.refArrival s else s
    | none => keepRef m.reference m.refArrival s

/-- The newest mirrored set governs the standby's own staging from its period on. -/
def takeMirror (m : SetMirror) (s : State) : State :=
  let start := m.period.toNat
  let s := mirrorRef m { s with
    twn := { s.twn with mirror := some m }
    stg := { s.stg with genLast := m.gen }
    ins := { s.ins with direct := m.direct, concentrated := m.concentrated, rotate := m.rotate } }
  let es := numbered 0 (m.entries.take 64)
  let s := forEach es (fun e s => takeEntry (Fin.ofNat 64 e.1) e.2 s) s
  let s := { s with twn := { s.twn with mirrored := true } }
  if m.restage || s.ins.lastClosed.any (fun l => start ≤ l.toNat) then s
  else
    let s := formHorizon true start 1 (closeTo 64 start s)
    let s := { s with ins := { s.ins with concentrated := m.concentrated, rotate := m.rotate } }
    forEach es (fun e s => modIns (Fin.ofNat 64 e.1) (fun x => { x with
      eng := { x.eng with dither := e.2.dither.toNat }, held := m.holds.getLsbD e.1, carrying := e.2.carrying }) s) s

/-- SET_MIRROR_RX (R354, R361): the second copy, and an older set, are discarded. -/
def execSetMirrorRx (hdr : SeamHdr) (x : SetMirror) (s : State) : Out :=
  if !seamOpen s then done s s
  else
    let t := seamPlain hdr s
    if t.twn.role != .standby || t.twn.mirror.any (fun m => !newer32 x.gen m.gen) then done s t else done s (takeMirror x t)

/-- MIRROR_MISS (R361): 4 µs after a reload point the standby forms the period with the last set mirrored. -/
def execMirrorMiss (s : State) : Out :=
  if !mainUp s || s.twn.role != .standby || s.twn.mirrored || tctl s = 0 then done s s
  else
    let start := (s.tim.station.toNat + reloadLead s) / tctl s * tctl s
    let t := { s with twn := { s.twn with mirrored := true, mirrorMiss := s.twn.mirrorMiss + 1 } }
    if t.ins.lastClosed.any (fun l => start ≤ l.toNat) then done s t else done s (formHorizon true start 1 (closeTo 64 start t))

/-! ## STATE_MIRROR (R362, R367) -/

/-- Channel states by code (11 R328). -/
def ChState.ofCode (k : Nat) : Option ChState :=
  [ChState.dormant, .disconnected, .precharge, .bypass, .active, .quenched, .fenced, .retired][k]?

/-- The sequence that a mirrored step stands for: a step of R333, or a disconnection when none is named. -/
def mirrorSeq (s : State) (b : ChanBook) : Option ConSeq :=
  if !b.inSequence then none
  else
    let step : ConStep := [ConStep.waitCurrent, .waitBypass, .openTest, .precharging, .closedTest, .relayOpen, .release].getD b.step.toNat .waitCurrent
    some { kind := if b.step = 0 then .disconnect else .connect true, step := step, host := false, cause := 0, since := s.tim.tb, tries := 0 }

/-- Flag entries of cells: PLAUS latched. -/
def takeCells (n : Chan) (l : List FlagEntry) (s : State) : State :=
  modMeas n (fun m =>
    let on (i : Nat) : Bool := l.any (fun f => !f.wire && f.flag && f.index.toNat = i)
    let known := m.cells.map (fun c => (c.1, { c.2 with plaus := on c.1 }))
    { m with cells := (l.filter (fun f => !f.wire && f.flag)).foldl (fun t f =>
        tabPut {} t f.index.toNat { tabGet {} t f.index.toNat with plaus := true }) (known.filter (fun c => c.2 ≠ {})) }) s

/-- Flag entries of wires: suspected, or confirmed open with its classification. -/
def takeWires (n : Chan) (l : List FlagEntry) (s : State) : State :=
  let ws := l.filter (·.wire)
  modMeas n (fun m => { m with
    openWires := (ws.filter (·.isOpen)).map (fun f => { wire := f.index.toNat, impChecked := f.impChecked, cellFault := f.cellFault })
    suspects := (ws.filter (fun f => f.flag && !f.isOpen)).map (fun f =>
      (m.suspects.find? (fun w => w.wire == f.index.toNat)).getD
        { wire := f.index.toNat, since := s.tim.tb, tries := 0, tone := false, opened := none }) }) s

/-- A mirrored retirement: the standby keeps the record in its own store. -/
def takeRetired (n : Chan) (b : ChanBook) (s : State) : State :=
  let retired := b.state.toNat = 7
  let same := s.con[n].retiredRec == retired && s.con[n].retiredNode == b.retiredNode && s.con[n].retiredPack == b.retiredPack
  let s := modCon n (fun c => { c with
    retireCause := if b.retireCause = 0xFF then 0 else b.retireCause, retiredRec := retired
    retiredNode := b.retiredNode, retiredPack := b.retiredPack }) s
  if same then s else queueWrite (.retirement n) s

/-- The bookkeeping of a channel as the active module has it. -/
def takeBook (s : State) (b : ChanBook) : State :=
  let n := b.channel
  let q := mirrorSeq s b
  let s := modCon n (fun c =>
    let st := (ChState.ofCode b.state.toNat).getD c.state
    { c with
      state := st, seq := q, protective := b.protective, hostHold := b.host, service := b.service, gap := b.gap, rest := b.rest
      assayRest := b.assayRest, present := b.present, fenceK := b.fenceK.toNat
      fenceCause := if b.fenceCause = 0xFF then 0 else b.fenceCause
      annealAt := if b.annealAt = 0 then none else some b.annealAt
      wasActive := if st == .quenched then c.wasActive || c.state == .active else c.wasActive
      counts := b.counts.map (fun k => (k.cause, k.time)) }) s
  let s := modAsy n (fun a => { a with
    grant := if b.restStart = 0 then none else some (b.restStart, b.restLen.toNat)
    restFrom := if b.rest then some (a.restFrom.getD s.tim.station) else none }) s
  takeRetired n b (takeWires n b.flags (takeCells n b.flags s))

/-- STATE_MIRROR_RX (R362). -/
def execStateMirrorRx (hdr : SeamHdr) (_tag : DWord) (books : List ChanBook) (s : State) : Out :=
  seamSeries hdr (fun s => books.foldl takeBook s) s

/-! ## RECONCILE (R363, R364) -/

/-- |Δz| of a group, 0.01 %. -/
def deltaZ (s : State) (g : GroupRecon) : Rat :=
  let own := (grpAt s (Fin.ofNat 64 (g.index.toNat / 256)) (g.index.toNat % 256)).z
  absR (own - (g.z.toInt : Rat) / 1000000000) * 10000

/-- 10^-6 % in 0.01 %. -/
def epsOf (w : Word) : Rat := (w.toInt : Rat) / 10000

/-- The active module's values of a group. -/
def takeGroup (s : State) (g : GroupRecon) : State :=
  modGrp (Fin.ofNat 64 (g.index.toNat / 256)) (g.index.toNat % 256) (fun x => { x with
    z := (g.z.toInt : Rat) / 1000000000, ub := (g.ub.toNat : Rat) / 10000, za := (g.za.toNat : Rat) / 10000
    cap := if g.learned && g.cap ≠ 0 then some ((g.cap.toNat : Rat) / 100) else none
    uc := (g.uc.toNat : Rat) / 10000, unverified := g.unverified, eps := epsOf g.eps
    if1 := (g.if1.toInt : Rat) / 1000, if2 := (g.if2.toInt : Rat) / 1000 }) s

/-- A published limit, 0.1 A. -/
def limOf (l : List Word) (k : Nat) : Rat := ((l.getD k 0).toInt : Rat)

/-- An instant a number of seconds back. -/
def ago (s : State) (sec : Word) : Nat := s.tim.tb - sec.toNat * tSec

/-- The active module's values of a channel. -/
def takeChannel (s : State) (c : ChanRecon) : State :=
  let n := c.channel
  let s := modAsy n (fun a => { a with
    pubLim := { c2 := limOf c.chg 0, c10 := limOf c.chg 1, c60 := limOf c.chg 2,
                d2 := limOf c.dis 0, d10 := limOf c.dis 1, d60 := limOf c.dis 2 }
    fu := (c.fu.toNat : Rat) / 10000, derating := c.derating
    restReq := if c.restReq then some (ago s c.reqAge) else none
    gap := if c.gap then a.gap else none, contLost := c.contLost, eps := epsOf c.epsCh
    anchorAt := some (s.tim.station - BitVec.ofNat 64 (c.anchorAge.toNat * tSec))
    cont := some (c.charge, c.edgeCnt, c.nodeId) }) s
  let s := if some n = allChans.find? (populated s) then { s with asy := { s.asy with eps := epsOf c.epsSeg } } else s
  modMeas n (fun m => { m with bleed := c.bleed }) s

/-- The assay cycle of a channel; a channel that the series carries no block for is in none. -/
def takeAssay (l : List AssayRecon) (n : Chan) (s : State) : State :=
  match l.find? (fun a => a.channel == n) with
  | none => if s.cyc[n].phase = 0 then s else modCyc n (fun c => { c with phase := 0 }) s
  | some a =>
    let q := a.cycleQ.toInt
    let was := s.cyc[n].phase
    let s := modCyc n (fun c => { c with
      phase := a.phase.toNat, started := s.tim.station - BitVec.ofNat 64 (a.elapsed.toNat * tSec)
      phaseAt := if was = a.phase.toNat then c.phaseAt else s.tim.station
      tTop := a.tTop, tBot := a.tBot, cycleQ := q, qTop := s.asyCh[n].charge - q }) s
    let pct (h : Half) : Rat := (h.toNat : Rat) / 10000
    forEach (numbered 0 a.anchors) (fun g s => modGrp n g.1 (fun x => { x with
      top := (pct g.2.zTop, pct g.2.uTop), bot := (pct g.2.zBot, pct g.2.uBot) }) s) s

/-- The learned-data record of a channel: a newer one than the standby's own goes into its retained store, where the write
gives it the next number, which is the record's own (R364; 10 R315). -/
def takeLearned (s : State) (x : Chan × LearnedRec) : State :=
  let old := s.cyc[x.1].seq
  let s := loadLearned x.1 x.2 s
  if old = x.2.seq then s else writeLearned x.1 (modCyc x.1 (fun c => { c with seq := x.2.seq - 1 }) s)

/-- The records of impedance of the channel in rotation. -/
def takeImp (s : State) (r : ImpRec) : State := loadImp (Fin.ofNat 64 (r.index.toNat / 256)) (r.index.toNat % 256) r s

/-- What the difference does to READY (R364). -/
def judgeDelta (dz : Rat) (s : State) : State :=
  let above := decide (dz > (pNat s Prm.twnReconTol : Rat))
  let overRun := if above then s.twn.overRun + 1 else 0
  let within := if above then 0 else s.twn.within + 1
  { s with twn := { s.twn with
      maxDz := dz, overRun := overRun, within := within, diverge := if above then s.twn.diverge + 1 else s.twn.diverge
      diverged := if overRun ≥ 10 then true else if within ≥ 10 then false else s.twn.diverged
      reconciles := s.twn.reconciles + 1, reconciledAt := some s.tim.tb } }

/-- Adopt a reconciliation (R364). -/
def takeReconcile (x : Reconcile) (s : State) : State :=
  let dz := x.groups.foldl (fun (a : Rat) g => max a (deltaZ s g)) 0
  let s := x.channels.foldl takeChannel (x.groups.foldl takeGroup (judgeDelta dz s))
  let s := forEach (allChans.filter (populated s)) (takeAssay x.assays) s
  x.imps.foldl takeImp (x.learned.foldl takeLearned s)

/-- RECONCILE_RX (R364). -/
def execReconcileRx (hdr : SeamHdr) (x : Reconcile) (s : State) : Out := seamSeries hdr (takeReconcile x) s

/-! ## CONFIG and IMAGE (R365, R368) -/

/-- The record that a list of entries makes: what is not listed is at its default. -/
def listedValues (l : List ConfigEntry) : Tab (List Byte) := l.foldl (fun t e => putValue t e.id.toNat e.value) []

/-- CONFIG_RX (R365, R368): applied as one commit once its record is in the retained store. -/
def execConfigRx (hdr : SeamHdr) (configSeq : Word) (entries : List ConfigEntry) (crcOk : Bool) (s : State) : Out :=
  seamSeries hdr (fun s =>
    if !crcOk then s
    else
      let r : CfgRecord := { values := listedValues entries, marked := (entries.filter (·.marked)).map (fun e => e.id.toNat),
                             seq := configSeq, taken := [] }
      queueWrite .config { s with cfg := { s.cfg with next := some r } }) s

/-- IMAGE_RX (R365): the image of the active module goes into the bank that is not running, is verified, and is never
activated by itself. -/
def execImageRx (hdr : SeamHdr) (version : Word) (bytes : List Byte) (s : State) : Out :=
  seamSeries hdr (fun s =>
    let k := otherBank s.pwr.bank
    let held := (bankOf s k).valid && (bankOf s k).version = version
    if !pBool s Prm.twnImageFollow || held || s.img.chunk.isSome || s.pwr.warn || blockFenced s 0x0103 0xFFFF then s
    else
      let s := modBank k (fun b => { b with valid := false, bytes := [] }) s
      { s with img := { s.img with chunk := some { bank := k, offset := 0, data := bytes, last := true }, following := true } }) s

end Sys2Proof.Machine
end

