-- ==== Sys2Proof/Machine/NodeRows.lean ====
section
/-! DEFINITION. What a node says of itself: STAT (04 R115 to R119; 05 R133, R143; 11 R330; 12 R359) and CAPS (05 R144 to R146,
R150; 01 R13; 11 R349). -/

namespace Sys2Proof.Machine

/-! ## STAT -/

/-- Generations that a RUNNING port reports (08 R226). -/
def sawGens (p : Chan) (l : List Word) (s : State) : State :=
  if running s p then { s with stg := { s.stg with reported := newestOf (s.stg.reported :: l.map some) } } else s

/-- The reported output state while no EDGES record has arrived since the port entered RUNNING (11 R330). -/
def reportState (p : Chan) (code : Byte) (s : State) : State :=
  if !running s p || !s.insCh[p].noRecord then s
  else
    let st := OutState.ofCode code
    let was := reported s p
    let s := modIns p (fun x => { x with repState := st }) s
    modCon p (fun c => { c with bypassedAt := if st ≠ some .bypassed then none
                                              else if was = some .bypassed && c.bypassedAt.isSome then c.bypassedAt else some s.tim.station }) s

/-- STAT_RECEIVED. STALE, the SCHEDs and ABORTs that the node discards (05 R154, R156), is the node's own count and no field of
STAT: a free value (log 5). -/
def execStatReceived (p : Chan) (hdr : FrameHdr) (x : Stat) (t4 : Stamp) (s : State) : Out :=
  if !receiving s p then done s s
  else
    let t := (acceptHdr p hdr false s).2
    let f := drawWord t
    let t := modTxn p (fun y => { y with stat := some x, stale := f.1.truncate 32 }) f.2
    let t := if x.timing then timingReply p x t4 t else t
    let t := if x.streamFail && !t.txns[p].sreset then streamReset p false t else t
    let t := sawGens p [x.genNewest, x.genExec] (reportState p x.state t)
    let t := sawEpoch x.epoch t
    let t := if running t p && !t.ports[p].settled then placeStart p t else t
    done s (judgeContact p (servicePoll p (seqPoll p none t)))

/-! ## CAPS -/

/-- The side on which a node must see this module (01 R13). -/
def sideExpected (s : State) : Bool := twinBit s && oddAddr s

/-- The other RUNNING port that holds a NODE_ID. -/
def sameNode (s : State) (p : Chan) (id : DWord) : Option Chan :=
  (runningPorts s).find? (fun q => q ≠ p && s.txns[q].caps.any (fun c => c.nodeId == id))

/-- Whether a time in 12.5 ns units is set and shorter than a node's minimum in ns. -/
def tooShort (v ns : Nat) : Bool := v ≠ 0 && v * 25 < ns * 2

/-- The features that the configuration uses (R145 check 7): edge bursts, carrier-locked averaging, the open-wire scan. -/
def featuresOk (s : State) (f : Half) : Bool :=
  f.getLsbD 2 && (pNat s Prm.asyAvgMode ≠ 1 || f.getLsbD 0) && (pNat s Prm.asyOwScan = 0 || f.getLsbD 3)

/-- The checks of R145 that end in UNPARTNERED, but for check 3. -/
def capsFault (s : State) (p : Chan) (x : Caps) : Option Nat :=
  if x.cells.toNat ≠ cellCount s p || x.temps.toNat ≠ tempCount s p then some 3
  else if x.full ≠ fullBridge s p then some 4
  else if tooShort (pNat s (Prm.insDeadTime + (groupOf s p).val)) x.minDead.toNat || tooShort (pNat s Prm.insMinPulse) x.minPulse.toNat then some 5
  else if !featuresOk s x.features then some 6
  else none

/-- The port is CROSS_WIRED (01 R13; R111). -/
def crossWire (p : Chan) (x : Caps) (s : State) : State :=
  let said := s.ports[p].saidCrossWired
  let s := modPort p (fun y => { y with saidCrossWired := true }) (leaveRunning p .crossWired s)
  settleRefused p (if said then s
    else raise 0x8506 p.val [ef 28 0 (bN x.sideB), ef 28 1 (bN (sideExpected s)), ef 32 0 x.nodeId.toNat] s)

/-- Two ports present one node (R146): the higher one fails check 3. -/
def duplicate (p q : Chan) (x : Caps) (s : State) : State :=
  unpartner p 2 (raise 0x8507 p.val [ef 28 0 q.val, ef 29 0 p.val, ef 32 0 x.nodeId.toNat] s)

/-- A changed NODE_ID erases the calibration on record (06 R182). -/
def eraseCalib (p : Chan) (id : DWord) (s : State) : State :=
  if s.meas[p].calib.any (fun c => c.node ≠ id) then queueWrite (.calibration p) (modMeas p (fun m => { m with calib := none }) s) else s

/-- A node that waits to go dormant is placed DORMANT at the start (02 R44). -/
def placeCaps (p : Chan) (x : Caps) (s : State) : State :=
  if x.mode = 3 && !s.ports[p].settled && !s.con[p].retiredRec then settlePort p (setCh p .dormant 0 false s) else placeStart p s

/-- Every check has passed: the port is RUNNING (R145). -/
def capsAccepted (p : Chan) (x : Caps) (s : State) : State :=
  let changed := decide (x.nodeId ≠ s.cyc[p].nodeId)
  let fresh := !running s p
  let s := modTxn p (fun y => { y with caps := some x, reExchange := false, edgeCnt := none, sched := none }) s
  let s := modPort p (fun y => { y with state := .running, saidUnpartnered := false, saidCrossWired := false, saidRefused := false
                                        tfCause := if fresh then 0 else y.tfCause }) s
  let s := modIns p (fun y => { y with noRecord := true, repState := none, abortWait := false, execState := none }) s
  let s := modMeas p (fun m => { m with hasReport := m.hasReport && !fresh }) s
  let s := recomputeDeadline (eraseCalib p x.nodeId s)
  let s := sawEpoch x.epoch (sawGens p [x.gen] (reportState p x.state s))
  let s := if s.cyc[p].dormantAt ≠ 0 then wake p s.tim.station s else s
  let s := sendSetups p (placeCaps p x s)
  let s := serviceCaps p x.image (packExchange p x changed s)
  if s.ports[p].tone == .healthy then causeOff p 11 s else s

/-- An exchange that fails ends the node service that waited for it (12 R380). -/
def exchangeFails (p : Chan) (s : State) : State := if (serviceOf s p).isSome then endService p .wrongState s else s

/-- CAPS_RECEIVED (R144 to R146, R150). -/
def execCapsReceived (p : Chan) (hdr : FrameHdr) (x : Caps) (s : State) : Out :=
  if !receiving s p then done s s
  else
    let a := acceptHdr p hdr true s
    let t := a.2
    if !a.1 || !(t.ports[p].state == .exchange || (running t p && t.txns[p].reExchange)) then done s t
    else if x.proto.toNat / 256 ≠ 1 then done s (unpartner p 1 (exchangeFails p t))
    else if x.sideB ≠ sideExpected t then done s (crossWire p x (exchangeFails p t))
    else match sameNode t p x.nodeId with
      | some q => done s (duplicate p q x (exchangeFails p t))
      | none => match capsFault t p x with
        | some c => done s (unpartner p c (exchangeFails p t))
        | none => done s (capsAccepted p x t)

end Sys2Proof.Machine
end

