-- ==== Sys2Proof/Machine/SafetyRows.lean ====
section
/-! DEFINITION. The safety supervisor (15): inputs, function states, discrepancy, reset, outputs, degraded mode, lockout, the
hallmark switches, and its events. -/

namespace Sys2Proof.Machine

/-! ## Configuration from the switches (*HB-C to HB-E*, *Pair wiring*) -/

/-- Latched value of a hallmark block, 0 HB-A to 4 HB-E. -/
def hallmark (s : State) (b : Fin 5) : Byte := s.saf.latched[b]

/-- Type code of a pair. -/
def pairType (s : State) (k : SafetyPair) : Nat :=
  if k.val < 4 then (hallmark s 2).toNat / 4 ^ k.val % 4 else (hallmark s 3).toNat / 4 ^ (k.val - 4) % 4

/-- TH_EN and TH_PAIR name a pair. -/
def thNamed (s : State) (k : SafetyPair) : Bool := bitOf (hallmark s 4).toNat 3 && (hallmark s 4).toNat % 8 = k.val

/-- The pair is the two-hand control. -/
def twoHand (s : State) (k : SafetyPair) : Bool := thNamed s k && pairType s k = 0

/-- The pair is configured. -/
def pairUsed (s : State) (k : SafetyPair) : Bool := pairType s k ≠ 0 || twoHand s k

/-- The pair is an emergency stop. -/
def eStop (s : State) (k : SafetyPair) : Bool := pairType s k = 1

/-- The pair starts by itself: a guard door or light curtain with AUTO_RESET at 1. -/
def autoStart (s : State) (k : SafetyPair) : Bool := bitOf (hallmark s 4).toNat 6 && 2 ≤ pairType s k

/-- Discrepancy time T in ms. -/
def discTime (s : State) : Nat := [20, 50, 100, 500].getD ((hallmark s 4).toNat / 16 % 4) 20

/-- Contact A or B of a pair. -/
def contactA (k : SafetyPair) : SafetyIn := ⟨2 * k.val, by omega⟩
def contactB (k : SafetyPair) : SafetyIn := ⟨2 * k.val + 1, by omega⟩

/-- Pair of an input. -/
def pairOf (i : SafetyIn) : SafetyPair := ⟨i.val / 2, by omega⟩

/-- The input is contact B. -/
def isB (i : SafetyIn) : Bool := i.val % 2 = 1

/-- Test-pulse source of an input. -/
def sourceOf (i : SafetyIn) : Fin 4 := ⟨i.val / 8 * 2 + i.val % 2, by omega⟩

/-- The input is a contact input of a configured pair. -/
def contactIn (s : State) (i : SafetyIn) : Bool := pairUsed s (pairOf i) && pairType s (pairOf i) ≠ 3

def modSi (i : SafetyIn) (f : SiSt → SiSt) (s : State) : State := { s with saf := { s.saf with si := vmod s.saf.si i f } }
def modPair (k : SafetyPair) (f : PairSt → PairSt) (s : State) : State := { s with saf := { s.saf with pair := vmod s.saf.pair k f } }
def modSo (o : SafetyOut) (f : SoSt → SoSt) (s : State) : State := { s with saf := { s.saf with so := vmod s.saf.so o f } }

/-! ## Status (R447, R452, R453) -/

/-- Function state codes. -/
def FnState.code : FnState → Nat
  | .off => 0
  | .demand => 1
  | .resetPending => 2
  | .permit => 3
  | .fault => 4
  | .faultClearable => 5
  | .waitRelease => 6
  | .lockout => 7

/-- A lockout stands. -/
def locked (s : State) : Bool :=
  s.saf.configInvalid || s.saf.internal || s.saf.lockHall || s.saf.lockDegraded || (List.finRange 8).any (fun (o : SafetyOut) => s.saf.so[o].high)

/-- Every emergency stop is in PERMIT. -/
def stopsPermit (s : State) : Bool := (List.finRange 8).all (fun k => !eStop s k || s.saf.pair[k].state == .permit)

/-- An output is commanded on (R447). -/
def soOn (s : State) (o : SafetyOut) : Bool :=
  s.saf.running && pairUsed s o && s.saf.pair[o].state == .permit && stopsPermit s && !locked s && !s.saf.so[o].fault

/-- Outputs commanded on. -/
def soMask (s : State) : Nat := maskOf 8 (fun i => soOn s (Fin.ofNat 8 i))

/-- The request of R453. -/
def safetyCalls (s : State) : Bool := !stopsPermit s || locked s

/-! ## Events (R456) -/

/-- The main domain takes safety events. -/
def takesSafety (s : State) : Bool := s.pwr.mod == .ready || s.pwr.mod == .safe

/-- DATA with AGE in bytes 60 to 63. -/
def withAge (ms : Nat) (d : BitVec 288) : List Nat := [d.toNat, ef 60 0 (min 0xFFFFFFFF ms)]

/-- Raise a safety event, or hold it until the module is READY; more than 64 held drop the oldest. -/
def safeEvent (code subject : Nat) (data : List Nat) (s : State) : State :=
  if takesSafety s then raise code subject data s
  else
    let e : HeldSafety := { code := BitVec.ofNat 16 code, pinned := alwaysPinned code, data := BitVec.ofNat 288 (data.foldl (· ||| ·) 0), at_ := s.tim.tb }
    { s with saf := { s.saf with held := (s.saf.held ++ [e]).drop (s.saf.held.length + 1 - 64)
                                 lost := if s.saf.held.length ≥ 64 then s.saf.lost + 1 else s.saf.lost } }

/-- SUBJECT of a safety event: the output for SAFETY_OUTPUT_FAULT, else the module. -/
def safeSubject (code : Nat) (data : Nat) : Nat := if code = 0x8807 then data % 8 else 0xFFFF

/-- Hand the held events over at READY. -/
def handOver (s : State) : State :=
  forEach s.saf.held (fun e s =>
    raise e.code.toNat (safeSubject e.code.toNat e.data.toNat) (withAge ((s.tim.tb - e.at_) / tMs) e.data) s)
    { s with saf := { s.saf with held := [] } }

/-- SAFETY_DEMAND. -/
def demandEvent (k : SafetyPair) (ended : Bool) (s : State) : State :=
  safeEvent 0x8801 0xFFFF [ef 28 0 k.val, ef 28 3 (bN ended), ef 28 4 (pairType s k), ef 29 0 s.saf.pair[k].state.code, ef 30 0 (soMask s)] s

/-- DISCREPANCY. -/
def discEvent (k : SafetyPair) (ended : Bool) (s : State) : State :=
  safeEvent 0x8802 0xFFFF [ef 28 0 k.val, ef 28 3 (bN s.saf.pair[k].firstB), ef 28 4 (bN ended)] s

/-- SAFETY_OUTPUT_FAULT. -/
def soEvent (o : SafetyOut) (kind : Nat) (ended : Bool) (s : State) : State :=
  safeEvent 0x8807 o.val [ef 28 0 o.val, ef 28 3 kind, ef 28 5 (bN ended)] s

/-- Eight hours in ticks. -/
def degradedTicks : Nat := 8 * 3600 * tSec

/-- Remaining time of degraded mode in ms, 0 outside it. -/
def degradedMs (s : State) : Nat :=
  match s.saf.degraded with
  | some d => if s.saf.lockDegraded then 0 else (degradedTicks - (s.tim.tb - d.at_)) / tMs
  | none => 0

/-- DEGRADED_MODE. -/
def degEvent (d : DegSt) (ended expired : Bool) (s : State) : State :=
  safeEvent 0x8805 0xFFFF [ef 28 0 (bN d.switch), ef 28 1 (bN ended), ef 28 2 (bN expired), ef 29 0 d.index, ef 32 0 (degradedMs s)] s

/-! ## Function states (R439 to R441) -/

/-- Set a function's state: DEMANDS counts entries into DEMAND; SAFETY_DEMAND when PERMIT is entered or left. -/
def setFn (k : SafetyPair) (new : FnState) (s : State) : State :=
  let old := s.saf.pair[k].state
  if old = new then s
  else
    let s := modPair k (fun p => { p with state := new, since := s.tim.tb, sync := none }) s
    let s := if new = .demand then { s with saf := { s.saf with demands := s.saf.demands + 1 } } else s
    if new = .permit then demandEvent k true s else if old = .permit then demandEvent k false s else s

/-- An input permits: recognised, and not chattering. -/
def permits (s : State) (i : SafetyIn) : Bool := s.saf.si[i].permit && !s.saf.si[i].chatter

/-- A hand of the pair chatters. -/
def handsChatter (s : State) (k : SafetyPair) : Bool := s.saf.si[contactA k].chatter || s.saf.si[contactB k].chatter

/-- Two-hand control while a hand chatters: it stays in demand (R437, R441). The synchronism count runs from a hand held
meanwhile, so that the end of the chatter gives it no new start. -/
def holdHands (k : SafetyPair) (s : State) : State :=
  let st := s.saf.pair[k].state
  let s := if st == .permit || st == .waitRelease then setFn k .demand s else s
  let held := s.saf.si[contactA k].permit || s.saf.si[contactB k].permit
  if s.saf.pair[k].state == .demand then
    modPair k (fun p => { p with sync := if held then some (p.sync.getD s.tim.tb) else none }) s
  else s

/-- Two-hand control (R440). -/
def evalHands (k : SafetyPair) (s : State) : State :=
  let a := permits s (contactA k)
  let b := permits s (contactB k)
  match s.saf.pair[k].state with
  | .demand =>
    (match s.saf.pair[k].sync with
    | none =>
      if a && b then setFn k .permit s
      else if a || b then modPair k (fun p => { p with sync := some s.tim.tb }) s else s
    | some t =>
      if a && b then
        let skew := s.tim.tb - t
        if skew ≤ 499 * tMs then setFn k .permit s
        else if skew ≥ 501 * tMs then setFn k .waitRelease s
        else (let r := drawBool s; setFn k (if r.1 then .permit else .waitRelease) r.2)
      else if a || b then s else modPair k (fun p => { p with sync := none }) s)
  | .permit => if a && b then s else setFn k (if a || b then .waitRelease else .demand) s
  | .waitRelease => if a || b then s else setFn k .demand s
  | .fault => if s.saf.si[contactA k].permit || s.saf.si[contactB k].permit then s else setFn k .faultClearable s
  | .faultClearable => if s.saf.si[contactA k].permit || s.saf.si[contactB k].permit then setFn k .fault s else s
  | _ => s

/-- The function of any other pair (*Function transitions*). -/
def evalPair (k : SafetyPair) (s : State) : State :=
  let a := s.saf.si[contactA k].permit
  let b := s.saf.si[contactB k].permit
  let both := permits s (contactA k) && permits s (contactB k)
  match s.saf.pair[k].state with
  | .demand => if both then setFn k (if autoStart s k then .permit else .resetPending) s else s
  | .resetPending | .permit => if both then s else setFn k .demand s
  | .fault => if a || b then s else setFn k .faultClearable s
  | .faultClearable => if a || b then setFn k .fault s else s
  | _ => s

/-- Evaluate the function of a pair after a change of its inputs. -/
def evalFn (k : SafetyPair) (s : State) : State :=
  if s.saf.pair[k].state == .off then s else if twoHand s k then
    (match handsChatter s k, s.saf.pair[k].state with
    | true, .demand => holdHands k s
    | true, .permit => holdHands k s
    | true, .waitRelease => holdHands k s
    | _, _ => evalHands k s)
  else evalPair k s

/-- State in which a function stands when a lockout or a fault has been cleared: a latched fault wins (R441). -/
def fnCleared (s : State) (k : SafetyPair) : FnState :=
  let p := s.saf.pair[k]
  if p.disc || p.pulse then .fault else if twoHand s k then .waitRelease else .demand

/-- Bring the functions into line with the lockout, and present the request to the matrix (R439, R453). -/
def safeSettle (s : State) : State :=
  let ks := (List.finRange 8 : List SafetyPair)
  let s := forEach ks (fun k s =>
    let st := s.saf.pair[k].state
    if st = .off then s
    else if locked s then setFn k .lockout s
    else if st = .lockout then evalFn k (setFn k (fnCleared s k) s) else s) s
  let s := { s with qm := { s.qm with safety := safetyCalls s } }
  if s.pwr.configLoaded && !s.pwr.clockHeld && !s.pwr.thermalHeld && !s.pwr.supplyHeld then evalMatrix s else s

/-- The answer of a row of the supervisor: nothing happens while VSAFE is absent. -/
def safeRow (s : State) (f : State → State) : Out := if s.saf.running then done s (safeSettle (f s)) else done s s

/-! ## Inputs (R435 to R437, R442) -/

/-- A change of an input's recognised state. -/
def setInput (i : SafetyIn) (permit : Bool) (s : State) : State :=
  if s.saf.si[i].permit = permit then s
  else
    let s := modSi i (fun x => { x with
      permit := permit, entries := if permit then x.entries else (s.tim.tb :: x.entries).take 10 }) s
    let k := pairOf i
    let differ := s.saf.si[contactA k].permit ≠ s.saf.si[contactB k].permit
    evalFn k (if differ then modPair k (fun p => { p with lastB := isB i }) s else s)

/-- SI_DEMAND (R435). -/
def execSiDemand (i : SafetyIn) (s : State) : Out := safeRow s (setInput i false)

/-- A source fed to the input reads low throughout (R436). -/
def starved (s : State) (i : SafetyIn) : Bool := contactIn s i && s.saf.srcLow.getLsbD (sourceOf i).val

/-- SI_PERMIT (R435). -/
def execSiPermit (i : SafetyIn) (s : State) : Out := safeRow s (fun s => if starved s i then s else setInput i true s)

/-- SI_CHATTER (R437). -/
def execSiChatter (i : SafetyIn) (starts : Bool) (s : State) : Out :=
  safeRow s (fun s =>
    if s.saf.si[i].chatter = starts then s
    else
      let s := modSi i (fun x => { x with chatter := starts }) s
      evalFn (pairOf i) (safeEvent 0x8804 0xFFFF [ef 28 0 i.val, ef 28 4 (bN (!starts))] s))

/-- A cause of degraded mode (R450, R451): the first enters it, a second one while it runs locks out. -/
def degrade (switch : Bool) (index : Nat) (s : State) : State :=
  match s.saf.degraded with
  | none =>
    let d : DegSt := { switch := switch, index := index, at_ := s.tim.tb, absentAt := none }
    degEvent d false false { s with saf := { s.saf with degraded := some d } }
  | some d =>
    if s.saf.lockDegraded then s
    else
      let s := { s with saf := { s.saf with lockDegraded := true } }
      degEvent d true false s

/-- Whether the cause of degraded mode is seen. -/
def degradeSeen (switch : Bool) (index : Nat) (present : Bool) (s : State) : State :=
  { s with saf := { s.saf with degraded := s.saf.degraded.map (fun d =>
      if d.switch = switch && d.index = index then
        { d with absentAt := if present then none else some (d.absentAt.getD s.tim.tb) }
      else d) } }

/-- A pulse fault puts a function into FAULT (R436). -/
def pulseFault (k : SafetyPair) (s : State) : State :=
  let st := s.saf.pair[k].state
  if st = .off || st = .lockout then s else setFn k .fault (modPair k (fun p => { p with pulse := true }) s)

/-- The pulse sample of one contact input. -/
def pulseInput (i : SafetyIn) (high : Bool) (s : State) : State :=
  let s := modSi i (fun x => { x with highRun := if high then x.highRun + 1 else 0 }) s
  if s.saf.si[i].highRun ≥ 2 then pulseFault (pairOf i) s else s

/-- PULSE_SAMPLE (R436, R450). -/
def execPulseSample (tp : Fin 4) (high : BitVec 16) (readHigh stuckLow : Bool) (s : State) : Out :=
  safeRow s (fun s =>
    let bit : BitVec 4 := 1#4 <<< tp.val
    let fed := (List.finRange 16).filter (fun i => contactIn s i && sourceOf i == tp)
    let run := if readHigh then s.saf.srcRun[tp] + 1 else 0
    let s := { s with saf := { s.saf with srcRun := vmod s.saf.srcRun tp (fun _ => run)
                                          srcLow := if stuckLow then s.saf.srcLow ||| bit else s.saf.srcLow &&& ~~~bit } }
    let s := degradeSeen false tp.val readHigh s
    let s := if run ≥ 2 && (s.saf.srcHigh &&& bit) = 0 then
        degrade false tp.val { s with saf := { s.saf with srcHigh := s.saf.srcHigh ||| bit } }
      else s
    let s := if stuckLow then forEach fed (fun i s => setInput i false s) s else s
    if readHigh || (s.saf.srcHigh &&& bit) ≠ 0 then s
    else forEach fed (fun i s => pulseInput i (high.getLsbD i.val) s) s)

/-- The tick of one pair (R442, R443). -/
def discTick (k : SafetyPair) (s : State) : State :=
  let p := s.saf.pair[k]
  if pairType s k = 0 then s
  else
    let differ := s.saf.si[contactA k].permit ≠ s.saf.si[contactB k].permit
    let s := modPair k (fun p => { p with count := if differ then p.count + 1 else 0 }) s
    let acts := p.state == .demand || p.state == .resetPending || p.state == .permit
    if s.saf.pair[k].count ≥ discTime s && acts then
      discEvent k false (setFn k .fault (modPair k (fun p => { p with disc := true, firstB := p.lastB }) s))
    else s

/-- DISCREPANCY_TICK (R442). -/
def execDiscrepancyTick (s : State) : Out := safeRow s (forEach (List.finRange 8) discTick)

/-- TWO_HAND_SYNC_TIMEOUT (R440). -/
def execTwoHandSyncTimeout (k : SafetyPair) (s : State) : Out :=
  safeRow s (fun s =>
    if twoHand s k && !handsChatter s k && s.saf.pair[k].state == .demand && s.saf.pair[k].sync.isSome then setFn k .waitRelease s else s)

/-! ## Reset (R443 to R445, R448, R450, R452) -/

/-- The function has stood in its state for the whole press. -/
def stood (s : State) (start : Nat) (k : SafetyPair) : Bool := s.saf.pair[k].since ≤ start

/-- What an accepted reset does to one function; SAFETY_DEMAND follows once every function and output has changed. -/
def resetFn (start : Nat) (k : SafetyPair) (s : State) : State :=
  if !stood s start k then s
  else match s.saf.pair[k].state with
    | .resetPending => modPair k (fun p => { p with state := .permit, since := s.tim.tb, sync := none }) s
    | .faultClearable =>
      let s := if s.saf.pair[k].disc then discEvent k true s else s
      let s := modPair k (fun p => { p with disc := false, pulse := false }) s
      evalFn k (setFn k (fnCleared s k) s)
    | _ => s

/-- Output faults and high outputs that have read correctly off for 1 s before the press clear. -/
def resetOut (start : Nat) (o : SafetyOut) (s : State) : State :=
  let x := s.saf.so[o]
  if !(x.fault || x.high) || start < x.okOffAt + tSec then s
  else
    let s := if x.high then soEvent o 2 true s else s
    let s := if x.fault then soEvent o 3 true s else s
    modSo o (fun x => { x with fault := false, high := false }) s

/-- Degraded mode ends once its cause has been absent for 10 s before the press, and with it a lockout that ended it, when
no other cause of it shows. -/
def resetDegraded (start : Nat) (s : State) : State :=
  match s.saf.degraded with
  | none => s
  | some d =>
    let gone := d.absentAt.any (fun t => decide (t + 10 * tSec ≤ start))
    let others := (List.finRange 4).any (fun (t : Fin 4) => s.saf.srcHigh.getLsbD t.val && s.saf.srcRun[t] ≠ 0) ||
      (List.finRange 8).any (fun (o : SafetyOut) => s.saf.so[o].failed ≠ 0 && s.saf.so[o].runs ≠ (0, 0))
    if !gone || others then s
    else
      let s := if s.saf.lockDegraded then s else degEvent d true false s
      let s := forEach (List.finRange 8) (fun (o : SafetyOut) s =>
        let f := s.saf.so[o].failed
        let s := if f.getLsbD 0 then soEvent o 0 true s else s
        let s := if f.getLsbD 1 then soEvent o 1 true s else s
        modSo o (fun x => { x with failed := 0, runs := (0, 0) }) s) s
      { s with saf := { s.saf with degraded := none, lockDegraded := false, srcHigh := 0 } }

/-- Blocks HB-C to HB-E have read their latched values for the whole press. -/
def hallBack (s : State) (start : Nat) : Bool := (s.saf.moved &&& 0b11100) = 0 && s.saf.restoredAt ≤ start

/-- SRST_PRESS_ACCEPTED (R444, R445). -/
def execSrstPressAccepted (ticks : Half) (s : State) : Out :=
  if ticks.toNat < 100 || 3000 < ticks.toNat || s.saf.stuck then done s s
  else
    safeRow s (fun s =>
      let start := s.tim.tb - ticks.toNat * tMs
      let pressed := (List.finRange 8 : List SafetyPair).filter (fun k => stood s start k && s.saf.pair[k].state == .resetPending)
      let s := { s with saf := { s.saf with resets := s.saf.resets + 1, srst := false } }
      let s := forEach (List.finRange 8) (resetFn start) s
      let s := forEach (List.finRange 8) (resetOut start) s
      let s := if s.saf.lockHall && hallBack s start then { s with saf := { s.saf with lockHall := false } } else s
      forEach pressed (demandEvent · true) (resetDegraded start s))

/-- RESET_STUCK (R444). -/
def execResetStuck (pressed : Bool) (s : State) : Out :=
  safeRow s (fun s =>
    if s.saf.stuck = pressed then s
    else if pressed then
      safeEvent 0x8803 0xFFFF [ef 30 0 3001]
        { s with saf := { s.saf with stuck := true, srst := true, stuckAt := s.tim.tb - 3001 * tMs } }
    else
      safeEvent 0x8803 0xFFFF [ef 28 0 1, ef 30 0 (min 0xFFFF ((s.tim.tb - s.saf.stuckAt) / tMs))]
        { s with saf := { s.saf with stuck := false, srst := false } })

/-! ## Outputs (R446, R448) -/

/-- OFF_PULSE_TEST (R446, R448): `sw` bit 0 the first switch, bit 1 the second. -/
def execOffPulseTest (o : SafetyOut) (sw : BitVec 2) (ok : Bool) (s : State) : Out :=
  safeRow s (fun s =>
    if !soOn s o then s
    else
      let second := sw.getLsbD 1
      let bit : BitVec 2 := if second then 2 else 1
      let was := s.saf.so[o].runs
      let run := if ok then 0 else (if second then was.2 else was.1) + 1
      let s := modSo o (fun x => { x with runs := if second then (x.runs.1, run) else (run, x.runs.2) }) s
      let s := degradeSeen true o.val (s.saf.so[o].runs ≠ (0, 0)) s
      if ok then { s with saf := { s.saf with offPulses := s.saf.offPulses + 1 } }
      else if run ≥ 2 && (s.saf.so[o].failed &&& bit) = 0 then
        degrade true o.val (soEvent o (bN second) false (modSo o (fun x => { x with failed := x.failed ||| bit }) s))
      else s)

/-- SO_READBACK_FAULT (R448). -/
def execSoReadbackFault (o : SafetyOut) (readsOn : Bool) (s : State) : Out :=
  safeRow s (fun s =>
    let on := soOn s o
    if readsOn && !on then
      let was := s.saf.so[o].high
      let s := modSo o (fun x => { x with high := true, okOffAt := s.tim.tb }) s
      if was then s else soEvent o 2 false s
    else if !readsOn && on then
      soEvent o 3 false (modSo o (fun x => { x with fault := true, okOffAt := s.tim.tb }) s)
    else s)

/-- DEGRADED_EXPIRY (R450, R451). -/
def execDegradedExpiry (s : State) : Out :=
  safeRow s (fun s =>
    match s.saf.degraded with
    | none => s
    | some d =>
      if s.saf.lockDegraded then s
      else degEvent d true true { s with saf := { s.saf with lockDegraded := true } })

/-- SAFETY_INTERNAL_FAULT (R451). -/
def execSafetyInternalFault (s : State) : Out := safeRow s (fun s => { s with saf := { s.saf with internal := true } })

/-! ## Hallmark switches (R429 to R432) -/

/-- Value of a block in a scan. -/
def scanByte (x : HallmarkScan) (b : Fin 5) : Byte :=
  match b.val with
  | 0 => x.hbA
  | 1 => x.hbB
  | 2 => x.hbC
  | 3 => x.hbD
  | _ => x.hbE

/-- All five blocks. -/
def scanAll (x : HallmarkScan) : Vector Byte 5 := Vector.ofFn (scanByte x)

/-- HALLMARK_CHANGED. -/
def hallEvent (b : Fin 5) (restored : Bool) (s : State) : State :=
  safeEvent 0x8806 0xFFFF [ef 28 0 b.val, ef 28 3 (bN restored), ef 29 0 s.saf.latched[b].toNat, ef 30 0 s.saf.present[b].toNat] s

/-- HALLMARK_SCAN (R431, R432). -/
def execHallmarkScan (scan : HallmarkScan) (s : State) : Out :=
  safeRow s (fun s =>
    let was := s.saf.moved
    let now : BitVec 5 := BitVec.ofNat 5 (maskOf 5 (fun i =>
      let b : Fin 5 := Fin.ofNat 5 i
      scanByte scan b ≠ s.saf.latched[b] || scan.contradictory.getLsbD i))
    let s := { s with saf := { s.saf with
      present := scanAll scan, contradictory := scan.contradictory, moved := now
      lockHall := s.saf.lockHall || (now &&& 0b11100) ≠ 0
      restoredAt := if (was &&& 0b11100) ≠ 0 && (now &&& 0b11100) = 0 then s.tim.tb else s.saf.restoredAt } }
    forEach (List.finRange 5) (fun b s =>
      let a := was.getLsbD b.val
      let c := now.getLsbD b.val
      if c && !a then hallEvent b false s else if a && !c then hallEvent b true s else s) s)

/-- VSAFE_LOSS (R427; 18 R514): the outputs go off and the request ends. -/
def execVsafeLoss (s : State) : Out :=
  if !s.saf.running then done s s
  else
    let x := s.saf
    let t := { s with saf := { running := false, latched := x.latched, present := x.present }, qm := { s.qm with safety := false } }
    done s (if t.pwr.configLoaded && !t.pwr.clockHeld && !t.pwr.thermalHeld && !t.pwr.supplyHeld then evalMatrix t else t)

/-- The configuration is invalid (R430). -/
def hallInvalid (s : State) : Bool := (List.finRange 8).any (fun k => thNamed s k && pairType s k ≠ 0)

/-- VSAFE_START (R427, R429, R430, R439). HB-A and HB-B stay as the boot ROM latched them. -/
def execVsafeStart (scan : HallmarkScan) (s : State) : Out :=
  if s.saf.running then done s s
  else
    let a := s.saf.latched[(0 : Fin 5)]
    let b := s.saf.latched[(1 : Fin 5)]
    let l := ((scanAll scan).set 0 a).set 1 b
    let t := { s with saf := { running := true, latched := l, present := scanAll scan, contradictory := scan.contradictory,
                               restoredAt := s.tim.tb } }
    let t := { t with saf := { t.saf with configInvalid := hallInvalid t } }
    let t := forEach (List.finRange 8) (fun (k : SafetyPair) t =>
      if pairUsed t k then setFn k (if twoHand t k then .waitRelease else .demand) t else t) t
    done s (safeSettle t)

/-! ## SAFETY_STATUS (R454, R455) -/

/-- w3: recognised inputs and the outputs as they read. -/
def safeInputs (s : State) : Nat := maskOf 16 (fun i => s.saf.si[(Fin.ofNat 16 i : SafetyIn)].permit)
def safeOutputs (s : State) : Nat := maskOf 8 (fun i => soOn s (Fin.ofNat 8 i) || s.saf.so[(Fin.ofNat 8 i : SafetyOut)].high)

/-- w4. -/
def safeStates (s : State) : Nat := ((List.finRange 8).map (fun (k : SafetyPair) => s.saf.pair[k].state.code * 16 ^ k.val)).sum

/-- w5. -/
def safeFaults (s : State) : Nat :=
  let pm (f : PairSt → Bool) : Nat := maskOf 8 (fun i => f s.saf.pair[(Fin.ofNat 8 i : SafetyPair)])
  let om := maskOf 8 (fun i => let x := s.saf.so[(Fin.ofNat 8 i : SafetyOut)]; x.fault || x.high || x.failed ≠ 0)
  pm (·.disc) + pm (·.pulse) * 2 ^ 8 + (s.saf.srcHigh ||| s.saf.srcLow).toNat * 2 ^ 16 + om * 2 ^ 20 + bN s.saf.stuck * 2 ^ 28 +
    bN (s.saf.moved ≠ 0) * 2 ^ 29 + bN s.saf.configInvalid * 2 ^ 30 + bN (locked s) * 2 ^ 31

/-- SAFETY_STATUS (R454); FENCED while VSAFE is absent (18 R514). -/
def execSafetyStatus (h : Hdr) (s : State) : Out :=
  hostCmd h 0x0801 0 .none false (fun s =>
    if !s.saf.running then .now (reply .fenced) s
    else .now (okWords [(3, safeInputs s + safeOutputs s * 2 ^ 16), (4, safeStates s), (5, safeFaults s), (6, degradedMs s)]) s) s

/-- The lockout clears only at a power-on (R452). -/
def lockPower (s : State) : Bool := s.saf.configInvalid || s.saf.internal

/-- Safety status object 0x8100 (R455). -/
def safeObject (s : State) : List Byte :=
  obj 32 [fld 0 0 (safeInputs s), fld 2 0 (safeOutputs s), fld 3 0 (soMask s), fld 4 0 (safeStates s), fld 8 0 (safeFaults s),
    fld 12 0 (degradedMs s), fld 16 0 (bN (s.saf.degraded.isSome && !s.saf.lockDegraded)), fld 16 1 (bN (lockPower s)),
    fld 16 2 (bN s.qm.safety), fld 16 3 (bN s.saf.srst), fld 18 0 s.saf.lost.toNat, fld 20 0 s.saf.demands.toNat,
    fld 24 0 s.saf.resets.toNat, fld 28 0 s.saf.offPulses.toNat]

/-- CRC-16 of R431's CHECK, bit by bit. -/
def crc16Bit (c : BitVec 16) (b : Bool) : BitVec 16 := if c.getLsbD 15 != b then (c <<< 1) ^^^ 0x1021 else c <<< 1

/-- One byte, most significant bit first. -/
def crc16Byte (c : BitVec 16) (x : Byte) : BitVec 16 := [7, 6, 5, 4, 3, 2, 1, 0].foldl (fun c i => crc16Bit c (x.getLsbD i)) c

/-- CHECK. -/
def hallCheck (l : List Byte) : BitVec 16 := l.foldl crc16Byte 0xFFFF

/-- SAF_HALLMARK 0x8000. -/
def hallObject (s : State) : List Byte :=
  s.saf.latched.toList ++ s.saf.present.toList ++ [s.saf.contradictory.zeroExtend 8, 0] ++
    leBytes 2 (hallCheck [hallmark s 2, hallmark s 3, hallmark s 4]).toNat ++ [0, 0]

end Sys2Proof.Machine
end

