-- ==== Sys2Proof/Machine/StoreRows.lean ====
section
/-! DEFINITION. The retained store (02 R47; 03 R87; 09 R287; 10 R313 to R317; 17 R495, R499) and the VLOGIC supply while it
fails (02 R46 to R48). -/

namespace Sys2Proof.Machine

/-! ## Records -/

/-- Number of a retained record in the table of writes; pinned events are entries and no record. The checkpoint has two
slots, written in turn (02 R47). -/
def recordNo (s : State) : StoreWrite → Option Nat
  | .config => some 0
  | .checkpoint _ => some (if s.asy.ckSeq.getLsbD 0 then 3 else 1)
  | .compensation => some 2
  | .pinned _ => none
  | .calibration n => some (0x100 + n.val)
  | .learned n _ => some (0x200 + n.val)
  | .retirement n => some (0x300 + n.val)
  | .loadOutput o => some (0x400 + o.val)
  | .impedance n => some (0x500 + n.val)

/-- Writes that a record takes in the store's life (17 R499). -/
def writeLimit : Nat := 5000000000

/-- The fault of the retained store (17 *Fault causes*). -/
def storeFault (permanent : Bool) (s : State) : State := raiseFault 0x0102 0xFFFF 2 permanent noId s

/-- A write is counted; the fault at the limit (17 R499). -/
def countWrite (w : StoreWrite) (s : State) : State :=
  match recordNo s w with
  | none => s
  | some k =>
    let c := tabGet 0 s.store.writes k + 1
    let s := { s with store := { s.store with writes := tabPut 0 s.store.writes k c } }
    if c ≥ writeLimit && !s.store.worn then storeFault true { s with store := { s.store with worn := true } } else s

/-- A checkpoint entry as stored: z in 10^-9, u_b and z_a in 0.01 % (09 R287). -/
def ckEntry (g : GrpSt) : CkEntry :=
  { z := (satI 32 (toLsb (g.z * 1000000000)) : Int) / (1000000000 : Rat), ub := (units 2 (g.ub * 10000) : Rat) / 10000
    za := (units 2 (g.za * 10000) : Rat) / 10000 }

/-- The entry of a group that nothing is known of. -/
def ckBlank : CkEntry := ckEntry {}

/-- CHECKPOINT (09 R287). -/
def checkpointEvent (kind : Nat) (s : State) : State :=
  raise 0x8403 0xFFFF [ef 28 0 kind, ef 32 0 s.asy.ckSeq.toNat, ef 36 0 (min 0xFFFFFFFF ((s.tim.tb - s.store.startedAt) / tUs))] s

/-- The checkpoint is in the store. -/
def checkpointWritten (kind : Nat) (s : State) : State :=
  let entries : Tab CkEntry := allChans.foldl (fun (t : Tab CkEntry) n =>
    s.asyCh[n].grps.foldl (fun (t : Tab CkEntry) g => tabPut ckBlank t (256 * n.val + g.1 % 256) (ckEntry g.2)) t) []
  let cont : Tab (DWord × Word × DWord) := allChans.foldl (fun (t : Tab (DWord × Word × DWord)) n =>
    match s.asyCh[n].cont with
    | some c => tabPut (0, 0, 0) t n.val c
    | none => t) []
  let s := { s with store := { s.store with checkpoint := entries, ckCont := cont, hasCheckpoint := true }
                    asy := { s.asy with ckSeq := s.asy.ckSeq + 1 } }
  let s := if kind = 1 || s.asy.ckMissed then checkpointEvent kind s else s
  if kind = 0 then { s with asy := { s.asy with ckMissed := false } } else s

/-- The learned-data record of a channel is in the store (10 R313, R315). -/
def learnedWritten (n : Chan) (afterCycle : Bool) (s : State) : State :=
  let s := modCyc n (fun c => { c with seq := c.seq + 1, hasRec := true }) s
  let s := { s with store := { s.store with learned := tabPut none s.store.learned n.val (some (learnedNow s n)) } }
  if !afterCycle then s
  else if s.cyc[n].authOk && !s.cyc[n].unverified then startHistory n s
  else cycleDoneEvent n true false s

/-- The impedance records of a channel are in the store (10 R314). -/
def impedanceWritten (n : Chan) (s : State) : State :=
  { s with store := { s.store with
      imps := (groupsOf s n).foldl (fun (t : Tab (Option ImpRec)) k => tabPut none t (256 * n.val + k) (some (impNow s n k))) s.store.imps } }

/-- What a completed write has put into the store. -/
def stored (w : StoreWrite) (s : State) : State :=
  match w with
  | .config => configWritten s
  | .checkpoint k => checkpointWritten k s
  | .learned n a => learnedWritten n a s
  | .impedance n => impedanceWritten n s
  | .calibration n => { s with store := { s.store with calibs := tabPut none s.store.calibs n.val s.meas[n].calib } }
  | .pinned e => { s with ev := { s.ev with pinned := s.ev.pinned ++ [e], pinQueue := s.ev.pinQueue.erase e } }
  | .retirement _ => s
  | .loadOutput _ => s
  | .compensation => s

/-- What waits for a write that failed. -/
def unstored (w : StoreWrite) (s : State) : State :=
  match w with
  | .config => configLost s
  | .learned n true => cycleDoneEvent n false false s
  | _ => s

/-- RECORD_WRITE_DONE (R313, R499; 17 *Fault causes* 0x0102). -/
def execRecordWriteDone (ok : Bool) (s : State) : Out :=
  match s.store.inFlight with
  | none => done s s
  | some w =>
    let t := { s with store := { s.store with inFlight := none } }
    if ok then done s (stored w (countWrite w t))
    else done s (storeFault false (unstored w { t with store := { t.store with fenced := true } }))

/-- CHECKPOINT_PERIODIC (R47; 09 R287): every 60 s of operation. -/
def execCheckpointPeriodic (s : State) : Out :=
  if !fwRuns s || s.pwr.mod == .booting || s.pwr.mod == .imageFault then done s s
  else
    let waits := s.store.queue.contains (.checkpoint 0) || s.store.inFlight == some (.checkpoint 0)
    let t := if waits || s.pwr.warn || s.store.fenced || s.store.worn then { s with asy := { s.asy with ckMissed := true } } else s
    done s (if s.pwr.warn then t else queueWrite (.checkpoint 0) t)

/-! ## Supply (R46 to R48) -/

/-- HOLDUP_TEST_DONE (R46). -/
def execHoldupTestDone (ok : Bool) (time : Half) (s : State) : Out :=
  if !mainUp s || !s.pwr.imageRuns then done s s
  else
    let t := { s with pwr := { s.pwr with holdupTested := true, holdupFault := !ok, holdupOk := ok && !s.pwr.warn } }
    done s (if ok then t else raise 0x8103 0xFFFF [ef 28 0 time.toNat] t)

/-- Write-backs of assay cycles that the warning keeps from starting (10 R317). -/
def notStarted (s : State) : List Chan :=
  s.store.queue.filterMap (fun w => match w with
    | .learned n true => some n
    | _ => none)

/-- POWER_FAIL_WARNING (R47): no record write starts except the checkpoint. -/
def execPowerFailWarning (vlogic : Half) (s : State) : Out :=
  if !mainUp s || s.pwr.warn then done s s
  else
    let t := { s with pwr := { s.pwr with warn := true, warnAt := s.tim.tb, warnHandedOver := false, holdupOk := false } }
    let t := raise 0x8104 0xFFFF [ef 28 0 vlogic.toNat] t
    let t := forEach (notStarted t) (fun n s => notStored n 0 s) t
    done s (if t.pwr.mod == .ready || t.pwr.mod == .safe then queueWrite (.checkpoint 1) t else t)

/-- POWER_FAIL_HANDOVER (R47; 12 R374): 10 ms after the warning, VLOGIC still below 16.5 V. -/
def execPowerFailHandover (s : State) : Out :=
  if s.pwr.warn && s.twn.open_.isNone && mayOffer s then done s (openHandover .powerFail s) else done s s

/-- POWER_FAIL_WITHDRAWN (R48). -/
def execPowerFailWithdrawn (s : State) : Out :=
  if !s.pwr.warn then done s s
  else
    let us := min 0xFFFFFFFF ((s.tim.tb - s.pwr.warnAt) / tUs)
    let p := s.pwr
    let t := { s with pwr := { p with warn := false, holdupOk := p.holdupTested && !p.holdupFault } }
    done s (raise 0x8105 0xFFFF [ef 28 0 us, ef 32 0 (bN p.warnHandedOver)] t)

end Sys2Proof.Machine
end

