-- ==== Sys2Proof/Machine/Startup.lean ====
section
/-! DEFINITION. Resets of the main domain and the start-up that follows (02 R26, R27, R39 to R49; 13 R398 to R400; 17 R491,
R494; 18 R507, R508). -/

namespace Sys2Proof.Machine

/-! ## What a reset takes and what it keeps (R39) -/

/-- The column MRST, RESET_MODULE, Watchdog, which a thermal shutdown shares (13 R400): time, lock state and log are kept. -/
def keepsLog : StartCause → Bool
  | .mrst | .resetModule | .watchdog | .thermal => true
  | .powerOn | .clockLoss | .rail => false

/-- A checkpoint: 16,384 entries and no 40 µs record. -/
def isCheckpoint : StoreWrite → Bool
  | .checkpoint _ => true
  | _ => false

/-- Time that a write takes (R47). -/
def writeTicks (w : StoreWrite) : Nat := if isCheckpoint w then 6040 * tUs else 40 * tUs

/-- The record in flight when the main domain stops: it is in the store when `whole`, or its time has run; otherwise the
previous slot stays valid, and a learned value is lost (R27; 10 R317). The touchmark follows at the next exchange. -/
def cutWrite (whole : Bool) (s : State) : State :=
  match s.store.inFlight with
  | none => s
  | some w =>
    let t := { s with store := { s.store with inFlight := none } }
    let fits := if whole then !isCheckpoint w else s.tim.tb - s.store.startedAt ≥ writeTicks w
    match fits, w with
    | true, .learned n true => modCyc n (fun c => { c with tmPending := c.authOk && !c.unverified }) (stored w (countWrite w t))
    | true, _ => stored w (countWrite w t)
    | false, .learned n true => { t with store := { t.store with torn := t.store.torn ||| (1#64 <<< n.val) } }
    | false, _ => t

/-- Effective values at a start: the persisted ones, but for those that wait for the next commit (03 R88). -/
def startValues (s : State) : Tab (List Byte) :=
  s.cfg.marked.foldl (fun t k => tabPut [] t k (tabGet [] s.cfg.eff k)) s.cfg.stored

/-- A host port through a reset of the main domain. -/
def portAfter (c : StartCause) (r : PortRegs) : PortRegs :=
  if c = .resetModule then { link := r.link, width := r.width, speed := r.speed } else {}

/-- A fault record is in the pinned region. -/
def pinnedFault (s : State) (r : FaultRec) : Bool := s.ev.pinned.any (fun e => e.code == 0x8B01 && e.seq == r.id)

/-- The fault handler through a reset: L3 records are restored ENDED from the pinned region; the others are gone, and are
closed at READY when the log is kept (17 R491). -/
def faultsAfter (s : State) : FltSt :=
  { recs := (s.flt.recs.filter (fun r => r.level = 3 && pinnedFault s r)).map (fun r => { r with state := .ended }) }

/-- Records to close at READY. -/
def toClose (c : StartCause) (s : State) : List (Word × Half × Half × Half × Nat) :=
  if keepsLog c then
    s.pwr.closeAtReady ++ (s.flt.recs.filter (fun r => r.level ≤ 2)).map (fun r => (r.id, r.cause, r.subject, r.count, r.level))
  else []

/-- State of charge from the checkpoint (09 R287), and node continuity from it. -/
def restoreSoc (s : State) : State :=
  let s := s.store.checkpoint.foldl (fun s e =>
    modGrp (Fin.ofNat 64 (e.1 / 256)) (e.1 % 256) (fun g => { g with z := e.2.z, ub := e.2.ub, za := e.2.za }) s) s
  s.store.ckCont.foldl (fun s e => modAsy (Fin.ofNat 64 e.1) (fun a => { a with cont := some e.2 }) s) s

/-- Learned data, impedances and calibrations from the retained store (06 R182; 10 R313, R314). -/
def restoreLearned (s : State) : State :=
  let s := s.store.learned.foldl (fun s e => match e.2 with
    | some r => loadLearned (Fin.ofNat 64 e.1) r s
    | none => s) s
  let s := s.store.imps.foldl (fun s e => match e.2 with
    | some r => loadImp (Fin.ofNat 64 (e.1 / 256)) (e.1 % 256) r s
    | none => s) s
  s.store.calibs.foldl (fun s e => modMeas (Fin.ofNat 64 e.1) (fun m => { m with calib := e.2 }) s) s

/-- What the retained store keeps of a channel beside its records. -/
def conAfter (c : ConCh) : ConCh :=
  { closes := c.closes, opens := c.opens, retiredRec := c.retiredRec, retiredNode := c.retiredNode, retiredPack := c.retiredPack
    retireCause := if c.retiredRec then c.retireCause else 0, retireByCount := c.retiredRec && c.retireByCount }

/-- A trip input keeps the levels at its pin. -/
def tripAfter (t : TripSt) : TripSt := { demand := t.demand, wiring := t.wiring }

/-- The hold flags, supply and boot record through a reset. -/
def pwrAfter (c : StartCause) (s : State) : PwrSt :=
  { cause := c, clockHeld := s.pwr.clockHeld, thermalHeld := s.pwr.thermalHeld, supplyHeld := s.pwr.supplyHeld
    hbA := s.pwr.hbA, hbB := s.pwr.hbB, bank := s.pwr.bank, warn := c ≠ .powerOn && s.pwr.warn, warnAt := s.pwr.warnAt
    prefBank := s.pwr.prefBank, attempts := s.pwr.attempts, boot := s.pwr.boot, closeAtReady := toClose c s, tap := s.pwr.tap }

/-- The log through a reset. -/
def logAfter (c : StartCause) (e : EvSt) : EvSt :=
  if keepsLog c then { seq := e.seq, log := e.log, pinned := e.pinned, pinQueue := e.pinQueue, pinFull := e.pinFull }
  else { pinned := e.pinned, pinFull := e.pinFull }

/-- The store through a reset: its contents stay, and nothing waits. -/
def storeAfter (x : StoreSt) : StoreSt := { x with queue := [], inFlight := none, fenced := false }

/-- The crucible through a reset: what the retained store and its analog parts hold. -/
def thmAfter (c : StartCause) (x : ThmSt) : ThmSt :=
  { die := x.die, comparators := x.comparators, shutdowns := if c = .powerOn then 0 else x.shutdowns
    latched := if c = .powerOn then none else x.latched, shutTimes := if c = .powerOn then [] else x.shutTimes
    factory := x.factory, learned := x.learned }

/-- The main domain is reset (R39). The safety supervisor runs on; the window is cleared by the row itself. -/
def mainReset (c : StartCause) (s : State) : State :=
  let s := forEach allChans (fun n s => abortCycle n 6 s) (cutWrite (c = .thermal) s)
  let r : State := {
    tim := if keepsLog c then { s.tim with follow := false } else { tb := s.tim.tb }
    pwr := pwrAfter c s
    hst := { a := portAfter c s.hst.a, b := portAfter c s.hst.b, activityAt := s.tim.tb }
    ev := logAfter c s.ev
    cfg := { stored := s.cfg.stored, marked := s.cfg.marked, eff := startValues s, seq := s.cfg.seq }
    qm := { trips := s.qm.trips.map tripAfter, safety := s.qm.safety }
    cyc := s.cyc.map (fun x => { nodeId := x.nodeId, tmPending := x.tmPending })
    asy := { ckSeq := s.asy.ckSeq }
    store := storeAfter s.store
    con := s.con.map conAfter
    img := { a := s.img.a, b := s.img.b }
    thm := thmAfter c s.thm
    lo := s.lo
    saf := s.saf
    flt := faultsAfter s
    free := s.free
    pending := s.pending }
  loReset (c = .powerOn) (restoreLearned (restoreSoc r))

/-! ## The boot ROM and the image (R42) -/

/-- The bank that the boot ROM starts, whether it is the other one, and whether for the count. -/
def bootBank (s : State) : Option (Bank × Bool × Bool) :=
  let p := s.pwr.prefBank
  let o := otherBank p
  let pv := (bankOf s p).valid
  let ov := (bankOf s o).valid
  if pv && s.pwr.attempts < 3 then some (p, false, false)
  else if ov then some (o, true, pv)
  else if pv then some (p, false, false)
  else none

/-- Read HB-A and HB-B (01 R15; 15 R429). -/
def readHallmark (a b : Byte) (s : State) : State :=
  { s with pwr := { s.pwr with hbA := a, hbB := b },
           saf := { s.saf with latched := (s.saf.latched.set 0 a).set 1 b, present := (s.saf.present.set 0 a).set 1 b } }

/-- The image runs: transmitters light, bring-up begins on every populated port, and a standalone module is master. -/
def imageStarts (s : State) : State :=
  let s := { s with
    pwr := { s.pwr with imageRuns := true, configLoaded := true, matrixOk := true, dark := false }
    thm := { s.thm with mode := decide (pNat s Prm.thmMode = 1) }
    twn := if twinBit s then s.twn else { s.twn with role := .active, epoch := some (epochFor (oddAddr s) s) } }
  let s := forEach (allChans.filter (populated s)) (fun p s => modPort p (fun x => { x with state := .dark }) s) s
  evalMatrix (recomputeDeadline s)

/-- The main domain leaves reset: the start is counted, the boot ROM picks a bank (R42; 17 R494). -/
def boot (s : State) : State :=
  let s := { s with pwr := { s.pwr with boot := s.pwr.boot + 1 } }
  match bootBank s with
  | none => { s with pwr := { s.pwr with mod := .imageFault } }
  | some (k, other, byCount) =>
    imageStarts { s with pwr := { s.pwr with bank := k, fallback := other, fallbackByCount := byCount, attempts := s.pwr.attempts + 1 } }

/-- Start once nothing holds the main domain in reset; the boot ROM reads the switches as they stand. -/
def bootIfUp (s : State) : State := if mainUp s then boot (readHallmark s.saf.present[0] s.saf.present[1] s) else s

/-! ## Reset rows -/

/-- POWER_ON (R39). -/
def execPowerOn (hbA hbB : Byte) (s : State) : Out :=
  let t := { s with pwr := { s.pwr with clockHeld := false, supplyHeld := false, thermalHeld := s.pwr.thermalHeld && s.thm.comparators ≠ 0 } }
  let t := readHallmark hbA hbB (mainReset .powerOn t)
  doneWin s [] (if mainUp t then boot t else t)

/-- A reset that the main domain leaves at once. -/
def resetNow (c : StartCause) (s : State) : Out := doneWin s [] (bootIfUp (mainReset c s))

/-- MRST (18 R508; R39): held active for 10 µs, then released. -/
def execMrst (s : State) : Out := resetNow .mrst s

/-- WATCHDOG_RESET (R39). -/
def execWatchdogReset (s : State) : Out := if mainUp s then resetNow .watchdog s else done s s

/-- DEFERRED_RESTART (03 R73; 12 R379). -/
def execDeferredRestart (s : State) : Out :=
  if s.pwr.restart.isSome && mainUp s then resetNow .resetModule s else done s s

/-- CLOCK_LOSS (R26, R27). -/
def execClockLoss (_kind : ClockFault) (s : State) : Out :=
  doneWin s [] (mainReset .clockLoss { s with pwr := { s.pwr with clockHeld := true } })

/-- RAIL_FAULT (R39): the clocks are reset with the main domain. -/
def execRailFault (s : State) : Out :=
  doneWin s [] (mainReset .rail { s with pwr := { s.pwr with clockHeld := true } })

/-- CLOCK_RESTORED (R27): the clocks run, and station time counts from zero. -/
def execClockRestored (s : State) : Out :=
  if s.pwr.clockHeld then
    done s (bootIfUp { s with pwr := { s.pwr with clockHeld := false }, tim := { tb := s.tim.tb } })
  else done s s

/-- RESERVE_EXHAUSTED (R47): the reserve follows a warning. -/
def execReserveExhausted (s : State) : Out :=
  if !s.pwr.warn || s.pwr.supplyHeld then done s s
  else doneWin s [] (mainReset .powerOn { s with pwr := { s.pwr with supplyHeld := true } })

/-! ## READY (R45) -/

/-- FAULT_CLEARED of the records that the reset took away (17 R491). -/
def closeOld (s : State) : State :=
  let l := s.pwr.closeAtReady
  forEach l (fun (x : Word × Half × Half × Half × Nat) s =>
    raiseAt 0x8B02 x.2.2.2.2 false s.tim.station x.2.2.1.toNat
      [ef 28 0 x.2.1.toNat, ef 30 0 3, ef 32 0 x.1.toNat, ef 36 0 x.2.2.2.1.toNat] s)
    { s with pwr := { s.pwr with closeAtReady := [] } }

/-- Shutdowns within the last hour. -/
def shutCount (s : State) : Nat := (s.thm.shutTimes.filter (fun t => s.tim.tb - t < 3600 * tSec)).length

/-- THERMAL_SHUTDOWN and THERMAL_RESTART (13 R400). -/
def postShutdown (s : State) : State :=
  match s.thm.latched with
  | none => s
  | some r =>
    let s := { s with thm := { s.thm with latched := none } }
    let s := raiseAt 0x8603 0xF true r.at_ 0xFFFF
      [ef 28 0 r.sensor.toNat, ef 28 2 (bN r.long), ef 30 0 r.peak.toNat, ef 32 0 (min 0xFFFFFFFF r.wait)] s
    let hot := s.thm.die.foldl max (s.thm.die.headD 0)
    raiseAt 0x8604 0xF true s.tim.station 0xFFFF
      [ef 28 0 (min 0xFFFFFFFF ((s.tim.tb - r.tb) / tMs)), ef 32 0 (wrapI 16 hot), ef 34 0 (min 255 (shutCount s))] s

/-- Learned values that a torn record lost (10 R317). -/
def postTorn (s : State) : State :=
  let l := allChans.filter (fun n => s.store.torn.getLsbD n.val)
  forEach l (fun n s => notStored n 1 s) { s with store := { s.store with torn := 0 } }

/-- Code of a start's cause (R524). -/
def StartCause.code : StartCause → Nat
  | .powerOn => 0
  | .mrst => 1
  | .resetModule => 2
  | .watchdog => 3
  | .clockLoss => 4
  | .rail => 5
  | .thermal => 6

/-- Code of a bank. -/
def bankN : Bank → Nat
  | .a => 0
  | .b => 1

/-- The module becomes READY (R42, R45, R46). -/
def becomeReady (s : State) : State :=
  let s := { s with pwr := { s.pwr with mod := .ready, wasReady := true, attempts := 0 } }
  let s := if s.pwr.fallback then
      raise 0x8102 0xFFFF [ef 28 0 (bankN s.pwr.bank), ef 28 1 (bN s.pwr.fallbackByCount)] s
    else s
  let s := raise 0x8101 0xFFFF [ef 28 0 s.pwr.cause.code, ef 29 0 (bankN s.pwr.bank), ef 29 1 (bN s.pwr.fallback),
    ef 29 2 (bN s.pwr.holdupFault), ef 32 0 s.pwr.boot.toNat] s
  loReady (handOver (postTorn (postShutdown (closeOld s))))

/-- MODULE_READY (R45). -/
def execModuleReady (s : State) : Out :=
  let p := s.pwr
  if p.mod == .booting && mainUp s && p.imageRuns && p.configLoaded && p.matrixOk && portsSettled s then done s (becomeReady s)
  else done s s

/-! ## Die sensors (13 R398 to R400) -/

/-- THERMAL_THROTTLE with source die. -/
def dieEvent (step : Nat) (s : State) : State :=
  let hot := s.thm.die.foldl max (s.thm.die.headD 0)
  throttleEvent 0xFFFF 0xFF step 2 10000 ((s.thm.die.findIdx? (· == hot)).getD 0) hot s

/-- Offer the arm for the die warning, unless it was received by a hand-over within the last 10 minutes. -/
def dieOffer (s : State) : State :=
  if s.twn.open_.isNone && mayOffer s && !lately s.tim.tb s.thm.receivedAt (600 * tSec) then openHandover .die s else s

/-- DIE_WARNING (R398). -/
def execDieWarning (d0 d1 d2 d3 : Half) (s : State) : Out :=
  let l := [d0.toInt, d1.toInt, d2.toInt, d3.toInt]
  let t := { s with thm := { s.thm with die := l } }
  let w := pInt s Prm.thmDieWarn
  if !mainUp s || !s.pwr.configLoaded then done s t
  else if !s.thm.dieWarn && l.any (fun d => decide (w ≤ d)) then
    done s (dieOffer (dieEvent 1 { t with thm := { t.thm with dieWarn := true } }))
  else if s.thm.dieWarn && l.all (fun d => decide (d ≤ w - 50)) then
    done s (dieEvent 0 { t with thm := { t.thm with dieWarn := false } })
  else done s t

/-- DIE_WARN_RECHECK (R398). -/
def execDieWarnRecheck (s : State) : Out := if mainUp s && s.thm.dieWarn then done s (dieOffer s) else done s s

/-- The checkpoint that a shutdown abandons (02 R49; 09 R287). -/
def abandonCheckpoint (s : State) : State :=
  if s.store.inFlight.any isCheckpoint || s.store.queue.contains (.checkpoint 1) then checkpointEvent 2 s else s

/-- Wait for the record in flight, ns. -/
def flightWait (s : State) : Nat :=
  match s.store.inFlight with
  | some w => if isCheckpoint w then 0 else (writeTicks w - (s.tim.tb - s.store.startedAt)) * 5 / 4
  | none => 0

/-- THERMAL_SHUTDOWN (R399, R400): the comparators need no clock and work in every state of the main domain. A start that
ends so is not counted (02 R42). -/
def execThermalShutdown (comparators : BitVec 4) (sensor : BitVec 2) (peak : Half) (s : State) : Out :=
  let t := { s with thm := { s.thm with comparators := comparators } }
  if comparators = 0 then done s t
  else if s.pwr.thermalHeld then
    done s { t with thm := { t.thm with latched := t.thm.latched.map (fun r => if r.peak.toInt < peak.toInt then { r with peak := peak } else r) } }
  else
    let times := (t.tim.tb :: t.thm.shutTimes).filter (fun x => t.tim.tb - x < 3600 * tSec)
    let r : ShutRec := { at_ := t.tim.station, sensor := sensor, peak := peak, wait := flightWait t, long := decide (times.length ≥ 3), tb := t.tim.tb }
    let t := abandonCheckpoint t
    let t := { t with
      thm := { t.thm with shutdowns := t.thm.shutdowns + 1, shutTimes := times, latched := some r }
      pwr := { t.pwr with thermalHeld := true, attempts := if t.pwr.wasReady then t.pwr.attempts else t.pwr.attempts - 1 } }
    doneWin s [] (mainReset .thermal t)

/-- THERMAL_RESTART (R399). -/
def execThermalRestart (s : State) : Out :=
  if s.pwr.thermalHeld then
    done s (bootIfUp { s with pwr := { s.pwr with thermalHeld := false }, thm := { s.thm with comparators := 0 } })
  else done s s

/-! ## Test access port (18 R507) -/

/-- TAP_INSTRUCTION (R507): every boundary-scan instruction but BYPASS, IDCODE and SAMPLE needs MRST active. It touches no
other state. -/
def execTapInstruction (ir : TapInstr) (mrst : Bool) (s : State) : Out :=
  let free := match ir with
    | .bypass | .idcode | .sample => true
    | .extest | .other => false
  done s { s with pwr := { s.pwr with tap := if free || mrst then ir else .bypass } }

/-- The IDCODE register (R507). -/
def idcode : Word :=
  (Config.hardwareRevision.truncate 4 : BitVec 4) ++ (0x6440#16 ++ (Config.manufacturerCode ++ 1#1))

end Sys2Proof.Machine
end

