-- ==== Sys2Proof/Machine/FaultAction.lean ====
section
/-! DEFINITION. What the fault handler does about its current fault, internal faults, the restart of a fenced block,
FAULT_ACK and LOG_READ (17 R484 to R497). -/

namespace Sys2Proof.Machine

/-! ## Action steps (R485, R486, R488) -/

/-- Channel fences among the causes (17 *Fault causes*). -/
def fences (cause : Nat) : Bool := [0x0209, 0x020A, 0x020B, 0x020C, 0x020F, 0x0210].contains cause

/-- Retirements among the causes. -/
def retires (cause : Nat) : Bool := [0x0203, 0x020E, 0x0281].contains cause

/-- Step `k` of the fence of a channel (R342). -/
def fenceStep (n : Chan) (cause k : Nat) (s : State) : State :=
  if !isMaster s then s else if k = 0 then fenceHold n cause s else fenceDone n cause s

/-- Step `k` of the retirement of a channel (R345). -/
def retireStep (n : Chan) (k : Nat) (s : State) : State :=
  if !isMaster s then s
  else if k = 0 then (if running s n && live s.con[n].state then protect n s.con[n].retireCause.toNat true s else s)
  else if s.con[n].state = .retired then s
  else retireBegin n s.con[n].retireCause.toNat s.con[n].retireByCount false s

/-- Fence a function block (17 *Fault causes*). -/
def fenceBlock (cause subject : Nat) (s : State) : State :=
  let s := { s with flt := { s.flt with
    fencedBlocks := if blockFenced s cause subject then s.flt.fencedBlocks
                    else s.flt.fencedBlocks ++ [(BitVec.ofNat 16 cause, BitVec.ofNat 16 subject)] } }
  match cause with
  | 0x0102 => { s with store := { s.store with fenced := true } }
  | 0x0403 => { s with asy := { s.asy with arrayOff := true } }
  | 0x0601 => { s with thm := { s.thm with ts := s.thm.ts.map (fun x => { x with reading := none }) } }
  | 0x07FF =>
    let s := loReset false s
    { s with lo := { s.lo with fenced := true } }
  | _ => s

/-- Give a fenced block back after its restart (R486, R490). -/
def freeBlock (cause subject : Nat) (s : State) : State :=
  let s := { s with flt := { s.flt with
    fencedBlocks := s.flt.fencedBlocks.filter (fun x => x != (BitVec.ofNat 16 cause, BitVec.ofNat 16 subject)) } }
  match cause with
  | 0x0102 => { s with store := { s.store with fenced := false } }
  | 0x0403 => { s with asy := { s.asy with arrayOff := false } }
  | 0x07FF => loReady s
  | _ => s

/-- Steps of the action of a fault. -/
def stepsOf (r : FaultRec) : Nat :=
  if fences r.cause.toNat || retires r.cause.toNat then 2 else if r.level = 3 then 2 else 1

/-- Step `k` of an L3 action (R488): the offer, or the decision against one; then the decision after a withdrawal. -/
def l3Step (cause k : Nat) (s : State) : State :=
  if !isMaster s || s.pwr.mod == .safe then s
  else if k = 0 then
    if cause = 0x0302 then enterSafe s
    else if s.twn.open_.isSome then s
    else if mayOffer s then openHandover .fault s
    else enterSafe s
  else enterSafe s

/-- An L3 action waits: for READY, or for the offer in hand to be taken or withdrawn. -/
def l3Waits (r : FaultRec) (s : State) : Bool :=
  r.level = 3 && (s.pwr.mod == .booting || (r.steps = 1 && isMaster s && s.twn.open_.isSome))

/-- One step of a fault's action. -/
def actionStep (r : FaultRec) (s : State) : State :=
  let cause := r.cause.toNat
  let n : Chan := Fin.ofNat 64 r.subject.toNat
  if r.level = 3 then l3Step cause r.steps s
  else if fences cause then fenceStep n (cause % 256) r.steps s
  else if retires cause then retireStep n r.steps s
  else if r.level = 2 && cause ≠ 0x0301 then fenceBlock cause r.subject.toNat s
  else s

/-- FAULT_ACTION_STEP (R485): the next step of the current fault; after the last one the fault is done and the next of the
queue becomes current. -/
def execFaultActionStep (s : State) : Out :=
  match s.flt.current.bind (faultById s) with
  | none => done s s
  | some r =>
    if l3Waits r s then done s s
    else
      let t := actionStep r s
      let t := modFault r.id (fun r => { r with steps := r.steps + 1 }) t
      if r.steps + 1 < stepsOf r || t.flt.current ≠ some r.id then done s t
      else done s (nextCurrent (modFault r.id (fun r => { r with state := .done }) t))

/-! ## Internal faults (R484) -/

/-- A lockstep mismatch on a core pair, and on both within 1 s (17 *Fault causes*, 0x0401 and 0x0402). -/
def lockstepFault (pair : Nat) (s : State) : State :=
  let recent := s.asy.lockstep.filter (fun x => (s.tim.station - x.2).toNat ≤ tSec)
  let both := recent.any (fun x => x.1 ≠ pair)
  let s := { s with asy := { s.asy with lockstep := (pair, s.tim.station) :: recent } }
  let s := raiseFault 0x0401 pair 2 false noId s
  if both then raiseFault 0x0402 0xFFFF 3 true noId s else s

/-- INTERNAL_FAULT_DETECTED: the faults of the blocks inside the module that no other row brings. -/
def execInternalFaultDetected (cause subject : Half) (s : State) : Out :=
  if s.pwr.clockHeld || s.pwr.thermalHeld || s.pwr.supplyHeld then done s s
  else match cause.toNat with
    | 0x0101 => done s (raiseFault 0x0101 0xFFFF 3 true noId s)
    | 0x0102 => done s (raiseFault 0x0102 0xFFFF 2 false noId s)
    | 0x0103 => done s (raiseFault 0x0103 0xFFFF 2 false noId s)
    | 0x0104 => if subject.toNat < 2 then done s (raiseFault 0x0104 subject.toNat 2 false noId s) else done s s
    | 0x0401 => if subject.toNat < 2 then done s (lockstepFault subject.toNat s) else done s s
    | 0x0402 => done s (raiseFault 0x0402 0xFFFF 3 true noId s)
    | 0x0403 => done s (raiseFault 0x0403 0xFFFF 2 false noId s)
    | 0x0601 => done s (raiseFault 0x0601 0xFFFF 2 false noId s)
    | 0x07FF => done s (raiseFault 0x07FF 0xFFFF 2 false noId s)
    | _ => done s s

/-- L2_BLOCK_RESTART (R490): the block's test passes and the fault's cause has ended, or the cause is seen again. -/
def execL2BlockRestart (cause subject : Half) (ok : Bool) (s : State) : Out :=
  match findFault s cause.toNat subject.toNat with
  | none => done s s
  | some r =>
    if r.level ≠ 2 || r.permanent then done s s
    else if ok then done s (endFault cause.toNat subject.toNat (freeBlock cause.toNat subject.toNat s))
    else done s (raiseFault cause.toNat subject.toNat 2 false noId s)

/-! ## FAULT_ACK and LOG_READ (R492, R493, R496, R497) -/

/-- FAULT_ACK (R492). -/
def execFaultAck (h : Hdr) (id : Word) (s : State) : Out :=
  hostCmd h 0x0B02 4 .none false (fun s =>
    match ackFault id s with
    | none => .now (reply .wrongState) s
    | some r => .now (okWords [(4, r.1)]) r.2) s

/-- A log entry of 32 bytes (R493). -/
def logEntry (e : Event) : List Byte :=
  obj 32 [fld 0 0 e.code.toNat, fld 2 0 e.level.toNat, fld 2 4 (bN e.pinned), fld 2 5 (bN (e.data.toNat / 2 ^ 112 ≠ 0)),
          fld 2 6 (e.boot.toNat % 1024), fld 4 0 e.seq.toNat, fld 8 0 e.time.toNat, fld 16 0 e.subject.toNat,
          fld 18 0 (e.data.toNat % 2 ^ 112)]

/-- Place in the working log at which a copy from `first` begins: the oldest entry when `first` has been overwritten. -/
def logStart (s : State) (first : Word) : Nat :=
  match s.ev.log with
  | [] => 0
  | e :: _ => if newerEq32 first e.seq then (first - e.seq).toNat else 0

/-- Free the oldest entries of the pinned region; PINNED_LOG_FULL ends below 1,024 (R496). -/
def releasePinned (n : Nat) (s : State) : State :=
  let s := { s with ev := { s.ev with pinned := s.ev.pinned.drop n } }
  if s.ev.pinFull && s.ev.pinned.length + s.ev.pinQueue.length < pinSize then
    raise 0x8B04 0xFFFF [ef 28 0 1] { s with ev := { s.ev with pinFull := false } }
  else s

/-- LOG_READ (R497). -/
def execLogRead (h : Hdr) (first count w5 : Word) (bulk : Bulk) (s : State) : Out :=
  hostCmd h 0x0B01 20 .none true (fun s =>
    let pinned := w5.getLsbD 0
    if count.toNat < 1 || count.toNat > 4096 then .now (reply .outOfRange 4) s
    else if pinned && first.toNat ≥ pinSize then .now (reply .outOfRange 3) s
    else if !bulkOk s bulk (32 * count.toNat) then .now (reply .badParam 6) s
    else
      let source := if pinned then s.ev.pinned else s.ev.log
      let at_ := if pinned then first.toNat else logStart s first
      let entries := (source.drop at_).take count.toNat
      let from_ := if pinned then first.toNat else (entries.head?.map (fun e => e.seq.toNat)).getD first.toNat
      let bytes := entries.flatMap logEntry
      let time := (entries.head?.map (fun e => e.time)).getD 0
      let t := later1 h 0x0B01 (okWords [(3, entries.length), (4, from_), (5, (lastSeq s).toNat)]) s
      let t := if pinned && w5.getLsbD 1 && first = 0 then releasePinned entries.length t else t
      .now (reply .pending) t (bulkFill bulk 0 time bytes)) s

end Sys2Proof.Machine
end

