-- ==== Sys2Proof/Machine/StatusObjects.lean ====
section
/-! DEFINITION. What the host reads of the module: the status objects of every chapter (GET_PARAM), the BAR0 registers and the
window header (03 *BAR0 register map*, R527), and the entries of the stream kinds (03 *STREAM_SETUP kinds*). -/

namespace Sys2Proof.Machine

/-! ## Status objects -/

/-- Step of R333 that a connection stands in, 1 to 6; 0 for the steps of the other sequences. -/
def ConStep.number (q : ConSeq) : Nat :=
  if !connects q then 0
  else match q.step with
    | .waitBypass => 1
    | .openTest => 2
    | .prechargeCmd | .precharging => 3
    | .closeCmd | .closedTest => 4
    | .relayOpen => 5
    | .release => 6
    | _ => 0

/-- Channel connection status object (11 R352). -/
def conObject (s : State) (n : Chan) : List Byte :=
  let c := s.con[n]
  let step := match c.seq with
    | some q => ConStep.number q
    | none => 0
  let count := (c.counts.map (fun k => countOf s n k.1.toNat)).foldl Nat.max 0
  obj 32 [fld 0 0 (chCode s n), fld 1 0 c.cause.toNat, fld 2 0 (bN (c.protective || c.hostHold)), fld 2 1 (bN c.seq.isSome),
    fld 2 2 step, fld 3 0 ((s.txns[n].stat.map (fun (x : Stat) => x.contactor.toNat + 4 * x.precharge.toNat)).getD 0),
    fld 4 0 c.present.toNat, fld 8 0 c.closes.toNat, fld 12 0 c.opens.toNat, fld 16 0 c.fences.toNat, fld 20 0 (min 255 count),
    fld 24 0 (if c.retiredRec then c.retiredNode.toNat else 0)]

/-- Channel insertion status object (07 R221). -/
def insObject (s : State) (n : Chan) : List Byte :=
  let c := s.insCh[n]
  obj 32 [fld 0 0 c.eng.region, fld 0 3 (bN c.held), fld 0 4 (bN c.limited), fld 0 5 (bN c.neg), fld 0 6 (bN c.carrying),
    fld 1 0 (c.eng.dither % 16), fld 2 0 (units 2 (c.dmax * 10000)), fld 4 0 (c.eng.compare % 2 ^ 32), fld 8 0 (phaseOf s n % 2 ^ 32),
    fld 12 0 c.eng.suppressed.toNat, fld 16 0 c.eng.closed.toNat, fld 20 0 c.eng.reversals.toNat, fld 24 0 c.eng.moved.toNat,
    fld 28 0 c.trigMissed.toNat]

/-- Segment insertion status object (07 R221). -/
def segObject (s : State) : List Byte :=
  let x := s.ins
  obj 32 [fld 0 0 (bN x.direct), fld 0 1 (bN x.concentrated), fld 0 2 (bN x.saturated), fld 0 3 (bN x.clamped),
    fld 1 0 (activeChans s).length, fld 2 0 (wrapI 8 x.balSign), fld 4 0 (wrapI 32 x.vref), fld 8 0 (wrapI 32 x.vapplied),
    fld 12 0 (wrapI 32 x.vsum), fld 16 0 x.satPeriods.toNat, fld 20 0 x.clampPeriods.toNat, fld 24 0 x.concPeriods.toNat]

/-- Staging status object (08 R258). -/
def stgObject (s : State) : List Byte :=
  let x := s.stg
  obj 32 [fld 0 0 x.genLast.toNat, fld 4 0 x.genFirm.toNat, fld 8 0 (min 15 x.horizon), fld 9 0 (bN (horizonOk s)),
    fld 9 1 (bN s.qm.fwSilence), fld 9 2 (bN s.qm.fwHalt), fld 12 0 x.restages.toNat, fld 16 0 x.aborts.toNat,
    fld 20 0 x.splits.toNat, fld 24 0 x.staleExec.toNat, fld 28 0 x.coasts.toNat]

/-- Quench status object (08 R258). -/
def quenchObject (s : State) : List Byte :=
  let x := s.qm
  obj 32 [fld 0 0 x.latched.toNat, fld 1 0 (maskOf 8 (fun g => presentFor s (Fin.ofNat 8 g))), fld 2 0 (tripsInDemand s),
    fld 3 0 (maskOf 8 (fun i => let t := x.trips[(Fin.ofNat 8 i : TripIn)]; t.wiring || t.chatter)), fld 4 0 x.laneFailed.toNat,
    fld 4 3 (bN x.tripreq), fld 8 0 (maskOf 64 (fun p => s.ports[(Fin.ofNat 64 p : Chan)].tone == .fault)), fld 16 0 x.quenches.toNat,
    fld 20 0 x.blanked.toNat, fld 24 0 x.selftests.toNat, fld 28 0 x.selftestFails.toNat]

/-- Measurement status object (06 R190). -/
def measObject (s : State) (n : Chan) : List Byte :=
  let m := s.meas[n]
  obj 32 [fld 0 0 m.reports.toNat, fld 4 0 m.bursts.toNat, fld 8 0 m.touches.toNat, fld 12 0 m.skipped.toNat,
    fld 16 0 m.owTests.toNat, fld 20 0 m.plausFaults.toNat, fld 22 0 m.owSuspects.toNat, fld 24 0 (m.openWires.length % 256),
    fld 25 0 (bN (mubEffective s n)), fld 25 1 (bN m.calib.isSome), fld 26 0 m.discarded.toNat, fld 28 0 (wrapI 32 m.sumErr)]

/-- Channel state-of-charge status object (09 R286). -/
def socObject (s : State) (n : Chan) : List Byte :=
  let a := s.asyCh[n]
  obj 32 ([fld 0 0 (units 2 (a.pub.getD 0)), fld 2 0 (units 2 a.model), fld 4 0 (units 2 (a.unc * 10000)),
    fld 6 0 (bN a.restReq.isSome), fld 6 1 (bN a.grant.isSome), fld 6 2 (bN (deratingNow s n)), fld 6 3 (bN a.gap.isSome),
    fld 6 4 (bN a.contLost), fld 14 0 (units 2 (a.fu * 10000)), fld 16 0 a.anchors.toNat, fld 20 0 a.rejected.toNat,
    fld 24 0 (a.throughput / 2 ^ 32 % 2 ^ 32), fld 28 0 a.requests.toNat, fld 30 0 a.grants.toNat] ++
    (numbered 8 (a.limGroup.take 6)).map (fun x => fld x.1 0 (x.2 % 256)))

/-- Channel assay status object (10 R327). -/
def assayObject (s : State) (n : Chan) : List Byte :=
  let c := s.cyc[n]
  let learned := ((groupsOf s n).filter (fun i => (grpAt s n i).cap.isSome)).length
  let elapsed := if c.phase = 0 then 0 else (s.tim.station - c.started).toNat / tSec
  obj 32 [fld 0 0 c.phase, fld 0 3 (bN c.tmPending), fld 0 4 (bN c.unverified), fld 0 5 (bN c.authOk), fld 1 0 c.lastAbort.toNat,
    fld 2 0 learned, fld 4 0 (c.cycles % 2 ^ 32), fld 8 0 (elapsed % 2 ^ 32), fld 12 0 c.burstsOk.toNat, fld 16 0 c.burstsRej.toNat,
    fld 20 0 c.fits.toNat, fld 24 0 c.done.toNat, fld 26 0 c.aborted.toNat, fld 28 0 c.seq.toNat]

/-- A delay in 0.1 ns; all ones where there is none. -/
def delayField (d : Option Rat) : Nat := match d with
  | some x => units 4 x
  | none => 0xFFFF_FFFF

/-- Tone states (04 *Port status object*). -/
def ToneState.code : ToneState → Nat
  | .healthy => 0
  | .fault => 1
  | .downstream => 2
  | .lost => 3

/-- Port status object (04 R125). -/
def portObject (s : State) (p : Chan) : List Byte :=
  let x := s.ports[p]
  obj 32 [fld 0 0 x.state.code, fld 0 4 x.tone.code, fld 0 7 (bN (armed s p)), fld 1 0 x.tkStatus.toNat, fld 2 0 x.tfCause.toNat,
    fld 3 0 x.lostCause.toNat, fld 3 2 (bN x.light), fld 3 3 (bN x.lock), fld 4 0 (delayField x.delay), fld 8 0 (delayField x.round),
    fld 12 0 x.rxPower.toNat, fld 16 0 x.codeErrors.toNat, fld 20 0 x.toneLosses.toNat, fld 24 0 x.syncs.toNat, fld 28 0 x.outliers.toNat]

/-- Transaction status object (05 R156). -/
def txnObject (s : State) (p : Chan) : List Byte :=
  let x := s.txns[p]
  obj 32 [fld 0 0 x.framesRx.toNat, fld 4 0 x.framesBad.toNat, fld 8 0 x.seqGaps.toNat, fld 12 0 x.retxSent.toNat,
    fld 16 0 x.streamResets.toNat, fld 18 0 x.rcntTx.toNat, fld 19 0 x.rcntRx.toNat, fld 20 0 x.cmds.length, fld 22 0 x.unpartCause.toNat,
    fld 24 0 x.edgeGaps.toNat, fld 28 0 x.stale.toNat]

/-- CAPS payload (05 *CAPS payload*) as last accepted. -/
def capsObject (s : State) (p : Chan) : List Byte :=
  match s.txns[p].caps with
  | none => List.replicate 64 0
  | some c => obj 64 [fld 0 0 c.proto.toNat, fld 2 0 c.model.toNat, fld 4 0 c.nodeId.toNat, fld 12 0 c.image.toNat, fld 16 0 c.cells.toNat,
      fld 18 0 c.temps.toNat, fld 19 0 (bN c.sideB), fld 19 1 (bN c.dual), fld 19 2 (bN c.full), fld 19 3 (bN c.tmark),
      fld 20 0 c.txDelay.toNat, fld 22 0 c.rxDelay.toNat, fld 24 0 c.minDead.toNat, fld 26 0 c.minPulse.toNat, fld 28 0 c.features.toNat,
      fld 30 0 c.bleedMax.toNat, fld 32 0 c.epoch.toNat, fld 36 0 c.gen.toNat, fld 40 0 c.state.toNat, fld 41 0 c.contact.toNat,
      fld 42 0 c.mode.toNat, fld 44 0 c.packId.toNat]

/-- Crucible status object (13 R403). -/
def crucibleObject (s : State) : List Byte :=
  let x := s.thm
  let ts (p : TempIn → Bool) : Nat := maskOf 16 (fun i => p (Fin.ofNat 16 i))
  obj 64 ((numbered 0 (x.die.take 4)).map (fun d => fld (2 * d.1) 0 (wrapI 16 d.2)) ++
    (List.finRange 16).map (fun (i : TempIn) => fld (8 + 2 * i.val) 0 (match x.ts[i].reading with
      | some t => wrapI 16 t
      | none => 0x8000)) ++
    [fld 40 0 (ts (fun i => tsType s i ≠ 0 && x.ts[i].fault.isSome)), fld 42 0 (ts (fun i => x.ts[i].trip || x.ts[i].faultTrip)),
     fld 44 0 (ts (fun i => tsType s i ≠ 0 && s.tim.tb < x.ts[i].fastUntil)), fld 46 0 (bN x.mode), fld 46 1 (bN x.override),
     fld 46 2 (bN x.dieWarn), fld 48 0 (maskOf 64 (fun n => s.thmCh[(Fin.ofNat 64 n : Chan)].fast)), fld 56 0 x.shutdowns.toNat,
     fld 60 0 x.rorAlarms.toNat])

/-- Channel thermal status object (13 R403). -/
def thermalObject (s : State) (n : Chan) : List Byte :=
  let x := s.thmCh[n]
  let rate := (rated s n).foldl (fun (a : Option Int) r => match a with
    | some m => some (if m < r.2 then r.2 else m)
    | none => some r.2) none
  obj 16 [fld 0 0 (units 2 (x.f * 10000)), fld 2 0 x.step, fld 2 3 (bN (x.source = 1)), fld 2 4 (bN x.fast), fld 2 5 (bN x.ror.isSome),
    fld 3 0 (x.sensor.getD 0xFF), fld 4 0 (match hottest s n with
      | some t => wrapI 16 t.2
      | none => 0x8000), fld 6 0 (wrapI 16 (rate.getD noRate)), fld 8 0 (wrapI 16 x.median)]

/-- Output status object (14 R426). -/
def loObject (s : State) (o : LoadOut) : List Byte :=
  let x := s.lo.out[o]
  let next := match x.next with
    | some a => (if a ≤ s.tim.tb then 1 else (a - s.tim.tb + tMs - 1) / tMs)
    | none => 0
  obj 32 [fld 0 0 x.state.code, fld 0 4 (bN x.cmd), fld 0 5 (bN x.openLoad.isSome), fld 1 0 (x.k % 16), fld 1 4 x.lastKind.toNat,
    fld 2 0 x.current.toNat, fld 4 0 x.tj.toNat, fld 6 0 x.prof.cold.toNat, fld 8 0 x.prof.peak.toNat, fld 10 0 x.prof.tLimit.toNat,
    fld 12 0 x.prof.i1ms.toNat, fld 14 0 x.prof.i10ms.toNat, fld 16 0 x.prof.i100ms.toNat, fld 18 0 x.clampE.toNat, fld 20 0 x.ons.toNat,
    fld 24 0 x.faults.toNat, fld 28 0 (next % 2 ^ 32)]

/-- Group status object (14 R426). -/
def loGroupObject (s : State) : List Byte :=
  let groups := List.finRange 4
  obj 32 (groups.map (fun g => fld (2 * g.val) 0 s.lo.grp[g].vfeed.toNat) ++ groups.map (fun g => fld (8 + 2 * g.val) 0 s.lo.grp[g].igroup.toNat) ++
    [fld 16 0 (maskOf 32 (fun o => s.lo.out[(Fin.ofNat 32 o : LoadOut)].state == .uvOff)), fld 20 0 (maskOf 4 (fun g => s.lo.grp[(Fin.ofNat 4 g : Fin 4)].cut)),
     fld 21 0 (maskOf 4 (fun g => (loOuts (Fin.ofNat 4 g)).any (fun o => s.lo.out[o].state == .inrush)))])

/-- Takeover is open to a standby only by node witness (12 R370): no lane has been UP since its role changed. -/
def witnessOnly (s : State) : Bool := s.twn.role == .standby && !anyLane s && !s.twn.hadLane

/-- Twin status object (12 R384). -/
def twinObject (s : State) : List Byte :=
  let x := s.twn
  obj 32 [fld 0 0 (roleCode s), fld 0 3 (bN (x.partner.any (fun h => h.ready) && !x.lost)),
    fld 0 4 (bN (paired s && horizonOk s && (if isMaster s then partnerReady s else standbyReady s))), fld 0 5 (bN x.lost),
    fld 0 6 (bN (witnessOnly s)), fld 0 7 (bN x.mismatch.isSome),
    fld 1 0 (bN x.lanes[(0 : SeamLane)].up + 2 * bN x.lanes[(1 : SeamLane)].up), fld 2 0 x.lastCause.toNat, fld 4 0 (epochOf s).toNat,
    fld 8 0 x.takeovers.toNat, fld 12 0 x.reconciles.toNat, fld 16 0 x.diverge.toNat, fld 18 0 (units 2 x.maxDz),
    fld 20 0 (wrapI 32 (satI 32 (toLsb x.timeOffset))), fld 24 0 x.seamBad.toNat, fld 28 0 x.mirrorMiss.toNat]

/-- Handler status object (17 R498). -/
def handlerObject (s : State) : List Byte :=
  let x := s.flt
  obj 32 [fld 0 0 ((highestLevel s).getD 0xF), fld 0 4 (bN x.storm), fld 0 5 (bN (s.pwr.mod == .safe)), fld 1 0 x.queue.length,
    fld 2 0 (min 255 x.recs.length), fld 4 0 ((x.current.map BitVec.toNat).getD noId), fld 8 0 x.raised.toNat, fld 12 0 x.coalesced.toNat,
    fld 16 0 x.preemptions.toNat, fld 18 0 x.lost.toNat, fld 20 0 ((s.ev.log.head?.map (fun e => e.seq.toNat)).getD 0),
    fld 24 0 (lastSeq s).toNat, fld 28 0 (min pinSize s.ev.pinned.length), fld 30 0 (s.pwr.boot.toNat % 65536)]

/-- Fault states (17 *Open fault record*). -/
def FaultState.code : FaultState → Nat
  | .queued => 0
  | .current => 1
  | .done => 2
  | .ended => 3

/-- Open fault record k (17 R498). -/
def faultObject (s : State) (k : Nat) : List Byte :=
  match s.flt.recs[k]? with
  | none => List.replicate 32 0
  | some r => obj 32 [fld 0 0 r.id.toNat, fld 4 0 r.cause.toNat, fld 6 0 r.subject.toNat, fld 8 0 (r.level % 4), fld 8 2 r.state.code,
      fld 8 4 (bN r.permanent), fld 8 5 (bN r.acked), fld 10 0 r.count.toNat, fld 12 0 r.first.toNat, fld 20 0 r.last.toNat]

/-- The status object at an identifier (R125, R156, R190, R221, R258, R286, R327, R352, R384, R403, R426, R431, R455, R480,
R498); none where no object stands. -/
def statusObject (s : State) (id : Nat) : Option (List Byte) :=
  let from_ (base : Nat) : Nat := id - base
  let chan (base : Nat) : Chan := Fin.ofNat 64 (from_ base)
  let within (base count : Nat) : Bool := base ≤ id && id < base + count
  if within 0x2100 64 then some (conObject s (chan 0x2100))
  else if within 0x3100 64 then some (insObject s (chan 0x3100))
  else if id = 0x3140 then some (segObject s)
  else if id = 0x3150 then some (stgObject s)
  else if id = 0x3151 then some (quenchObject s)
  else if within 0x4900 64 then some (measObject s (chan 0x4900))
  else if within 0x4940 64 then some (socObject s (chan 0x4940))
  else if within 0x4980 64 then some (assayObject s (chan 0x4980))
  else if within 0x5100 64 then some (portObject s (chan 0x5100))
  else if within 0x5140 64 then some (txnObject s (chan 0x5140))
  else if within 0x5180 64 then some (capsObject s (chan 0x5180))
  else if id = 0x6100 then some (crucibleObject s)
  else if within 0x6140 64 then some (thermalObject s (chan 0x6140))
  else if within 0x7100 32 then some (loObject s (Fin.ofNat 32 (from_ 0x7100)))
  else if id = 0x7120 then some (loGroupObject s)
  else if id = 0x8000 then some (hallObject s)
  else if id = 0x8100 then some (safeObject s)
  else if within 0x9100 2 then some (busObject s (Fin.ofNat 2 (from_ 0x9100)))
  else if id = 0xA100 then some (twinObject s)
  else if id = 0xB100 then some (handlerObject s)
  else if within 0xB140 64 then some (faultObject s (from_ 0xB140))
  else none

/-! ## BAR0 and the window header -/

/-- Interface revision (HST_ID [7:0]). -/
def interfaceRev : Nat := 0x01

/-- HST_STATE (03 *HST_STATE fields*). -/
def hstState (s : State) : Nat :=
  (match s.pwr.mod with
    | .booting => 0
    | .ready => 1
    | .imageFault => 2
    | .safe => 3) + 16 * bN (s.twn.role == .standby) + 32 * bN s.pwr.holdupFault + 64 * bN s.pwr.warn + 128 * bN (s.pwr.bank == .b)

/-- HST_PORT_STATUS of a port. -/
def portStatus (s : State) (p : HPort) : Nat :=
  bN (s.hst.active == p) + 2 * bN (portRegs s (otherPort p)).link + 16 * (portRegs s p).width.toNat + 256 * (portRegs s p).speed.toNat

/-- HST_RING_CFG of a ring (03 *HST_RING_CFG fields*). -/
def ringCfg (g : RingSt) : Nat :=
  g.sizeLog2.toNat + 16 * bN g.dir + 32 * bN g.enable + 64 * bN g.fault + 128 * g.cfgRsv.toNat

/-- What a read of a BAR0 register returns on a port (03 *BAR0 register map*); an offset not listed reads zero. -/
def readReg (s : State) (p : HPort) (off : Nat) : Word :=
  let r := portRegs s p
  let v : Nat := match off with
    | 0x0000 => 0x6440_0000 + 256 * Config.hardwareRevision.toNat + interfaceRev
    | 0x0004 => (address s).toNat + 4096 * bN (twinBit s) + 8192 * bN (isMaster s)
    | 0x0008 => hstState s
    | 0x000C => portStatus s p
    | 0x0010 => r.control.toNat
    | 0x001C => r.drops.toNat
    | 0x0020 => r.irqPend.toNat % 2 ^ 32
    | 0x0024 => r.irqPend.toNat / 2 ^ 32
    | 0x0028 => r.irqMask.toNat % 2 ^ 32
    | 0x002C => r.irqMask.toNat / 2 ^ 32
    | 0x0030 => s.tim.station.toNat % 2 ^ 32
    | 0x0034 => r.timeHi.toNat
    | 0x0038 => s.tim.lock.code + 8 * bN s.tim.seamSrc
    | 0x003C => s.hst.refDeadline.toNat
    | 0x0040 => bN s.hst.silent + 65536 * s.hst.declared.toNat
    | 0x0044 => s.cfg.seq.toNat
    | 0x0084 => bN s.ins.snapshot.isSome + 2 * bN s.hst.loadRejected + 256 * s.hst.loadSuperseded.toNat
    | 0x0088 => s.hst.loadGen.toNat
    | 0x0090 => s.hst.loadTime.toNat % 2 ^ 32
    | 0x0094 => s.hst.loadTime.toNat / 2 ^ 32
    | 0x00C0 => fltSummary s
    | 0x3000 => r.pba.toNat % 2 ^ 32
    | 0x3004 => r.pba.toNat / 2 ^ 32
    | _ =>
      if 0x1000 ≤ off && off < 0x1400 then
        let g := s.rings[(Fin.ofNat 64 ((off - 0x1000) / 16) : Ring)]
        match off % 16 with
        | 0 => ringCfg g
        | 4 => g.hpi.toNat
        | 8 => g.mpi.toNat
        | _ => g.irq.toNat
      else if 0x2000 ≤ off && off < 0x2400 then
        (if off % 16 = 12 then bN (r.vecMask.getLsbD ((off - 0x2000) / 16)) else memNum r.msix (off - 0x2000) 4)
      else 0
  BitVec.ofNat 32 v

/-- The window header (R527). -/
def windowHeader : List Byte :=
  obj 64 [fld 0 0 1, fld 4 0 3, fld 16 0 1, fld 20 0 0x1000, fld 24 0 1024, fld 28 0 16, fld 32 0 2, fld 36 0 0x0001_0000, fld 40 0 16777216,
    fld 44 0 0x0004_0000, fld 48 0 3, fld 52 0 0x0101_0000, fld 56 0 50266112, fld 60 0 64]

/-- What a read of a byte of BAR2 returns (*BAR2 layout*): the header and the reserved region are no memory of the host's. -/
def readWin (s : State) (a : Nat) : Byte :=
  if a < 0x1000 then (windowHeader[a]?).getD 0
  else if 0x1400 ≤ a && a < 0x1_0000 then 0
  else memByte s.win a

/-! ## Entries of the stream kinds -/

/-- A resistance in Ω as uint32 µΩ. -/
def microOhm (r : Rat) : Nat := units 4 (r * 1000000)

/-- Z_TOP or Z_BOT in 10⁻⁴; 0 for a group without the anchor, which the state keeps outside 0 to 1. -/
def anchorZ (z : Rat) : Nat := if z < 0 || z > 1 then 0 else units 2 (z * 10000)

/-- Cell state table entry (06 *Cell state table entry*; 10 *Assay working state*). -/
def cellEntry (s : State) (n : Chan) (i : Nat) : List Byte :=
  let c := if populated s n && i < cellCount s n then cellAt s n i else {}
  let g := grpAt s n i
  let x := impOf s n i
  obj 64 [fld 0 0 c.volt.toNat, fld 2 0 c.raw.toNat, fld 4 0 c.stone.toNat, fld 6 0 (wrapI 16 c.corr), fld 8 0 c.unc.toNat,
    fld 10 0 (bN c.valid), fld 10 1 (bN c.stale), fld 10 2 (bN (s.meas[n].bleed.getLsbD i)), fld 10 3 (bN c.corrected), fld 10 4 (bN c.held),
    fld 10 5 (bN c.plaus), fld 10 6 (bN (cellSuspect s n i)), fld 10 7 (bN (cellOpen s n i)), fld 11 0 (bN (acrossOpen s n i).isSome),
    fld 12 0 (min 255 c.plausRun), fld 16 0 c.time.toNat, fld 24 0 (units 2 (g.pub.getD 0)), fld 26 0 (units 2 (g.u * 10000)),
    fld 28 0 (microOhm x.rOhm), fld 32 0 (microOhm x.rCt1), fld 36 0 (microOhm x.rCt2), fld 40 0 (units 2 (x.tau1 * 10000000)),
    fld 42 0 (units 2 (tau2Of x * 100000)), fld 44 0 (units 4 (capOf s n i * 100)), fld 48 0 (units 2 (ucOf s n i * 10000)),
    fld 50 0 (bN g.cap.isSome), fld 50 1 (bN g.unverified), fld 50 2 (bN (s.cyc[n].phase ≠ 0)), fld 50 3 (bN g.spanOk),
    fld 52 0 (anchorZ g.top.1), fld 54 0 (anchorZ g.bot.1),
    fld 56 0 (wrapI 32 (toLsb ((s.cyc[n].cycleQ : Rat) / 36000000))), fld 60 0 (min 65535 g.burstsNow), fld 62 0 (units 2 (g.ratio * 1000))]

/-- Temperature table entry (06 *Temperature table entry*). -/
def tempEntry (s : State) (n : Chan) (t : Nat) : List Byte :=
  let x := tempAt s n t
  obj 8 [fld 0 0 x.temp.toNat, fld 2 0 (wrapI 16 x.rate), fld 4 0 (bN x.valid), fld 4 1 (bN x.stale), fld 4 2 (bN x.nodeInvalid),
    fld 4 3 (bN x.unconfirmed.isSome), fld 6 0 (min 65535 ((s.tim.tb - x.updatedAt) / tMs))]

/-- Impedance bin (10 *Impedance bin*). -/
def binEntry (s : State) (b : BinSt) : List Byte :=
  obj 28 [fld 0 0 (units 4 b.rOhm), fld 4 0 (units 4 b.rCt1), fld 8 0 (if b.slow then units 4 b.rCt2 else 0),
    fld 12 0 (if b.slow then units 4 (b.tau2 * 100000) else 0), fld 16 0 (if b.fast then units 2 (b.tau1 * 10000000) else 0),
    fld 18 0 (bN b.fast), fld 18 1 (bN b.slow), fld 18 2 (bN b.unverified), fld 20 0 (min 65535 b.nfit),
    fld 22 0 (if b.fast || b.slow then min 65535 ((s.tim.tb - b.fitAt) / (3600 * tSec)) else 0), fld 24 0 (units 4 b.sigma)]

/-- Impedance table entry with its bins (10 R300). -/
def impEntry (s : State) (n : Chan) (i : Nat) : List Byte :=
  let g := grpAt s n i
  let x := impOf s n i
  obj 16 [fld 0 0 (n.val * 256 + i), fld 2 0 (bN g.unverified), fld 2 1 (bN g.baseRatio.isSome), fld 2 2 (bN (g.drift.getLsbD 0)),
    fld 2 3 (bN (g.drift.getLsbD 1)), fld 4 0 (units 2 (g.baseRatio.getD 0 * 1000)), fld 6 0 (units 2 (g.ratio * 1000)),
    fld 8 0 (microOhm (x.rOhm + x.rCt1 + x.rCt2))] ++
    (List.range 32).flatMap (fun b => binEntry s (binAt g b))

/-- Limits as 3 × int32 and 3 × int32 from byte 24 (09 *Channel summary record*). -/
def limitFields (l : Limits) : List Nat := (numbered 0 l.list).map (fun x => fld (24 + 4 * x.1) 0 (wrapI 32 (satI 32 (toLsb x.2))))

/-- Smallest and largest of a list; zero for none. -/
def span (l : List Rat) : Rat × Rat :=
  match l with
  | [] => (0, 0)
  | x :: xs => xs.foldl (fun (a : Rat × Rat) y => (if y < a.1 then y else a.1, if a.2 < y then y else a.2)) (x, x)

/-- Age of an anchor in s; all ones before the first. -/
def anchorAge (s : State) (n : Chan) : Nat := match s.asyCh[n].anchorAt with
  | some a => min 0xFFFF_FFFF ((s.tim.station - a).toNat / tSec)
  | none => 0xFFFF_FFFF

/-- Channel summary record (09 R285). -/
def summaryEntry (s : State) (n : Chan) : List Byte :=
  let a := s.asyCh[n]
  let socs := span ((groupsOf s n).map (fun i => (grpAt s n i).pub.getD 0))
  let temps := (validTemps s n).map (·.2)
  let tMax := temps.foldl (fun (m : Option Int) t => some (match m with
    | some x => if x < t then t else x
    | none => t)) none
  let tMin := temps.foldl (fun (m : Option Int) t => some (match m with
    | some x => if t < x then t else x
    | none => t)) none
  obj 64 ([fld 0 0 n.val, fld 1 0 (chCode s n), fld 2 0 (bN a.restReq.isSome), fld 2 1 (bN a.restFrom.isSome), fld 2 2 (bN (decide (a.fu < 1))),
    fld 2 3 (bN (decide (s.thmCh[n].f < 1))), fld 2 4 (bN a.gap.isSome), fld 2 5 (bN (s.cyc[n].phase ≠ 0)), fld 2 6 (bN (s.meas[n].bleed ≠ 0)),
    fld 2 7 (bN ((groupsOf s n).any (fun i => (cellAt s n i).stale))), fld 4 0 (wrapI 32 s.meas[n].packV), fld 8 0 (wrapI 32 a.meanI),
    fld 12 0 (units 2 (a.pub.getD 0)), fld 14 0 (units 2 (a.unc * 10000)), fld 16 0 (units 2 socs.1), fld 18 0 (units 2 socs.2),
    fld 20 0 (wrapI 16 (tMax.getD (-32768))), fld 22 0 (wrapI 16 (tMin.getD (-32768))), fld 48 0 (wrapI 64 (packQ s n)),
    fld 56 0 (anchorAge s n)] ++ limitFields a.pubLim)

/-- Segment record of the same stream. -/
def segmentEntry (s : State) : List Byte :=
  let chans := activeChans s
  let socs := span (chans.flatMap (fun n => (groupsOf s n).map (fun i => (grpAt s n i).pub.getD 0)))
  let temps := chans.flatMap (fun n => (validTemps s n).map (·.2))
  let tMax := temps.foldl (fun (m : Int) t => if m < t then t else m) (temps.headD (-32768))
  let tMin := temps.foldl (fun (m : Int) t => if t < m then t else m) (temps.headD (-32768))
  let iarm : Int := (s.ins.refs.head?.map (fun r => r.1.iarm.toInt)).getD 0
  let any (p : Chan → Bool) : Nat := bN (chans.any p)
  obj 64 ([fld 0 7 1, fld 2 0 (any (fun n => s.asyCh[n].restReq.isSome)), fld 2 1 (any (fun n => s.asyCh[n].restFrom.isSome)),
    fld 2 2 (any (fun n => decide (s.asyCh[n].fu < 1))), fld 2 3 (any (fun n => decide (s.thmCh[n].f < 1))), fld 2 4 (any (fun n => s.asyCh[n].gap.isSome)),
    fld 2 5 (any (fun n => s.cyc[n].phase ≠ 0)), fld 2 6 (any (fun n => s.meas[n].bleed ≠ 0)),
    fld 2 7 (any (fun n => (groupsOf s n).any (fun i => (cellAt s n i).stale))), fld 4 0 (wrapI 32 s.ins.vsum), fld 8 0 (wrapI 32 (iarm * 100)),
    fld 12 0 (units 2 (s.asy.pub.getD 0)), fld 14 0 (units 2 (s.asy.unc * 10000)), fld 16 0 (units 2 socs.1), fld 18 0 (units 2 socs.2),
    fld 20 0 (wrapI 16 tMax), fld 22 0 (wrapI 16 tMin), fld 56 0 ((chans.map (anchorAge s)).foldl Nat.max 0)] ++ limitFields s.asy.lim)

/-- Executed-edge stream record (08 R239). -/
def edgeEntry (n : Chan) (r : ExecRec) : List Byte :=
  obj 32 [fld 0 0 n.val, fld 1 0 r.state.toNat, fld 2 0 r.flags.toNat, fld 4 0 r.edgeCnt.toNat, fld 8 0 r.gen.toNat, fld 12 0 r.time.toNat,
    fld 20 0 r.dead.toNat, fld 24 0 r.charge.toNat]

end Sys2Proof.Machine
end

