-- ==== Sys2Proof/Machine/HostPorts.lean ====
section
/-! DEFINITION. The host ports: register writes, doorbells, ring faults, the interrupt registers, the active port, links,
host silence and the bulk streams (03 R50 to R65, R74, R84, R85; 00 R7, R8; 02 R28). -/

namespace Sys2Proof.Machine

/-- A port as HOST_SWITCHED names it. -/
def portCode : HPort → Nat
  | .a => 0
  | .b => 1

/-- A write that only the active port may make (R52): else discarded and counted. -/
def fromActive (p : HPort) (f : State → State) (s : State) : State :=
  if p = s.hst.active && !portFenced s p then f s else dropWrite p s

/-! ## Rings (R60 to R63) -/

/-- First index from `i` of `n` descriptors that reads OWN = 0. -/
def firstUnowned (s : State) (r : Ring) (i : Word) : Nat → Option Word
  | 0 => none
  | n + 1 => if bitOf (memNum s.win (slotOff r s.rings[r] i) 4) 31 then firstUnowned s r (i + 1) n else some i

/-- RING_FAULT: the ring stops (R63). MPI is the index the ring stops at, every descriptor taken before being returned. -/
def ringFault (r : Ring) (cause : Nat) (hpi mpi : Word) (s : State) : State :=
  raise 0x810C r.val [ef 28 0 r.val, ef 29 0 cause, ef 32 0 hpi.toNat, ef 36 0 mpi.toNat] (modRing r (fun g => { g with fault := true }) s)

/-- Take what HPI covers: every descriptor up to the first that reads OWN = 0, which stops the ring. -/
def scanRing (r : Ring) (s : State) : State :=
  let g := s.rings[r]
  match firstUnowned s r g.tkn (min 4096 (g.hpi - g.tkn).toNat) with
  | none => modRing r (fun g => { g with tkn := g.hpi }) s
  | some i => ringFault r 2 g.hpi (if g.dir then g.mpi else i) (modRing r (fun g => { g with tkn := i }) s)

/-- HST_RING_HPI written by the active port (R63). On a stopped ring the value is held and nothing is taken. -/
def writeHpi (p : HPort) (r : Ring) (v : Word) (s : State) : State :=
  let s := doorbell p s
  let g := s.rings[r]
  let back := decide ((v - g.hpi).toNat ≥ 2 ^ 31)
  if !g.enable then modRing r (fun g => { g with hpi := v, tkn := v, exe := v }) s
  else if back || decide ((v - g.mpi).toNat > 2 ^ g.sizeLog2.toNat) then
    (if g.fault then s else ringFault r (if back then 1 else 0) v (if g.dir then g.mpi else g.tkn) s)
  else
    let s := modRing r (fun g => { g with hpi := v }) s
    if g.fault then s else scanRing r s

/-- HST_RING_CFG written by the active port (R60, R61). -/
def writeCfg (p : HPort) (r : Ring) (v : Word) (s : State) : State :=
  let g := s.rings[r]
  let size : BitVec 4 := v.truncate 4
  let on := v.getLsbD 5
  if (size ≠ g.sizeLog2 && g.enable) || size.toNat < 4 || size.toNat > 12 then dropWrite p s
  else
    let clear := v.getLsbD 6 && g.fault
    let s := modRing r (fun g => { g with sizeLog2 := size, enable := on, cfgRsv := (v >>> 7).truncate 25, fault := g.fault && !clear }) s
    let s := if on && !g.enable then
        { modRing r (fun g => { g with hpi := 0, mpi := 0, tkn := 0, exe := 0, unsignalled := 0, holdAt := none }) s with
          cmd := { s.cmd with taken := s.cmd.taken.filter (fun t => t.ring ≠ r) } }
      else s
    if clear && on then scanRing r s else s

/-- HST_RING_HPI_WRITE (R62, R63). -/
def execHstRingHpiWrite (port : HPort) (ring : Ring) (value : Word) (s : State) : Out :=
  done s (fromActive port (writeHpi port ring value) s)

/-- HST_RING_CFG_WRITE (R60, R61). -/
def execHstRingCfgWrite (port : HPort) (ring : Ring) (value : Word) (s : State) : Out :=
  done s (fromActive port (writeCfg port ring value) s)

/-- RING_IRQ_HOLD_EXPIRY (R60). -/
def execRingIrqHoldExpiry (ring : Ring) (s : State) : Out :=
  let g := s.rings[ring]
  if g.irq.toNat / 65536 % 4096 ≠ 0 && g.unsignalled ≠ 0 && g.holdAt.isSome then done s (signalRing ring s) else done s s

/-! ## The interrupt registers and the other per-port registers -/

/-- Half of a 64-bit register. -/
def putHalf (high : Bool) (old : DWord) (v : Word) : DWord :=
  if high then (v ++ (old.truncate 32 : Word) : BitVec 64) else ((old >>> 32).truncate 32 : Word) ++ v

/-- One half of a 64-bit register. -/
def getHalf (high : Bool) (x : DWord) : Word := if high then (x >>> 32).truncate 32 else x.truncate 32

/-- HST_IRQ_PEND_CLEAR (00 R7): a bit that the module sets in the same cycle stays set. -/
def execHstIrqPendClear (port : HPort) (high : Bool) (value setNow : Word) (s : State) : Out :=
  if portFenced s port then done s s
  else done s (modHp port (fun r => { r with irqPend := putHalf high r.irqPend ((getHalf high r.irqPend &&& ~~~value) ||| setNow) }) s)

/-- HST_WRITE_DROPS_READ (00 R8): the read returns the count and clears it, and a drop of the same cycle counts afterwards. -/
def execHstWriteDropsRead (port : HPort) (concurrent : Bool) (s : State) : Out :=
  if portFenced s port then done s s
  else done s (modHp port (fun r => { r with readValue := r.drops, drops := if concurrent then 1 else 0 }) s)

/-- HST_TIME_LO_READ (02 R28; *BAR0 register map*). -/
def execHstTimeLoRead (port : HPort) (s : State) : Out :=
  if portFenced s port then done s s
  else done s (modHp port (fun r => { r with readValue := s.tim.station.truncate 32, timeHi := (s.tim.station >>> 32).truncate 32 }) s)

/-- Send the vectors that a write has unmasked and whose pending bit is set (R51; log 9). -/
def unmasked (p : HPort) (old : DWord) (s : State) : State :=
  let r := portRegs s p
  let now := old &&& ~~~r.irqMask &&& r.irqPend
  if !r.link then s else forEach ((List.range 64).filter (fun v => now.getLsbD v)) (sendVector p) s

/-- HST_IRQ_MASK_LO or HST_IRQ_MASK_HI written. -/
def writeMask (p : HPort) (high : Bool) (v : Word) (s : State) : State :=
  let old := (portRegs s p).irqMask
  unmasked p old (modHp p (fun r => { r with irqMask := putHalf high r.irqMask v }) s)

/-- A dword of the MSI-X table written: the mask bit of an entry, or its message. A vector that waits in the pending-bit array
goes out when its entry is unmasked. -/
def writeMsix (p : HPort) (off : Nat) (v : Word) (s : State) : State :=
  let k := off / 16
  if off % 16 = 12 then
    let s := modHp p (fun r => { r with vecMask := if v.getLsbD 0 then r.vecMask ||| (1#64 <<< k) else r.vecMask &&& ~~~(1#64 <<< k) }) s
    let r := portRegs s p
    if !v.getLsbD 0 && r.pba.getLsbD k && r.link then
      sendVector p k (modHp p (fun r => { r with pba := r.pba &&& ~~~(1#64 <<< k) }) s)
    else s
  else modHp p (fun r => { r with msix := memWrite r.msix off (leBytes 4 v.toNat) }) s

/-- HST_TAKEOVER (R55): the change waits for the end of the control period; any other write is ignored. -/
def writeTakeover (p : HPort) (v : Word) (s : State) : State :=
  let active := portRegs s s.hst.active
  if p = s.hst.active || v.toNat % 65536 ≠ 0x5A3C then s
  else if !active.link then { s with hst := { s.hst with change := some { port := p, cause := 1 } } }
  else if s.hst.silent then { s with hst := { s.hst with change := some { port := p, cause := 2 } } }
  else if v.getLsbD 16 then { s with hst := { s.hst with change := some { port := p, cause := 3 } } }
  else s

/-- HST_TAKEOVER_WRITE (R55). -/
def execHstTakeoverWrite (port : HPort) (value : Word) (s : State) : Out :=
  if portFenced s port then done s s else done s (writeTakeover port value s)

/-- HST_HEARTBEAT_WRITE (R52, R84). -/
def execHstHeartbeatWrite (port : HPort) (s : State) : Out := done s (fromActive port (doorbell port) s)

/-- An aligned 32-bit write to a BAR0 register (*BAR0 register map*, R52). -/
def writeReg (p : HPort) (off : Nat) (v : Word) (s : State) : State :=
  match off with
  | 0x0010 => modHp p (fun r => { r with control := v }) s
  | 0x0014 => fromActive p (doorbell p) s
  | 0x0018 => writeTakeover p v s
  | 0x0020 => modHp p (fun r => { r with irqPend := putHalf false r.irqPend (getHalf false r.irqPend &&& ~~~v) }) s
  | 0x0024 => modHp p (fun r => { r with irqPend := putHalf true r.irqPend (getHalf true r.irqPend &&& ~~~v) }) s
  | 0x0028 => writeMask p false v s
  | 0x002C => writeMask p true v s
  | 0x0080 => fromActive p (loadGo v) s
  | _ =>
    if 0x2000 ≤ off && off < 0x2400 then writeMsix p (off - 0x2000) v s
    else if 0x1000 ≤ off && off < 0x1400 then
      let ring : Ring := Fin.ofNat 64 ((off - 0x1000) / 16)
      match off % 16 with
      | 0 => fromActive p (writeCfg p ring v) s
      | 4 => fromActive p (writeHpi p ring v) s
      | 12 => fromActive p (modRing ring (fun g => { g with irq := v })) s
      | _ => dropWrite p s
    else dropWrite p s

/-- The host may write these bytes of BAR2 (*BAR2 layout*): the direct duty area, the rings, the bulk pool. -/
def winWritable (off size : Nat) : Bool :=
  (0x1000 ≤ off && off + size ≤ 0x1400) || (0x1_0000 ≤ off && off + size ≤ winSize)

/-- REGISTER_WRITE (R52): stored, or discarded and counted. BAR0 takes aligned writes of four bytes only. -/
def execRegisterWrite (port : HPort) (bar : Bar) (offset size : Nat) (value : DWord) (s : State) : Out :=
  if portFenced s port then done s s
  else match bar with
    | .bar0 =>
      if size ≠ 4 || offset % 4 ≠ 0 then done s (dropWrite port s) else done s (writeReg port offset (value.truncate 32) s)
    | .bar2 =>
      if port ≠ s.hst.active || size = 0 || size > 8 || !winWritable offset size then done s (dropWrite port s)
      else doneWin s (memWrite s.win offset (leBytes size value.toNat)) s

/-! ## The active port and the links (R50 to R56, 18 R512) -/

/-- HOST_SWITCH (R54): the reply is written before the switch. -/
def execHostSwitch (h : Hdr) (s : State) : Out :=
  hostCmd h 0x0106 0 .none false (fun s =>
    let o := otherPort s.hst.active
    if (portRegs s o).link then .now (reply .ok) { s with hst := { s.hst with change := some { port := o, cause := 0 } } }
    else .now (reply .wrongState) s) s

/-- ACTIVE_PORT_CHANGE (R54 to R56), at the end of the control period. -/
def execActivePortChange (s : State) : Out :=
  match s.hst.change with
  | none => done s s
  | some c =>
    let t := { s with hst := { s.hst with active := c.port, change := none } }
    if c.port = s.hst.active then done s t
    else done s (raise 0x8109 (portCode c.port) [ef 28 0 (portCode c.port), ef 28 1 c.cause] t)

/-- What a reset of one port leaves (R51): the link with its width and speed is the cable's and stays. -/
def portReset (p : HPort) (s : State) : State :=
  modHp p (fun r => { link := r.link, width := r.width, speed := r.speed, downAt := r.downAt, sent := r.sent, readValue := r.readValue }) s

/-- HOST_PORT_RESET (R51, 18 R512): hot reset, link disable, PERST# and FLR reset the same. -/
def execHostPortReset (port : HPort) (kind : PortReset) (s : State) : Out :=
  match kind with
  | .hot | .linkDisable | .perst | .flr => done s (portReset port s)

/-- HOST_LINK_DOWN. -/
def linkEvent (p : HPort) (up : Bool) (s : State) : State :=
  raise 0x810A (portCode p) [ef 28 0 (portCode p), ef 28 1 (bN up), ef 28 2 (bN (s.hst.active == p))] s

/-- HOST_LINK_CHANGE (R50, R51): a link that comes up signals every vector whose pending bit is set and that nothing masks. -/
def execHostLinkChange (port : HPort) (up : Bool) (width : BitVec 3) (speed : BitVec 2) (s : State) : Out :=
  if up then
    let t := modHp port (fun r => { r with link := true, width := width, speed := speed }) s
    let t := if s.pwr.imageRuns then linkEvent port true t else t
    let t := if s.pwr.imageRuns && (width.toNat < 4 || speed.toNat < 3) then
        raise 0x810B (portCode port) [ef 28 0 (portCode port), ef 29 0 width.toNat, ef 30 0 speed.toNat] t
      else t
    done s (unmasked port 0xFFFF_FFFF_FFFF_FFFF t)
  else if !(portRegs s port).link then done s s
  else
    let t := modHp port (fun r => { r with link := false, width := 0, speed := 0, downAt := s.tim.tb }) (portReset port s)
    done s (if s.pwr.imageRuns then linkEvent port false t else t)

/-! ## Host silence (R85; 08 R254) -/

/-- HOST_SILENCE_TIMEOUT (R85). -/
def execHostSilenceTimeout (byLink : Bool) (s : State) : Out :=
  if s.hst.silent || !s.pwr.imageRuns || (byLink && (portRegs s s.hst.active).link) then done s s
  else
    let t := { s with hst := { s.hst with silent := true, silentByLink := byLink, declared := s.hst.declared + 1, silentAt := s.tim.tb } }
    let t := raise 0x8108 0xFFFF [ef 28 1 (bN byLink)] t
    done s (if pNat s Prm.insSilenceAction = 1 then evalMatrix { t with qm := { t.qm with fwSilence := true } } else t)

/-! ## Streams (R60, R74) -/

/-- The entries of a stream's next buffer, and the station time of the first datum. -/
def streamEntries (r : Ring) (s : State) : List (List Byte) × DWord :=
  let g := s.rings[r]
  let chans := allChans.filter (fun n => g.mask.getLsbD n.val)
  match g.kind.toNat with
  | 1 => (chans.flatMap (fun n => (List.range 256).map (cellEntry s n)), s.tim.station)
  | 2 => (chans.flatMap (fun n => (List.range 64).map (tempEntry s n)), s.tim.station)
  | 3 => (chans.map (summaryEntry s) ++ [segmentEntry s], s.tim.station)
  | 4 => (chans.flatMap (fun n => (groupsOf s n).map (impEntry s n)), s.tim.station)
  | 5 => (g.edges.map (fun e => edgeEntry e.1 e.2), (g.edges.head?.map (fun e => e.2.time)).getD s.tim.station)
  | 6 => (g.frames.map busRecordBytes, (g.frames.head?.map (fun e => e.2.time)).getD s.tim.station)
  | _ => ([], s.tim.station)

/-- How many entries fit a payload. -/
def fitEntries : List (List Byte) → Nat → Nat
  | [], _ => 0
  | e :: es, room => if e.length ≤ room then 1 + fitEntries es (room - e.length) else 0

/-- The bulk reference of the empty descriptor at MPI: its first two parameter words. -/
def streamBuffer (s : State) (r : Ring) : Bulk :=
  let off := slotOff r s.rings[r] s.rings[r].mpi
  { offset := BitVec.ofNat 32 (memNum s.win (off + 12) 4), length := BitVec.ofNat 32 (memNum s.win (off + 16) 4) }

/-- Return the descriptor at MPI of a stream ring with a status; its own words stay. -/
def returnStream (r : Ring) (p : Reply) (s : State) : State :=
  let off := slotOff r s.rings[r] s.rings[r].mpi
  let tag := memNum s.win (off + 6) 2
  let op := memNum s.win off 2
  returned r (writeDesc r s.rings[r].mpi (BitVec.ofNat 16 op) (BitVec.ofNat 16 tag) 8 (replyWord2 p) [] false s)

/-- STREAM_INTERVAL (R74): one buffer per interval; without an empty descriptor the interval's data is dropped and SEQ goes
on. -/
def execStreamInterval (ring : Ring) (s : State) : Out :=
  let g := s.rings[ring]
  if g.kind = 0 || !g.enable || !g.dir then done s s
  else
    let next (k : Nat) : State := modRing ring (fun g => { g with seq := g.seq + 1, edges := g.edges.drop k, frames := g.frames.drop k }) s
    let all := g.edges.length + g.frames.length
    if !canPost s ring then done s (next all)
    else
      let b := streamBuffer s ring
      if !bulkOk s b 0 then
        let t := returnStream ring (reply .badParam 3) (next all)
        doneWin s t.win t
      else
        let e := streamEntries ring s
        let k := fitEntries e.1 (b.length.toNat - 16)
        let bytes := (e.1.take k).flatten
        let t := next k
        let t := returnStream ring (reply .ok) { t with win := writeAll t.win (bulkFill b g.seq e.2 bytes) }
        doneWin s t.win t

/-- STREAM_SETUP (R60; 09 R285). -/
def execStreamSetup (h : Hdr) (ring : Ring) (kind : Byte) (mask : DWord) (interval : Half) (s : State) : Out :=
  hostCmd h 0x0107 20 .none false (fun s =>
    if ring.val < 4 then .now (reply .outOfRange 3) s
    else if kind.toNat > 6 then .now (reply .badParam 4) s
    else if kind ≠ 0 && (interval.toNat < 1 || interval.toNat > 60000) then .now (reply .outOfRange 7) s
    else if kind = 3 && interval.toNat % 100 ≠ 0 then .now (reply .outOfRange 7) s
    else if s.rings[ring].enable then .now (reply .wrongState) s
    else .now (reply .ok) (modRing ring (fun g =>
      { g with kind := kind, mask := mask, interval := interval, dir := kind ≠ 0, seq := 0, edges := [], frames := [] }) s)) s

end Sys2Proof.Machine
end

