-- ==== Sys2Proof/Machine/HostRows.lean ====
section
/-! DEFINITION. The host commands about the module itself: parameters (03 R86 to R88), identity (18 R523) and opcodes that are not
in the table (R71). -/

namespace Sys2Proof.Machine

/-! ## Parameters -/

/-- Fixed by the hallmark switches (03 *Parameters*; 15 R430). -/
def sealedId (id : Nat) : Bool := id = Prm.modAddress || id = Prm.modTwin || (0x8000 ≤ id && id < 0x8100)

/-- Value of a sealed parameter. -/
def sealedValue (s : State) (id : Nat) : Option (List Byte) :=
  if id = Prm.modAddress then some (leBytes 2 (address s).toNat)
  else if id = Prm.modTwin then some (leBytes 1 (bN (twinBit s)))
  else if id = 0x8000 then some (hallObject s)
  else none

/-- Value of a parameter of the configuration record in a view (R88), and whether it is a staged change. -/
def viewValue (s : State) (id view : Nat) : List Byte × Bool :=
  match view with
  | 0 => (valueIn s.cfg.eff id, false)
  | 1 => match tabGet [] s.cfg.staged id with
    | [] => (valueIn s.cfg.stored id, false)
    | v => (v, true)
  | _ => (valueIn s.cfg.stored id, false)

/-- What GET_PARAM finds at an identifier: a parameter, a sealed value or a status object. -/
def paramValue (s : State) (id view : Nat) : Option (List Byte × Bool) :=
  match sealedValue s id with
  | some v => some (v, false)
  | none => match paramRow id with
    | some _ => some (viewValue s id view)
    | none => (statusObject s id).map (fun v => (v, false))

/-- Words of a value from word 5. -/
def valueWords (v : List Byte) : List (Nat × Nat) :=
  (List.range ((v.length + 3) / 4)).map (fun k => (5 + k, ofLe (slice v (4 * k) 4)))

/-- Words 13 and 14 are within LENGTH. -/
def hasBulk (h : Hdr) : Bool := h.length.toNat ≥ 48

/-- GET_PARAM (R88). -/
def execGetParam (h : Hdr) (id : Half) (view : BitVec 2) (bulk : Bulk) (s : State) : Out :=
  hostCmd h 0x0101 4 .none false (fun s =>
    if view = 3 then .now (reply .badParam 3) s
    else if id = 0x8100 && !s.saf.running then .now (reply .fenced) s
    else match paramValue s id.toNat view.toNat with
      | none => .now (reply .badParam 3) s
      | some (v, staged) =>
        let p (w : List (Nat × Nat)) : Reply := { okWords ((4, v.length) :: w) with detail := BitVec.ofNat 16 (bN staged) }
        if v.length ≤ 32 then .now (p (valueWords v)) s
        else if !hasBulk h then .now (reply .badParam (min 15 (3 + h.length.toNat / 4))) s
        else if !bulkOk s bulk v.length then .now (reply .badParam 13) s
        else .now (p []) s (bulkFill bulk 0 s.tim.station v)) s

/-- SET_PARAM (R86, R5). -/
def execSetParam (h : Hdr) (id len : Half) (value : List Byte) (bulk : Bulk) (s : State) : Out :=
  hostCmd h 0x0102 8 .none false (fun s =>
    let k := id.toNat
    let n := len.toNat
    let inBulk := decide (32 < n)
    if sealedId k then .now (reply .sealed) s
    else match paramRow k with
      | none => .now (reply .badParam 3) s
      | some r =>
        if n ≠ r.size then .now (reply .badParam 4) s
        else if (inBulk && !hasBulk h) || (!inBulk && h.length.toNat < 8 + n) then
          .now (reply .badParam (min 15 (3 + h.length.toNat / 4))) s
        else if inBulk && !bulkOk s bulk n then .now (reply .badParam 13) s
        else
          let v := if inBulk then memRead s.win (bulk.offset.toNat + 16) n else (value ++ List.replicate n 0).take n
          let free := if inBulk then bulkFree s bulk else []
          match checkValue r v with
          | .ok =>
            if tabGet [] s.cfg.staged k = [] && s.cfg.staged.length ≥ 256 then .now (reply .busy) s free
            else .now (reply .ok) { s with cfg := { s.cfg with staged := tabPut [] s.cfg.staged k v } } free
          | st => .now (reply st (if inBulk then 13 else 5)) s free) s

/-! ## Identity (18 R523) -/

/-- READ_IDENTITY. -/
def execReadIdentity (h : Hdr) (s : State) : Out :=
  hostCmd h 0x0104 0 .none false (fun s =>
    .now (okWords [(3, bN Config.variantAC), (4, Config.serialNumber.toNat), (5, Config.hardwareRevision.toNat), (6, s.img.a.version.toNat),
      (7, s.img.b.version.toNat), (8, bN (s.pwr.bank == .b)), (9, (readReg s s.hst.active 0x0004).toNat), (10, interfaceRev)]) s) s

/-! ## Opcodes outside the table (R71) -/

/-- UNKNOWN_OPCODE. -/
def execUnknownOpcode (h : Hdr) (op : Half) (s : State) : Out :=
  match takeSlot h.ring s with
  | none => done s s
  | some (idx, t) => done s (putTaken h op.toNat idx (some (reply .badOpcode)) t)

end Sys2Proof.Machine
end

