-- ==== Sys2Proof/Machine/Dispatch.lean ====
section
/-! DEFINITION. One arm per command: its meaning, or its refusal by name. -/

namespace Sys2Proof.Machine

/-- The effect of a command on everything but the queue. -/
def exec (i : Instr) (s : State) : Host.Outcome State Fault Refusal :=
  match i with
  | .getParam h id view bulk => Sys2Proof.Machine.execGetParam h id view bulk s
  | .setParam h id len value bulk => Sys2Proof.Machine.execSetParam h id len value bulk s
  | .commitConfig h validateOnly => Sys2Proof.Machine.execCommitConfig h validateOnly s
  | .readIdentity h => Sys2Proof.Machine.execReadIdentity h s
  | .setTime h t => Sys2Proof.Machine.execSetTime h t s
  | .setTimeTimeout => Sys2Proof.Machine.execSetTimeTimeout s
  | .hostSwitch h => Sys2Proof.Machine.execHostSwitch h s
  | .activePortChange => Sys2Proof.Machine.execActivePortChange s
  | .streamSetup h ring kind mask interval => Sys2Proof.Machine.execStreamSetup h ring kind mask interval s
  | .resetModule h force => Sys2Proof.Machine.execResetModule h force s
  | .deferredRestart => Sys2Proof.Machine.execDeferredRestart s
  | .chConnect h n active => Sys2Proof.Machine.execChConnect h n active s
  | .chDisconnect h n => Sys2Proof.Machine.execChDisconnect h n s
  | .chDormant h n => Sys2Proof.Machine.execChDormant h n s
  | .chRetire h n w4 => Sys2Proof.Machine.execChRetire h n w4 s
  | .chRestore h n => Sys2Proof.Machine.execChRestore h n s
  | .armReference h ref => Sys2Proof.Machine.execArmReference h ref s
  | .loadAll h => Sys2Proof.Machine.execLoadAll h s
  | .loadAllGo port value => Sys2Proof.Machine.execLoadAllGo port value s
  | .quenchRelease h mask => Sys2Proof.Machine.execQuenchRelease h mask s
  | .restage h => Sys2Proof.Machine.execRestage h s
  | .setMode h direct => Sys2Proof.Machine.execSetMode h direct s
  | .assayCycleStart h n => Sys2Proof.Machine.execAssayCycleStart h n s
  | .assayCycleAbort h n => Sys2Proof.Machine.execAssayCycleAbort h n s
  | .restGrant h n duration start => Sys2Proof.Machine.execRestGrant h n duration start s
  | .touchmarkProvision h n bulk => Sys2Proof.Machine.execTouchmarkProvision h n bulk s
  | .readLimits h sel => Sys2Proof.Machine.execReadLimits h sel s
  | .nodeUpdate h n bulk => Sys2Proof.Machine.execNodeUpdate h n bulk s
  | .nodeCalibrate h n kind => Sys2Proof.Machine.execNodeCalibrate h n kind s
  | .linkRetest h p => Sys2Proof.Machine.execLinkRetest h p s
  | .thermalMode h proportional => Sys2Proof.Machine.execThermalMode h proportional s
  | .loSet h sel state inrush => Sys2Proof.Machine.execLoSet h sel state inrush s
  | .loRearm h mask => Sys2Proof.Machine.execLoRearm h mask s
  | .safetyStatus h => Sys2Proof.Machine.execSafetyStatus h s
  | .busRecover h mask => Sys2Proof.Machine.execBusRecover h mask s
  | .busSend h mask mtype cls len data bulk => Sys2Proof.Machine.execBusSend h mask mtype cls len data bulk s
  | .busMode h mask mode => Sys2Proof.Machine.execBusMode h mask mode s
  | .busModeApply b => Sys2Proof.Machine.execBusModeApply b s
  | .twinHandover h => Sys2Proof.Machine.execTwinHandover h s
  | .imageUpdate h offset bulk last => Sys2Proof.Machine.execImageUpdate h offset bulk last s
  | .imageActivate h bank => Sys2Proof.Machine.execImageActivate h bank s
  | .logRead h first count w5 bulk => Sys2Proof.Machine.execLogRead h first count w5 bulk s
  | .faultAck h id => Sys2Proof.Machine.execFaultAck h id s
  | .unknownOpcode h op => Sys2Proof.Machine.execUnknownOpcode h op s
  | .hstHeartbeatWrite port => Sys2Proof.Machine.execHstHeartbeatWrite port s
  | .hstTakeoverWrite port value => Sys2Proof.Machine.execHstTakeoverWrite port value s
  | .hstRingHpiWrite port ring value => Sys2Proof.Machine.execHstRingHpiWrite port ring value s
  | .hstRingCfgWrite port ring value => Sys2Proof.Machine.execHstRingCfgWrite port ring value s
  | .hstIrqPendClear port high value setNow => Sys2Proof.Machine.execHstIrqPendClear port high value setNow s
  | .hstWriteDropsRead port concurrent => Sys2Proof.Machine.execHstWriteDropsRead port concurrent s
  | .hstTimeLoRead port => Sys2Proof.Machine.execHstTimeLoRead port s
  | .registerWrite port bar offset size value => Sys2Proof.Machine.execRegisterWrite port bar offset size value s
  | .streamInterval ring => Sys2Proof.Machine.execStreamInterval ring s
  | .powerOn hbA hbB => Sys2Proof.Machine.execPowerOn hbA hbB s
  | .mrst => Sys2Proof.Machine.execMrst s
  | .watchdogReset => Sys2Proof.Machine.execWatchdogReset s
  | .clockLoss kind => Sys2Proof.Machine.execClockLoss kind s
  | .railFault => Sys2Proof.Machine.execRailFault s
  | .clockRestored => Sys2Proof.Machine.execClockRestored s
  | .portSettleTimeout p => Sys2Proof.Machine.execPortSettleTimeout p s
  | .moduleReady => Sys2Proof.Machine.execModuleReady s
  | .holdupTestDone ok time => Sys2Proof.Machine.execHoldupTestDone ok time s
  | .roleResolution => Sys2Proof.Machine.execRoleResolution s
  | .aloneWaitExpiry => Sys2Proof.Machine.execAloneWaitExpiry s
  | .powerFailWarning vlogic => Sys2Proof.Machine.execPowerFailWarning vlogic s
  | .powerFailHandover => Sys2Proof.Machine.execPowerFailHandover s
  | .powerFailWithdrawn => Sys2Proof.Machine.execPowerFailWithdrawn s
  | .reserveExhausted => Sys2Proof.Machine.execReserveExhausted s
  | .checkpointPeriodic => Sys2Proof.Machine.execCheckpointPeriodic s
  | .recordWriteDone ok => Sys2Proof.Machine.execRecordWriteDone ok s
  | .ppsEdge ticks frac => Sys2Proof.Machine.execPpsEdge ticks frac s
  | .ppsLossTimeout => Sys2Proof.Machine.execPpsLossTimeout s
  | .holdoverExpiry => Sys2Proof.Machine.execHoldoverExpiry s
  | .oscCompensation d0 => Sys2Proof.Machine.execOscCompensation d0 s
  | .compensationLearn error => Sys2Proof.Machine.execCompensationLearn error s
  | .hostPortReset port kind => Sys2Proof.Machine.execHostPortReset port kind s
  | .hostLinkChange port up width speed => Sys2Proof.Machine.execHostLinkChange port up width speed s
  | .hostSilenceTimeout byLink => Sys2Proof.Machine.execHostSilenceTimeout byLink s
  | .portLightDetect p => Sys2Proof.Machine.execPortLightDetect p s
  | .lightOnUnpopulated p => Sys2Proof.Machine.execLightOnUnpopulated p s
  | .characterLock p gained => Sys2Proof.Machine.execCharacterLock p gained s
  | .toneQualified p => Sys2Proof.Machine.execToneQualified p s
  | .rangingComplete p freqErr => Sys2Proof.Machine.execRangingComplete p freqErr s
  | .rangingVerified p => Sys2Proof.Machine.execRangingVerified p s
  | .bringupStageOverrun p => Sys2Proof.Machine.execBringupStageOverrun p s
  | .bringupRetry p => Sys2Proof.Machine.execBringupRetry p s
  | .exchangeTimeout p => Sys2Proof.Machine.execExchangeTimeout p s
  | .faultToneArrival p cause => Sys2Proof.Machine.execFaultToneArrival p cause s
  | .toneLost p cause => Sys2Proof.Machine.execToneLost p cause s
  | .downstreamDetect p => Sys2Proof.Machine.execDownstreamDetect p s
  | .toneHealthyReturn p => Sys2Proof.Machine.execToneHealthyReturn p s
  | .syncInterval => Sys2Proof.Machine.execSyncInterval s
  | .statReceived p hdr x t4 => Sys2Proof.Machine.execStatReceived p hdr x t4 s
  | .timingReplyAbsent p => Sys2Proof.Machine.execTimingReplyAbsent p s
  | .capsReceived p hdr x => Sys2Proof.Machine.execCapsReceived p hdr x s
  | .cellsReportReceived p hdr x => Sys2Proof.Machine.execCellsReportReceived p hdr x s
  | .cellsBurstReceived p hdr x => Sys2Proof.Machine.execCellsBurstReceived p hdr x s
  | .cellsTriggerReceived p hdr x => Sys2Proof.Machine.execCellsTriggerReceived p hdr x s
  | .touchReceived p hdr x => Sys2Proof.Machine.execTouchReceived p hdr x s
  | .edgesReceived p hdr x => Sys2Proof.Machine.execEdgesReceived p hdr x s
  | .replyReceived p hdr x => Sys2Proof.Machine.execReplyReceived p hdr x s
  | .frameInvalid p => Sys2Proof.Machine.execFrameInvalid p s
  | .retransmitTimeout p => Sys2Proof.Machine.execRetransmitTimeout p s
  | .cmdReplyTimeout p cmdId => Sys2Proof.Machine.execCmdReplyTimeout p cmdId s
  | .frameErrorCheck p => Sys2Proof.Machine.execFrameErrorCheck p s
  | .reloadPoint start => Sys2Proof.Machine.execReloadPoint start s
  | .pulseSuppressedReport => Sys2Proof.Machine.execPulseSuppressedReport s
  | .saturationReport => Sys2Proof.Machine.execSaturationReport s
  | .referenceLateReport => Sys2Proof.Machine.execReferenceLateReport s
  | .restagedReport => Sys2Proof.Machine.execRestagedReport s
  | .tripInputDemand inp enters => Sys2Proof.Machine.execTripInputDemand inp enters s
  | .tripWiringFault inp begins => Sys2Proof.Machine.execTripWiringFault inp begins s
  | .tripChatterEnd inp => Sys2Proof.Machine.execTripChatterEnd inp s
  | .tripPresenceEnd inp => Sys2Proof.Machine.execTripPresenceEnd inp s
  | .blankingEnd g => Sys2Proof.Machine.execBlankingEnd g s
  | .hwFaultRequest cause => Sys2Proof.Machine.execHwFaultRequest cause s
  | .laneSelftest ok vector => Sys2Proof.Machine.execLaneSelftest ok vector s
  | .debugHalt => Sys2Proof.Machine.execDebugHalt s
  | .tripreqHoldEnd => Sys2Proof.Machine.execTripreqHoldEnd s
  | .prechargeTimeout n => Sys2Proof.Machine.execPrechargeTimeout n s
  | .contactorTestTimeout n => Sys2Proof.Machine.execContactorTestTimeout n s
  | .contactorOpenRetry n => Sys2Proof.Machine.execContactorOpenRetry n s
  | .disconnectBypassTimeout n => Sys2Proof.Machine.execDisconnectBypassTimeout n s
  | .annealDelayExpiry n => Sys2Proof.Machine.execAnnealDelayExpiry n s
  | .cellLimitTimer n cell above => Sys2Proof.Machine.execCellLimitTimer n cell above s
  | .plausHoldExpiry n => Sys2Proof.Machine.execPlausHoldExpiry n s
  | .contactRecheck => Sys2Proof.Machine.execContactRecheck s
  | .openWireScan => Sys2Proof.Machine.execOpenWireScan s
  | .estimatorUpdate => Sys2Proof.Machine.execEstimatorUpdate s
  | .restRequestRepeat n => Sys2Proof.Machine.execRestRequestRepeat n s
  | .restWaitExpiry n => Sys2Proof.Machine.execRestWaitExpiry n s
  | .restStart n => Sys2Proof.Machine.execRestStart n s
  | .restEnd n => Sys2Proof.Machine.execRestEnd n s
  | .assayTimeout n => Sys2Proof.Machine.execAssayTimeout n s
  | .impedanceSave => Sys2Proof.Machine.execImpedanceSave s
  | .tsConversion inp res => Sys2Proof.Machine.execTsConversion inp res s
  | .tsFaultTrip inp => Sys2Proof.Machine.execTsFaultTrip inp s
  | .dieWarnRecheck => Sys2Proof.Machine.execDieWarnRecheck s
  | .thermalShutdown comparators sensor peak => Sys2Proof.Machine.execThermalShutdown comparators sensor peak s
  | .thermalRestart => Sys2Proof.Machine.execThermalRestart s
  | .loShort o m => Sys2Proof.Machine.execLoShort o m s
  | .loOverload o m => Sys2Proof.Machine.execLoOverload o m s
  | .loThermalLatch o m => Sys2Proof.Machine.execLoThermalLatch o m s
  | .loThermalRelease o tj => Sys2Proof.Machine.execLoThermalRelease o tj s
  | .loUndervoltage o vfeed => Sys2Proof.Machine.execLoUndervoltage o vfeed s
  | .loUvRestart o => Sys2Proof.Machine.execLoUvRestart o s
  | .loInrushEnd o prof => Sys2Proof.Machine.execLoInrushEnd o prof s
  | .loAttemptDue o => Sys2Proof.Machine.execLoAttemptDue o s
  | .loAnnealed o => Sys2Proof.Machine.execLoAnnealed o s
  | .loAttemptReset o => Sys2Proof.Machine.execLoAttemptReset o s
  | .loClampTurnoff o current duration => Sys2Proof.Machine.execLoClampTurnoff o current duration s
  | .loStuckOn o m => Sys2Proof.Machine.execLoStuckOn o m s
  | .loOnMax o => Sys2Proof.Machine.execLoOnMax o s
  | .loOpenLoad o begins m => Sys2Proof.Machine.execLoOpenLoad o begins m s
  | .siDemand inp => Sys2Proof.Machine.execSiDemand inp s
  | .siPermit inp => Sys2Proof.Machine.execSiPermit inp s
  | .pulseSample tp high readHigh stuckLow => Sys2Proof.Machine.execPulseSample tp high readHigh stuckLow s
  | .discrepancyTick => Sys2Proof.Machine.execDiscrepancyTick s
  | .twoHandSyncTimeout k => Sys2Proof.Machine.execTwoHandSyncTimeout k s
  | .srstPressAccepted ticks => Sys2Proof.Machine.execSrstPressAccepted ticks s
  | .resetStuck pressed => Sys2Proof.Machine.execResetStuck pressed s
  | .siChatter inp starts => Sys2Proof.Machine.execSiChatter inp starts s
  | .offPulseTest o sw ok => Sys2Proof.Machine.execOffPulseTest o sw ok s
  | .soReadbackFault o readsOn => Sys2Proof.Machine.execSoReadbackFault o readsOn s
  | .degradedExpiry => Sys2Proof.Machine.execDegradedExpiry s
  | .hallmarkScan scan => Sys2Proof.Machine.execHallmarkScan scan s
  | .safetyInternalFault => Sys2Proof.Machine.execSafetyInternalFault s
  | .vsafeLoss => Sys2Proof.Machine.execVsafeLoss s
  | .vsafeStart scan => Sys2Proof.Machine.execVsafeStart scan s
  | .tripBroadcastRx b source zone data => Sys2Proof.Machine.execTripBroadcastRx b source zone data s
  | .twinStatusRx b source data => Sys2Proof.Machine.execTwinStatusRx b source data s
  | .busFrameRx b f => Sys2Proof.Machine.execBusFrameRx b f s
  | .busTxComplete b f => Sys2Proof.Machine.execBusTxComplete b f s
  | .busTxError b f e dataPhase => Sys2Proof.Machine.execBusTxError b f e dataPhase s
  | .busRecoveryDone b ok => Sys2Proof.Machine.execBusRecoveryDone b ok s
  | .busSupplyAbsent b => Sys2Proof.Machine.execBusSupplyAbsent b s
  | .busSupplyRestored b => Sys2Proof.Machine.execBusSupplyRestored b s
  | .oneShotTimeout b => Sys2Proof.Machine.execOneShotTimeout b s
  | .twinStatusTimer => Sys2Proof.Machine.execTwinStatusTimer s
  | .segmentStatusTimer => Sys2Proof.Machine.execSegmentStatusTimer s
  | .heartbeatTx => Sys2Proof.Machine.execHeartbeatTx s
  | .fwCountTick => Sys2Proof.Machine.execFwCountTick s
  | .heartbeatRx lane hdr x => Sys2Proof.Machine.execHeartbeatRx lane hdr x s
  | .seamLaneDown lane => Sys2Proof.Machine.execSeamLaneDown lane s
  | .fwSilence => Sys2Proof.Machine.execFwSilence s
  | .nodeWitness => Sys2Proof.Machine.execNodeWitness s
  | .handoverWithdraw => Sys2Proof.Machine.execHandoverWithdraw s
  | .setMirrorRx hdr x => Sys2Proof.Machine.execSetMirrorRx hdr x s
  | .mirrorMiss => Sys2Proof.Machine.execMirrorMiss s
  | .stateMirrorRx hdr tag books => Sys2Proof.Machine.execStateMirrorRx hdr tag books s
  | .reconcileRx hdr x => Sys2Proof.Machine.execReconcileRx hdr x s
  | .configRx hdr configSeq entries crcOk => Sys2Proof.Machine.execConfigRx hdr configSeq entries crcOk s
  | .imageRx hdr version bytes => Sys2Proof.Machine.execImageRx hdr version bytes s
  | .seamRetxTimeout => Sys2Proof.Machine.execSeamRetxTimeout s
  | .faultActionStep => Sys2Proof.Machine.execFaultActionStep s
  | .l2BlockRestart cause subject ok => Sys2Proof.Machine.execL2BlockRestart cause subject ok s
  | .ringIrqHoldExpiry ring => Sys2Proof.Machine.execRingIrqHoldExpiry ring s
  | .portLightLoss p => Sys2Proof.Machine.execPortLightLoss p s
  | .bringupWaitExpiry p => Sys2Proof.Machine.execBringupWaitExpiry p s
  | .rangingSync p => Sys2Proof.Machine.execRangingSync p s
  | .seamLaneLock lane gained => Sys2Proof.Machine.execSeamLaneLock lane gained s
  | .seamFrameInvalid lane => Sys2Proof.Machine.execSeamFrameInvalid lane s
  | .busRxError b e => Sys2Proof.Machine.execBusRxError b e s
  | .dieWarning d0 d1 d2 d3 => Sys2Proof.Machine.execDieWarning d0 d1 d2 d3 s
  | .debugResume => Sys2Proof.Machine.execDebugResume s
  | .tapInstruction ir mrst => Sys2Proof.Machine.execTapInstruction ir mrst s
  | .internalFaultDetected cause subject => Sys2Proof.Machine.execInternalFaultDetected cause subject s
  | .imageChunkWritten => Sys2Proof.Machine.execImageChunkWritten s
  | .causeCountExpiry n cause => Sys2Proof.Machine.execCauseCountExpiry n cause s
  | .serviceHoldWaitTimeout n => Sys2Proof.Machine.execServiceHoldWaitTimeout n s

end Sys2Proof.Machine
end

