-- ==== Sys2Proof/Safety.lean ====
section
/-! DEFINITION. The words that claims are stated in: a run that goes on, the parts of the state and what a command leaves alone,
the canonical form of window memory, and when a host command is admitted. -/

namespace Sys2Proof.Safety

open Sys2Proof.Machine

/-- A step after which the block goes on. -/
def GoesOn (o : Out) : Prop := ∃ t, o = .next t

/-- The parts of the state, one per field of `State`. -/
inductive Part where
  | tim | pwr | hst | rings | win | cmd | ev | cfg | ports | txns | meas | insCh | ins | stg | qm | asyCh | cyc | asy | store
  | con | twn | img | thm | thmCh | lo | saf | bus | flt | free | pending
deriving DecidableEq, Repr, Inhabited

/-- A part is the same in both states. -/
def Part.Same (p : Part) (s t : State) : Prop :=
  match p with
  | .tim => t.tim = s.tim
  | .pwr => t.pwr = s.pwr
  | .hst => t.hst = s.hst
  | .rings => t.rings = s.rings
  | .win => t.win = s.win
  | .cmd => t.cmd = s.cmd
  | .ev => t.ev = s.ev
  | .cfg => t.cfg = s.cfg
  | .ports => t.ports = s.ports
  | .txns => t.txns = s.txns
  | .meas => t.meas = s.meas
  | .insCh => t.insCh = s.insCh
  | .ins => t.ins = s.ins
  | .stg => t.stg = s.stg
  | .qm => t.qm = s.qm
  | .asyCh => t.asyCh = s.asyCh
  | .cyc => t.cyc = s.cyc
  | .asy => t.asy = s.asy
  | .store => t.store = s.store
  | .con => t.con = s.con
  | .twn => t.twn = s.twn
  | .img => t.img = s.img
  | .thm => t.thm = s.thm
  | .thmCh => t.thmCh = s.thmCh
  | .lo => t.lo = s.lo
  | .saf => t.saf = s.saf
  | .bus => t.bus = s.bus
  | .flt => t.flt = s.flt
  | .free => t.free = s.free
  | .pending => t.pending = s.pending

/-- Every part but those of the list is the same in both states. -/
def KeepsBut (l : List Part) (s t : State) : Prop := ∀ p : Part, p ∉ l → p.Same s t

/-- What a change of one channel's connection may touch: its states, what it counts, restages, reports and saves (11 R330 to R351). -/
def decideParts : List Part := [.con, .cyc, .ev, .img, .twn, .cmd, .insCh, .store, .txns, .stg, .free, .ins, .asy, .asyCh, .flt]

/-- What `settle` may change: it posts events, returns descriptors, posts replies and starts a record write. -/
def settledParts : List Part := [.rings, .win, .cmd, .ev, .hst, .store]

/-- Window memory is in its canonical form. -/
def WindowForm (s : State) : Prop := Memory.wf s.win = true

/-- A host command is admitted: ring `h.ring` gives it slot `idx`, leaving `t`; it stands on the ring its opcode is valid on,
the module's state refuses it nothing, its parameters are long enough and its target is not busy (03 R62 to R71; 02 R45). -/
def Admits (h : Hdr) (op least : Nat) (g : Target) (pends : Bool) (s : State) (idx : Word) (t : State) : Prop :=
  takeSlot h.ring s = some (idx, t) ∧ h.ring.val = (if op = 0x0301 then 0 else 2) ∧ refusal op t = none ∧
    least ≤ h.length.toNat ∧ targetBusy t g = false ∧ (pends = true → full t = false)

/-- How a host command is judged before it is executed: its header, its opcode, the LENGTH its parameters need, what it is for
(R67) and whether it may answer PENDING (03 *Peiger opcodes*). None for a row that is no host command of that table. -/
def hostForm : Instr → Option (Hdr × Nat × Nat × Target × Bool)
  | .getParam h _ _ _ => some (h, 0x0101, 4, .none, false)
  | .setParam h _ _ _ _ => some (h, 0x0102, 8, .none, false)
  | .commitConfig h _ => some (h, 0x0103, 4, .commit, true)
  | .readIdentity h => some (h, 0x0104, 0, .none, false)
  | .setTime h _ => some (h, 0x0105, 8, .none, true)
  | .hostSwitch h => some (h, 0x0106, 0, .none, false)
  | .streamSetup h _ _ _ _ => some (h, 0x0107, 20, .none, false)
  | .resetModule h _ => some (h, 0x0110, 4, .none, false)
  | .chConnect h n _ => some (h, 0x0201, 4, .channel n, true)
  | .chDisconnect h n => some (h, 0x0202, 4, .channel n, true)
  | .chDormant h n => some (h, 0x0203, 4, .channel n, true)
  | .chRetire h n _ => some (h, 0x0204, 8, .channel n, true)
  | .chRestore h n => some (h, 0x0205, 4, .channel n, true)
  | .armReference h _ => some (h, 0x0301, 52, .none, false)
  | .loadAll h => some (h, 0x0302, 0, .none, false)
  | .quenchRelease h _ => some (h, 0x0303, 4, .none, false)
  | .restage h => some (h, 0x0304, 0, .none, false)
  | .setMode h _ => some (h, 0x0305, 4, .none, false)
  | .assayCycleStart h n => some (h, 0x0401, 4, .channel n, false)
  | .assayCycleAbort h n => some (h, 0x0402, 4, .channel n, false)
  | .restGrant h n _ _ => some (h, 0x0403, 16, .channel n, false)
  | .touchmarkProvision h n _ => some (h, 0x0404, 12, .channel n, true)
  | .readLimits h _ => some (h, 0x0405, 4, .none, false)
  | .nodeUpdate h n _ => some (h, 0x0501, 8, .channel n, true)
  | .nodeCalibrate h n _ => some (h, 0x0502, 8, .channel n, true)
  | .linkRetest h p => some (h, 0x0503, 4, .port p, true)
  | .thermalMode h _ => some (h, 0x0601, 4, .none, false)
  | .loSet h _ _ _ => some (h, 0x0701, 12, .none, false)
  | .loRearm h _ => some (h, 0x0702, 4, .none, false)
  | .safetyStatus h => some (h, 0x0801, 0, .none, false)
  | .busRecover h mask => some (h, 0x0901, 4, .bus mask, true)
  | .busSend h mask _ _ len _ _ => some (h, 0x0902, (if len.toNat > 32 then 52 else 12 + len.toNat), .bus mask, true)
  | .busMode h mask _ => some (h, 0x0903, 8, .bus mask, false)
  | .twinHandover h => some (h, 0x0A01, 0, .none, true)
  | .imageUpdate h _ _ _ => some (h, 0x0A02, 16, .none, true)
  | .imageActivate h _ => some (h, 0x0A03, 4, .none, true)
  | .logRead h _ _ _ _ => some (h, 0x0B01, 20, .none, true)
  | .faultAck h _ => some (h, 0x0B02, 4, .none, false)
  | _ => none

/-- The descriptor of a host command with an answer; none while it waits in place. -/
def slotOf (h : Hdr) (op : Nat) (idx : Word) (r : Option Reply) : Taken :=
  { ring := h.ring, idx := idx, op := BitVec.ofNat 16 op, tag := h.tag, len := h.length, reply := r }

/-- The command is answered last: its descriptor, with its reply, follows those taken before it. -/
def Answers (h : Hdr) (op : Nat) (idx : Word) (r : Reply) (t u : State) : Prop :=
  u.cmd.taken = t.cmd.taken ++ [slotOf h op idx (some r)]

/-- The command's descriptor waits in place behind those taken before it. -/
def Waits (h : Hdr) (op : Nat) (idx : Word) (t u : State) : Prop :=
  u.cmd.taken = t.cmd.taken ++ [slotOf h op idx none]

/-- The PENDING command that a host command leaves behind. -/
def pendOf (h : Hdr) (op : Nat) (g : Target) (at_ : Nat) (arg : DWord) : Pend :=
  { op := BitVec.ofNat 16 op, tag := h.tag, target := g, at_ := at_, arg := arg }

/-- The command completes: `exec` answers a next state. `u` is what its own effect makes of `s`, before `settle` posts its events
and returns descriptors; every part outside `l` is as in `s`, and `P` says what the rules give of `u`. -/
def Runs (c : Instr) (s : State) (l : List Part) (P : State → Prop) : Prop :=
  ∃ u, exec c s = .next (settle u) ∧ KeepsBut l s u ∧ P u

/-- The command completes, and its own effect makes exactly `u` of `s`, before `settle` posts its events and returns descriptors:
what `u` does not name is as in `s`, and so are the window, the queue and the time base. -/
def Becomes (c : Instr) (s u : State) : Prop :=
  exec c s = .next (settle { u with win := s.win, pending := s.pending, tim := { u.tim with tb := s.tim.tb } })

/-- The command completes and has no effect: what it would act on is absent. -/
def Idles (c : Instr) (s : State) : Prop := exec c s = .next (settle s)

/-- A host command, taken as `t`, completes and answers `r` in its descriptor: every part of `t` outside `l` and the list of
commands in hand is kept, no PENDING command is added or finished, and `P` says what the rules give of the state `u`. -/
def Replies (c : Instr) (h : Hdr) (op : Nat) (idx : Word) (s t : State) (r : Reply) (l : List Part) (P : State → Prop) : Prop :=
  ∃ u, exec c s = .next (settle u) ∧ Answers h op idx r t u ∧ u.cmd.pend = t.cmd.pend ∧ u.cmd.held = t.cmd.held ∧
    KeepsBut (.cmd :: l) t u ∧ P u

/-- A host command completes and answers PENDING: the command `p` is remembered until its final reply. -/
def Pends (c : Instr) (h : Hdr) (op : Nat) (idx : Word) (s t : State) (p : Pend) (l : List Part) (P : State → Prop) : Prop :=
  ∃ u, exec c s = .next (settle u) ∧ Answers h op idx { status := .pending } t u ∧ u.cmd.pend = t.cmd.pend ++ [p] ∧
    u.cmd.held = t.cmd.held ∧ KeepsBut (.cmd :: l) t u ∧ P u

/-- A host command completes: PENDING in its descriptor, and its final reply `r` follows at once on ring 3. -/
def Finishes (c : Instr) (h : Hdr) (op : Nat) (idx : Word) (s t : State) (r : Reply) (l : List Part) (P : State → Prop) : Prop :=
  ∃ u, exec c s = .next (settle u) ∧ Answers h op idx { status := .pending } t u ∧ u.cmd.pend = t.cmd.pend ∧
    u.cmd.held = t.cmd.held ++ [{ op := BitVec.ofNat 16 op, tag := h.tag, reply := r }] ∧ KeepsBut (.cmd :: l) t u ∧ P u

/-- A host command completes and its descriptor waits in place. -/
def Stays (c : Instr) (h : Hdr) (op : Nat) (idx : Word) (s t : State) (l : List Part) (P : State → Prop) : Prop :=
  ∃ u, exec c s = .next (settle u) ∧ Waits h op idx t u ∧ u.cmd.pend = t.cmd.pend ∧ u.cmd.held = t.cmd.held ∧
    KeepsBut (.cmd :: l) t u ∧ P u

/-- A host command completes and answers `r` in its descriptor, and `u` is what its own work makes of the state in which it was
taken; the window, the queue and the time base are as in `s`. -/
def AnswersWith (c : Instr) (h : Hdr) (op : Nat) (idx : Word) (s : State) (r : Reply) (u : State) : Prop :=
  exec c s = done s (putTaken h op idx (some r) u)

/-- A host command answers PENDING, is remembered for its target, and its work begins. -/
def Accepts (c : Instr) (h : Hdr) (op : Nat) (g : Target) (idx : Word) (s t : State) (work : State → State) : Prop :=
  AnswersWith c h op idx s { status := .pending } (work (addPend h op g 0 t))

/-- A row of the safety supervisor itself (15): its inputs, tests, timers, reset button, switches and supply. -/
def supervisorRow : Instr → Bool
  | .siDemand _ | .siPermit _ | .siChatter _ _ | .pulseSample _ _ _ _ | .discrepancyTick | .twoHandSyncTimeout _
  | .srstPressAccepted _ | .resetStuck _ | .offPulseTest _ _ _ | .soReadbackFault _ _ | .degradedExpiry | .hallmarkScan _
  | .safetyInternalFault | .vsafeLoss | .vsafeStart _ => true
  | _ => false

/-- A row that resets the main domain (02 *Reset sources*), if what it needs is there. -/
def resetRow : Instr → Bool
  | .powerOn _ _ | .mrst | .watchdogReset | .deferredRestart | .clockLoss _ | .railFault | .reserveExhausted
  | .thermalShutdown _ _ _ => true
  | _ => false

/-- A row of the load outputs (14), of their block's fence (17), or the one that makes the module READY (R419). -/
def loadOutputRow : Instr → Bool
  | .loSet _ _ _ _ | .loRearm _ _ | .loShort _ _ | .loOverload _ _ | .loThermalLatch _ _ | .loThermalRelease _ _
  | .loUndervoltage _ _ | .loUvRestart _ | .loInrushEnd _ _ | .loAttemptDue _ | .loAnnealed _ | .loAttemptReset _
  | .loClampTurnoff _ _ _ | .loStuckOn _ _ | .loOnMax _ | .loOpenLoad _ _ _ | .moduleReady | .faultActionStep
  | .l2BlockRestart _ _ _ => true
  | _ => false

/-- A row that can change the configuration (03 R86 to R89; 12 R365): a change staged or committed, its record written, a
record received from the partner, and the reload point at which a change takes effect. -/
def configRow : Instr → Bool
  | .setParam _ _ _ _ _ | .commitConfig _ _ | .recordWriteDone _ | .configRx _ _ _ _ | .reloadPoint _ => true
  | _ => false

/-- A row by which a port can be asked to become active (03 R53): HOST_SWITCH, or a write of HST_TAKEOVER. -/
def switchRow : Instr → Bool
  | .hostSwitch _ | .hstTakeoverWrite _ _ | .registerWrite _ _ _ _ _ => true
  | _ => false

/-- An event with the next SEQ of `s` waits for ring 1 in `u`, with this code, SUBJECT and DATA (03 R82). -/
def Tells (s u : State) (code subject : Nat) (data : List Nat) : Prop :=
  ∃ e ∈ u.ev.held, e.seq = s.ev.seq ∧ e.code = BitVec.ofNat 16 code ∧ e.subject = BitVec.ofNat 16 subject ∧
    e.data = BitVec.ofNat 288 (data.foldl (· ||| ·) 0)

end Sys2Proof.Safety
end

