-- ==== Sys2Proof/Certificates/Slice0/Obligations.lean ====
section
/-! DEFINITION. The statements about the module, one per definition, in the order of OBLIGATIONS.json. Each says what a family of
command rows does to a state (the parts it leaves alone named by `KeepsBut`), or what every step keeps. -/

section Slice0Obligations

open Sys2Proof Sys2Proof.Machine Sys2Proof.Safety

/-- A step takes the command at the front and runs it on the state with the queue's rest. -/
def Obligations.StepRunsFrontCommand : Prop :=
  ∀ (c : Instr) (rest : List Instr) (s : State), step { s with pending := c :: rest } = exec c { s with pending := rest }

/-- An idle step is one tick of TB (log 6): station time counts it, one more or none while it slews (R28, R33). -/
def Obligations.EmptyQueueCountsTimeBase : Prop :=
  ∀ s : State, s.pending = [] → ∃ t, step s = .next t ∧ KeepsBut [.tim] s t ∧ t.tim.tb = s.tim.tb + 1 ∧
    (t.tim.station = s.tim.station ∨ t.tim.station = s.tim.station + 1 ∨ t.tim.station = s.tim.station + 2) ∧
    (s.tim.slewStep = 0 → s.tim.slewAcc = 0 → t.tim.station = s.tim.station + 1)

/-- The block never stops: what it does not accept it answers with a status, counts as dropped or ignores (R4, R5, R71). -/
def Obligations.ExecAnswersNext : Prop := ∀ (c : Instr) (s : State), GoesOn (exec c s)

/-- A command leaves the queue and TB as they are; time passes between commands (log 6). -/
def Obligations.ExecKeepsQueueAndTimeBase : Prop :=
  ∀ (c : Instr) (s t : State), exec c s = .next t → t.pending = s.pending ∧ t.tim.tb = s.tim.tb

/-- The window stays in its canonical form through every command, tick and reset. -/
def Obligations.StepKeepsWindowForm : Prop := ∀ s t : State, WindowForm s → step s = .next t → WindowForm t

/-- The reset window is canonical. -/
def Obligations.ResetWindowForm : Prop := WindowForm State.reset

/-- What the module's state refuses (R42, R45, R70, R489): the answer, and no other effect. -/
def Obligations.ModuleStateRefusesCommands : Prop :=
  ∀ (c : Instr) (h : Hdr) (op least : Nat) (g : Target) (pends : Bool) (s t : State) (idx : Word),
    hostForm c = some (h, op, least, g, pends) → takeSlot h.ring s = some (idx, t) →
    h.ring.val = (if op = 0x0301 then 0 else 2) →
    let answered (st : Status) := Replies c h op idx s t { status := st } [.ins] (fun u => op ≠ 0x0301 → u.ins = t.ins)
    (t.pwr.mod = .booting → op ∉ [0x0101, 0x0104, 0x0105, 0x0A02] → answered .wrongState) ∧
    (t.pwr.mod = .imageFault → op ∉ [0x0104, 0x0A02] → answered .wrongState) ∧
    (t.pwr.mod = .safe → op ∉ [0x0101, 0x0104, 0x0405, 0x0801, 0x0B01, 0x0B02, 0x0107, 0x0A02, 0x0110] → answered .wrongState) ∧
    (t.pwr.mod = .ready → isMaster t = false →
      op ∉ [0x0101, 0x0104, 0x0105, 0x0405, 0x0801, 0x0B01, 0x0B02, 0x0107, 0x0601, 0x0701, 0x0702, 0x0902, 0x0903, 0x0901,
        0x0A02, 0x0A01] → answered .notActive)

/-- BAD_OPCODE (R71), and a ring that takes nothing. -/
def Obligations.WrongRingIsBadOpcode : Prop :=
  (∀ (c : Instr) (h : Hdr) (op least : Nat) (g : Target) (pends : Bool) (s t : State) (idx : Word),
    hostForm c = some (h, op, least, g, pends) → takeSlot h.ring s = some (idx, t) →
    h.ring.val ≠ (if op = 0x0301 then 0 else 2) → Replies c h op idx s t { status := .badOpcode } [] (fun _ => True)) ∧
  (∀ (h : Hdr) (op : Half) (s t : State) (idx : Word), takeSlot h.ring s = some (idx, t) →
    Replies (.unknownOpcode h op) h op.toNat idx s t { status := .badOpcode } [] (fun _ => True)) ∧
  (∀ (h : Hdr) (op : Half) (s : State), takeSlot h.ring s = none → Idles (.unknownOpcode h op) s) ∧
  (∀ (c : Instr) (h : Hdr) (op least : Nat) (g : Target) (pends : Bool) (s : State),
    hostForm c = some (h, op, least, g, pends) → takeSlot h.ring s = none → Idles c s)

/-- BUSY (R67, R68). -/
def Obligations.BusyTargetsAnswerBusy : Prop :=
  ∀ (c : Instr) (h : Hdr) (op least : Nat) (g : Target) (pends : Bool) (s t : State) (idx : Word) (p : Pend),
    hostForm c = some (h, op, least, g, pends) → takeSlot h.ring s = some (idx, t) →
    h.ring.val = (if op = 0x0301 then 0 else 2) → refusal op t = none → least ≤ h.length.toNat →
    (p ∈ t.cmd.pend ∧ ((∃ n, g = .channel n ∧ p.target = .channel n) ∨ (∃ n, g = .port n ∧ p.target = .port n) ∨
        (∃ a b, g = .bus a ∧ p.target = .bus b ∧ a &&& b ≠ 0) ∨ (g = .commit ∧ p.target = .commit)) ∨
      (pends = true ∧ 16 ≤ t.cmd.pend.length + t.cmd.held.length)) →
    Replies c h op idx s t { status := .busy } [] (fun _ => True)

/-- What `settle` leaves in hand (R66, R68, R83). -/
def Obligations.DescriptorsReturnInSlotOrder : Prop :=
  ∀ s : State,
    (∀ (a b : List Taken) (x : Taken), (settle s).cmd.taken = a ++ x :: b → x.reply.isSome = true →
      ∃ y ∈ a, y.ring = x.ring ∧ y.reply = none) ∧
    ((settle s).cmd.held ≠ [] → canPost (settle s) 3 = false) ∧
    (settle s).ev.held.length ≤ 256 ∧
    (∀ r : Ring, (settle s).rings[r].hpi = s.rings[r].hpi)

/-- Returning a descriptor (R62): `writeDesc` then `returned`. -/
def Obligations.ReplyIsWrittenWithOwnLast : Prop :=
  ∀ (r : Ring) (idx : Word) (op tag len : Half) (p : Reply) (s : State), WindowForm s →
    (∀ x ∈ p.words, 3 ≤ x.1 ∧ x.1 ≤ 15) →
    let t := returned r (writeDesc r idx op tag len (replyWord2 p) p.words false s)
    let off := slotOff r s.rings[r] idx
    memNum t.win off 4 = op.toNat ∧ memNum t.win (off + 4) 4 = tag.toNat * 65536 + len.toNat ∧
    memNum t.win (off + 8) 4 = replyWord2 p ∧ t.rings[r].mpi = s.rings[r].mpi + 1 ∧
    (∀ k, k < off ∨ off + 64 ≤ k → memByte t.win k = memByte s.win k)

/-- GET_PARAM and SET_PARAM (R86, R88). -/
def Obligations.ParameterReadsAndWrites : Prop :=
  (∀ (h : Hdr) (id : Half) (view : BitVec 2) (bulk : Bulk) (s t : State) (idx : Word) (row : PRow) (v : List Byte) (staged : Bool),
    Admits h 0x0101 4 .none false s idx t → paramRow id.toNat = some row → sealedId id.toNat = false → id ≠ 0x8100 →
    (view = 0 ∧ v = valueIn t.cfg.eff id.toNat ∧ staged = false ∨
      view = 1 ∧ v = tabGet [] t.cfg.staged id.toNat ∧ v ≠ [] ∧ staged = true ∨
      view = 1 ∧ tabGet [] t.cfg.staged id.toNat = [] ∧ v = valueIn t.cfg.stored id.toNat ∧ staged = false ∨
      view = 2 ∧ v = valueIn t.cfg.stored id.toNat ∧ staged = false) →
    (v.length ≤ 32 → Replies (.getParam h id view bulk) h 0x0101 idx s t
      { okWords ((4, v.length) :: valueWords v) with detail := if staged then 1 else 0 } [] (fun _ => True)) ∧
    (32 < v.length → 48 ≤ h.length.toNat → bulkOk t bulk v.length = true → WindowForm t →
      Replies (.getParam h id view bulk) h 0x0101 idx s t { okWords [(4, v.length)] with detail := if staged then 1 else 0 } [.win]
        (fun u => memRead u.win (bulk.offset.toNat + 16) v.length = v ∧ bitOf (memNum u.win bulk.offset.toNat 4) 31 = false ∧
          ∀ k, k < bulk.offset.toNat ∨ bulk.offset.toNat + 16 + v.length ≤ k → memByte u.win k = memByte t.win k))) ∧
  (∀ (h : Hdr) (id len : Half) (value : List Byte) (bulk : Bulk) (s t : State) (idx : Word),
    Admits h 0x0102 8 .none false s idx t →
    (sealedId id.toNat = true → Replies (.setParam h id len value bulk) h 0x0102 idx s t { status := .sealed } [] (fun _ => True)) ∧
    (sealedId id.toNat = false → paramRow id.toNat = none →
      Replies (.setParam h id len value bulk) h 0x0102 idx s t { status := .badParam, detail := 3 } [] (fun _ => True)) ∧
    (∀ row : PRow, sealedId id.toNat = false → paramRow id.toNat = some row → len.toNat = row.size → len.toNat ≤ 32 →
      8 + len.toNat ≤ h.length.toNat → value.length = len.toNat → checkValue row value = .ok →
      (tabGet [] t.cfg.staged id.toNat ≠ [] ∨ t.cfg.staged.length < 256) →
      Replies (.setParam h id len value bulk) h 0x0102 idx s t { status := .ok } [.cfg]
        (fun u => u.cfg = { t.cfg with staged := tabPut [] t.cfg.staged id.toNat value })))

/-- Commands about configuration, identity, time, the active port and a restart. -/
def Obligations.CommitAndTimeCommands : Prop :=
  (∀ (h : Hdr) (validateOnly : Bool) (s t : State) (idx : Word), Admits h 0x0103 4 .commit true s idx t →
    t.pwr.warn = false → t.pwr.holdupFault = false → t.store.fenced = false → t.store.worn = false →
    (∀ c, commitFault t = some c → Finishes (.commitConfig h validateOnly) h 0x0103 idx s t
      (replyWords c.status [(3, c.id), (5, c.item)]) [] (fun _ => True)) ∧
    (commitFault t = none → validateOnly = true → Finishes (.commitConfig h validateOnly) h 0x0103 idx s t
      (okWords [(4, t.cfg.seq.toNat)]) [] (fun _ => True)) ∧
    (commitFault t = none → validateOnly = false →
      Pends (.commitConfig h validateOnly) h 0x0103 idx s t (pendOf h 0x0103 .commit t.tim.tb 0) [.cfg, .store] (fun u =>
        (∃ r, u.cfg = { t.cfg with next := some r } ∧ r.values = resulting t ∧ r.seq = t.cfg.seq + 1 ∧ r.taken = t.cfg.staged) ∧
        .config ∈ u.store.queue ∧ u.store.inFlight = t.store.inFlight))) ∧
  (∀ (h : Hdr) (s t : State) (idx : Word), Admits h 0x0104 0 .none false s idx t →
    Replies (.readIdentity h) h 0x0104 idx s t (okWords [(3, bN Config.variantAC), (4, Config.serialNumber.toNat),
      (5, Config.hardwareRevision.toNat), (6, t.img.a.version.toNat), (7, t.img.b.version.toNat), (8, bN (t.pwr.bank == .b)),
      (9, (readReg t t.hst.active 0x0004).toNat), (10, interfaceRev)]) [] (fun _ => True)) ∧
  (∀ (h : Hdr) (x : DWord) (s t : State) (idx : Word), Admits h 0x0105 8 .none true s idx t →
    ((t.tim.lock = .unset ∨ activeChans t = [] ∨ wouldChange t x = false) →
      Pends (.setTime h x) h 0x0105 idx s t (pendOf h 0x0105 .none t.tim.tb x) [] (fun _ => True)) ∧
    (t.tim.lock ≠ .unset → activeChans t ≠ [] → wouldChange t x = true →
      Replies (.setTime h x) h 0x0105 idx s t { status := .wrongState } [] (fun _ => True))) ∧
  (∀ (s : State) (p : Pend), pendOp s 0x0105 = some p → Runs .setTimeTimeout s [.cmd] (fun u =>
    u.cmd.pend = s.cmd.pend.filter (fun q => !(q == p)) ∧ u.cmd.taken = s.cmd.taken ∧
    ∃ k ≥ 1, u.cmd.held = s.cmd.held ++ List.replicate k { op := p.op, tag := p.tag, reply := { status := .timeout } })) ∧
  (∀ (h : Hdr) (s t : State) (idx : Word), Admits h 0x0106 0 .none false s idx t →
    ((portRegs t (otherPort t.hst.active)).link = true → Replies (.hostSwitch h) h 0x0106 idx s t { status := .ok } [.hst]
      (fun u => u.hst = { t.hst with change := some { port := otherPort t.hst.active, cause := 0 } })) ∧
    ((portRegs t (otherPort t.hst.active)).link = false →
      Replies (.hostSwitch h) h 0x0106 idx s t { status := .wrongState } [] (fun _ => True))) ∧
  (∀ (s : State) (c : PortChange), s.hst.change = some c → c.port ≠ s.hst.active → Runs .activePortChange s [.hst, .ev] (fun u =>
    u.hst = { s.hst with active := c.port, change := none } ∧
    Tells s u 0x8109 (portCode c.port) [ef 28 0 (portCode c.port), ef 28 1 c.cause])) ∧
  (∀ (h : Hdr) (force : Bool) (s t : State) (idx : Word), Admits h 0x0110 4 .none false s idx t →
    mayOffer t = false → (isMaster t = false ∨ activeChans t = [] ∨ force = true) →
    Replies (.resetModule h force) h 0x0110 idx s t { status := .ok } [.pwr]
      (fun u => u.pwr = { t.pwr with restart := some .resetModule })) ∧
  (∀ (h : Hdr) (force : Bool) (s t : State) (idx : Word), Admits h 0x0110 4 .none false s idx t → isMaster t = true →
    t.twn.open_ = none → mayOffer t = true → Stays (.resetModule h force) h 0x0110 idx s t [.twn]
      (fun u => u.twn = { t.twn with open_ := some (.reset force) })) ∧
  (∀ (h : Hdr) (s t : State) (idx : Word), Admits h 0x0110 4 .none false s idx t → isMaster t = true → mayOffer t = false →
    activeChans t ≠ [] → Replies (.resetModule h false) h 0x0110 idx s t { status := .wrongState } [] (fun _ => True))

/-- Register accesses with side effects (R7, R8, R28). -/
def Obligations.ReadClearNeverLosesADrop : Prop :=
  ∀ (p : HPort) (s : State), portFenced s p = false →
    (∀ concurrent : Bool, Runs (.hstWriteDropsRead p concurrent) s [.hst] (fun u =>
      u = modHp p (fun r => { r with readValue := r.drops, drops := if concurrent then 1 else 0 }) s)) ∧
    Runs (.hstTimeLoRead p) s [.hst] (fun u =>
      u = modHp p (fun r => { r with readValue := s.tim.station.truncate 32, timeHi := (s.tim.station >>> 32).truncate 32 }) s) ∧
    (∀ (high : Bool) (value setNow : Word), Runs (.hstIrqPendClear p high value setNow) s [.hst] (fun u =>
      ∃ x, u = modHp p (fun r => { r with irqPend := x }) s ∧
        getHalf (!high) x = getHalf (!high) (portRegs s p).irqPend ∧
        ∀ k < 32, (getHalf high x).getLsbD k =
          (setNow.getLsbD k || ((getHalf high (portRegs s p).irqPend).getLsbD k && !value.getLsbD k))))

/-- Writes to BAR0 and BAR2 (R52, R55, R58, R84). -/
def Obligations.WritesOfThePorts : Prop :=
  ∀ (p : HPort) (s : State), portFenced s p = false →
    let dropped (u : State) := u = modHp p (fun r => { r with drops := if r.drops = 0xFFFF_FFFF then r.drops else r.drops + 1 }) s
    (∀ (offset size : Nat) (v : DWord), WindowForm s → p = s.hst.active → 1 ≤ size → size ≤ 8 →
      (0x1000 ≤ offset ∧ offset + size ≤ 0x1400 ∨ 0x10000 ≤ offset ∧ offset + size ≤ 0x04000000) →
      Runs (.registerWrite p .bar2 offset size v) s [.win] (fun u =>
        memNum u.win offset size = v.toNat % 256 ^ size ∧
        ∀ k, k < offset ∨ offset + size ≤ k → memByte u.win k = memByte s.win k)) ∧
    (∀ (offset size : Nat) (v : DWord), (p ≠ s.hst.active ∨ size = 0 ∨ 8 < size ∨
        ¬(0x1000 ≤ offset ∧ offset + size ≤ 0x1400 ∨ 0x10000 ≤ offset ∧ offset + size ≤ 0x04000000)) →
      Runs (.registerWrite p .bar2 offset size v) s [.hst] dropped) ∧
    (∀ (offset size : Nat) (v : DWord), (size ≠ 4 ∨ offset % 4 ≠ 0) → Runs (.registerWrite p .bar0 offset size v) s [.hst] dropped) ∧
    (∀ v : DWord, Runs (.registerWrite p .bar0 0x0010 4 v) s [.hst]
      (fun u => u = modHp p (fun r => { r with control := v.truncate 32 }) s)) ∧
    (p = s.hst.active → refsOnly s = false → Runs (.hstHeartbeatWrite p) s [.hst, .qm, .ev]
      (fun u => u.hst.activityAt = s.tim.tb ∧ u.hst.silent = false ∧ u.qm = { s.qm with fwSilence := false } ∧
        (s.hst.silent = false → u.ev = s.ev))) ∧
    (p ≠ s.hst.active → Runs (.hstHeartbeatWrite p) s [.hst] dropped) ∧
    (∀ v : Word, p ≠ s.hst.active → v.toNat % 65536 = 0x5A3C →
      ((portRegs s s.hst.active).link = false ∨ s.hst.silent = true ∨ v.getLsbD 16 = true) →
      Runs (.hstTakeoverWrite p v) s [.hst] (fun u => ∃ cause, u.hst = { s.hst with change := some { port := p, cause := cause } })) ∧
    (∀ v : Word, (p = s.hst.active ∨ v.toNat % 65536 ≠ 0x5A3C ∨
        ((portRegs s s.hst.active).link = true ∧ s.hst.silent = false ∧ v.getLsbD 16 = false)) → Idles (.hstTakeoverWrite p v) s) ∧
    (∀ v : Word, p ≠ s.hst.active → Runs (.loadAllGo p v) s [.hst] dropped) ∧
    (∀ v : Word, p = s.hst.active → v.getLsbD 0 = false → Idles (.loadAllGo p v) s)

/-- Rings and streams (R60 to R65, R74). -/
def Obligations.RingRegistersAndStreams : Prop :=
  (∀ (p : HPort) (r : Ring) (v : Word) (s : State), portFenced s p = false → p = s.hst.active →
    ((v.toNat % 16 ≠ s.rings[r].sizeLog2.toNat ∧ s.rings[r].enable = true ∨ v.toNat % 16 < 4 ∨ 12 < v.toNat % 16) →
      Becomes (.hstRingCfgWrite p r v) s (dropWrite p s)) ∧
    (4 ≤ v.toNat % 16 → v.toNat % 16 ≤ 12 → v.getLsbD 5 = true → s.rings[r].enable = false → s.rings[r].fault = false →
      Runs (.hstRingCfgWrite p r v) s [.rings, .cmd] (fun u => u.cmd.pend = s.cmd.pend ∧ u.cmd.held = s.cmd.held ∧
        (∀ q : Ring, q ≠ r → u.rings[q] = s.rings[q]) ∧ u.rings[r].enable = true ∧ u.rings[r].hpi = 0 ∧ u.rings[r].mpi = 0 ∧
        u.rings[r].sizeLog2.toNat = v.toNat % 16 ∧ u.rings[r].dir = s.rings[r].dir))) ∧
  (∀ (p : HPort) (r : Ring) (v : Word) (s : State), (p ≠ s.hst.active ∨ portFenced s p = true) →
    Becomes (.hstRingCfgWrite p r v) s (dropWrite p s) ∧ Becomes (.hstRingHpiWrite p r v) s (dropWrite p s)) ∧
  (∀ (p : HPort) (r : Ring) (v : Word) (s : State), portFenced s p = false → p = s.hst.active → s.rings[r].enable = true →
    s.rings[r].fault = false → s.hst.silent = false →
    ((v - s.rings[r].hpi).toNat < 2 ^ 31 → (v - s.rings[r].mpi).toNat ≤ 2 ^ s.rings[r].sizeLog2.toNat →
      (∀ k < (v - s.rings[r].tkn).toNat,
        bitOf (memNum s.win (slotOff r s.rings[r] (s.rings[r].tkn + BitVec.ofNat 32 k)) 4) 31 = true) →
      Runs (.hstRingHpiWrite p r v) s [.rings, .hst, .qm] (fun u =>
        u.rings = vmod s.rings r (fun g => { g with hpi := v, tkn := v }))) ∧
    ((2 ^ 31 ≤ (v - s.rings[r].hpi).toNat ∨ 2 ^ s.rings[r].sizeLog2.toNat < (v - s.rings[r].mpi).toNat) →
      Runs (.hstRingHpiWrite p r v) s [.rings, .hst, .qm, .ev] (fun u =>
        u.rings = vmod s.rings r (fun g => { g with fault := true }) ∧ ∃ cause stop,
          (cause = 1 ↔ 2 ^ 31 ≤ (v - s.rings[r].hpi).toNat) ∧
          Tells s u 0x810C r.val [ef 28 0 r.val, ef 29 0 cause, ef 32 0 v.toNat, ef 36 0 stop]))) ∧
  (∀ (h : Hdr) (r : Ring) (kind : Byte) (mask : DWord) (interval : Half) (s t : State) (idx : Word),
    Admits h 0x0107 20 .none false s idx t →
    (4 ≤ r.val → kind.toNat ≤ 6 → (kind ≠ 0 → 1 ≤ interval.toNat ∧ interval.toNat ≤ 60000) →
      (kind = 3 → interval.toNat % 100 = 0) → t.rings[r].enable = false →
      Replies (.streamSetup h r kind mask interval) h 0x0107 idx s t { status := .ok } [.rings] (fun u =>
        (∀ q : Ring, q ≠ r → u.rings[q] = t.rings[q]) ∧ u.rings[r].kind = kind ∧ u.rings[r].mask = mask ∧
        u.rings[r].interval = interval ∧ u.rings[r].dir = decide (kind ≠ 0) ∧ u.rings[r].hpi = t.rings[r].hpi ∧
        u.rings[r].mpi = t.rings[r].mpi)) ∧
    (r.val < 4 → ∃ d, Replies (.streamSetup h r kind mask interval) h 0x0107 idx s t { status := .outOfRange, detail := d } [] (fun _ => True)) ∧
    (4 ≤ r.val → 6 < kind.toNat →
      ∃ d, Replies (.streamSetup h r kind mask interval) h 0x0107 idx s t { status := .badParam, detail := d } [] (fun _ => True))) ∧
  (∀ (r : Ring) (s : State), s.rings[r].kind ≠ 0 → s.rings[r].enable = true → s.rings[r].dir = true → canPost s r = false →
    Becomes (.streamInterval r) s (modRing r (fun g => { g with
      seq := g.seq + 1, edges := g.edges.drop (g.edges.length + g.frames.length), frames := g.frames.drop (g.edges.length + g.frames.length) }) s)) ∧
  (∀ (r : Ring) (s : State), canPost s r = true → s.rings[r].kind ≠ 0 → s.rings[r].dir = true →
    bulkOk s (streamBuffer s r) 0 = true → Runs (.streamInterval r) s [.rings, .hst, .win] (fun u =>
      u.rings[r].mpi = s.rings[r].mpi + 1 ∧ u.rings[r].seq = s.rings[r].seq + 1 ∧ ∀ q : Ring, q ≠ r → u.rings[q] = s.rings[q])) ∧
  (∀ (r : Ring) (s : State), (s.rings[r].kind = 0 ∨ s.rings[r].enable = false) → Idles (.streamInterval r) s) ∧
  (∀ (r : Ring) (s : State), s.rings[r].irq.toNat / 65536 % 4096 ≠ 0 → s.rings[r].unsignalled ≠ 0 → s.rings[r].holdAt ≠ none →
    Runs (.ringIrqHoldExpiry r) s [.rings, .hst] (fun u =>
      u.rings = vmod s.rings r (fun g => { g with unsignalled := 0, holdAt := none }) ∧
      (portRegs u s.hst.active).irqPend = (portRegs s s.hst.active).irqPend ||| (1#64 <<< r.val)))

/-- Ports, links and silence (R50, R51, R85). -/
def Obligations.HostLinksAndSilence : Prop :=
  (∀ (p : HPort) (k : PortReset) (s : State), Becomes (.hostPortReset p k) s (modHp p (fun r =>
    { link := r.link, width := r.width, speed := r.speed, downAt := r.downAt, sent := r.sent, readValue := r.readValue,
      control := 0, drops := 0, irqPend := 0, irqMask := 0xFFFF_FFFF_FFFF_FFFF, timeHi := 0, msix := [],
      vecMask := 0xFFFF_FFFF_FFFF_FFFF, pba := 0 }) s)) ∧
  (∀ (p : HPort) (w : BitVec 3) (v : BitVec 2) (s : State), (portRegs s p).link = true →
    Runs (.hostLinkChange p false w v) s [.hst, .ev] (fun u =>
      (portRegs u p).link = false ∧ (portRegs u p).width = 0 ∧ (portRegs u p).speed = 0 ∧ (portRegs u p).irqPend = 0 ∧
      (portRegs u p).irqMask = 0xFFFF_FFFF_FFFF_FFFF ∧ portRegs u (otherPort p) = portRegs s (otherPort p) ∧
      u.hst.active = s.hst.active ∧
      (s.pwr.imageRuns = true → Tells s u 0x810A (portCode p) [ef 28 0 (portCode p), ef 28 1 0, ef 28 2 (bN (s.hst.active == p))]))) ∧
  (∀ (p : HPort) (w : BitVec 3) (v : BitVec 2) (s : State), (portRegs s p).link = false → Idles (.hostLinkChange p false w v) s) ∧
  (∀ (p : HPort) (w : BitVec 3) (v : BitVec 2) (s : State),
    Runs (.hostLinkChange p true w v) s [.hst, .ev] (fun u =>
      (portRegs u p).link = true ∧ (portRegs u p).width = w ∧ (portRegs u p).speed = v ∧
      (portRegs u p).irqPend = (portRegs s p).irqPend ∧ portRegs u (otherPort p) = portRegs s (otherPort p) ∧
      u.hst.active = s.hst.active ∧
      (s.pwr.imageRuns = true → Tells s u 0x810A (portCode p) [ef 28 0 (portCode p), ef 28 1 1, ef 28 2 (bN (s.hst.active == p))]) ∧
      (s.pwr.imageRuns = true → (w.toNat < 4 ∨ v.toNat < 3) → ∃ e ∈ u.ev.held, e.code = 0x810B ∧
        (e.seq = s.ev.seq + 1 ∨ e.seq = s.ev.seq + 2) ∧ e.subject = BitVec.ofNat 16 (portCode p)))) ∧
  (∀ (byLink : Bool) (s : State), s.hst.silent = false → s.pwr.imageRuns = true →
    (byLink = true → (portRegs s s.hst.active).link = false) → pNat s Prm.insSilenceAction ≠ 1 →
    Runs (.hostSilenceTimeout byLink) s [.hst, .ev] (fun u =>
      u.hst = { s.hst with silent := true, silentByLink := byLink, declared := s.hst.declared + 1, silentAt := s.tim.tb } ∧
      Tells s u 0x8108 0xFFFF [ef 28 1 (bN byLink)])) ∧
  (∀ (byLink : Bool) (s : State), s.hst.silent = false → s.pwr.imageRuns = true →
    (byLink = true → (portRegs s s.hst.active).link = false) → pNat s Prm.insSilenceAction = 1 →
    ∃ u, exec (.hostSilenceTimeout byLink) s = .next (settle u) ∧ u.qm.fwSilence = true ∧ u.hst.silent = true ∧
      u.hst.declared = s.hst.declared + 1 ∧ Tells s u 0x8108 0xFFFF [ef 28 1 (bN byLink)]) ∧
  (∀ (byLink : Bool) (s : State), s.hst.silent = true → Idles (.hostSilenceTimeout byLink) s)

/-- What a reset with cause `c` leaves of `s` in `u` (R39), whether or not the main domain has started again. -/
def Obligations.ResetsKeepWhatTheTableKeeps : Prop :=
  let kept (c : StartCause) (s u : State) : Prop :=
    u.cfg.stored = s.cfg.stored ∧ u.cfg.seq = s.cfg.seq ∧ u.cfg.marked = s.cfg.marked ∧ u.cfg.staged = [] ∧
    u.ev.pinned = s.ev.pinned ∧ u.store.learned = s.store.learned ∧ u.store.checkpoint = s.store.checkpoint ∧
    u.store.imps = s.store.imps ∧ u.win = [] ∧ u.rings = State.reset.rings ∧ u.hst.active = .a ∧ u.cmd = State.reset.cmd ∧
    u.pwr.cause = c ∧ u.pwr.prefBank = s.pwr.prefBank ∧ u.img.a = s.img.a ∧ u.img.b = s.img.b ∧
    u.saf.so = s.saf.so ∧ u.saf.pair = s.saf.pair ∧ u.saf.si = s.saf.si ∧ u.saf.running = s.saf.running ∧
    u.saf.degraded = s.saf.degraded
  let timeKept (s u : State) : Prop := u.tim.station = s.tim.station ∧ u.tim.lock = s.tim.lock
  let timeLost (u : State) : Prop := u.tim.station = 0 ∧ u.tim.lock = .unset
  let held (u : State) : Prop := u.pwr.mod = .booting ∧ u.pwr.dark = true ∧ u.ports = State.reset.ports ∧ mainUp u = false
  ∀ s : State, s.store.inFlight = none →
    (∀ a b : Byte, ∃ u, exec (.powerOn a b) s = .next (settle u) ∧ kept .powerOn s u ∧ timeLost u ∧
      (s.pwr.thermalHeld = false → u.pwr.hbA = a ∧ u.pwr.hbB = b ∧ u.pwr.boot = s.pwr.boot + 1)) ∧
    (mainUp s = true → ∃ u, exec .mrst s = .next (settle u) ∧ kept .mrst s u ∧ timeKept s u ∧
      u.pwr.boot = s.pwr.boot + 1) ∧
    (mainUp s = true → ∃ u, exec .watchdogReset s = .next (settle u) ∧ kept .watchdog s u ∧ timeKept s u ∧
      u.pwr.boot = s.pwr.boot + 1) ∧
    (mainUp s = true → s.pwr.restart ≠ none → ∃ u, exec .deferredRestart s = .next (settle u) ∧ kept .resetModule s u ∧
      timeKept s u ∧ u.pwr.boot = s.pwr.boot + 1 ∧ u.hst.a.link = s.hst.a.link ∧ u.hst.b.link = s.hst.b.link) ∧
    (s.pwr.restart = none → Idles .deferredRestart s) ∧
    (∀ k : ClockFault, ∃ u, exec (.clockLoss k) s = .next (settle u) ∧ kept .clockLoss s u ∧ timeLost u ∧ held u ∧
      u.ev.log = [] ∧ u.pwr.clockHeld = true ∧ u.pwr.boot = s.pwr.boot) ∧
    (∃ u, exec .railFault s = .next (settle u) ∧ kept .rail s u ∧ timeLost u ∧ held u ∧
      u.ev.log = [] ∧ u.pwr.clockHeld = true) ∧
    (s.pwr.warn = true → s.pwr.supplyHeld = false → ∃ u, exec .reserveExhausted s = .next (settle u) ∧ kept .powerOn s u ∧
      timeLost u ∧ held u ∧ u.ev.log = [] ∧ u.pwr.supplyHeld = true) ∧
    (s.pwr.warn = false → Idles .reserveExhausted s) ∧
    (∀ (c : BitVec 4) (k : BitVec 2) (peak : Half), c ≠ 0 → s.pwr.thermalHeld = false →
      ∃ u, exec (.thermalShutdown c k peak) s = .next (settle u) ∧ kept .thermal s u ∧ timeKept s u ∧ held u ∧
        u.pwr.thermalHeld = true ∧ u.thm.shutdowns = s.thm.shutdowns + 1 ∧
        ∃ r, u.thm.latched = some r ∧ r.sensor = k ∧ r.peak = peak) ∧
    (s.pwr.clockHeld = true → s.pwr.thermalHeld = false → s.pwr.supplyHeld = false →
      ∃ u, exec .clockRestored s = .next (settle u) ∧ mainUp u = true ∧ u.pwr.boot = s.pwr.boot + 1) ∧
    (s.pwr.clockHeld = false → Idles .clockRestored s) ∧
    (s.pwr.thermalHeld = true → s.pwr.clockHeld = false → s.pwr.supplyHeld = false →
      ∃ u, exec .thermalRestart s = .next (settle u) ∧ mainUp u = true ∧ u.pwr.boot = s.pwr.boot + 1) ∧
    (s.pwr.thermalHeld = false → Idles .thermalRestart s)

/-- From the image to READY and a role (R45, R46, R358). -/
def Obligations.StartUpToReady : Prop :=
  let four (s : State) : Prop := s.pwr.mod = .booting ∧ mainUp s = true ∧ s.pwr.imageRuns = true ∧ s.pwr.configLoaded = true ∧
    s.pwr.matrixOk = true ∧ ∀ p : Chan, populated s p = true → s.ports[p].settled = true
  ∀ s : State,
    (∀ p : Chan, populated s p = true → s.ports[p].settled = false → s.pwr.configLoaded = true →
      ∃ cause, (cause = 0 ↔ s.ports[p].light = false) ∧ (cause = 1 ↔ s.ports[p].light = true ∧ s.ports[p].lock = false) ∧
        Becomes (.portSettleTimeout p) s (modPort p (fun x => { x with settled := true })
          (placeDark p (linkLossEvent p cause s.ports[p].state false s)))) ∧
    (∀ p : Chan, (populated s p = false ∨ s.ports[p].settled = true ∨ s.pwr.configLoaded = false) → Idles (.portSettleTimeout p) s) ∧
    (∀ time : Half, mainUp s = true → s.pwr.imageRuns = true →
      Becomes (.holdupTestDone true time) s { s with pwr := { s.pwr with holdupTested := true, holdupFault := false, holdupOk := !s.pwr.warn } } ∧
      Runs (.holdupTestDone false time) s [.pwr, .ev] (fun u =>
        u.pwr = { s.pwr with holdupTested := true, holdupFault := true, holdupOk := false } ∧ Tells s u 0x8103 0xFFFF [ef 28 0 time.toNat])) ∧
    (four s → s.pwr.fallback = false → Becomes .moduleReady s (loReady (handOver (postTorn (postShutdown (closeOld
      (raise 0x8101 0xFFFF [ef 28 0 s.pwr.cause.code, ef 29 0 (bankN s.pwr.bank), ef 29 1 0, ef 29 2 (bN s.pwr.holdupFault),
        ef 32 0 s.pwr.boot.toNat] { s with pwr := { s.pwr with mod := .ready, wasReady := true, attempts := 0 } }))))))) ∧
    (¬four s → Idles .moduleReady s) ∧
    ((mainUp s = true ∧ twinBit s = true ∧ s.pwr.imageRuns = true ∧ ∀ p : Chan, populated s p = true → s.ports[p].settled = true) →
      s.twn.mismatch = none →
      (s.twn.role = .starting → paired s = false → Becomes .roleResolution s { s with twn := { s.twn with role := .candidate } }) ∧
      (s.twn.role = .candidate → ∀ h, s.twn.partner = some h → s.twn.lost = false →
        (h.role = 2 → Becomes .roleResolution s (becomeStandby 0 s)) ∧
        (h.role = 1 → s.twn.portEpoch = none → oddAddr s = false → Becomes .roleResolution s (activeAtStart s)) ∧
        (h.role = 1 → s.twn.portEpoch = none → oddAddr s = true → Idles .roleResolution s))) ∧
    (mainUp s = true → s.twn.role = .candidate → s.twn.lost = true → otherGone s = true →
      Becomes .aloneWaitExpiry s (activeAtStart s)) ∧
    ((s.twn.role ≠ .candidate ∨ s.twn.lost = false ∨ otherGone s = false) → Idles .aloneWaitExpiry s)

/-- Supply and retained store (R46 to R48, R495, R499). -/
def Obligations.PowerFailAndRecordWrites : Prop :=
  ∀ s : State,
    (∀ v : Half, mainUp s = true → s.pwr.warn = false → (∀ n, .learned n true ∉ s.store.queue) →
      Runs (.powerFailWarning v) s [.pwr, .ev, .store] (fun u =>
        u.pwr = { s.pwr with warn := true, warnAt := s.tim.tb, warnHandedOver := false, holdupOk := false } ∧
        Tells s u 0x8104 0xFFFF [ef 28 0 v.toNat] ∧ u.store.inFlight = s.store.inFlight ∧
        ((s.pwr.mod = .ready ∨ s.pwr.mod = .safe) → .checkpoint 1 ∈ u.store.queue))) ∧
    (∀ v : Half, s.pwr.warn = true → Idles (.powerFailWarning v) s) ∧
    (s.pwr.warn = true → s.twn.open_ = none → mayOffer s = true →
      Becomes .powerFailHandover s { s with twn := { s.twn with open_ := some .powerFail } }) ∧
    ((s.pwr.warn = false ∨ mayOffer s = false) → Idles .powerFailHandover s) ∧
    (s.pwr.warn = true → Runs .powerFailWithdrawn s [.pwr, .ev] (fun u =>
      u.pwr = { s.pwr with warn := false, holdupOk := s.pwr.holdupTested && !s.pwr.holdupFault } ∧
      Tells s u 0x8105 0xFFFF [ef 28 0 (min 0xFFFFFFFF ((s.tim.tb - s.pwr.warnAt) / tUs)), ef 32 0 (bN s.pwr.warnHandedOver)])) ∧
    (s.pwr.warn = false → Idles .powerFailWithdrawn s) ∧
    (fwRuns s = true → (s.pwr.mod = .ready ∨ s.pwr.mod = .safe) → s.pwr.warn = false →
      Runs .checkpointPeriodic s [.store, .asy] (fun u => .checkpoint 0 ∈ u.store.queue ∧ u.store.inFlight = s.store.inFlight ∧
        (.checkpoint 0 ∉ s.store.queue → s.store.inFlight ≠ some (.checkpoint 0) → s.store.fenced = false → s.store.worn = false →
          u.asy = s.asy))) ∧
    (s.store.inFlight = none → ∀ ok, Idles (.recordWriteDone ok) s) ∧
    (∀ n : Chan, s.store.inFlight = some (.calibration n) → tabGet 0 s.store.writes (0x100 + n.val) + 1 < writeLimit →
      Runs (.recordWriteDone true) s [.store] (fun u => u.store.inFlight = none ∧
        u.store.calibs = tabPut none s.store.calibs n.val s.meas[n].calib ∧
        u.store.writes = tabPut 0 s.store.writes (0x100 + n.val) (tabGet 0 s.store.writes (0x100 + n.val) + 1))) ∧
    (∀ e : Event, s.store.inFlight = some (.pinned e) → Runs (.recordWriteDone true) s [.store, .ev] (fun u =>
      u.ev = { s.ev with pinned := s.ev.pinned ++ [e], pinQueue := s.ev.pinQueue.erase e } ∧ u.store = { s.store with inFlight := none })) ∧
    (∀ w : StoreWrite, s.store.inFlight = some w → Becomes (.recordWriteDone true) s
      (stored w (countWrite w { s with store := { s.store with inFlight := none } }))) ∧
    (∀ w : StoreWrite, s.store.inFlight = some w → Becomes (.recordWriteDone false) s (raiseFault 0x0102 0xFFFF 2 false noId
      (unstored w { s with store := { s.store with inFlight := none, fenced := true } }))) ∧
    (s.pwr.warn = true → s.store.inFlight = none → ∀ w, (settle s).store.inFlight = some w →
      w = .checkpoint 1 ∨ ∃ e, w = .pinned e ∧ .checkpoint 1 ∉ s.store.queue)

/-- Time base and root oscillator (R25, R31 to R34, R401). -/
def Obligations.LockStatesOfStationTime : Prop :=
  ∀ s : State,
    (∀ (ticks : DWord) (frac : Half), mainUp s = true → s.cmd.pend = [] → s.tim.seamSrc = false →
      let a := arrivalOf s ticks frac
      (s.tim.lock = .unset → s.tim.lastEdge = none → Runs (.ppsEdge ticks frac) s [.tim] (fun u =>
        u.tim.lock = .unset ∧ u.tim.lastEdge = some a ∧ u.tim.station = s.tim.station ∧ u.tim.validAt = s.tim.tb)) ∧
      (s.tim.lock = .free → s.tim.lastEdge = none → Runs (.ppsEdge ticks frac) s [.tim, .ev] (fun u =>
        u.tim.lock = .acquire ∧ u.tim.lastEdge = some a ∧ u.tim.station = s.tim.station ∧
        ∃ e ∈ u.ev.held, e.code = 0x8106 ∧ e.seq = s.ev.seq)) ∧
      (∀ l e, s.tim.lock = .acquire → s.tim.lastEdge = some l → withinUs 1 (a - l - secUnits - s.tim.slewStep) = true →
        phaseError s a = some e → (e.natAbs : Int) ≤ 4 * tUnit → s.tim.good = 3 →
        Runs (.ppsEdge ticks frac) s [.tim, .ev, .thm] (fun u => u.tim.lock = .locked ∧ u.tim.station = s.tim.station)) ∧
      (∀ e, s.tim.lock = .holdover → phaseError s a = some e → withinUs 1 e = true →
        Runs (.ppsEdge ticks frac) s [.tim, .ev] (fun u => u.tim.lock = .acquire ∧ u.tim.station = s.tim.station)) ∧
      (∀ e, s.tim.lock = .locked → phaseError s a = some e → withinUs 1 e = false → s.tim.lastRejected = none →
        Becomes (.ppsEdge ticks frac) s { s with tim := { s.tim with moved := 1, lastRejected := some a } })) ∧
    (mainUp s = true → s.tim.seamSrc = false →
      (s.tim.lock = .locked → Runs .ppsLossTimeout s [.tim, .ev] (fun u => u.tim.lock = .holdover ∧ u.tim.holdoverAt = s.tim.tb ∧
        u.tim.station = s.tim.station ∧ ∃ e ∈ u.ev.held, e.code = 0x8106 ∧ e.seq = s.ev.seq)) ∧
      (s.tim.lock = .acquire → Runs .ppsLossTimeout s [.tim, .ev] (fun u => u.tim.lock = .free ∧ u.tim.slewStep = 0 ∧
        u.tim.station = s.tim.station)) ∧
      ((s.tim.lock = .unset ∨ s.tim.lock = .free ∨ s.tim.lock = .holdover) → Idles .ppsLossTimeout s)) ∧
    (mainUp s = true → s.tim.lock = .holdover → Runs .holdoverExpiry s [.tim, .ev] (fun u => u.tim.lock = .free ∧ u.tim.station = s.tim.station)) ∧
    (s.tim.lock ≠ .holdover → Idles .holdoverExpiry s) ∧
    (∀ d0 : Half, mainUp s = true → Runs (.oscCompensation d0) s [.thm, .tim] (fun u =>
      u.thm = { s.thm with die := d0.toInt :: s.thm.die.drop 1 } ∧ u.tim = { s.tim with comp := compValue s (compBin d0.toInt) })) ∧
    (∀ err : Half, (s.tim.lock ≠ .locked ∨ s.tim.tb - s.thm.lockedAt < 600 * tSec) → Idles (.compensationLearn err) s) ∧
    (∀ err : Half, mainUp s = true → s.tim.lock = .locked → 600 * tSec ≤ s.tim.tb - s.thm.lockedAt →
      Runs (.compensationLearn err) s [.thm, .store] (fun u =>
        let b := compBin (s.thm.die.headD 0)
        let old := tabGet 0 s.thm.learned b
        ∃ new, u.thm.learned = tabPut 0 s.thm.learned b new ∧ -500 ≤ new ∧ new ≤ 500 ∧
          new = max (-500) (min 500 (toLsb ((old : Rat) + ((err.toInt : Rat) - old) / 64)))))

/-- Link states of one port (R109 to R117, R145). -/
def Obligations.BringUpOfAPort : Prop :=
  ∀ (p : Chan) (s : State),
    (portOn s p = true → Runs (.portLightDetect p) s [.ports, .free] (fun u =>
      ∃ w, u.ports = vmod s.ports p (fun x => { x with light := true, rxPower := w, state := if x.state = .dark then .light else x.state }))) ∧
    (populated s p = false → Runs (.lightOnUnpopulated p) s [.ports, .free, .ev] (fun u =>
      Tells s u 0x8504 p.val [] ∧ ∃ w, u.ports = vmod s.ports p (fun x => { x with light := true, rxPower := w }))) ∧
    (populated s p = true → Idles (.lightOnUnpopulated p) s) ∧
    (portOn s p = true → Becomes (.characterLock p true) s
      (modPort p (fun x => { x with lock := true, state := if x.state = .light then .aligned else x.state }) s)) ∧
    (portOn s p = true → s.ports[p].state = .aligned → s.ports[p].lock = true → Runs (.characterLock p false) s [.ports] (fun u =>
      (∀ q : Chan, q ≠ p → u.ports[q] = s.ports[q]) ∧ u.ports[p].state = .light ∧ u.ports[p].lock = false ∧
      u.ports[p].codeErrors = s.ports[p].codeErrors + 4)) ∧
    (portOn s p = true → s.ports[p].state = .aligned → s.ports[p].waiting = false → s.ports[p].tone ≠ .fault →
      s.con[p].present = 0 → ∃ u, exec (.toneQualified p) s = .next (settle u) ∧ u.ports[p].state = .tone ∧ u.ports[p].tone = .healthy ∧
        ∀ q : Chan, q ≠ p → u.ports[q] = s.ports[q]) ∧
    (s.ports[p].state = .tone → Runs (.rangingSync p) s [.ports, .txns, .free] (fun u =>
      u.ports[p].state = .ranging ∧ u.ports[p].delay = none ∧ u.ports[p].syncs = s.ports[p].syncs + 1 ∧
      u.txns[p].seqTx = s.txns[p].seqTx + 1 ∧ ∀ q : Chan, q ≠ p → u.ports[q] = s.ports[q] ∧ u.txns[q] = s.txns[q])) ∧
    (s.ports[p].state = .ranging → Runs (.rangingSync p) s [.ports, .txns, .free] (fun u =>
      u.ports[p].state = .ranging ∧ u.ports[p].delay = s.ports[p].delay ∧ u.ports[p].syncs = s.ports[p].syncs + 1 ∧
      u.txns[p].seqTx = s.txns[p].seqTx + 1)) ∧
    (∀ f : Word, s.ports[p].state = .ranging → s.ports[p].delay = none → s.ports[p].ranging.length = 64 →
      ((trimmed s.ports[p].ranging).1 ≤ (10 * pNat s Prm.lnkDelayMax : Nat) → (trimmed s.ports[p].ranging).2 ≤ 20 →
        f.toInt.natAbs ≤ 2000 → Runs (.rangingComplete p f) s [.ports, .hst] (fun u =>
          u.ports[p].delay = some (trimmed s.ports[p].ranging).1 ∧ u.ports[p].state = .ranging ∧ u.ports[p].verified = 0 ∧
          ∀ q : Chan, q ≠ p → u.ports[q] = s.ports[q])) ∧
      (((10 * pNat s Prm.lnkDelayMax : Nat) < (trimmed s.ports[p].ranging).1 ∨ 20 < (trimmed s.ports[p].ranging).2 ∨
          2000 < f.toInt.natAbs) → ∃ cause value, Becomes (.rangingComplete p f) s (refuse p cause value s))) ∧
    (s.ports[p].state = .ranging → 8 ≤ s.ports[p].verified → Runs (.rangingVerified p) s [.ports, .txns] (fun u =>
      u.ports = vmod s.ports p (fun x => { x with state := .exchange, outlierList := [] }) ∧ u.txns[p].sreset = true ∧
      u.txns[p].unacked = [] ∧ u.txns[p].cmds = [] ∧ u.txns[p].rcntTx = 0 ∧ u.txns[p].streamResets = s.txns[p].streamResets)) ∧
    (s.ports[p].state = .exchange → serviceOf s p = none →
      Becomes (.exchangeTimeout p) s (unpartner p 0 s)) ∧
    ((s.ports[p].state = .tone ∨ s.ports[p].state = .ranging ∨ s.ports[p].state = .exchange) → Runs (.bringupStageOverrun p) s [.ports] (fun u =>
      u.ports[p].state = (if s.ports[p].light then .light else .dark) ∧ u.ports[p].lock = false ∧ u.ports[p].ranging = [])) ∧
    ((s.ports[p].state = .running ∨ s.ports[p].state = .dark) → Idles (.bringupStageOverrun p) s) ∧
    (portOn s p = true → (s.ports[p].state = .unpartnered ∨ s.ports[p].state = .crossWired ∨ s.ports[p].state = .refused) →
      Becomes (.bringupRetry p) s (modPort p (fun x => { x with state := .tone, ranging := [], verified := 0, sent := [] }) s)) ∧
    (s.ports[p].state = .running → Idles (.bringupRetry p) s) ∧
    (s.ports[p].waiting = true → s.ports[p].state ≠ .running → s.ports[p].state ≠ .off → Runs (.bringupWaitExpiry p) s [.ports] (fun u =>
      u.ports[p].waiting = false ∧ u.ports[p].state = rxState s p ∧ ∀ q : Chan, q ≠ p → u.ports[q] = s.ports[q])) ∧
    (s.ports[p].state = .light → Runs (.portLightLoss p) s [.ports] (fun u =>
      u.ports[p].state = .dark ∧ u.ports[p].light = false ∧ u.ports[p].lock = false ∧ ∀ q : Chan, q ≠ p → u.ports[q] = s.ports[q])) ∧
    ((s.ports[p].state = .off ∨ s.ports[p].state = .running) → Becomes (.portLightLoss p) s
      (modPort p (fun x => { x with light := false, lock := false, rxPower := 0x8000 }) s))

/-- The CH_ commands (R333 to R336, R345, R348, R350; 11 *CH_ command outcomes*). -/
def Obligations.ConnectionCommandsOfTheHost : Prop :=
  ∀ (h : Hdr) (n : Chan) (s t : State) (idx : Word),
    (∀ active : Bool, Admits h 0x0201 4 (.channel n) true s idx t → populated t n = true → t.con[n].seq = none →
      t.meas[n].setupLeft = 0 →
      (t.con[n].state = .disconnected → t.con[n].present = 0 → t.cyc[n].phase = 0 → serviceOf t n = none →
        ∃ u, AnswersWith (.chConnect h n active) h 0x0201 idx s { status := .pending } u ∧ u.con[n].state = .precharge ∧
          (∃ q, u.con[n].seq = some q ∧ q.kind = .connect active ∧ q.host = true ∧
            (reported t n ≠ some .bypassed → q.step = .waitBypass)) ∧
          (∀ m : Chan, m ≠ n → u.con[m] = t.con[m]) ∧ u.cmd.pend = t.cmd.pend ++ [pendOf h 0x0201 (.channel n) t.tim.tb 0]) ∧
      (t.con[n].state = .bypass → active = true → t.con[n].present = 0 → gateStatus t n = none →
        Accepts (.chConnect h n active) h 0x0201 (.channel n) idx s t (startSeq n (.connect true) .release true 0)) ∧
      (t.con[n].state = .bypass → active = true → t.con[n].present = 0 → ∀ st, gateStatus t n = some st →
        Replies (.chConnect h n active) h 0x0201 idx s t (replyWords st [(3, 3)]) [] (fun _ => True)) ∧
      (t.con[n].present ≠ 0 → t.con[n].state ≠ .fenced →
        Replies (.chConnect h n active) h 0x0201 idx s t (replyWords .wrongState [(3, t.con[n].state.code)]) [] (fun _ => True)) ∧
      (t.con[n].state = .active → active = false → t.con[n].present = 0 →
        Accepts (.chConnect h n active) h 0x0201 (.channel n) idx s t (fun x =>
          seqPoll n none (startSeq n .toBypass .waitBypass true 0 (modCon n (fun c => { c with hostHold := true }) x)))) ∧
      ((t.con[n].state = .active ∧ active = true ∨ t.con[n].state = .bypass ∧ active = false) → t.con[n].present = 0 →
        Accepts (.chConnect h n active) h 0x0201 (.channel n) idx s t
          (finishChan n (replyWords .ok [(3, t.con[n].state.code)])))) ∧
    (Admits h 0x0202 4 (.channel n) true s idx t → populated t n = true → t.con[n].seq = none → t.meas[n].setupLeft = 0 →
      ((t.con[n].state = .bypass ∨ t.con[n].state = .active) →
        Accepts (.chDisconnect h n) h 0x0202 (.channel n) idx s t (fun x =>
          seqPoll n none (startDisc n .disconnect true 0 false x))) ∧
      ((t.con[n].state = .dormant ∨ t.con[n].state = .disconnected ∨ t.con[n].state = .precharge ∨ t.con[n].state = .retired) →
        Replies (.chDisconnect h n) h 0x0202 idx s t (replyWords .wrongState [(3, t.con[n].state.code)]) [] (fun _ => True))) ∧
    (Admits h 0x0203 4 (.channel n) true s idx t → populated t n = true → t.con[n].seq = none → t.meas[n].setupLeft = 0 →
      ((t.con[n].state = .bypass ∨ t.con[n].state = .active) →
        Accepts (.chDormant h n) h 0x0203 (.channel n) idx s t (fun x => seqPoll n none (startDisc n .dormant true 0 false x))) ∧
      (t.con[n].state = .disconnected → running t n = true →
        Accepts (.chDormant h n) h 0x0203 (.channel n) idx s t (fun x =>
          sendCmd n 0x0020 [] .sequence (startSeq n .dormant .dormantCmd true 0 x))) ∧
      ((t.con[n].state = .dormant ∨ t.con[n].state = .precharge ∨ t.con[n].state = .quenched ∨ t.con[n].state = .retired) →
        Replies (.chDormant h n) h 0x0203 idx s t (replyWords .wrongState [(3, t.con[n].state.code)]) [] (fun _ => True))) ∧
    (∀ w4 : Word, Admits h 0x0204 8 (.channel n) true s idx t →
      (retireConfirmed n w4 = false →
        Replies (.chRetire h n w4) h 0x0204 idx s t { status := .badParam, detail := 4 } [] (fun _ => True)) ∧
      (retireConfirmed n w4 = true → t.con[n].state = .retired → populated t n = true →
        Replies (.chRetire h n w4) h 0x0204 idx s t (replyWords .wrongState [(3, 7)]) [] (fun _ => True)) ∧
      (retireConfirmed n w4 = true → t.con[n].state ≠ .retired → populated t n = true →
        Accepts (.chRetire h n w4) h 0x0204 (.channel n) idx s t (fun x => seqPoll n none (retireBegin n 0 false true x))) ∧
      (retireConfirmed n w4 = true → populated t n = true → t.con[n].state = .disconnected → t.con[n].seq = none →
        t.cyc[n].phase = 0 → ∃ u, AnswersWith (.chRetire h n w4) h 0x0204 idx s { status := .pending } u ∧
          u.con[n].state = .retired ∧ u.con[n].retiredRec = true ∧ u.con[n].retireCause = 0 ∧
          .retirement n ∈ u.store.queue ∧ ∀ m : Chan, m ≠ n → u.con[m] = t.con[m])) ∧
    (Admits h 0x0205 4 (.channel n) true s idx t → populated t n = true →
      ((t.con[n].state = .bypass ∨ t.con[n].state = .disconnected) → t.con[n].present = 0 →
        ∃ u, AnswersWith (.chRestore h n) h 0x0205 idx s { status := .pending } u ∧
          u.con = vmod t.con n (fun c => { c with counts := [] }) ∧ KeepsBut [.cmd, .con, .twn] t u) ∧
      (t.con[n].state = .fenced → hasCause t n t.con[n].fenceCause.toNat = true →
        Replies (.chRestore h n) h 0x0205 idx s t (replyWords .wrongState [(3, 6)]) [] (fun _ => True)) ∧
      (t.con[n].state = .fenced → hasCause t n t.con[n].fenceCause.toNat = false →
        Accepts (.chRestore h n) h 0x0205 (.channel n) idx s t (fun x =>
          chDone n (if (anneal n true x).con[n].state = .fenced then .wrongState else .ok) (anneal n true x))) ∧
      (t.con[n].state = .retired → running t n = true → contactOpen t n = true → t.con[n].present = 0 → t.con[n].seq = none →
        Accepts (.chRestore h n) h 0x0205 (.channel n) idx s t (fun x =>
          seqPoll n none (startSeq n .restore .openTest true 0 x))) ∧
      ((t.con[n].state = .dormant ∨ t.con[n].state = .precharge ∨ t.con[n].state = .active ∨ t.con[n].state = .quenched ∨
          t.con[n].state = .retired ∧ running t n = false) →
        Replies (.chRestore h n) h 0x0205 idx s t (replyWords .wrongState [(3, t.con[n].state.code)]) [] (fun _ => True))) ∧
    (Admits h 0x0202 4 (.channel n) true s idx t → populated t n = true → t.con[n].state = .fenced →
      Replies (.chDisconnect h n) h 0x0202 idx s t (replyWords .fenced [(3, 6)]) [] (fun _ => True))

/-- Timers of channel connection (R330 to R344). -/
def Obligations.SequenceTimersAndCauses : Prop :=
  ∀ (n : Chan) (s : State),
    (∀ q, s.con[n].seq = some q → q.step = .precharging → ∃ u, Becomes (.prechargeTimeout n) s u ∧ u.con[n].state = .disconnected ∧
      u.con[n].seq = none ∧ u.con[n].hostHold = false ∧ Tells s u 0x8207 n.val [ef 28 0 n.val, ef 29 0 0, ef 32 0 (wrapI 32 (-(dvOf s n))),
        ef 36 0 (min 0xFFFFFFFF ((s.tim.tb - q.since) / tMs))]) ∧
    (atStep s n .precharging = false → Idles (.prechargeTimeout n) s) ∧
    (atStep s n .openTest = true → (s.meas[n].hasReport = false ∨ apart s n = false) →
      Becomes (.contactorTestTimeout n) s (welded n 1 s) ∧
      Tells s (welded n 1 s) 0x8206 n.val [ef 28 0 n.val, ef 29 0 1, ef 32 0 (wrapI 32 (dvOf s n))]) ∧
    (atStep s n .openTest = true → s.meas[n].hasReport = true → apart s n = true →
      Becomes (.contactorTestTimeout n) s (seqPoll n none s)) ∧
    (atStep s n .openedTest = true → contactOpen s n = true →
      Becomes (.contactorTestTimeout n) s (if apart s n then seqPoll n (some 0) s else welded n 0 s)) ∧
    (∀ q, s.con[n].seq = some q → q.step = .closedTest → q.tries ≠ 0 →
      (together s n = true → ∃ u, Becomes (.contactorTestTimeout n) s u ∧ u.con = vmod s.con n (fun c => { c with
        seq := some { q with step := .relayOpen, since := s.tim.tb } })) ∧
      (together s n = false → Becomes (.contactorTestTimeout n) s (contactBad n 2 s))) ∧
    (atStep s n .openTest = false → atStep s n .openedTest = false → atStep s n .closedTest = false →
      Idles (.contactorTestTimeout n) s) ∧
    (atStep s n .openRetry = true → reported s n = some .bypassed →
      Becomes (.contactorOpenRetry n) s (sendContactor n false (seqStep n .openCmd s))) ∧
    (∀ q, s.con[n].seq = some q → q.step = .openRetry → reported s n ≠ some .bypassed →
      Runs (.contactorOpenRetry n) s [.con, .twn] (fun u => u.con = vmod s.con n (fun c => { c with
        seq := some { q with step := .waitBypass, since := s.tim.tb } }))) ∧
    (atStep s n .openRetry = false → Idles (.contactorOpenRetry n) s) ∧
    (∀ q, s.con[n].seq = some q → q.host = true → q.kind = .disconnect → (q.step = .waitBypass ∨ q.step = .waitCurrent) →
      Runs (.disconnectBypassTimeout n) s [.con, .twn, .cmd] (fun u => u.con = vmod s.con n (fun c => { c with seq := none }) ∧
        pendChan u n = none ∧ ∀ p, pendChan s n = some p →
          ∃ r ∈ u.cmd.held, r.tag = p.tag ∧ r.op = p.op ∧ r.reply = replyWords .timeout [(3, chCode s n)])) ∧
    (s.con[n].seq = none → Idles (.disconnectBypassTimeout n) s) ∧
    (isMaster s = true → s.con[n].state = .fenced → s.con[n].annealAt.isSome = true → hasCause s n s.con[n].fenceCause.toNat = false →
      (contactor s n = some 0 → ∃ u, Becomes (.annealDelayExpiry n) s u ∧ u.con[n].state = .disconnected ∧
        u.con[n].protective = false ∧ u.con[n].annealAt = none) ∧
      (contactor s n = some 1 → ∃ u, Becomes (.annealDelayExpiry n) s u ∧ u.con[n].state = .bypass ∧
        u.con[n].protective = true ∧ u.con[n].annealAt = none) ∧
      (contactor s n ≠ some 0 → contactor s n ≠ some 1 → Idles (.annealDelayExpiry n) s)) ∧
    ((isMaster s = false ∨ s.con[n].state ≠ .fenced ∨ hasCause s n s.con[n].fenceCause.toNat = true) →
      Idles (.annealDelayExpiry n) s) ∧
    (∀ cell : Byte,
      ((cellAt s n cell.toNat).valid = false → ∀ above, Idles (.cellLimitTimer n cell above) s) ∧
      ((cellAt s n cell.toNat).valid = true → highOf (cellAt s n cell.toNat) ≥ pNat s Prm.asyVmax + 1000 →
        Becomes (.cellLimitTimer n cell true) s (causeOnAt n 1 cell.toNat s)) ∧
      ((cellAt s n cell.toNat).valid = true → lowOf (cellAt s n cell.toNat) + 1000 ≤ pNat s Prm.asyVsd →
        Becomes (.cellLimitTimer n cell false) s (causeOnAt n 2 cell.toNat s)) ∧
      (highOf (cellAt s n cell.toNat) < pNat s Prm.asyVmax + 1000 → Idles (.cellLimitTimer n cell true) s)) ∧
    (isMaster s = true → hasCause s n 5 = true → s.con[n].protective = true →
      Becomes (.plausHoldExpiry n) s (decideDisconnect n 5 false s)) ∧
    ((isMaster s = false ∨ hasCause s n 5 = false ∨ s.con[n].protective = false) → Idles (.plausHoldExpiry n) s) ∧
    (isMaster s = true → Becomes .contactRecheck s (forEach allChans recheckChan s)) ∧
    (isMaster s = false → Idles .contactRecheck s) ∧
    (s.con[n].recheck = true → contactor s n ≠ some 0 → contactor s n ≠ some 1 →
      recheckChan n s = causeOn n 15 (modCon n (fun c => { c with recheck := false }) s)) ∧
    ((isMaster s = false ∨ pNat s Prm.asyOwScan = 0 ∨ runningPorts s = []) → Idles .openWireScan s) ∧
    (isMaster s = true → pNat s Prm.asyOwScan ≠ 0 → runningPorts s = [n] → s.meas[n].testing = none →
      Becomes .openWireScan s (startWireTest n s.meas[n].scanNext (modMeas n (fun m => { m with
        scanNext := if s.meas[n].scanNext + 1 > cellCount s n then 0 else s.meas[n].scanNext + 1 }) s))) ∧
    (∀ cause : Byte, Runs (.causeCountExpiry n cause) s [.con] (fun u =>
      (∀ m : Chan, m ≠ n → u.con[m] = s.con[m]) ∧ (∀ c, countOf u n c = countOf s n c) ∧
      ∀ k ∈ s.con[n].counts, k.1 ≠ cause → k ∈ u.con[n].counts))

/-- References, load-all requests, modes and restages of the host (R57, R58, R75 to R80, R217, R231 to R233). -/
def Obligations.ReferencesLoadsAndModes : Prop :=
  ∀ (h : Hdr) (s t : State) (idx : Word),
    (∀ ref : RefDesc, Admits h 0x0301 52 .none false s idx t → ref.npred.toNat ≤ 7 → tctl t ≠ 0 →
      (ref.period.toNat % tctl t ≠ 0 →
        Replies (.armReference h ref) h 0x0301 idx s t { status := .badParam, detail := 3 } [] (fun _ => True)) ∧
      (ref.period.toNat % tctl t = 0 → ref.period.toNat ≤ t.tim.station.toNat →
        Replies (.armReference h ref) h 0x0301 idx s t { status := .timeout } [] (fun _ => True)) ∧
      (ref.period.toNat % tctl t = 0 → t.tim.station.toNat < ref.period.toNat →
        max 1 (pNat t Prm.insHorizon) * tctl t < ref.period.toNat - t.tim.station.toNat →
        Replies (.armReference h ref) h 0x0301 idx s t { status := .outOfRange, detail := 3 } [] (fun _ => True)) ∧
      (ref.period.toNat % tctl t = 0 → t.tim.station.toNat < ref.period.toNat →
        ref.period.toNat - t.tim.station.toNat ≤ max 1 (pNat t Prm.insHorizon) * tctl t →
        ∃ r, r.status = .ok ∧ Replies (.armReference h ref) h 0x0301 idx s t r [.hst, .qm, .ev, .ins] (fun u =>
          (ref, t.tim.station) ∈ u.ins.refs ∧ (∀ x ∈ u.ins.refs, x.1.period = ref.period → x = (ref, t.tim.station)) ∧
          u.ins = { t.ins with refs := u.ins.refs }))) ∧
    (∀ (ref : RefDesc), h.ring = 0 → takeSlot 0 s = some (idx, t) → refusal 0x0301 s = some .notActive → refRefused s ref = none →
      52 ≤ h.length.toNat → ∃ u, exec (.armReference h ref) s = .next (settle u) ∧
        u.cmd.taken = s.cmd.taken ++ [slotOf h 0x0301 idx (some { status := .notActive })] ∧
        (ref, s.tim.station) ∈ u.ins.refs ∧ KeepsBut [.cmd, .rings, .hst, .qm, .ev, .ins] s u) ∧
    (Admits h 0x0302 0 .none false s idx t →
      (t.ins.direct = false → Replies (.loadAll h) h 0x0302 idx s t { status := .wrongState } [.hst]
        (fun u => u.hst = { t.hst with loadRejected := true })) ∧
      (t.ins.direct = true → ∀ n, badEntry t = some n →
        Replies (.loadAll h) h 0x0302 idx s t (replyWords .badParam [(6, n.val)]) [.hst]
          (fun u => u.hst = { t.hst with loadRejected := true })) ∧
      (t.ins.direct = true → badEntry t = none → t.ins.snapshot = none → Stays (.loadAll h) h 0x0302 idx s t [.ins, .hst]
        (fun u => u.ins = { t.ins with snapshot := some (allChans.map (dutyEntry t)), snapByOpcode := true } ∧
          u.hst = { t.hst with loadRejected := false }))) ∧
    (∀ (p : HPort) (v : Word), portFenced s p = false → p = s.hst.active → v.getLsbD 0 = true →
      ((s.ins.direct = false ∨ staging s = false ∨ (badEntry s).isSome = true) → Runs (.loadAllGo p v) s [.hst]
        (fun u => u.hst = { s.hst with loadRejected := true })) ∧
      (s.ins.direct = true → staging s = true → badEntry s = none → s.ins.snapshot = none → Runs (.loadAllGo p v) s [.ins, .hst]
        (fun u => u.ins = { s.ins with snapshot := some (allChans.map (dutyEntry s)), snapByOpcode := false } ∧
          u.hst = { s.hst with loadRejected := false })) ∧
      (s.ins.direct = true → staging s = true → badEntry s = none → s.ins.snapshot.isSome = true → s.ins.snapByOpcode = true →
        Runs (.loadAllGo p v) s [.ins, .hst, .cmd] (fun u => u.hst.loadSuperseded = s.hst.loadSuperseded + 1 ∧
          u.cmd = (completeTaken 0x0302 { status := .wrongState, detail := 1 } s).cmd ∧ u.ins.snapByOpcode = false))) ∧
    (∀ direct : Bool, Admits h 0x0305 4 .none false s idx t → Stays (.setMode h direct) h 0x0305 idx s t [.ins]
      (fun u => u.ins = { t.ins with modeReq := some direct })) ∧
    (Admits h 0x0304 0 .none false s idx t →
      AnswersWith (.restage h) h 0x0304 idx s (okWords [(3, (restageFor 0 t).1.toNat)]) (restageFor 0 t).2 ∧
      (staging t = true → mergesNow t = true → Replies (.restage h) h 0x0304 idx s t (okWords [(3, (nextGen t).toNat)]) [.ev]
        (fun u => Tells t u 0x8305 0xFFFF [ef 28 0 0, ef 30 0 1, ef 32 0 (nextGen t).toNat])))

/-- The reload point and the reports of a second (R80, R202 to R205, R222, R233, R361). -/
def Obligations.ReloadPointsAndReports : Prop :=
  ∀ s : State,
    (∀ k : DWord, (tctl s = 0 ∨ k.toNat % tctl s ≠ 0 ∨ s.pwr.mod ≠ .ready ∨ s.ins.lastClosed = some k ∨ mainUp s = false) →
      Idles (.reloadPoint k) s) ∧
    (∀ k : DWord, tctl s ≠ 0 → k.toNat % tctl s = 0 → s.pwr.mod = .ready → s.ins.lastClosed ≠ some k → mainUp s = true →
      let t := reloadTurn k.toNat s
      (t.twn.role = .active → heldBack k.toNat t = false → ∃ u, exec (.reloadPoint k) s = doneWin s (writeAll s.win (modeWrites t)) u ∧
        u.ins.lastClosed = some k ∧ u.ins.modeReq = none ∧ u.ins.snapshot = none ∧ u.twn.takeFrom = none ∧
        (∀ d, t.ins.modeReq = some d → u.ins.direct = d) ∧ (t.ins.modeReq = none → u.ins.direct = t.ins.direct)) ∧
      (t.twn.role = .active → heldBack k.toNat t = true → Becomes (.reloadPoint k) s t) ∧
      (t.twn.role = .standby → Becomes (.reloadPoint k) s
        { t with twn := { t.twn with mirrored := t.twn.mirror.any (fun m => m.period == k) } })) ∧
    (let same (m : Chan) := s.insCh[m].eng.suppressed = s.insCh[m].reported.1 ∧ s.insCh[m].eng.closed = s.insCh[m].reported.2.1 ∧
        s.insCh[m].eng.reversals = s.insCh[m].reported.2.2.1;
      ((∀ m, same m) → Idles .pulseSuppressedReport s) ∧
      (∀ n : Chan, ¬ same n → (∀ m : Chan, m ≠ n → same m) → Runs .pulseSuppressedReport s [.insCh, .ev] (fun u =>
        let e := s.insCh[n].eng
        let o := s.insCh[n].reported
        Tells s u 0x8307 n.val [ef 28 0 (e.suppressed - o.1).toNat, ef 32 0 (e.closed - o.2.1).toNat,
          ef 36 0 (min 0xFFFF (e.reversals - o.2.2.1).toNat), ef 38 0 (min 0xFFFF (e.moved - o.2.2.2).toNat)] ∧
        u.insCh = vmod s.insCh n (fun x => { x with reported := (e.suppressed, e.closed, e.reversals, e.moved) })))) ∧
    (s.ins.satPeriods = s.ins.satReported → Idles .saturationReport s) ∧
    (s.ins.satPeriods ≠ s.ins.satReported → Runs .saturationReport s [.ins, .ev] (fun u =>
      u.ins = { s.ins with satReported := s.ins.satPeriods, shortfall := 0 } ∧
      Tells s u 0x8306 0xFFFF [ef 28 0 (s.ins.satPeriods - s.ins.satReported).toNat, ef 32 0 (wrapI 32 (satI 32 s.ins.shortfall))])) ∧
    (s.hst.lateCount = 0 → Idles .referenceLateReport s) ∧
    (s.hst.lateCount ≠ 0 → Runs .referenceLateReport s [.hst, .ev] (fun u =>
      u.hst = { s.hst with lateCount := 0, lateWorst := 0 } ∧
      Tells s u 0x8308 0xFFFF [ef 28 0 s.hst.lateCount.toNat, ef 32 0 s.hst.lateWorst.toNat])) ∧
    (s.stg.byLimits = (0, 0) → s.stg.byDelay = (0, 0) → Idles .restagedReport s) ∧
    (s.stg.byLimits.1 ≠ 0 → s.stg.byDelay.1 = 0 → Runs .restagedReport s [.stg, .ev] (fun u =>
      u.stg = { s.stg with byLimits := (0, 0), byDelay := (0, 0) } ∧
      Tells s u 0x8305 0xFFFF [ef 28 0 1, ef 30 0 (min 0xFFFF s.stg.byLimits.1), ef 32 0 s.stg.byLimits.2.toNat])) ∧
    (s.stg.byLimits.1 = 0 → s.stg.byDelay.1 ≠ 0 → Runs .restagedReport s [.stg, .ev] (fun u =>
      u.stg = { s.stg with byLimits := (0, 0), byDelay := (0, 0) } ∧
      Tells s u 0x8305 0xFFFF [ef 28 0 3, ef 30 0 (min 0xFFFF s.stg.byDelay.1), ef 32 0 s.stg.byDelay.2.toNat]))

/-- Inputs of the quench matrix (R243 to R250, R253). -/
def Obligations.TripInputsQuenchTheirGroups : Prop :=
  ∀ s : State,
    let keeps (u : State) : Prop := ∀ g : Group, quenched s g = true → quenched u g = true
    (∀ (i : TripIn), tripUsed s i = true →
      (inDemand s.qm.trips[i] = false → ∃ u, Becomes (.tripInputDemand i true) s u ∧ keeps u ∧ u.qm.trips[i].demand = true ∧
        ∀ g : Group, (pNat s (Prm.insTripMap + i.val)).testBit g.val = true →
          (blankingRuns s g = false → quenched u g = true) ∧
          (blankingRuns s g = true → quenched s g = false →
            u.qm.trips[i].blanked.getLsbD g.val = true ∧ u.qm.blanked = s.qm.blanked + 1)) ∧
      (s.qm.trips[i].demand = false → s.qm.trips[i].chatter = false → s.qm.trips[i].wiring = true →
        s.qm.trips[i].entries.length = 9 → s.tim.tb - s.qm.trips[i].entries.getLastD 0 < tSec →
        Runs (.tripInputDemand i true) s [.qm, .ev] (fun u => u.qm.trips[i].chatter = true ∧ u.qm.latched = s.qm.latched ∧
          Tells s u 0x8304 i.val [ef 28 0 i.val, ef 29 0 1, ef 29 2 0])) ∧
      (s.qm.trips[i].demand = true → s.qm.trips[i].wiring = false → s.qm.trips[i].chatter = false →
        Runs (.tripInputDemand i false) s [.qm] (fun u =>
          u.qm = { s.qm with trips := vmod s.qm.trips i (fun t => { t with demand := false, blanked := 0, lately := true }) })) ∧
      (inDemand s.qm.trips[i] = false → ∃ u, Becomes (.tripWiringFault i true) s u ∧ keeps u ∧ u.qm.trips[i].wiring = true ∧
        Tells s u 0x8304 i.val [ef 28 0 i.val, ef 29 0 0, ef 29 2 0] ∧
        ∀ g : Group, (pNat s (Prm.insTripMap + i.val)).testBit g.val = true → blankingRuns s g = false → quenched u g = true) ∧
      (s.qm.trips[i].wiring = true → Runs (.tripWiringFault i false) s [.qm, .ev] (fun u => u.qm.latched = s.qm.latched ∧
        u.qm.trips[i].wiring = false ∧ Tells s u 0x8304 i.val [ef 28 0 i.val, ef 29 0 0, ef 29 2 1]))) ∧
    (∀ (i : TripIn) (b : Bool), tripUsed s i = false →
      Runs (.tripInputDemand i b) s [.qm] (fun u => u.qm = { s.qm with trips := vmod s.qm.trips i (fun t => { t with demand := b }) }) ∧
      Runs (.tripWiringFault i b) s [.qm] (fun u => u.qm = { s.qm with trips := vmod s.qm.trips i (fun t => { t with wiring := b }) })) ∧
    (∀ i : TripIn, s.qm.trips[i].chatter = false → Idles (.tripChatterEnd i) s) ∧
    (∀ i : TripIn, s.qm.trips[i].chatter = true → Runs (.tripChatterEnd i) s [.qm, .ev] (fun u =>
      u.qm.trips[i].chatter = false ∧ u.qm.trips[i].entries = [] ∧ u.qm.latched = s.qm.latched ∧
      Tells s u 0x8304 i.val [ef 28 0 i.val, ef 29 0 1, ef 29 2 1] ∧
      (s.qm.trips[i].demand = false → s.qm.trips[i].wiring = false → u.qm.trips[i].lately = true))) ∧
    (∀ i : TripIn, Runs (.tripPresenceEnd i) s [.qm] (fun u =>
      u.qm = { s.qm with trips := vmod s.qm.trips i (fun t => { t with lately := false }) })) ∧
    (∀ (g : Group), ∃ u, Becomes (.blankingEnd g) s u ∧ keeps u ∧ (∀ i : TripIn, u.qm.trips[i].blanked.getLsbD g.val = false) ∧
      ∀ i : TripIn, inDemand s.qm.trips[i] = true → (pNat s (Prm.insTripMap + i.val)).testBit g.val = true → quenched u g = true) ∧
    (∀ cause : Byte, 1 ≤ cause.toNat → cause.toNat ≤ 4 → ∃ u, Becomes (.hwFaultRequest cause) s u ∧ u.qm.latched = 0xFF ∧
      cause ∈ u.qm.hw ∧ (stormCase s 3 = false → ∃ r ∈ u.flt.recs, r.cause.toNat = 0x0301 + cause.toNat ∧ r.subject = 0xFFFF)) ∧
    (∀ cause : Byte, (cause.toNat = 0 ∨ 4 < cause.toNat) → Idles (.hwFaultRequest cause) s) ∧
    (∃ u, Becomes .debugHalt s u ∧ u.qm.fwHalt = true ∧ keeps u ∧
      ∀ g : Group, (pNat s Prm.insHaltMap).testBit g.val = true → quenched u g = true) ∧
    Runs .debugResume s [.qm] (fun u => u.qm = { s.qm with fwHalt := false })

/-- Lanes, release and the trip request (R250 to R252, R256, R347). -/
def Obligations.LanesReleaseAndTripRequest : Prop :=
  ∀ s : State,
    (∀ v : Half, Runs (.laneSelftest true v) s [.qm] (fun u => u.qm.lane = s.qm.lane + 1 ∧
      u.qm.laneBad = s.qm.laneBad &&& ~~~(1#3 <<< s.qm.lane.val) ∧ u.qm.selftests = s.qm.selftests + 1 ∧
      u.qm.latched = s.qm.latched ∧ u.qm.laneFailed = s.qm.laneFailed)) ∧
    (∀ v : Half, s.qm.laneBad.getLsbD s.qm.lane.val = false → Runs (.laneSelftest false v) s [.qm, .ev] (fun u =>
      u.qm.lane = s.qm.lane + 1 ∧ u.qm.laneBad = s.qm.laneBad ||| (1#3 <<< s.qm.lane.val) ∧ u.qm.laneFailed = s.qm.laneFailed ∧
      u.qm.latched = s.qm.latched ∧ Tells s u 0x8303 0xFFFF [ef 28 0 s.qm.lane.val, ef 29 0 0, ef 30 0 v.toNat])) ∧
    (∀ v : Half, s.qm.laneBad.getLsbD s.qm.lane.val = true → s.qm.laneFailed = 0 →
      Runs (.laneSelftest false v) s [.qm, .ev, .flt] (fun u => u.qm.laneFailed = (1#3 <<< s.qm.lane.val) ∧
        u.qm.latched = s.qm.latched ∧ Tells s u 0x8303 0xFFFF [ef 28 0 s.qm.lane.val, ef 29 0 1, ef 30 0 v.toNat] ∧
        (findFault s 0x0301 s.qm.lane.val = none → stormCase s 2 = false →
          ∃ r ∈ u.flt.recs, r.cause = 0x0301 ∧ r.level = 2 ∧ r.permanent = true))) ∧
    (∀ v : Half, s.qm.laneBad.getLsbD s.qm.lane.val = true → s.qm.laneFailed.getLsbD s.qm.lane.val = false → s.qm.laneFailed ≠ 0 →
      ∃ u, Becomes (.laneSelftest false v) s u ∧ u.qm.latched = 0xFF ∧ u.qm.tripA2 = true ∧
        Tells s u 0x8303 0xFFFF [ef 28 0 s.qm.lane.val, ef 29 0 2, ef 30 0 v.toNat] ∧
        (isMaster s = true → u.qm.tripreq = true ∧ u.pwr.mod = .safe ∧ u.qm.fwSafe = true)) ∧
    (∀ (h : Hdr) (mask : Byte) (t : State) (idx : Word), Admits h 0x0303 4 .none false s idx t →
      (∃ r u, AnswersWith (.quenchRelease h mask) h 0x0303 idx s r u ∧ r = okWords [(3, (releaseGroups mask t).1.toNat),
          (4, stillHeld mask t)] ∧
        ∀ g : Group, quenched u g = (quenched t g && !(mask.getLsbD g.val && !presentFor t g)) ∧
          (releaseGroups mask t).1.getLsbD g.val = (mask.getLsbD g.val && quenched t g && !presentFor t g)) ∧
      ((∀ g : Group, mask.getLsbD g.val = true → quenched t g = true → presentFor t g = true) →
        Replies (.quenchRelease h mask) h 0x0303 idx s t (okWords [(3, 0), (4, stillHeld mask t)]) [] (fun _ => True))) ∧
    ((s.qm.tripreq = false ∨ tripCause s = true) → Idles .tripreqHoldEnd s) ∧
    (s.qm.tripreq = true → tripCause s = false → Runs .tripreqHoldEnd s [.qm, .ev] (fun u =>
      u.qm = { s.qm with tripreq := false } ∧ ∃ e ∈ u.ev.held, e.seq = s.ev.seq ∧ e.code = 0x8208 ∧ e.data.getLsbD 2 = true))

/-- Assay commands (R275, R282, R304, R310, R320). -/
def Obligations.AssayCommandsOfTheHost : Prop :=
  ∀ (h : Hdr) (n : Chan) (s t : State) (idx : Word),
    (Admits h 0x0401 4 (.channel n) false s idx t →
      (t.con[n].state = .fenced → Replies (.assayCycleStart h n) h 0x0401 idx s t { status := .fenced } [] (fun _ => True)) ∧
      (t.con[n].state ≠ .fenced → (t.con[n].state ≠ .active ∨ t.ins.direct = true ∨ (∃ k : Chan, t.cyc[k].phase ≠ 0) ∨ modelOk t = false ∨
          (activeChans t).length < pNat t Prm.asyAcMinActive ∨ t.asyCh[n].grant.isSome = true ∨ cycleFlag t n = true ∨
          t.pwr.warn = true ∨ t.pwr.holdupFault = true) →
        Replies (.assayCycleStart h n) h 0x0401 idx s t { status := .wrongState } [] (fun _ => True)) ∧
      (t.con[n].state = .active → t.ins.direct = false → (∀ k : Chan, t.cyc[k].phase = 0) → modelOk t = true →
        pNat t Prm.asyAcMinActive ≤ (activeChans t).length → t.asyCh[n].grant = none → cycleFlag t n = false →
        t.pwr.warn = false → t.pwr.holdupFault = false →
        Replies (.assayCycleStart h n) h 0x0401 idx s t { status := .ok } [.cyc] (fun u =>
          u.cyc[n].phase = 1 ∧ u.cyc[n].started = t.tim.station ∧ u.cyc[n].phaseAt = t.tim.station ∧ u.cyc[n].cycleQ = 0 ∧
          ∀ m : Chan, m ≠ n → u.cyc[m] = t.cyc[m]))) ∧
    (Admits h 0x0402 4 (.channel n) false s idx t →
      (t.cyc[n].phase = 0 → Replies (.assayCycleAbort h n) h 0x0402 idx s t { status := .wrongState } [] (fun _ => True)) ∧
      (t.cyc[n].phase ≠ 0 → t.cyc[n].phase ≠ 5 → Replies (.assayCycleAbort h n) h 0x0402 idx s t { status := .ok } [.con, .cyc, .ev]
        (fun u => u.cyc = vmod t.cyc n (fun x => { x with phase := 0, lastAbort := 0, aborted := x.aborted + 1 }) ∧
          u.con = vmod t.con n (fun x => { x with assayRest := false }) ∧
          Tells t u 0x8407 n.val [ef 28 0 n.val, ef 29 0 0, ef 29 4 t.cyc[n].phase,
            ef 32 0 (min 0xFFFFFFFF ((t.tim.station - t.cyc[n].started).toNat / tSec))]))) ∧
    (∀ (duration : Word) (start : DWord), Admits h 0x0403 16 (.channel n) false s idx t →
      ((populated t n = false ∨ restable t n = false) →
        Replies (.restGrant h n duration start) h 0x0403 idx s t { status := .wrongState } [] (fun _ => True)) ∧
      (populated t n = true → restable t n = true → (duration.toNat < 1 ∨ 300 < duration.toNat) →
        Replies (.restGrant h n duration start) h 0x0403 idx s t { status := .outOfRange, detail := 4 } [] (fun _ => True)) ∧
      (populated t n = true → restable t n = true → 1 ≤ duration.toNat → duration.toNat ≤ 300 →
        t.tim.station.toNat + 3600 * tSec < start.toNat →
        Replies (.restGrant h n duration start) h 0x0403 idx s t { status := .outOfRange, detail := 5 } [] (fun _ => True)) ∧
      (populated t n = true → restable t n = true → 1 ≤ duration.toNat → duration.toNat ≤ 300 → start.toNat ≤ t.tim.station.toNat →
        Replies (.restGrant h n duration start) h 0x0403 idx s t { status := .ok } [.asyCh, .con, .twn] (fun u =>
          u.asyCh[n].grant = some (t.tim.station, duration.toNat) ∧ u.asyCh[n].grants = t.asyCh[n].grants + 1 ∧
          u.asyCh[n].restFrom.isSome = true ∧ (t.con[n].state = .active → u.con[n].rest = true) ∧
          ∀ m : Chan, m ≠ n → u.asyCh[m] = t.asyCh[m] ∧ u.con[m] = t.con[m])) ∧
      (populated t n = true → restable t n = true → 1 ≤ duration.toNat → duration.toNat ≤ 300 → t.tim.station.toNat < start.toNat →
        start.toNat ≤ t.tim.station.toNat + 3600 * tSec → t.asyCh[n].restFrom = none →
        Replies (.restGrant h n duration start) h 0x0403 idx s t { status := .ok } [.asyCh, .twn] (fun u =>
          u.asyCh = vmod t.asyCh n (fun a => { a with grants := a.grants + 1, grant := some (start, duration.toNat) })))) ∧
    (∀ bulk : Bulk, Admits h 0x0404 12 (.channel n) true s idx t →
      ((bulkOk t bulk 160 = false ∨ bulkValid t bulk < 160) →
        Replies (.touchmarkProvision h n bulk) h 0x0404 idx s t { status := .badParam, detail := 4 } [] (fun _ => True)) ∧
      (WindowForm t → bulkOk t bulk 160 = true → 160 ≤ bulkValid t bulk →
        (running t n = false ∨ t.con[n].state = .dormant ∨ t.txns[n].caps.any (·.tmark) = false) →
        Replies (.touchmarkProvision h n bulk) h 0x0404 idx s t { status := .wrongState } [.win]
          (fun u => bitOf (memNum u.win bulk.offset.toNat 4) 31 = false)) ∧
      (WindowForm t → bulkOk t bulk 160 = true → 160 ≤ bulkValid t bulk → running t n = true → t.con[n].state ≠ .dormant →
        t.txns[n].caps.any (·.tmark) = true →
        Pends (.touchmarkProvision h n bulk) h 0x0404 idx s t (pendOf h 0x0404 (.channel n) t.tim.tb 0) [.win, .cyc] (fun u =>
          u.cyc = vmod t.cyc n (fun c => { c with provRec := memRead t.win (bulk.offset.toNat + 16) 160 }) ∧
          bitOf (memNum u.win bulk.offset.toNat 4) 31 = false))) ∧
    (∀ sel : Byte, Admits h 0x0405 4 .none false s idx t →
      (sel = 0xFF → Replies (.readLimits h sel) h 0x0405 idx s t (okWords (limitWords t.asy.lim ++
        [(10, units 2 (t.asy.pub.getD 0) + 65536 * units 2 (t.asy.unc * 10000)),
         (11, ((segChans t).foldl (fun a m => a ||| limitFlags t m) 0 &&& 0xE7) + 8 * bN (!modelOk t) + 16 * bN (segChans t).isEmpty)]))
        [] (fun _ => True)) ∧
      (sel ≠ 0xFF → 64 ≤ sel.toNat →
        Replies (.readLimits h sel) h 0x0405 idx s t { status := .outOfRange, detail := 3 } [] (fun _ => True)) ∧
      (sel.toNat = n.val → populated t n = false →
        Replies (.readLimits h sel) h 0x0405 idx s t { status := .wrongState } [] (fun _ => True)) ∧
      (sel.toNat = n.val → populated t n = true → modelOk t = true →
        Replies (.readLimits h sel) h 0x0405 idx s t (okWords (limitWords t.asyCh[n].pubLim ++
          [(10, units 2 (t.asyCh[n].pub.getD 0) + 65536 * units 2 (t.asyCh[n].unc * 10000)), (11, limitFlags t n)])) [] (fun _ => True)) ∧
      (sel.toNat = n.val → populated t n = true → modelOk t = false →
        Replies (.readLimits h sel) h 0x0405 idx s t (okWords ((limitWords {}) ++ [(10, 0), (11, limitFlags t n)])) [] (fun _ => True)))

/-- Rows of the assay engine (R263, R274 to R277, R310, R314). -/
def Obligations.RestsSavesAndEstimator : Prop :=
  ∀ (n : Chan) (s : State),
    ((fwRuns s = false ∨ blockFenced s 0x0401 0 = true ∧ blockFenced s 0x0401 1 = true) → Idles .estimatorUpdate s) ∧
    (fwRuns s = true → (blockFenced s 0x0401 0 = false ∨ blockFenced s 0x0401 1 = false) →
      (isMaster (estimate s) = false → Becomes .estimatorUpdate s (estimate s)) ∧
      (isMaster (estimate s) = true → ∃ u, Becomes .estimatorUpdate s u ∧ KeepsBut [.twn] (estimate s) u ∧
        u.twn.impRotate = (estimate s).twn.impRotate + 1)) ∧
    (isMaster s = true → s.asyCh[n].restReq.isSome = true → s.asyCh[n].grant = none → s.asyCh[n].worst.1 > 3 / 100 →
      s.cyc[n].phase = 0 → Runs (.restRequestRepeat n) s [.asyCh, .ev] (fun u =>
        u.asyCh = vmod s.asyCh n (fun a => { a with requests := a.requests + 1 }) ∧
        ∃ e ∈ u.ev.held, e.seq = s.ev.seq ∧ e.code = 0x8401 ∧ e.subject = BitVec.ofNat 16 n.val)) ∧
    ((isMaster s = false ∨ s.asyCh[n].restReq = none ∨ s.asyCh[n].grant.isSome = true ∨ s.cyc[n].phase ≠ 0 ∨
        s.asyCh[n].worst.1 ≤ 3 / 100) →
      Idles (.restRequestRepeat n) s) ∧
    (s.asyCh[n].restReq.isSome = true → s.asyCh[n].grant = none → s.asyCh[n].worst.1 > 3 / 100 →
      Runs (.restWaitExpiry n) s [.asyCh] (fun u => u.asyCh = vmod s.asyCh n (fun a => { a with derating := true }))) ∧
    ((s.asyCh[n].restReq = none ∨ s.asyCh[n].grant.isSome = true ∨ s.asyCh[n].worst.1 ≤ 3 / 100) → Idles (.restWaitExpiry n) s) ∧
    ((s.asyCh[n].grant = none ∨ s.asyCh[n].restFrom.isSome = true) → Idles (.restStart n) s) ∧
    (s.asyCh[n].grant.isSome = true → s.asyCh[n].restFrom = none →
      (isMaster s = true → restable s n = true → Runs (.restStart n) s [.asyCh, .con, .twn] (fun u =>
        u.asyCh = vmod s.asyCh n (fun a => { a with restFrom := some s.tim.station }) ∧
        u.con = vmod s.con n (fun c => { c with rest := c.rest || (s.con[n].state == .active) }))) ∧
      ((isMaster s = false ∨ restable s n = false) → Runs (.restStart n) s [.asyCh] (fun u =>
        u.asyCh = vmod s.asyCh n (fun a => { a with grant := none })))) ∧
    (isMaster s = true → s.asyCh[n].restFrom.isSome = true → ∃ u, Becomes (.restEnd n) s u ∧ u.asyCh[n].restFrom = none ∧
      u.asyCh[n].grant = none ∧ u.con[n].rest = false ∧ ∀ m : Chan, m ≠ n → u.con[m] = s.con[m]) ∧
    ((isMaster s = false ∨ s.asyCh[n].restFrom = none) → Idles (.restEnd n) s) ∧
    (isMaster s = true → s.cyc[n].phase ≠ 0 → s.cyc[n].phase ≠ 5 → Runs (.assayTimeout n) s [.con, .cyc, .ev] (fun u =>
      u.cyc = vmod s.cyc n (fun x => { x with phase := 0, lastAbort := 4, aborted := x.aborted + 1 }) ∧
      u.con = vmod s.con n (fun x => { x with assayRest := false }) ∧
      Tells s u 0x8407 n.val [ef 28 0 n.val, ef 29 0 4, ef 29 4 s.cyc[n].phase,
        ef 32 0 (min 0xFFFFFFFF ((s.tim.station - s.cyc[n].started).toNat / tSec))])) ∧
    (isMaster s = true → s.cyc[n].phase = 5 → Runs (.assayTimeout n) s [.con, .cyc] (fun u =>
      u.cyc = vmod s.cyc n (fun x => { x with phase := 0 }) ∧ u.con = vmod s.con n (fun x => { x with assayRest := false }))) ∧
    ((isMaster s = false ∨ s.cyc[n].phase = 0) → Idles (.assayTimeout n) s) ∧
    (fwRuns s = false → Idles .impedanceSave s) ∧
    (fwRuns s = true → (∀ m : Chan, s.cyc[m].tmPending = false) → Runs .impedanceSave s [.store] (fun u =>
      s.store.queue <+: u.store.queue ∧
      ∀ m : Chan, populated s m = true → .impedance m ∈ u.store.queue ∧ .learned m false ∈ u.store.queue))

/-- The tone of a port (R101 to R108, R112). -/
def Obligations.TonesOfAPort : Prop :=
  ∀ (p : Chan) (s : State),
    let keeps (u : State) : Prop := ∀ g : Group, quenched s g = true → quenched u g = true
    (∀ cause : Byte, portOn s p = true → ∃ u, Becomes (.faultToneArrival p cause) s u ∧ keeps u ∧ u.ports[p].tone = .fault ∧
      u.ports[p].tfCause = cause ∧ u.ports[p].state = s.ports[p].state ∧
      (armed s p = true → quenched u (groupOf s p) = true) ∧
      (s.ports[p].tone ≠ .fault → u.ports[p].toneLosses = s.ports[p].toneLosses + 1 ∧
        ∃ e ∈ u.ev.held, e.code = 0x8502 ∧ e.subject = BitVec.ofNat 16 p.val ∧ e.data.toNat % 256 = cause.toNat) ∧
      (s.ports[p].tone = .fault → u.ports[p].toneLosses = s.ports[p].toneLosses)) ∧
    (∀ cause : Byte, portOn s p = false → Idles (.faultToneArrival p cause) s) ∧
    (∀ cause : BitVec 2, portOn s p = true → s.ports[p].tone ≠ .lost → s.con[p].state ≠ .dormant →
      ∃ u, Becomes (.toneLost p cause) s u ∧ keeps u ∧ u.ports[p].tone = .lost ∧ u.ports[p].lostCause = cause ∧
        (armed s p = true → quenched u (groupOf s p) = true) ∧
        (s.ports[p].state = .running → u.ports[p].state = (match cause.toNat with
          | 0 => LinkState.dark
          | 1 => .light
          | _ => .aligned)) ∧
        (∃ e ∈ u.ev.held, e.code = 0x8501 ∧ e.subject = BitVec.ofNat 16 p.val)) ∧
    (∀ cause : BitVec 2, (portOn s p = false ∨ s.ports[p].tone = .lost) → Idles (.toneLost p cause) s) ∧
    (portOn s p = true → s.ports[p].tone ≠ .downstream → s.ports[p].tone ≠ .fault →
      Runs (.downstreamDetect p) s (.ports :: decideParts) (fun u => u.ports[p].tone = .downstream ∧
        u.ports[p].state = s.ports[p].state ∧ (s.ports[p].state ≠ .running → u.con = s.con) ∧
        Tells s u 0x8501 p.val [ef 28 0 3, ef 29 0 s.ports[p].state.code, ef 29 4 (bN (armed s p))])) ∧
    ((portOn s p = false ∨ s.ports[p].tone = .downstream ∨ s.ports[p].tone = .fault) → Idles (.downstreamDetect p) s) ∧
    (portOn s p = true → s.ports[p].tone ≠ .healthy → Runs (.toneHealthyReturn p) s (.ports :: .meas :: decideParts) (fun u =>
      u.ports[p].tone = .healthy ∧ hasCause u p 9 = false ∧ hasCause u p 10 = false ∧
      (s.ports[p].state = .running → hasCause u p 11 = false))) ∧
    ((portOn s p = false ∨ s.ports[p].tone = .healthy) → Idles (.toneHealthyReturn p) s)

/-- Timers of the frame layer and of ranging (R113 to R121, R128 to R157). -/
def Obligations.FrameTimersAndSync : Prop :=
  ∀ (p : Chan) (s : State),
    (runningPorts s = [] → Idles .syncInterval s) ∧
    (runningPorts s = [p] → (s.ports[p].delay = none ∨ s.ports[p].round = none) → Runs .syncInterval s [.ports, .txns, .free] (fun u =>
      u.ports[p].syncs = s.ports[p].syncs + 1 ∧ u.txns[p].seqTx = s.txns[p].seqTx + 1 ∧
      ∀ q : Chan, q ≠ p → u.ports[q] = s.ports[q] ∧ u.txns[q] = s.txns[q])) ∧
    (s.ports[p].state = .running → Runs (.timingReplyAbsent p) s [.ev] (fun u => Tells s u 0x8508 p.val [ef 28 0 3, ef 32 0 0])) ∧
    (s.ports[p].state ≠ .running → Idles (.timingReplyAbsent p) s) ∧
    (∀ (h : Hdr) (t : State) (idx : Word), Admits h 0x0503 4 (.port p) true s idx t →
      (t.ports[p].state = .running → Pends (.linkRetest h p) h 0x0503 idx s t (pendOf h 0x0503 (.port p) t.tim.tb 0) [.ports]
        (fun u => u.ports = vmod t.ports p (fun x => { x with retest := some [] }))) ∧
      (t.ports[p].state ≠ .running → t.ports[p].delay = none →
        Replies (.linkRetest h p) h 0x0503 idx s t (replyWords .wrongState [(3, 0xFFFFFFFF)]) [] (fun _ => True)) ∧
      (t.ports[p].state ≠ .running → ∀ d, t.ports[p].delay = some d →
        Replies (.linkRetest h p) h 0x0503 idx s t (replyWords .wrongState [(3, units 4 d)]) [] (fun _ => True))) ∧
    (receiving s p = true → Runs (.frameInvalid p) s [.txns] (fun u =>
      u.txns = vmod s.txns p (fun x => { x with framesBad := x.framesBad + 1 }))) ∧
    (receiving s p = false → Idles (.frameInvalid p) s) ∧
    ((s.txns[p].unacked = [] ∨ s.txns[p].sreset = true) → Idles (.retransmitTimeout p) s) ∧
    (∀ f l, s.txns[p].unacked = f :: l → s.txns[p].sreset = false →
      (s.txns[p].tries < 8 → Runs (.retransmitTimeout p) s [.txns] (fun u => u.txns[p].tries = s.txns[p].tries + 1 ∧
        u.txns[p].oldestAt = s.tim.tb ∧ u.txns[p].unacked = f :: l ∧
        u.txns[p].retxSent = s.txns[p].retxSent + BitVec.ofNat 32 ((f :: l).filter (fun x => newer8 x.rcnt (f.rcnt - 1))).length ∧
        ∀ q : Chan, q ≠ p → u.txns[q] = s.txns[q])) ∧
      (8 ≤ s.txns[p].tries → Runs (.retransmitTimeout p) s [.txns, .ev] (fun u => u.txns[p].sreset = true ∧ u.txns[p].unacked = [] ∧
        u.txns[p].rcntTx = 0 ∧ u.txns[p].streamResets = s.txns[p].streamResets + 1 ∧
        Tells s u 0x8508 p.val [ef 28 0 4, ef 32 0 0]))) ∧
    (∀ id : Half, (∀ c ∈ s.txns[p].cmds, c.id ≠ id) → Idles (.cmdReplyTimeout p id) s) ∧
    (∀ (id : Half) (c : NodeCmd), s.txns[p].cmds.find? (fun x => x.id == id) = some c →
      Becomes (.cmdReplyTimeout p id) s (cmdDone p c none [] (modTxn p (fun x => { x with cmds := x.cmds.filter (fun y => y.id ≠ id) }) s)) ∧
      (c.purpose = .protect → Runs (.cmdReplyTimeout p id) s [.txns] (fun u =>
        u.txns = vmod s.txns p (fun x => { x with cmds := x.cmds.filter (fun y => y.id ≠ id) })))) ∧
    (let grown := (s.txns[p].framesBad - s.txns[p].badAtCheck).toNat;
      ((s.ports[p].state ≠ .running ∨ grown ≤ 100) → Runs (.frameErrorCheck p) s [.txns] (fun u =>
        u.txns = vmod s.txns p (fun x => { x with badAtCheck := x.framesBad }))) ∧
      (s.ports[p].state = .running → 100 < grown → s.txns[p].badSaidAt = none → Runs (.frameErrorCheck p) s [.txns, .ev] (fun u =>
        u.txns = vmod s.txns p (fun x => { x with badAtCheck := x.framesBad, badSaidAt := some s.tim.tb }) ∧
        Tells s u 0x8508 p.val [ef 28 0 5, ef 32 0 (grown % 2 ^ 32)])) ∧
      (∀ a, s.txns[p].badSaidAt = some a → s.tim.tb - a < 60 * tSec → Runs (.frameErrorCheck p) s [.txns] (fun u =>
        u.txns = vmod s.txns p (fun x => { x with badAtCheck := x.framesBad }))))

/-- The frame layer as a frame arrives (R130 to R134). -/
def Obligations.HeaderOfAReceivedFrame : Prop :=
  ∀ (p : Chan) (hdr : FrameHdr) (rel : Bool) (s : State),
    let a := acceptHdr p hdr rel s;
    KeepsBut [.txns, .insCh] s a.2 ∧ (∀ q : Chan, q ≠ p → a.2.txns[q] = s.txns[q] ∧ a.2.insCh[q] = s.insCh[q]) ∧
    a.2.txns[p].framesRx = s.txns[p].framesRx + 1 ∧ a.2.txns[p].seqRx = some hdr.seq ∧
    (rel = false → s.txns[p].sreset = false → a.1 = true ∧ a.2.txns[p].rcntRx = s.txns[p].rcntRx) ∧
    (rel = true → s.txns[p].sreset = false → (a.1 = true ↔ hdr.rcnt = s.txns[p].rcntRx + 1)) ∧
    (rel = true → s.txns[p].sreset = false → a.2.txns[p].rcntRx = (if hdr.rcnt = s.txns[p].rcntRx + 1 then hdr.rcnt else s.txns[p].rcntRx)) ∧
    (rel = true → s.txns[p].sreset = false → hdr.rcnt ≠ s.txns[p].rcntRx + 1 → newer8 hdr.rcnt s.txns[p].rcntRx = true →
      a.2.txns[p].resend = true) ∧
    (s.txns[p].sreset = false → newer8 hdr.ack s.txns[p].rcntTx = false → ∀ f ∈ s.txns[p].unacked,
      (newer8 f.rcnt hdr.ack = true → f ∈ a.2.txns[p].unacked)) ∧
    (s.txns[p].sreset = false → newer8 hdr.ack s.txns[p].rcntTx = false → s.txns[p].waiting = [] →
      a.2.txns[p].unacked = s.txns[p].unacked.filter (fun f => newer8 f.rcnt hdr.ack)) ∧
    (s.txns[p].sreset = true → hdr.sreset = false → a.1 = !rel ∧ a.2.txns[p].unacked = s.txns[p].unacked ∧
      a.2.txns[p].rcntRx = s.txns[p].rcntRx ∧ a.2.txns[p].sreset = true) ∧
    (s.txns[p].sreset = true → hdr.sreset = true → a.2.txns[p].sreset = false)

/-- Frames of a node (R145, R148, R165 to R176, R219, R226, R236, R330). -/
def Obligations.FramesFromANode : Prop :=
  ∀ (p : Chan) (hdr : FrameHdr) (s : State),
    let a := acceptHdr p hdr false s;
    let r := acceptHdr p hdr true s;
    (receiving s p = false → (∀ x t4, Idles (.statReceived p hdr x t4) s) ∧ (∀ x, Idles (.capsReceived p hdr x) s) ∧
      (∀ x, Idles (.cellsReportReceived p hdr x) s) ∧ (∀ x, Idles (.cellsBurstReceived p hdr x) s) ∧
      (∀ x, Idles (.cellsTriggerReceived p hdr x) s) ∧ (∀ x, Idles (.touchReceived p hdr x) s) ∧
      (∀ x, Idles (.edgesReceived p hdr x) s) ∧ (∀ x, Idles (.replyReceived p hdr x) s)) ∧
    (receiving s p = true →
      (∀ x t4, ∃ u, Becomes (.statReceived p hdr x t4) s u ∧ u.txns[p].stat = some x ∧ u.txns[p].framesRx = s.txns[p].framesRx + 1) ∧
      ((a.1 = false ∨ s.ports[p].state ≠ .running) → (∀ x, Becomes (.cellsReportReceived p hdr x) s a.2) ∧
        (∀ x, Becomes (.cellsBurstReceived p hdr x) s a.2) ∧ (∀ x, Becomes (.cellsTriggerReceived p hdr x) s a.2) ∧
        (∀ x, Becomes (.touchReceived p hdr x) s a.2)) ∧
      ((r.1 = false ∨ s.ports[p].state ≠ .running) → ∀ x, Becomes (.edgesReceived p hdr x) s r.2) ∧
      (a.1 = true → s.ports[p].state = .running →
        (∀ x : CellsReport, x.cells.length ≠ cellCount s p → Becomes (.cellsReportReceived p hdr x) s
          (modMeas p (fun m => { m with discarded := m.discarded + 1 }) a.2)) ∧
        (∀ x : CellsReport, x.cells.length = cellCount s p → x.temps = none → s.meas[p].carrierAt = none →
          ∃ u, Becomes (.cellsReportReceived p hdr x) s u ∧ u.meas[p].packI = x.packI.toInt ∧ u.meas[p].packV = x.packV.toInt ∧
            u.meas[p].capV = x.capV.toInt ∧ u.meas[p].hasReport = true ∧ u.meas[p].reports = s.meas[p].reports + 1) ∧
        (∀ x, Becomes (.cellsBurstReceived p hdr x) s (burstSegment p x a.2)) ∧
        (∀ x : CellsTrigger, Runs (.cellsTriggerReceived p hdr x) s [.txns, .insCh] (fun u =>
          (∀ t ∈ u.insCh[p].trigDue, t ∈ s.insCh[p].trigDue) ∧
          ((∃ t ∈ s.insCh[p].trigDue, ((x.time.toNat : Int) - t.toNat).natAbs ≤ 40) →
            u.insCh[p].trigDue.length + 1 = s.insCh[p].trigDue.length))) ∧
        (∀ x : TouchFrame, x.main.length = cellCount s p → x.stone.length = cellCount s p →
          Becomes (.touchReceived p hdr x) s (markStale p (touchCompare p x a.2)) ∧ KeepsBut [.txns, .insCh] s a.2) ∧
        (∀ x : TouchFrame, x.main.length ≠ cellCount s p → Becomes (.touchReceived p hdr x) s a.2)) ∧
      (r.1 = true → s.ports[p].state = .running →
        (∀ x : EdgesFrame, x.recs = [] → Becomes (.edgesReceived p hdr x) s (servicePoll p (seqPoll p none r.2))) ∧
        (∀ (x : EdgesFrame) (e : EdgeRec), x.recs = [e] → ∃ u, Becomes (.edgesReceived p hdr x) s u ∧
          u.insCh[p].repState = OutState.ofCode e.state ∧ u.txns[p].edgeCnt = some e.edgeCnt)) ∧
      (∀ x : NodeReply, (r.1 = false ∨ x.result = 1 ∨ ∀ c ∈ r.2.txns[p].cmds, ¬ (c.id = x.cmdId ∧ c.code = x.code)) →
        Becomes (.replyReceived p hdr x) s r.2) ∧
      (∀ (x : NodeReply) (c : NodeCmd), r.1 = true → x.result ≠ 1 →
        r.2.txns[p].cmds.find? (fun c => c.id == x.cmdId && c.code == x.code) = some c →
        Becomes (.replyReceived p hdr x) s (cmdDone p c (some x.result.toNat) x.data
          (modTxn p (fun y => { y with cmds := y.cmds.filter (fun z => z.id ≠ c.id) }) r.2))) ∧
      (∀ x : Caps, (r.1 = false ∨ (s.ports[p].state ≠ .exchange ∧ s.ports[p].state ≠ .running)) → Becomes (.capsReceived p hdr x) s r.2) ∧
      (∀ x : Caps, r.1 = true → s.ports[p].state = .exchange →
        (x.proto.toNat / 256 ≠ 1 → Becomes (.capsReceived p hdr x) s (unpartner p 1 (exchangeFails p r.2))) ∧
        (x.proto.toNat / 256 = 1 → x.sideB ≠ sideExpected r.2 →
          Becomes (.capsReceived p hdr x) s (crossWire p x (exchangeFails p r.2)) ∧
          (crossWire p x (exchangeFails p r.2)).ports[p].state = .crossWired) ∧
        (x.proto.toNat / 256 = 1 → x.sideB = sideExpected r.2 → ∀ q, sameNode r.2 p x.nodeId = some q →
          Becomes (.capsReceived p hdr x) s (duplicate p q x (exchangeFails p r.2))) ∧
        (x.proto.toNat / 256 = 1 → x.sideB = sideExpected r.2 → sameNode r.2 p x.nodeId = none → ∀ c, capsFault r.2 p x = some c →
          Becomes (.capsReceived p hdr x) s (unpartner p c (exchangeFails p r.2))) ∧
        (x.proto.toNat / 256 = 1 → x.sideB = sideExpected r.2 → sameNode r.2 p x.nodeId = none → capsFault r.2 p x = none →
          ∃ u, Becomes (.capsReceived p hdr x) s u ∧ u.ports[p].state = .running ∧ u.txns[p].caps = some x)))

/-- The crucible's inputs (R386, R387, R396 to R398). -/
def Obligations.ThermalInputsTripAndDieWarning : Prop :=
  ∀ s : State,
    (∀ (h : Hdr) (p : Bool) (idx : Word) (t : State), Admits h 0x0601 4 .none false s idx t →
      Replies (.thermalMode h p) h 0x0601 idx s t { status := .ok } [.thm]
        (fun u => u.thm = { t.thm with modeReq := some p, override := true })) ∧
    (∀ (i : TempIn) (res : TsResult),
      ((tsType s i = 0 ∨ mainUp s = false ∨ s.pwr.configLoaded = false ∨ blockFenced s 0x0601 0xFFFF = true) →
        Idles (.tsConversion i res) s) ∧
      (tsType s i ≠ 0 → mainUp s = true → s.pwr.configLoaded = true → blockFenced s 0x0601 0xFFFF = false →
        (∀ kind, tsRead res = .inr kind → s.thm.ts[i].fault = none →
          (s.thm.ts[i].bad = 0 → Runs (.tsConversion i res) s [.thm] (fun u =>
            u.thm = { s.thm with ts := vmod s.thm.ts i (fun x => { x with bad := 1, good := 0 }) })) ∧
          (1 ≤ s.thm.ts[i].bad → Runs (.tsConversion i res) s [.thm, .ev] (fun u =>
            u.thm.ts[i].fault = some kind ∧ u.thm.ts[i].reading = none ∧ u.thm.ts[i].trip = false ∧
            u.thm.ts[i].faultAt = s.tim.tb ∧ (∀ j : TempIn, j ≠ i → u.thm.ts[j] = s.thm.ts[j]) ∧
            Tells s u 0x8605 i.val [ef 28 0 i.val, ef 28 4 0, ef 28 5 kind, ef 28 7 0]))) ∧
        (∀ v : Int, tsRead res = .inl v →
          (s.thm.ts[i].fault = none → ∃ u, Becomes (.tsConversion i res) s u ∧ u.thm.ts[i].reading = some v ∧
            u.thm.ts[i].bad = 0 ∧ (∀ j : TempIn, j ≠ i → u.thm.ts[j] = s.thm.ts[j]) ∧
            (∀ g : Group, quenched s g = true → quenched u g = true) ∧
            (tsTrips s i = true → tsTrip s i ≤ v → u.thm.ts[i].trip = true ∧ ∀ g : Group, (tsScope s i).testBit g.val = true →
              (pNat s Prm.insThmMap).testBit g.val = true → quenched u g = true) ∧
            (v < tsTrip s i - pNat s Prm.thmHyst → u.thm.ts[i].trip = false)) ∧
          (s.thm.ts[i].fault.isSome = true → s.thm.ts[i].good = 0 → Runs (.tsConversion i res) s [.thm] (fun u =>
            u.thm = { s.thm with ts := vmod s.thm.ts i (fun x => { x with bad := 0, good := 1 }) })) ∧
          (∀ kind, s.thm.ts[i].fault = some kind → 1 ≤ s.thm.ts[i].good → ∃ u, Becomes (.tsConversion i res) s u ∧
            u.thm.ts[i].fault = none ∧ u.thm.ts[i].faultTrip = false ∧ u.thm.ts[i].reading = some v ∧
            Tells s u 0x8605 i.val [ef 28 0 i.val, ef 28 4 1, ef 28 5 kind, ef 28 7 (bN s.thm.ts[i].faultTrip)])))) ∧
    (∀ temp : Half, tsRead (.reading temp) = if temp.toInt < -550 ∨ 1500 < temp.toInt then .inr 2 else .inl temp.toInt) ∧
    (∀ i : TempIn, s.thm.ts[i].fault.isSome = true → tsTrips s i = true → tsFaultTrip s i = true →
      ∃ u, Becomes (.tsFaultTrip i) s u ∧ u.thm = { s.thm with ts := vmod s.thm.ts i (fun x => { x with faultTrip := true }) } ∧
        ∀ g : Group, (tsScope s i).testBit g.val = true → (pNat s Prm.insThmMap).testBit g.val = true → quenched u g = true) ∧
    (∀ i : TempIn, (s.thm.ts[i].fault = none ∨ tsTrips s i = false ∨ tsFaultTrip s i = false) → Idles (.tsFaultTrip i) s) ∧
    (∀ a b c d : Half,
      let l := [a.toInt, b.toInt, c.toInt, d.toInt]
      (mainUp s = true → s.pwr.configLoaded = true → s.thm.dieWarn = false → (∃ x ∈ l, pInt s Prm.thmDieWarn ≤ x) →
        Runs (.dieWarning a b c d) s [.thm, .ev, .twn] (fun u => u.thm = { s.thm with die := l, dieWarn := true } ∧
          ∃ e ∈ u.ev.held, e.seq = s.ev.seq ∧ e.code = 0x8601 ∧ e.subject = 0xFFFF)) ∧
      (mainUp s = true → s.pwr.configLoaded = true → s.thm.dieWarn = true → (∀ x ∈ l, x ≤ pInt s Prm.thmDieWarn - 50) →
        Runs (.dieWarning a b c d) s [.thm, .ev] (fun u => u.thm = { s.thm with die := l, dieWarn := false } ∧
          ∃ e ∈ u.ev.held, e.seq = s.ev.seq ∧ e.code = 0x8601 ∧ e.subject = 0xFFFF)) ∧
      (mainUp s = true → s.pwr.configLoaded = true → s.thm.dieWarn = true → (∃ x ∈ l, pInt s Prm.thmDieWarn - 50 < x) →
        Runs (.dieWarning a b c d) s [.thm] (fun u => u.thm = { s.thm with die := l }))) ∧
    (s.thm.dieWarn = false → Idles .dieWarnRecheck s) ∧
    (mainUp s = true → s.thm.dieWarn = true → Becomes .dieWarnRecheck s (dieOffer s)) ∧
    (s.twn.open_ = none → mayOffer s = true → lately s.tim.tb s.thm.receivedAt (600 * tSec) = false →
      (dieOffer s).twn.open_ = some .die) ∧
    (lately s.tim.tb s.thm.receivedAt (600 * tSec) = true → dieOffer s = s)

/-- Turning load outputs on and off (R405, R406, R410 to R413, R417, R418, R423, R424). -/
def Obligations.LoadOutputsTurnOnAndOff : Prop :=
  ∀ s : State,
    (∀ (h : Hdr) (sel st inr : Word) (idx : Word) (t : State), Admits h 0x0701 12 .none false s idx t →
      (t.lo.fenced = true → Replies (.loSet h sel st inr) h 0x0701 idx s t { status := .fenced } [] (fun _ => True)) ∧
      (t.lo.fenced = false → AnswersWith (.loSet h sel st inr) h 0x0701 idx s
        (okWords [(3, (loSetAll sel st inr t).1.1), (4, (loSetAll sel st inr t).1.2)]) (loSetAll sel st inr t).2)) ∧
    (∀ (h : Hdr) (o : LoadOut) (idx : Word) (t : State), Admits h 0x0702 4 .none false s idx t →
      (t.lo.fenced = true → ∀ mask, Replies (.loRearm h mask) h 0x0702 idx s t { status := .fenced } [] (fun _ => True)) ∧
      (t.lo.fenced = false → AnswersWith (.loRearm h (1#32 <<< o.val)) h 0x0702 idx s
        (okWords [(3, if (loRearmOne o t).1 then 2 ^ o.val else 0)]) (loRearmOne o t).2)) ∧
    (∀ o : LoadOut,
      (∀ inr : Bool, (loSetOne o false inr s).1 = 0 ∧ (loSetOne o false inr s).2.lo.out[o].cmd = false ∧
        (s.lo.out[o].k = (loSetOne o false inr s).2.lo.out[o].k) ∧
        ((loSetOne o false inr s).2.lo.out[o].state ≠ .on ∧ (loSetOne o false inr s).2.lo.out[o].state ≠ .inrush ∨
          s.lo.out[o].state = (loSetOne o false inr s).2.lo.out[o].state)) ∧
      (∀ inr : Bool, (s.lo.out[o].failed = true ∨ s.lo.out[o].retired.isSome = true ∨ s.lo.out[o].latch = true) →
        loSetOne o true inr s = (1, s)) ∧
      (s.lo.out[o].failed = false → s.lo.out[o].retired = none → s.lo.out[o].latch = false → ∀ inr : Bool,
        let recent := s.lo.out[o].toggles.filter (fun a => decide (s.tim.tb - a < tSec))
        (s.lo.out[o].cmd = true → loSetOne o true inr s = (0, s)) ∧
        (s.lo.out[o].cmd = false → pNat s Prm.loToggleMax ≤ recent.length → (loSetOne o true inr s).1 = 2 ∧
          (loSetOne o true inr s).2.lo.out[o].cmd = false ∧ (loSetOne o true inr s).2.lo.out[o].state = s.lo.out[o].state) ∧
        (s.lo.out[o].cmd = false → recent.length < pNat s Prm.loToggleMax →
          (loSetOne o true inr s).1 = 0 ∧ (loSetOne o true inr s).2.lo.out[o].cmd = true ∧
          (s.lo.out[o].state ≠ .cut → s.lo.grp[loGroup o].cut = false → s.lo.out[o].next = none →
            (inr = false → loFlag s o 0 = false → (loSetOne o true inr s).2.lo.out[o].state = .on) ∧
            ((inr = true ∨ loFlag s o 0 = true) → inrushIn s (loGroup o) = false →
              (loSetOne o true inr s).2.lo.out[o].state = .inrush) ∧
            ((inr = true ∨ loFlag s o 0 = true) → s.lo.out[o].state ≠ .inrush → inrushIn s (loGroup o) = true →
              (loSetOne o true inr s).2.lo.out[o].state = .queued)) ∧
          (∀ at_, s.lo.out[o].state ≠ .cut → s.lo.out[o].next = some at_ → s.tim.tb < at_ →
            (loSetOne o true inr s).2.lo.out[o].state = .wait))) ∧
      (∀ (on inr : Bool) (m : LoadOut), loGroup m ≠ loGroup o →
        (loSetOne o on inr s).2.lo.out[m] = s.lo.out[m] ∧ (loRearmOne o s).2.lo.out[m] = s.lo.out[m]) ∧
      (s.lo.out[o].retired = none → s.lo.out[o].failed = false → s.lo.out[o].state ≠ .wait → loRearmOne o s = (false, s)) ∧
      (s.lo.out[o].retired.isSome = true → (loRearmOne o s).2.lo.out[o].cmd = false) ∧
      (∀ prof, s.lo.out[o].state ≠ .inrush → Idles (.loInrushEnd o prof) s) ∧
      (∀ prof, s.lo.out[o].state = .inrush → ∃ u, Becomes (.loInrushEnd o prof) s u ∧ u.lo.out[o].state = .on ∧
        u.lo.out[o].prof = prof ∧ u.lo.out[o].k = s.lo.out[o].k) ∧
      (s.lo.out[o].state = .wait → s.lo.out[o].cmd = true → loRuns s = true →
        Becomes (.loAttemptDue o) s (loTurnOn o (loFlag s o 0) true s)) ∧
      (s.lo.out[o].state = .uvOff → s.lo.out[o].next.isSome = true → Runs (.loAttemptDue o) s [.lo] (fun u =>
        u.lo = { s.lo with out := vmod s.lo.out o (fun x => { x with attempt := true }) })) ∧
      (s.lo.out[o].state ≠ .wait → s.lo.out[o].state ≠ .uvOff → Idles (.loAttemptDue o) s) ∧
      (s.lo.out[o].state = .uvOff → s.lo.out[o].cmd = true → loRuns s = true →
        Becomes (.loUvRestart o) s (loTurnOn o (loFlag s o 0) s.lo.out[o].attempt s)) ∧
      ((s.lo.out[o].state ≠ .uvOff ∨ s.lo.out[o].cmd = false ∨ loRuns s = false) → Idles (.loUvRestart o) s) ∧
      (loLit s.lo.out[o] = true → s.lo.out[o].annealing = true → loRuns s = true → Runs (.loAnnealed o) s [.lo, .ev] (fun u =>
        u.lo = { s.lo with out := vmod s.lo.out o (fun x => { x with annealing := false }) } ∧
        ∃ e ∈ u.ev.held, e.seq = s.ev.seq ∧ e.code = 0x8702 ∧ e.subject.toNat = o.val)) ∧
      ((loLit s.lo.out[o] = false ∨ s.lo.out[o].annealing = false ∨ loRuns s = false) → Idles (.loAnnealed o) s) ∧
      (loLit s.lo.out[o] = true → Runs (.loAttemptReset o) s [.lo] (fun u =>
        u.lo = { s.lo with out := vmod s.lo.out o (fun x => { x with k := 0 }) })) ∧
      (loLit s.lo.out[o] = false → Idles (.loAttemptReset o) s) ∧
      (s.lo.out[o].cmd = true → loOnMax s o ≠ 0 → loRuns s = true → ∃ u, Becomes (.loOnMax o) s u ∧
        u.lo.out[o].cmd = false ∧ u.lo.out[o].lastKind = 5 ∧ u.lo.out[o].k = s.lo.out[o].k ∧
        (s.lo.out[o].state ≠ .latched → s.lo.out[o].state ≠ .cut → s.lo.out[o].state ≠ .fenced → s.lo.out[o].state ≠ .retired →
          u.lo.out[o].state = .off)) ∧
      ((s.lo.out[o].cmd = false ∨ loOnMax s o = 0 ∨ loRuns s = false) → Idles (.loOnMax o) s))

/-- Faults of load outputs (R407 to R416, R422). -/
def Obligations.LoadOutputFaultsCountAttempts : Prop :=
  ∀ (o : LoadOut) (s : State),
    let others (u : State) : Prop := ∀ m : LoadOut, m ≠ o → u.lo.out[m].k = s.lo.out[m].k ∧ u.lo.out[m].cmd = s.lo.out[m].cmd
    let counted (kind : Nat) (st : LoState) (u : State) : Prop := u.lo.out[o].state = st ∧ u.lo.out[o].k = s.lo.out[o].k + 1 ∧
      u.lo.out[o].next = some (s.tim.tb + 100 * tMs * 2 ^ s.lo.out[o].k) ∧ u.lo.out[o].faults = s.lo.out[o].faults + 1 ∧
      u.lo.out[o].cmd = s.lo.out[o].cmd ∧ u.lo.out[o].lastKind = BitVec.ofNat 4 kind ∧ others u
    (∀ m : LoMeas,
      (loLit s.lo.out[o] = true → loRuns s = true → s.lo.out[o].k < 8 →
        (∃ u, Becomes (.loShort o m) s u ∧ counted 0 .wait u) ∧
        (s.lo.out[o].state = .on → ∃ u, Becomes (.loOverload o m) s u ∧ counted 1 .wait u) ∧
        (∃ u, Becomes (.loThermalLatch o m) s u ∧ counted 2 .latched u ∧ u.lo.out[o].latch = true)) ∧
      (loLit s.lo.out[o] = true → loRuns s = true → 8 ≤ s.lo.out[o].k →
        ∃ u, Becomes (.loShort o m) s u ∧ u.lo.out[o].state = .retired ∧ u.lo.out[o].retired = some 0 ∧
          u.lo.out[o].next = none ∧ others u) ∧
      (loLit s.lo.out[o] = true → loRuns s = false → ∃ u, Becomes (.loShort o m) s u ∧ u.lo.out[o].state = .off ∧
        u.lo.out[o].cmd = false ∧ u.lo.out[o].k = s.lo.out[o].k ∧ others u) ∧
      (s.lo.out[o].state = .inrush → Idles (.loOverload o m) s) ∧
      (loLit s.lo.out[o] = false → s.lo.out[o].state ≠ .uvOff → s.lo.out[o].state ≠ .wait →
        Idles (.loShort o m) s ∧ Idles (.loOverload o m) s ∧ Idles (.loThermalLatch o m) s)) ∧
    (∀ tj : Half, (s.lo.out[o].latch = false → Idles (.loThermalRelease o tj) s) ∧
      (s.lo.out[o].latch = true → ∃ u, Becomes (.loThermalRelease o tj) s u ∧ u.lo.out[o].latch = false ∧ u.lo.out[o].tj = tj ∧
        u.lo.out[o].k = s.lo.out[o].k ∧ (s.lo.out[o].cmd = false → s.lo.out[o].state = .latched → s.lo.out[o].retired = none →
          s.lo.out[o].failed = false → u.lo.out[o].state = .off) ∧ ∀ m : LoadOut, m ≠ o → u.lo.out[m] = s.lo.out[m])) ∧
    (∀ v : Half,
      (loLit s.lo.out[o] = true → loRuns s = true → ∃ u, Becomes (.loUndervoltage o v) s u ∧ u.lo.out[o].state = .uvOff ∧
        u.lo.out[o].k = s.lo.out[o].k ∧ u.lo.out[o].next = s.lo.out[o].next ∧ u.lo.out[o].cmd = s.lo.out[o].cmd ∧ others u ∧
        u.lo.grp[loGroup o].vfeed = v) ∧
      (s.lo.out[o].state ≠ .queued → loLit s.lo.out[o] = false →
        Runs (.loUndervoltage o v) s [.lo] (fun u => u.lo.out = s.lo.out ∧ u.lo.grp[loGroup o].vfeed = v))) ∧
    (∀ current duration : Half, Runs (.loClampTurnoff o current duration) s [.lo, .ev] (fun u =>
      (∀ m : LoadOut, u.lo.out[m].state = s.lo.out[m].state ∧ u.lo.out[m].k = s.lo.out[m].k ∧ u.lo.out[m].cmd = s.lo.out[m].cmd) ∧
      u.lo.grp = s.lo.grp ∧ u.lo.out[o].current = current ∧
      (loRuns s = true → 320000000 < current.toNat * 48 * duration.toNat / 2 →
        ∃ e ∈ u.ev.held, e.seq = s.ev.seq ∧ e.code = 0x8701 ∧ e.subject.toNat = o.val))) ∧
    (∀ m : LoMeas,
      (s.lo.out[o].cmd = false → s.lo.out[o].retired = none → s.lo.out[o].state ≠ .cut → loRuns s = true →
        ∃ u, Becomes (.loStuckOn o m) s u ∧ u.lo.out[o].retired = some 6 ∧ .loadOutput o ∈ u.store.queue ∧
          ((pNat s Prm.loCutoff).testBit (loGroup o).val = false → u.lo.out[o].state = .retired) ∧
          ((pNat s Prm.loCutoff).testBit (loGroup o).val = true → u.lo.grp[loGroup o].cut = true ∧
            ∀ x : LoadOut, loGroup x = loGroup o → u.lo.out[x].state = .cut ∧ u.lo.out[x].cmd = s.lo.out[x].cmd)) ∧
      ((s.lo.out[o].cmd = true ∨ s.lo.out[o].retired.isSome = true ∨ s.lo.out[o].state = .cut ∨ loRuns s = false) →
        Idles (.loStuckOn o m) s)) ∧
    (∀ (begins : Bool) (m : LoMeas),
      (loRuns s = false → Idles (.loOpenLoad o begins m) s) ∧
      (loRuns s = true → Runs (.loOpenLoad o begins m) s [.lo, .ev] (fun u =>
        (∀ x : LoadOut, u.lo.out[x].state = s.lo.out[x].state ∧ u.lo.out[x].cmd = s.lo.out[x].cmd ∧ u.lo.out[x].k = s.lo.out[x].k) ∧
        (begins = false → u.lo.out[o].openLoad = none) ∧
        (begins = true → s.lo.out[o].state = .on → loHalf s o 8 ≠ 0 → s.lo.out[o].openLoad = none →
          u.lo.out[o].openLoad = some false ∧ ∃ e ∈ u.ev.held, e.seq = s.ev.seq ∧ e.code = 0x8706 ∧ e.subject.toNat = o.val))))

/-- Safety functions (R435 to R445). -/
def Obligations.SafetyFunctionsDemandAndReset : Prop :=
  ∀ s : State,
    (s.saf.running = false → ∀ (i : SafetyIn) (k : SafetyPair) (b : Bool) (n : Half), Idles (.siDemand i) s ∧ Idles (.siPermit i) s ∧
      Idles (.siChatter i b) s ∧ Idles .discrepancyTick s ∧ Idles (.twoHandSyncTimeout k) s ∧ Idles (.srstPressAccepted n) s ∧
      Idles (.resetStuck b) s) ∧
    (s.saf.running = true → locked s = false →
      (∀ i : SafetyIn,
        let k := pairOf i
        let others (u : State) : Prop := ∀ m : SafetyPair, m ≠ k → u.saf.pair[m] = s.saf.pair[m]
        (∀ m : SafetyPair, s.saf.pair[m].state ≠ .lockout) →
        (∃ u, Becomes (.siDemand i) s u ∧ u.saf.si[i].permit = false ∧ others u ∧
          (s.saf.si[i].permit = true → twoHand s k = false → (s.saf.pair[k].state = .permit ∨ s.saf.pair[k].state = .resetPending) →
            u.saf.pair[k].state = .demand ∧ u.saf.demands = s.saf.demands + 1 ∧ soOn u k = false ∧
            (eStop s k = true → (∀ o : SafetyOut, soOn u o = false) ∧ u.qm.safety = true))) ∧
        (∃ u, Becomes (.siChatter i true) s u ∧ u.saf.si[i].chatter = true ∧ others u ∧
          (s.saf.si[i].chatter = false → twoHand s k = false → (s.saf.pair[k].state = .permit ∨ s.saf.pair[k].state = .resetPending) →
            u.saf.pair[k].state = .demand)) ∧
        (starved s i = true → Becomes (.siPermit i) s (safeSettle s)) ∧
        (starved s i = false → ∃ u, Becomes (.siPermit i) s u ∧ u.saf.si[i].permit = true ∧ others u ∧
          (twoHand s k = false → s.saf.pair[k].state = .demand → s.saf.si[i].permit = false → s.saf.si[i].chatter = false →
            (∀ j : SafetyIn, pairOf j = k → j ≠ i → permits s j = true) →
            u.saf.pair[k].state = if autoStart s k then .permit else .resetPending))) ∧
      (∃ u, Becomes .discrepancyTick s u ∧ ∀ k : SafetyPair, s.saf.pair[k].state ≠ .lockout →
        (pairType s k = 0 → u.saf.pair[k] = s.saf.pair[k]) ∧
        (pairType s k ≠ 0 → s.saf.si[contactA k].permit = s.saf.si[contactB k].permit → discTime s ≠ 0 →
          u.saf.pair[k].count = 0 ∧ u.saf.pair[k].state = s.saf.pair[k].state) ∧
        (pairType s k ≠ 0 → s.saf.si[contactA k].permit ≠ s.saf.si[contactB k].permit → discTime s ≤ s.saf.pair[k].count + 1 →
          (s.saf.pair[k].state = .demand ∨ s.saf.pair[k].state = .resetPending ∨ s.saf.pair[k].state = .permit) →
          u.saf.pair[k].state = .fault ∧ u.saf.pair[k].disc = true)) ∧
      (∀ k : SafetyPair,
        (twoHand s k = true → s.saf.pair[k].state = .demand → s.saf.pair[k].sync.isSome = true → handsChatter s k = false →
          ∃ u, Becomes (.twoHandSyncTimeout k) s u ∧ u.saf.pair[k].state = .waitRelease) ∧
        ((twoHand s k = false ∨ handsChatter s k = true ∨ s.saf.pair[k].state ≠ .demand ∨ s.saf.pair[k].sync = none) →
          Becomes (.twoHandSyncTimeout k) s (safeSettle s))) ∧
      (∀ n : Half, 100 ≤ n.toNat → n.toNat ≤ 3000 → s.saf.stuck = false → ∃ u, Becomes (.srstPressAccepted n) s u ∧
        u.saf.resets = s.saf.resets + 1 ∧ ∀ k : SafetyPair,
          let whole := s.saf.pair[k].since ≤ s.tim.tb - n.toNat * tMs
          (s.saf.pair[k].state = .resetPending → whole → u.saf.pair[k].state = .permit) ∧
          (s.saf.pair[k].state = .resetPending → ¬ whole → u.saf.pair[k].state = .resetPending) ∧
          (s.saf.pair[k].state = .demand → u.saf.pair[k].state = .demand) ∧
          (s.saf.pair[k].state = .faultClearable → whole → u.saf.pair[k].disc = false ∧ u.saf.pair[k].pulse = false ∧
            u.saf.pair[k].state ≠ .fault ∧ u.saf.pair[k].state ≠ .faultClearable)) ∧
      (∀ n : Half, (n.toNat < 100 ∨ 3000 < n.toNat ∨ s.saf.stuck = true) → Idles (.srstPressAccepted n) s) ∧
      (∀ pressed : Bool, s.saf.stuck ≠ pressed → ∃ u, Becomes (.resetStuck pressed) s u ∧ u.saf.stuck = pressed ∧ u.saf.srst = pressed))

/-- Safety outputs, lockouts and the supervisor's start and end (R427 to R432, R436, R446 to R454, R514). -/
def Obligations.SafetyOutputsAndLockouts : Prop :=
  ∀ s : State,
    let dark (u : State) : Prop := ∀ o : SafetyOut, soOn u o = false
    (∀ c ∈ ([.degradedExpiry, .safetyInternalFault, .discrepancyTick] : List Instr), s.saf.running = false → Idles c s) ∧
    (s.saf.running = true → ∀ c : Instr, ((∃ tp hi rh sl, c = .pulseSample tp hi rh sl) ∨ (∃ o sw ok, c = .offPulseTest o sw ok) ∨
        (∃ o on, c = .soReadbackFault o on) ∨ c = .degradedExpiry ∨ c = .safetyInternalFault ∨ (∃ x, c = .hallmarkScan x) ∨
        c = .discrepancyTick ∨ (∃ i, c = .siDemand i) ∨ (∃ i, c = .siPermit i)) →
      ∃ u, Becomes c s u ∧ u.qm.safety = safetyCalls u ∧ (∀ g : Group, quenched s g = true → quenched u g = true) ∧
        (locked u = true → dark u ∧ u.qm.safety = true ∧
          ∀ k : SafetyPair, u.saf.pair[k].state = .off ∨ u.saf.pair[k].state = .lockout)) ∧
    (s.saf.running = true →
      (∀ (tp : Fin 4) (high : BitVec 16),
        (1 ≤ s.saf.srcRun[tp] → s.saf.srcHigh.getLsbD tp.val = false → s.saf.degraded = none →
          ∃ u, Becomes (.pulseSample tp high true false) s u ∧ u.saf.srcHigh.getLsbD tp.val = true ∧
            ∃ d, u.saf.degraded = some d ∧ d.switch = false ∧ d.index = tp.val ∧ d.at_ = s.tim.tb) ∧
        (∃ u, Becomes (.pulseSample tp high false true) s u ∧
          ∀ i : SafetyIn, contactIn s i = true → sourceOf i = tp → u.saf.si[i].permit = false) ∧
        (∀ i : SafetyIn, contactIn s i = true → sourceOf i = tp → high.getLsbD i.val = true → 1 ≤ s.saf.si[i].highRun →
          s.saf.srcHigh.getLsbD tp.val = false → locked s = false → s.saf.pair[pairOf i].state ≠ .off →
          s.saf.pair[pairOf i].state ≠ .lockout →
          ∃ u, Becomes (.pulseSample tp high false false) s u ∧ u.saf.pair[pairOf i].state = .fault ∧
            u.saf.pair[pairOf i].pulse = true)) ∧
      (∀ (o : SafetyOut),
        (soOn s o = false → ∀ sw ok, Becomes (.offPulseTest o sw ok) s (safeSettle s)) ∧
        (soOn s o = true → ∃ u, Becomes (.offPulseTest o 1 true) s u ∧ u.saf.offPulses = s.saf.offPulses + 1 ∧
          u.saf.so[o].failed = s.saf.so[o].failed) ∧
        (soOn s o = true → 1 ≤ s.saf.so[o].runs.1 → s.saf.so[o].failed.getLsbD 0 = false →
          ∃ u, Becomes (.offPulseTest o 1 false) s u ∧ u.saf.so[o].failed.getLsbD 0 = true ∧
            (s.saf.degraded = none → ∃ d, u.saf.degraded = some d ∧ d.switch = true ∧ d.index = o.val) ∧
            (s.saf.degraded.isSome = true → u.saf.lockDegraded = true ∧ dark u)) ∧
        (soOn s o = false → ∃ u, Becomes (.soReadbackFault o true) s u ∧ u.saf.so[o].high = true ∧ dark u) ∧
        (soOn s o = true → ∃ u, Becomes (.soReadbackFault o false) s u ∧ u.saf.so[o].fault = true ∧ soOn u o = false) ∧
        Becomes (.soReadbackFault o (soOn s o)) s (safeSettle s)) ∧
      (∀ d, s.saf.degraded = some d → s.saf.lockDegraded = false →
        ∃ u, Becomes .degradedExpiry s u ∧ u.saf.lockDegraded = true ∧ dark u) ∧
      (s.saf.degraded = none → Becomes .degradedExpiry s (safeSettle s)) ∧
      (∃ u, Becomes .safetyInternalFault s u ∧ u.saf.internal = true ∧ dark u) ∧
      (∀ x : HallmarkScan, ∃ u, Becomes (.hallmarkScan x) s u ∧ u.saf.present = scanAll x ∧ u.saf.latched = s.saf.latched ∧
        ((x.hbC ≠ s.saf.latched[(2 : Fin 5)] ∨ x.hbD ≠ s.saf.latched[(3 : Fin 5)] ∨ x.hbE ≠ s.saf.latched[(4 : Fin 5)] ∨
          x.contradictory.getLsbD 2 = true) → u.saf.lockHall = true ∧ dark u) ∧
        (scanAll x = s.saf.latched → x.contradictory = 0 → u.saf.lockHall = s.saf.lockHall)) ∧
      (∃ u, Becomes .vsafeLoss s u ∧ u.saf.running = false ∧ dark u ∧ u.qm.safety = false ∧ u.saf.latched = s.saf.latched) ∧
      (∀ x, Idles (.vsafeStart x) s)) ∧
    (s.saf.running = false → Idles .vsafeLoss s ∧ ∀ x : HallmarkScan, ∃ u, Becomes (.vsafeStart x) s u ∧ u.saf.running = true ∧ dark u ∧
      u.saf.latched[(2 : Fin 5)] = x.hbC ∧ u.saf.latched[(3 : Fin 5)] = x.hbD ∧ u.saf.latched[(4 : Fin 5)] = x.hbE ∧
      u.saf.latched[(0 : Fin 5)] = s.saf.latched[(0 : Fin 5)] ∧ u.saf.degraded = none ∧
      ∀ k : SafetyPair, pairUsed u k = false → u.saf.pair[k].state = .off) ∧
    (∀ (h : Hdr) (idx : Word) (t : State), Admits h 0x0801 0 .none false s idx t →
      (t.saf.running = false → Replies (.safetyStatus h) h 0x0801 idx s t { status := .fenced } [] (fun _ => True)) ∧
      (t.saf.running = true → Replies (.safetyStatus h) h 0x0801 idx s t
        (okWords [(3, safeInputs t + safeOutputs t * 2 ^ 16), (4, safeStates t), (5, safeFaults t), (6, degradedMs t)]) [] (fun _ => True)))

/-- Bus commands of the host (R460, R461, R473, R477, R478). -/
def Obligations.BusCommandsOfTheHost : Prop :=
  ∀ (h : Hdr) (mask : BitVec 2) (s t : State) (idx : Word),
    let unfit (t : State) : Prop := ∃ b : BusId, inMask mask b = true ∧ (busEnabled t b = false ∨ t.bus.one[b].mode ≠ 0)
    let isOff (t : State) (b : BusId) : Prop := t.bus.one[b].state = .busOff ∨ t.bus.one[b].state = .recovering
    (∀ mode : BitVec 2, Admits h 0x0903 8 (.bus mask) false s idx t →
      (mode = 3 → Replies (.busMode h mask mode) h 0x0903 idx s t { status := .badParam, detail := 4 } [] (fun _ => True)) ∧
      (mode ≠ 3 → (∃ b : BusId, inMask mask b = true ∧ busEnabled t b = false) →
        Replies (.busMode h mask mode) h 0x0903 idx s t { status := .wrongState } [] (fun _ => True)) ∧
      (mode ≠ 3 → (∀ b : BusId, inMask mask b = true → busEnabled t b = true) →
        Replies (.busMode h mask mode) h 0x0903 idx s t { status := .ok } [.bus] (fun u => ∀ b : BusId,
          u.bus.one[b] = if inMask mask b then { t.bus.one[b] with modeReq := some mode.toNat } else t.bus.one[b]))) ∧
    (∀ b : BusId, (s.bus.one[b].modeReq = none → Idles (.busModeApply b) s) ∧
      (∀ m, s.bus.one[b].modeReq = some m → Runs (.busModeApply b) s [.bus] (fun u =>
        u.bus.one[b].mode = m ∧ u.bus.one[b].modeReq = none ∧ u.bus.one[b].tec = s.bus.one[b].tec ∧
        u.bus.one[b].fifo = s.bus.one[b].fifo ∧ ∀ c : BusId, c ≠ b → u.bus.one[c] = s.bus.one[c]))) ∧
    (Admits h 0x0901 4 (.bus mask) true s idx t →
      (unfit t → Finishes (.busRecover h mask) h 0x0901 idx s t { status := .wrongState } [] (fun _ => True)) ∧
      (¬ unfit t → (∀ b : BusId, inMask mask b = true → t.bus.one[b].state ≠ .busOff) →
        (t.bus.clash = false → Finishes (.busRecover h mask) h 0x0901 idx s t { status := .ok } [] (fun _ => True)) ∧
        (mask ≠ 0 → t.bus.clash = true → ownHeard t = true →
          Finishes (.busRecover h mask) h 0x0901 idx s t { status := .wrongState } [] (fun _ => True)) ∧
        (mask ≠ 0 → t.bus.clash = true → ownHeard t = false →
          Finishes (.busRecover h mask) h 0x0901 idx s t { status := .ok } [.bus, .ev, .flt] (fun u => u.bus.clash = false))) ∧
      (¬ unfit t → t.bus.clash = false → (∃ b : BusId, inMask mask b = true ∧ t.bus.one[b].state = .busOff) →
        ∃ arg, Pends (.busRecover h mask) h 0x0901 idx s t (pendOf h 0x0901 (.bus mask) t.tim.tb arg) [.bus] (fun u => ∀ b : BusId,
          u.bus.one[b] = if inMask mask b ∧ t.bus.one[b].state = .busOff then { t.bus.one[b] with state := .recovering }
            else t.bus.one[b]))) ∧
    (∀ (b : BusId) (ok : Bool), s.bus.one[b].state = .recovering → ∃ u, Becomes (.busRecoveryDone b ok) s u ∧
      (ok = true → u.bus.one[b].state = .errorActive ∧ u.bus.one[b].tec = 0 ∧ u.bus.one[b].recv = 0) ∧
      (ok = false → u.bus.one[b].state = .busOff) ∧
      ∀ p ∈ s.cmd.pend, p.op = 0x0901 → p.arg &&& 3 = BitVec.ofNat 64 (busBit b) →
        ∃ r ∈ u.cmd.held, r.tag = p.tag ∧ r.op = p.op ∧ r.reply = reply (if ok then recoverStatus p.arg else .timeout)) ∧
    (∀ (b : BusId) (ok : Bool), s.bus.one[b].state ≠ .recovering → ∃ u, Becomes (.busRecoveryDone b ok) s u ∧ u.bus = s.bus) ∧
    (∀ (mtype : BitVec 13) (cls : BitVec 4) (len : BitVec 7) (data : List Byte) (bulk : Bulk),
      let c : Instr := .busSend h mask mtype cls len data bulk
      let frame : OneShot := { ident := identOf t cls.toNat mtype.toNat, data := padded (sendData t len.toNat data bulk), at_ := t.tim.tb, tag := some h.tag }
      Admits h 0x0902 (if len.toNat > 32 then 52 else 12 + len.toNat) (.bus mask) true s idx t →
      (64 < len.toNat → Replies c h 0x0902 idx s t { status := .badParam, detail := 5 } [] (fun _ => True)) ∧
      (len.toNat ≤ 64 → (cls.toNat ≤ 1 ∨ (cls = 3 ∧ mtype.toNat ≤ 0xFF)) →
        Replies c h 0x0902 idx s t { status := .badParam, detail := 4 } [] (fun _ => True)) ∧
      (len.toNat ≤ 64 → 1 < cls.toNat → (cls ≠ 3 ∨ 0xFF < mtype.toNat) →
        (32 < len.toNat → bulkOk t bulk len.toNat = false →
          Replies c h 0x0902 idx s t { status := .badParam, detail := 14 } [] (fun _ => True)) ∧
        ((len.toNat ≤ 32 ∨ bulkOk t bulk len.toNat = true) →
          ((unfit t ∨ t.bus.clash = true) → Finishes c h 0x0902 idx s t { status := .wrongState } [] (fun _ => True)) ∧
          (¬ unfit t → t.bus.clash = false →
            (mask ≠ 0 → (∀ b : BusId, inMask mask b = true → isOff t b) → ∃ w, Finishes c h 0x0902 idx s t (okWords [(3, w)]) [.win]
              (fun _ => ∀ b : BusId, inMask mask b = true → w / 16 ^ b.val % 16 = 3)) ∧
            ((∃ b : BusId, inMask mask b = true ∧ ¬ isOff t b) →
              ∃ arg, Pends c h 0x0902 idx s t (pendOf h 0x0902 (.bus mask) t.tim.tb arg) [.bus, .win] (fun u =>
                (len.toNat ≤ 32 → u.win = t.win) ∧ ∀ b : BusId,
                  (inMask mask b = true → ¬ isOff t b → t.bus.one[b].fifo.length < 32 →
                    u.bus.one[b].fifo = t.bus.one[b].fifo ++ [frame]) ∧
                  ((inMask mask b = false ∨ isOff t b) → u.bus.one[b] = t.bus.one[b])))))))

/-- Bus frames and errors (R459 to R476). -/
def Obligations.BusFramesErrorsAndSupply : Prop :=
  ∀ (b : BusId) (s : State),
    (busHears s b = false → (∀ src zone d, Idles (.tripBroadcastRx b src zone d) s) ∧ (∀ src d, Idles (.twinStatusRx b src d) s) ∧
      (∀ f, Idles (.busFrameRx b f) s) ∧ ∀ e, Idles (.busRxError b e) s) ∧
    (busHears s b = true →
      (∀ (src : BitVec 12) (zone : BitVec 13) (d : List Byte),
        let count : Half := BitVec.ofNat 16 (ofLe (slice d 2 2))
        let known : Bool := s.bus.accepted.any (fun a => a.1 == src && a.2.1 == count && decide (s.tim.tb - a.2.2 < tSec))
        src ≠ address s → ∃ u, Becomes (.tripBroadcastRx b src zone d) s u ∧ u.bus.one[b].framesRx = s.bus.one[b].framesRx + 1 ∧
          (known = true → u.qm = s.qm ∧ u.bus.one[b].duplicates = s.bus.one[b].duplicates + 1) ∧
          (known = false → u.bus.one[b].duplicates = s.bus.one[b].duplicates ∧
            (63 < zone.toNat → u.qm = s.qm) ∧
            (zone.toNat ≤ 63 → ∀ g : Group, (pNat s (Prm.busTripRxMap + zone.toNat)).testBit g.val = true → quenched u g = true))) ∧
      (∀ (zone : BitVec 13) (d : List Byte), ∃ u, Becomes (.tripBroadcastRx b (address s) zone d) s u ∧ u.bus.clash = true) ∧
      (∀ (src : BitVec 12) (d : List Byte), ∃ u, Becomes (.twinStatusRx b src d) s u ∧ u.qm.latched = s.qm.latched ∧
        (src ≠ partnerAddr s → u.twn = s.twn ∧ u.bus.one[b].partnerAt = s.bus.one[b].partnerAt) ∧
        (src = partnerAddr s → twinBit s = true → 16 ≤ d.length → isMaster s = true → anyLane s = false →
          ofLe (slice d 0 1) % 8 = 2 → s.twn.epoch.any (fun own => newer32 (BitVec.ofNat 32 (ofLe (slice d 4 4))) own) = true →
          isMaster u = false)) ∧
      (∀ f : BusFrame, (f.extended = false ∨ f.remote = true) → Runs (.busFrameRx b f) s [.bus, .ev, .free, .flt, .cmd] (fun u =>
        u.bus.one[b].discarded = s.bus.one[b].discarded + 1 ∧ u.bus.one[b].framesRx = s.bus.one[b].framesRx + 1)) ∧
      (∀ f : BusFrame, f.extended = true → f.remote = false → Becomes (.busFrameRx b f) s (takeFrame b f s)) ∧
      (s.bus.one[b].mode = 1 → ∀ e, Idles (.busRxError b e) s) ∧
      (s.bus.one[b].mode ≠ 1 → ∀ e, Runs (.busRxError b e) s [.bus, .ev, .flt, .cmd] (fun u =>
        u.bus.one[b].recv = min 255 (s.bus.one[b].recv + 1) ∧ u.bus.one[b].tec = s.bus.one[b].tec))) ∧
    (∀ k : TxKind,
      ((busTalks s b = false ∨ offered s b k = none) → Idles (.busTxComplete b k) s ∧ ∀ e d, Idles (.busTxError b k e d) s) ∧
      (busTalks s b = true → (offered s b k).isSome = true → s.bus.one[b].tec ≤ 255 →
        (∃ u, Becomes (.busTxComplete b k) s u ∧ u.bus.one[b].framesTx = s.bus.one[b].framesTx + 1 ∧
          u.bus.one[b].tec = s.bus.one[b].tec - 1 ∧ u.bus.one[b].alone = false ∧
          u.bus.one[b].class0 = (if k = .trip then s.bus.one[b].class0.tail else s.bus.one[b].class0) ∧
          u.bus.one[b].class1 = (if k = .twin then none else s.bus.one[b].class1) ∧
          u.bus.one[b].fifo = (if k = .oneShot then s.bus.one[b].fifo.tail else s.bus.one[b].fifo) ∧
          (∀ f p, k = .oneShot → s.bus.one[b].fifo.head? = some f → f.tag.isSome = true → p ∈ s.cmd.pend → sendWaits b p = true →
            (∀ c : BusId, c ≠ b → sendWaits c p = false) → ∃ r ∈ u.cmd.held, r.tag = p.tag ∧ r.op = p.op ∧
              r.reply = okWords [(3, (sendOutcome b 0 p.arg).toNat % 128)])) ∧
        (∀ (e : BusErr) (d : Bool), ∃ u, Becomes (.busTxError b k e d) s u ∧ u.bus.one[b].class0 = s.bus.one[b].class0 ∧
          u.bus.one[b].class1 = s.bus.one[b].class1 ∧
          (k = .oneShot → u.bus.one[b].fifo.length < s.bus.one[b].fifo.length) ∧
          (e = .ack → u.bus.one[b].ackErrors = s.bus.one[b].ackErrors + 1 ∧
            (s.bus.one[b].state = .errorPassive → u.bus.one[b].tec = s.bus.one[b].tec)) ∧
          (e ≠ .ack → e ≠ .stuff → u.bus.one[b].tec = s.bus.one[b].tec + 8 ∧
            (247 < s.bus.one[b].tec → u.bus.one[b].state = .busOff ∧ u.bus.one[b].fifo = []))))) ∧
    (s.bus.one[b].fifo = [] → Idles (.oneShotTimeout b) s) ∧
    (∀ f fs, s.bus.one[b].fifo = f :: fs → Runs (.oneShotTimeout b) s [.bus, .cmd] (fun u => u.bus.one[b].fifo = fs ∧
      (f.tag = none → u.cmd = s.cmd) ∧ ∀ c : BusId, c ≠ b → u.bus.one[c] = s.bus.one[c])) ∧
    ((mainUp s = false ∨ s.bus.one[b].state = .noSupply) → Idles (.busSupplyAbsent b) s) ∧
    (mainUp s = true → s.bus.one[b].state ≠ .noSupply → Runs (.busSupplyAbsent b) s [.bus, .ev, .flt] (fun u =>
      u.bus.one[b].state = .noSupply ∧ u.bus.one[b].class0 = s.bus.one[b].class0 ∧ u.bus.one[b].class1 = s.bus.one[b].class1)) ∧
    (s.bus.one[b].state = .noSupply → Runs (.busSupplyRestored b) s [.bus, .ev, .flt] (fun u =>
      u.bus.one[b].state = .errorActive ∧ u.bus.one[b].tec = 0 ∧ u.bus.one[b].recv = 0)) ∧
    (s.bus.one[b].state ≠ .noSupply → Idles (.busSupplyRestored b) s) ∧
    ((twinBit s = false ∨ mainUp s = false ∨ s.pwr.configLoaded = false) → Idles .twinStatusTimer s) ∧
    (twinBit s = true → mainUp s = true → s.pwr.configLoaded = true → Runs .twinStatusTimer s [.bus] (fun u =>
      u.bus.one[b] = if busEnabled s b = true ∧ s.bus.one[b].mode = 0 then { s.bus.one[b] with class1 := some (statusBytes s) }
        else s.bus.one[b])) ∧
    ((pNat s Prm.busStatusInterval = 0 ∨ mainUp s = false ∨ s.pwr.configLoaded = false) → Idles .segmentStatusTimer s) ∧
    (pNat s Prm.busStatusInterval ≠ 0 → mainUp s = true → s.pwr.configLoaded = true → Runs .segmentStatusTimer s [.bus] (fun u =>
      (busSends s b = false → u.bus.one[b] = s.bus.one[b]) ∧
      (busSends s b = true → (s.bus.one[b].fifo.filter (fun q => q.tag.isSome)).length < 32 → ∃ f : OneShot, f.tag = none ∧
        f.data = segmentBytes s ∧ u.bus.one[b].fifo = s.bus.one[b].fifo.filter (fun q => q.tag.isSome) ++ [f])))

/-- Node services and module images (R378 to R381). -/
def Obligations.NodeServicesAndImages : Prop :=
  ∀ (h : Hdr) (s t : State) (idx : Word),
    (∀ (n : Chan) (bulk : Bulk), Admits h 0x0501 8 (.channel n) true s idx t →
      (∀ st, serviceRefused t n true = some st → Replies (.nodeUpdate h n bulk) h 0x0501 idx s t { status := st } [] (fun _ => True)) ∧
      (serviceRefused t n true = none → bulkOk t bulk 4 = false →
        Replies (.nodeUpdate h n bulk) h 0x0501 idx s t { status := .badParam, detail := 4 } [] (fun _ => True)) ∧
      (serviceRefused t n true = none → bulkOk t bulk 4 = true →
        Pends (.nodeUpdate h n bulk) h 0x0501 idx s t (pendOf h 0x0501 (.channel n) t.tim.tb 0) [.win, .img, .txns] (fun u =>
          ∃ v, serviceOf u n = some v ∧ v.update = true ∧ v.image = bulkRead t bulk ∧ v.stage = 0 ∧ v.offset = 0))) ∧
    (∀ (n : Chan) (kind : Byte), Admits h 0x0502 8 (.channel n) true s idx t →
      (∀ st, serviceRefused t n false = some st →
        Replies (.nodeCalibrate h n kind) h 0x0502 idx s t { status := st } [] (fun _ => True)) ∧
      (serviceRefused t n false = none → t.twn.serviceOwner.isSome = true →
        Pends (.nodeCalibrate h n kind) h 0x0502 idx s t (pendOf h 0x0502 (.channel n) t.tim.tb 0) [.img, .twn] (fun u =>
          n ∈ u.twn.serviceWait ∧ u.twn.serviceOwner = t.twn.serviceOwner ∧
          ∃ v, serviceOf u n = some v ∧ v.update = false ∧ v.kind = kind ∧ v.stage = 2)) ∧
      (serviceRefused t n false = none → t.twn.serviceOwner = none →
        Pends (.nodeCalibrate h n kind) h 0x0502 idx s t (pendOf h 0x0502 (.channel n) t.tim.tb 0) [.img, .twn, .con, .txns] (fun u =>
          u.con[n].service = true ∧ u.con[n].state = t.con[n].state ∧ u.twn.serviceOwner = some n ∧
          (∀ m : Chan, m ≠ n → u.con[m] = t.con[m]) ∧
          ∃ v, serviceOf u n = some v ∧ v.update = false ∧ v.kind = kind ∧ (v.stage = 3 ∨ v.stage = 4)))) ∧
    (∀ (n : Chan) (update : Bool),
      (s.con[n].state = .fenced → serviceRefused s n update = some .fenced) ∧
      (s.con[n].state ≠ .fenced → (serviceable s.con[n].state = false ∨ running s n = false ∨ populated s n = false ∨ s.cyc[n].phase ≠ 0) →
        serviceRefused s n update = some .wrongState)) ∧
    (∀ n : Chan,
      ((∀ v, serviceOf s n = some v → v.stage ≠ 2) → Idles (.serviceHoldWaitTimeout n) s) ∧
      (∀ v, serviceOf s n = some v → v.stage = 2 → s.twn.serviceOwner.isSome = true → s.twn.serviceOwner ≠ some n →
        Runs (.serviceHoldWaitTimeout n) s [.img, .twn, .con, .cmd] (fun u => serviceOf u n = none ∧ n ∉ u.twn.serviceWait ∧
          u.twn.serviceOwner = s.twn.serviceOwner ∧ ∀ p, pendChan s n = some p →
            ∃ r ∈ u.cmd.held, r.tag = p.tag ∧ r.op = p.op ∧ r.reply = { status := .timeout }))) ∧
    (∀ (offset : Word) (bulk : Bulk) (last : Bool), Admits h 0x0A02 16 .none true s idx t →
      let c : Instr := .imageUpdate h offset bulk last
      let other := otherBank t.pwr.bank
      let free : Prop := t.pwr.warn = false ∧ t.img.chunk = none ∧ t.img.following = false
      (¬ free → Replies c h 0x0A02 idx s t { status := .busy } [] (fun _ => True)) ∧
      (free → blockFenced t 0x0103 0xFFFF = true → Replies c h 0x0A02 idx s t { status := .fenced } [] (fun _ => True)) ∧
      (free → blockFenced t 0x0103 0xFFFF = false →
        (bulkOk t bulk 4 = false → Replies c h 0x0A02 idx s t { status := .badParam, detail := 4 } [] (fun _ => True)) ∧
        (bulkOk t bulk 4 = true →
          (∀ r, chunkRefused t offset.toNat (bulkRead t bulk) = some r → r.status = .outOfRange ∧
            Replies c h 0x0A02 idx s t r [.win] (fun _ => True)) ∧
          (chunkRefused t offset.toNat (bulkRead t bulk) = none →
            Pends c h 0x0A02 idx s t (pendOf h 0x0A02 .none t.tim.tb 0) [.win, .img] (fun u =>
              u.img.chunk = some { bank := other, offset := offset.toNat, data := bulkRead t bulk, last := last } ∧
              bankOf u t.pwr.bank = bankOf t t.pwr.bank ∧
              (offset = 0 → (bankOf u other).valid = false ∧ (bankOf u other).bytes = []) ∧
              (offset ≠ 0 → bankOf u other = bankOf t other)))))) ∧
    (s.img.chunk = none → Idles .imageChunkWritten s) ∧
    (∀ c, s.img.chunk = some c → Runs .imageChunkWritten s [.img, .cmd] (fun u => u.img.chunk = none ∧
      (bankOf u c.bank).bytes = (bankOf s c.bank).bytes ++ c.data ∧ bankOf u (otherBank c.bank) = bankOf s (otherBank c.bank) ∧
      (bankOf u c.bank).valid = (c.last && (verifyImage ((bankOf s c.bank).bytes ++ c.data)).isSome) ∧
      (s.img.following = true → u.cmd = s.cmd) ∧
      (s.img.following = false → ∀ p ∈ s.cmd.pend, p.op = 0x0A02 → ∃ r ∈ u.cmd.held, r.tag = p.tag ∧ r.op = p.op ∧
        r.reply = { status := if c.last = true ∧ (verifyImage ((bankOf s c.bank).bytes ++ c.data)).isNone = true then .authFail else .ok }))) ∧
    (∀ bank : Bank, Admits h 0x0A03 4 .none true s idx t →
      let c : Instr := .imageActivate h bank
      let quiet : Prop := t.twn.open_ = none ∧ t.pwr.restart = none
      (¬ quiet → Replies c h 0x0A03 idx s t { status := .busy } [] (fun _ => True)) ∧
      (quiet → ((bankOf t bank).valid = false ∨ (paired t = true ∧ (mayOffer t = false ∨ bankPairs t bank = false)) ∨
          (paired t = false ∧ activeChans t ≠ [])) → Replies c h 0x0A03 idx s t { status := .wrongState } [] (fun _ => True)) ∧
      (quiet → (bankOf t bank).valid = true → paired t = true → mayOffer t = true → bankPairs t bank = true →
        Pends c h 0x0A03 idx s t (pendOf h 0x0A03 .none t.tim.tb 0) [.twn] (fun u => u.twn.open_ = some (.activate bank))) ∧
      (quiet → (bankOf t bank).valid = true → paired t = false → activeChans t = [] →
        Finishes c h 0x0A03 idx s t { status := .ok } [.pwr] (fun u =>
          u.pwr.prefBank = bank ∧ u.pwr.attempts = 0 ∧ u.pwr.restart = some (.activate bank))))

/-- The fault handler (R482 to R491). -/
def Obligations.FaultHandlerOpensActsAndEnds : Prop :=
  ∀ s : State,
    let held : Prop := s.pwr.clockHeld = true ∨ s.pwr.thermalHeld = true ∨ s.pwr.supplyHeld = true
    let listed : List (Half × Nat) := [(0x0101, 3), (0x0102, 2), (0x0103, 2), (0x0402, 3), (0x0403, 2), (0x0601, 2), (0x07FF, 2)]
    (held → ∀ c x, Idles (.internalFaultDetected c x) s) ∧
    (∀ c x : Half, c ∉ listed.map (·.1) → c ≠ 0x0104 → c ≠ 0x0401 → Idles (.internalFaultDetected c x) s) ∧
    (∀ x : Half, 2 ≤ x.toNat → Idles (.internalFaultDetected 0x0104 x) s ∧ Idles (.internalFaultDetected 0x0401 x) s) ∧
    (¬ held → ∀ c x : Half, ∀ level subject : Nat,
        ((c, level) ∈ listed ∧ subject = 0xFFFF ∨ c = 0x0104 ∧ level = 2 ∧ subject = x.toNat ∧ subject < 2) →
      (∀ r, findFault s c.toNat subject = some r → Runs (.internalFaultDetected c x) s [.flt] (fun u =>
        u.flt.recs = s.flt.recs.map (fun q => if q.id == r.id then
          { q with count := if q.count = 0xFFFF then q.count else q.count + 1, last := s.tim.station, seenAt := s.tim.tb } else q) ∧
        u.flt.current = s.flt.current ∧ u.flt.queue = s.flt.queue ∧ u.flt.coalesced = s.flt.coalesced + 1)) ∧
      (findFault s c.toNat subject = none → stormCase s level = false → Runs (.internalFaultDetected c x) s [.flt, .ev] (fun u =>
        (∃ r ∈ u.flt.recs, r.id = s.ev.seq ∧ r.cause = c ∧ r.subject.toNat = subject ∧ r.level = level ∧ r.count = 1 ∧ r.acked = false) ∧
        u.flt.raised = s.flt.raised + 1 ∧
        (∃ e ∈ u.ev.held, e.seq = s.ev.seq ∧ e.code = 0x8B01 ∧ e.level.toNat = level ∧ e.subject.toNat = subject) ∧
        (s.flt.current = none → u.flt.current = some s.ev.seq ∧ u.flt.queue = s.flt.queue) ∧
        (∀ cur, s.flt.current = some cur → levelOf s cur < level →
          u.flt.current = some s.ev.seq ∧ u.flt.queue = cur :: s.flt.queue ∧ u.flt.preemptions = s.flt.preemptions + 1) ∧
        (∀ cur, s.flt.current = some cur → level ≤ levelOf s cur →
          u.flt.current = some cur ∧ s.ev.seq ∈ u.flt.queue ∧ u.flt.queue.length = s.flt.queue.length + 1)))) ∧
    (¬ held → ∀ x : Half, x.toNat < 2 → (∃ q ∈ s.asy.lockstep, q.1 ≠ x.toNat ∧ (s.tim.station - q.2).toNat ≤ tSec) →
      Runs (.internalFaultDetected 0x0401 x) s [.flt, .ev, .asy] (fun u =>
        ∃ r ∈ u.flt.recs, faultPresent r = true ∧ (r.cause = 0x0402 ∨ r.cause = 0x0B01))) ∧
    (s.flt.current.bind (faultById s) = none → Idles .faultActionStep s) ∧
    (∀ r, s.flt.current.bind (faultById s) = some r →
      (l3Waits r s = true → Idles .faultActionStep s) ∧
      (r.level = 2 → r.steps = 0 → fences r.cause.toNat = false → retires r.cause.toNat = false → r.cause ≠ 0x0301 →
        ∃ u, Becomes .faultActionStep s u ∧ blockFenced u r.cause.toNat r.subject.toNat = true ∧ u.flt.current = s.flt.queue.head? ∧
          u.flt.queue = s.flt.queue.tail ∧ u.pwr.mod = s.pwr.mod) ∧
      (r.level = 3 → r.steps = 0 → l3Waits r s = false → fences r.cause.toNat = false → retires r.cause.toNat = false →
        (isMaster s = false → ∃ u, Becomes .faultActionStep s u ∧ u.pwr.mod = s.pwr.mod ∧ u.qm = s.qm ∧ u.twn = s.twn) ∧
        (isMaster s = true → s.pwr.mod ≠ .safe → r.cause ≠ 0x0302 → s.twn.open_ = none → mayOffer s = true →
          ∃ u, Becomes .faultActionStep s u ∧ u.twn.open_ = some .fault ∧ u.pwr.mod = s.pwr.mod ∧ u.qm = s.qm) ∧
        (isMaster s = true → s.pwr.mod ≠ .safe → (r.cause = 0x0302 ∨ (s.twn.open_ = none ∧ mayOffer s = false)) →
          ∃ u, Becomes .faultActionStep s u ∧ u.pwr.mod = .safe ∧ ∀ g : Group, quenched u g = true))) ∧
    (∀ c x : Half,
      (findFault s c.toNat x.toNat = none → ∀ ok, Idles (.l2BlockRestart c x ok) s) ∧
      (∀ r, findFault s c.toNat x.toNat = some r →
        ((r.level ≠ 2 ∨ r.permanent = true) → ∀ ok, Idles (.l2BlockRestart c x ok) s) ∧
        (r.level = 2 → r.permanent = false →
          (∃ u, Becomes (.l2BlockRestart c x true) s u ∧ blockFenced u c.toNat x.toNat = false ∧
            (c ≠ 0x07FF → (s.flt.current = some r.id → r.id ∉ s.flt.queue) →
              ∀ q ∈ u.flt.recs, q.id = r.id → faultPresent q = false)) ∧
          Runs (.l2BlockRestart c x false) s [.flt] (fun u => u.flt.coalesced = s.flt.coalesced + 1 ∧
            u.flt.fencedBlocks = s.flt.fencedBlocks))))

/-- FAULT_ACK (R492). -/
def Obligations.FaultAckClosesEndedFaults : Prop :=
  ∀ (h : Hdr) (s t : State) (idx : Word),
    (t.pwr.mod = .ready → refusal 0x0B02 t = none) ∧
    (∀ id : Word, Admits h 0x0B02 4 .none false s idx t →
      let c : Instr := .faultAck h id
      (id ≠ 0xFFFFFFFF → faultById t id = none → Replies c h 0x0B02 idx s t { status := .wrongState } [] (fun _ => True)) ∧
      (∀ r, id ≠ 0xFFFFFFFF → faultById t id = some r →
        (r.state = .ended → Replies c h 0x0B02 idx s t (okWords [(4, 1)]) [.flt, .ev] (fun u =>
          faultById u r.id = none ∧ (t.flt.current ≠ some r.id → ∀ q ∈ t.flt.recs, q.id ≠ r.id → q ∈ u.flt.recs))) ∧
        (r.state ≠ .ended → Replies c h 0x0B02 idx s t (okWords [(4, 0)]) [.flt] (fun u =>
          u.flt.recs = t.flt.recs.map (fun q => if q.id == id then { q with acked := true } else q) ∧
          u.flt.current = t.flt.current ∧ u.flt.queue = t.flt.queue))) ∧
      (id = 0xFFFFFFFF → Replies c h 0x0B02 idx s t (okWords [(4, (t.flt.recs.filter (fun r => r.state == .ended)).length)]) [.flt, .ev]
        (fun u => ∀ q ∈ u.flt.recs, q.state ≠ .ended)))

/-- LOG_READ and the test access port (R493 to R497, R507). -/
def Obligations.LogReadAndTestPort : Prop :=
  ∀ (h : Hdr) (s t : State) (idx : Word),
    (∀ (first count w5 : Word) (bulk : Bulk), Admits h 0x0B01 20 .none true s idx t →
      let c : Instr := .logRead h first count w5 bulk
      let pinned := w5.getLsbD 0
      let entries := ((if pinned then t.ev.pinned else t.ev.log).drop (if pinned then first.toNat else logStart t first)).take count.toNat
      ((count.toNat < 1 ∨ 4096 < count.toNat) →
        Replies c h 0x0B01 idx s t { status := .outOfRange, detail := 4 } [] (fun _ => True)) ∧
      (1 ≤ count.toNat → count.toNat ≤ 4096 →
        (pinned = true → 1024 ≤ first.toNat →
          Replies c h 0x0B01 idx s t { status := .outOfRange, detail := 3 } [] (fun _ => True)) ∧
        ((pinned = false ∨ first.toNat < 1024) →
          (bulkOk t bulk (32 * count.toNat) = false →
            Replies c h 0x0B01 idx s t { status := .badParam, detail := 6 } [] (fun _ => True)) ∧
          (bulkOk t bulk (32 * count.toNat) = true → WindowForm t →
            Finishes c h 0x0B01 idx s t (okWords [(3, entries.length),
                (4, if pinned then first.toNat else (entries.head?.map (fun e => e.seq.toNat)).getD first.toNat), (5, (lastSeq t).toNat)])
              [.win, .ev] (fun u =>
                memRead u.win (bulk.offset.toNat + 16) (entries.flatMap logEntry).length = entries.flatMap logEntry ∧
                memNum u.win bulk.offset.toNat 4 = (entries.flatMap logEntry).length ∧
                ((pinned = false ∨ w5.getLsbD 1 = false ∨ first ≠ 0) → u.ev = t.ev) ∧
                (pinned = true → w5.getLsbD 1 = true → first = 0 → u.ev.pinned = t.ev.pinned.drop entries.length)))))) ∧
    (∀ (ir : TapInstr) (mrst : Bool), Runs (.tapInstruction ir mrst) s [.pwr] (fun u =>
      u.pwr = { s.pwr with tap := if ir = .bypass ∨ ir = .idcode ∨ ir = .sample ∨ mrst = true then ir else .bypass }))

/-- The seam link, takeover and hand-over (R353 to R360, R370, R374 to R376). -/
def Obligations.LanesHeartbeatsAndTakeover : Prop :=
  ∀ (l : SeamLane) (s : State),
    let other : SeamLane := if l = 0 then 1 else 0
    let tookArm (u : State) : Prop := u.twn.role = .active ∧ ∃ e, u.twn.epoch = some e ∧ e.getLsbD 0 = oddAddr s ∧
      ∀ seen, newestEpoch s = some seen → newer32 e seen = true
    ((mainUp s = false ∨ twinBit s = false) → Idles (.seamLaneDown l) s ∧ Idles .heartbeatTx s ∧ ∀ h x, Idles (.heartbeatRx l h x) s) ∧
    (mainUp s = true → twinBit s = true →
      (s.twn.lanes[other].up = true → Runs (.seamLaneDown l) s [.twn, .ev] (fun u => u.twn.lanes[l].up = false ∧
        u.twn.lanes[other].up = true ∧ u.twn.role = s.twn.role ∧ u.twn.lost = s.twn.lost ∧ u.twn.unacked = s.twn.unacked)) ∧
      (s.twn.lanes[other].up = false → s.twn.lost = false →
        (s.twn.role = .standby → s.pwr.mod = .ready → s.twn.hadLane = true → s.twn.mismatch = none →
          ∃ u, Becomes (.seamLaneDown l) s u ∧ u.twn.lost = true ∧ tookArm u) ∧
        ((s.twn.role ≠ .standby ∨ s.pwr.mod ≠ .ready ∨ s.twn.hadLane = false ∨ s.twn.mismatch.isSome = true) →
          ∃ u, Becomes (.seamLaneDown l) s u ∧ u.twn.lost = true ∧ u.twn.role = s.twn.role ∧ u.twn.epoch = s.twn.epoch)) ∧
      (∃ u, Becomes .heartbeatTx s u ∧ u.twn.count = s.twn.count + 1 ∧
        (isMaster s = true → anyLane s = true → s.twn.dirty ≠ 0 → s.twn.mismatch = none → s.twn.unacked.length < 256 →
          u.twn.dirty = 0 ∧ u.twn.unacked = s.twn.unacked ++ [(s.twn.rcntTx + 1, .stateMirror s.twn.dirty)]) ∧
        ((isMaster s = false ∨ s.twn.dirty = 0) → u.twn.dirty = s.twn.dirty ∧ u.twn.unacked = s.twn.unacked)) ∧
      (∀ (h : SeamHdr) (x : Heartbeat), (s.twn.lanes[l].fenced = true → (laneBad s l).length ≤ 100) →
        (s.twn.mismatch.isSome = true → ∃ u, Becomes (.heartbeatRx l h x) s u ∧ u.twn.partner = s.twn.partner ∧
          u.twn.role = s.twn.role) ∧
        (s.twn.mismatch = none → (x.address ≠ address s ^^^ 1 ∨ x.twin = false) → ∃ u, Becomes (.heartbeatRx l h x) s u ∧
          u.twn.mismatch.isSome = true ∧ u.twn.partner = s.twn.partner) ∧
        (s.twn.mismatch = none → x.address = address s ^^^ 1 → x.twin = true →
          (s.twn.lost = false → s.twn.partner.any (fun p => !newer32 x.count p.count) = true →
            ∃ u, Becomes (.heartbeatRx l h x) s u ∧ u.twn.partner = s.twn.partner ∧ u.twn.role = s.twn.role) ∧
          ((s.twn.lost = true ∨ s.twn.partner.any (fun p => !newer32 x.count p.count) = false) →
            (∃ u, Becomes (.heartbeatRx l h x) s u ∧ u.twn.partner = some x ∧ u.twn.lost = false ∧
              (99 ≤ s.twn.lanes[l].good → u.twn.lanes[l].up = true)) ∧
            (s.twn.role = .standby → s.pwr.mod = .ready → s.twn.open_ = none → x.role = 2 → x.handoverAt ≠ 0 →
              newer32 x.handoverEpoch x.epoch = true → ∃ u, Becomes (.heartbeatRx l h x) s u ∧ u.twn.role = .active ∧
                u.twn.epoch = some x.handoverEpoch))))) ∧
    (∀ g : Bool, (mainUp s = true → Runs (.seamLaneLock l g) s [.twn] (fun u =>
        u.twn = { s.twn with lanes := vmod s.twn.lanes l (fun x => { x with lock := g }) })) ∧
      (mainUp s = false → Idles (.seamLaneLock l g) s)) ∧
    (mainUp s = false → Idles (.seamFrameInvalid l) s) ∧
    (mainUp s = true → (laneBad s l).length < 100 → Runs (.seamFrameInvalid l) s [.twn] (fun u =>
      u.twn.seamBad = s.twn.seamBad + 1 ∧ u.twn.lanes[l].good = 0 ∧ u.twn.lanes[l].up = s.twn.lanes[l].up ∧ u.twn.role = s.twn.role)) ∧
    (mainUp s = true → 100 ≤ (laneBad s l).length → s.twn.lanes[l].fenced = false →
      ∃ u, Becomes (.seamFrameInvalid l) s u ∧ u.twn.lanes[l].fenced = true ∧ u.twn.lanes[l].up = false) ∧
    (mainUp s = true → s.pwr.imageRuns = true → s.qm.fwHalt = false →
      Runs .fwCountTick s [.twn] (fun u => u.twn = { s.twn with fwCount := s.twn.fwCount + 1 })) ∧
    ((mainUp s = false ∨ s.pwr.imageRuns = false ∨ s.qm.fwHalt = true) → Idles .fwCountTick s) ∧
    (mayTake s = true → paired s = true → anyLane s = true → ∃ u, Becomes .fwSilence s u ∧ tookArm u) ∧
    ((mayTake s = false ∨ paired s = false ∨ anyLane s = false) → Idles .fwSilence s) ∧
    (mayTake s = true → anyLane s = false → s.twn.hadLane = false → otherGone s = true → ∃ u, Becomes .nodeWitness s u ∧ tookArm u) ∧
    ((mayTake s = false ∨ anyLane s = true ∨ s.twn.hadLane = true ∨ otherGone s = false) → Idles .nodeWitness s) ∧
    (∀ (h : Hdr) (idx : Word) (t : State), Admits h 0x0A01 0 .none true s idx t →
      let c : Instr := .twinHandover h
      ((t.twn.open_.isSome = true ∨ t.twn.askPartner = true) → Replies c h 0x0A01 idx s t { status := .busy } [] (fun _ => True)) ∧
      (t.twn.open_ = none → t.twn.askPartner = false →
        (isMaster t = true → mayOffer t = true → Pends c h 0x0A01 idx s t (pendOf h 0x0A01 .none t.tim.tb 0) [.twn]
          (fun u => u.twn = { t.twn with open_ := some .command })) ∧
        (isMaster t = false → paired t = true → standbyReady t = true → horizonOk t = true →
          Pends c h 0x0A01 idx s t (pendOf h 0x0A01 .none t.tim.tb 0) [.twn] (fun u => u.twn = { t.twn with askPartner := true })) ∧
        ((isMaster t = true ∧ mayOffer t = false) ∨ (isMaster t = false ∧ (paired t = false ∨ standbyReady t = false ∨ horizonOk t = false)) →
          Replies c h 0x0A01 idx s t { status := .wrongState } [] (fun _ => True)))) ∧
    ((s.twn.open_ = none ∨ s.twn.offer = none) → s.twn.askPartner = false → Idles .handoverWithdraw s) ∧
    ((s.twn.open_ = none ∨ s.twn.offer = none) → s.twn.askPartner = true → Runs .handoverWithdraw s [.twn, .cmd] (fun u =>
      u.twn = { s.twn with askPartner := false } ∧ ∀ p ∈ s.cmd.pend, p.op = 0x0A01 → ∃ r ∈ u.cmd.held, r.tag = p.tag ∧ r.op = p.op ∧
        r.reply = { status := .wrongState })) ∧
    (∀ a o, s.twn.open_ = some a → s.twn.offer = some o → (isMaster s = false ∨ s.pwr.mod ≠ .ready) →
      ∃ u, Becomes .handoverWithdraw s u ∧ u.twn.open_ = none ∧ u.twn.offer = none ∧ u.pwr.prefBank = s.pwr.prefBank ∧
        (a = .command → ∀ p ∈ s.cmd.pend, p.op = 0x0A01 → ∃ r ∈ u.cmd.held, r.tag = p.tag ∧ r.reply = { status := .wrongState }) ∧
        (∀ k, a = .activate k → ∀ p ∈ s.cmd.pend, p.op = 0x0A03 → ∃ r ∈ u.cmd.held, r.tag = p.tag ∧ r.reply = { status := .wrongState })) ∧
    (∀ a o, s.twn.open_ = some a → s.twn.offer = some o → isMaster s = true → s.pwr.mod = .ready →
      ∃ u, exec .handoverWithdraw s = .next (settle u) ∧ u.twn.open_ = none ∧ u.twn.offer = none ∧ isMaster u = true) ∧
    ((mainUp s = false ∨ anyLane s = false ∨ s.twn.mismatch.isSome = true) → Idles .seamRetxTimeout s) ∧
    (mainUp s = true → anyLane s = true → s.twn.mismatch = none → Runs .seamRetxTimeout s [.twn] (fun u =>
      u.twn.unacked = s.twn.unacked ∧ u.twn.rcntTx = s.twn.rcntTx ∧
      u.twn.lanes[reliableLane s].seqTx = s.twn.lanes[reliableLane s].seqTx + BitVec.ofNat 16 s.twn.unacked.length))

/-- Mirroring at the standby (R354, R361 to R368). -/
def Obligations.WhatAStandbyTakesFromItsPartner : Prop :=
  ∀ (h : SeamHdr) (s : State),
    let series (c : Instr) : Prop := (∃ tag books, c = .stateMirrorRx h tag books) ∨ (∃ x, c = .reconcileRx h x) ∨
      (∃ q es ok, c = .configRx h q es ok) ∨ (∃ v bytes, c = .imageRx h v bytes)
    (seamOpen s = false → (∀ x, Idles (.setMirrorRx h x) s) ∧ ∀ c, series c → Idles c s) ∧
    (seamOpen s = true →
      (∀ c, series c →
        (h.rcnt = s.twn.rcntRx + 1 → s.twn.role ≠ .standby → Runs c s [.twn] (fun u => u.twn.rcntRx = h.rcnt ∧
          u.twn.role = s.twn.role)) ∧
        (h.rcnt ≠ s.twn.rcntRx + 1 → Runs c s [.twn] (fun u => u.twn.rcntRx = s.twn.rcntRx ∧ u.twn.role = s.twn.role ∧
          (newer16 h.rcnt s.twn.rcntRx = true → u.twn.resend = true)))) ∧
      (∀ x : SetMirror,
        ((s.twn.role ≠ .standby ∨ s.twn.mirror.any (fun m => !newer32 x.gen m.gen) = true) →
          Runs (.setMirrorRx h x) s [.twn] (fun u => u.twn.mirror = s.twn.mirror ∧ u.twn.role = s.twn.role)) ∧
        (s.twn.role = .standby → s.twn.mirror.any (fun m => !newer32 x.gen m.gen) = false →
          ∃ u, Becomes (.setMirrorRx h x) s u ∧ u.twn.mirror = some x ∧ u.twn.mirrored = true ∧ u.twn.role = .standby ∧
            u.txns = s.txns ∧ (x.restage = true → u.ins.direct = x.direct ∧ u.ins.concentrated = x.concentrated ∧ u.ins.rotate = x.rotate))) ∧
      (s.twn.role = .standby → h.rcnt = s.twn.rcntRx + 1 →
        (∀ (tag : DWord) (b : ChanBook), Runs (.stateMirrorRx h tag [b]) s [.twn, .con, .asyCh, .meas, .store] (fun u =>
          u.con[b.channel].state = (ChState.ofCode b.state.toNat).getD s.con[b.channel].state ∧
          u.con[b.channel].protective = b.protective ∧ u.con[b.channel].hostHold = b.host ∧ u.con[b.channel].present = b.present ∧
          u.con[b.channel].fenceK = b.fenceK.toNat ∧ (b.fenceCause ≠ 0xFF → u.con[b.channel].fenceCause = b.fenceCause) ∧
          (b.inSequence = false → u.con[b.channel].seq = none) ∧ u.con[b.channel].retiredRec = decide (b.state.toNat = 7) ∧
          ∀ m : Chan, m ≠ b.channel → u.con[m] = s.con[m] ∧ u.meas[m] = s.meas[m] ∧ u.asyCh[m] = s.asyCh[m])) ∧
        (∀ (x : Reconcile) (g : GroupRecon), x.groups = [g] → x.learned = [] → x.imps = [] →
          tabWfFrom ({} : GrpSt) 0 s.asyCh[(Fin.ofNat 64 (g.index.toNat / 256) : Chan)].grps = true →
          let dz := max 0 (deltaZ s g)
          ∃ u, Becomes (.reconcileRx h x) s u ∧ u.twn.reconciles = s.twn.reconciles + 1 ∧ u.twn.reconciledAt = some s.tim.tb ∧
            (grpAt u (Fin.ofNat 64 (g.index.toNat / 256)) (g.index.toNat % 256)).z = (g.z.toInt : Rat) / 1000000000 ∧
            ((pNat s Prm.twnReconTol : Rat) < dz → u.twn.within = 0 ∧ u.twn.overRun = s.twn.overRun + 1 ∧
              (9 ≤ s.twn.overRun → u.twn.diverged = true)) ∧
            (dz ≤ (pNat s Prm.twnReconTol : Rat) → u.twn.overRun = 0 ∧ u.twn.within = s.twn.within + 1 ∧
              (9 ≤ s.twn.within → u.twn.diverged = false))) ∧
        (∀ (q : Word) (es : List ConfigEntry) (ok : Bool),
          (ok = false → Runs (.configRx h q es ok) s [.twn] (fun u => u.twn.rcntRx = h.rcnt)) ∧
          (ok = true → Runs (.configRx h q es ok) s [.twn, .cfg, .store] (fun u => .config ∈ u.store.queue ∧
            u.cfg.eff = s.cfg.eff ∧ u.cfg.seq = s.cfg.seq ∧ ∃ r, u.cfg.next = some r ∧ r.seq = q ∧ r.values = listedValues es))) ∧
        (∀ (v : Word) (bytes : List Byte),
          let k := otherBank s.pwr.bank
          let wanted : Prop := pBool s Prm.twnImageFollow = true ∧ ((bankOf s k).valid = false ∨ (bankOf s k).version ≠ v) ∧
            s.img.chunk = none ∧ s.pwr.warn = false ∧ blockFenced s 0x0103 0xFFFF = false
          (¬ wanted → Runs (.imageRx h v bytes) s [.twn] (fun u => u.twn.rcntRx = h.rcnt)) ∧
          (wanted → Runs (.imageRx h v bytes) s [.twn, .img] (fun u => u.img.following = true ∧
            u.img.chunk = some { bank := k, offset := 0, data := bytes, last := true } ∧ (bankOf u k).valid = false ∧ (bankOf u k).bytes = [] ∧
            bankOf u s.pwr.bank = bankOf s s.pwr.bank))))) ∧
    ((mainUp s = false ∨ s.twn.role ≠ .standby ∨ s.twn.mirrored = true ∨ tctl s = 0) → Idles .mirrorMiss s) ∧
    (mainUp s = true → s.twn.role = .standby → s.twn.mirrored = false → tctl s ≠ 0 →
      ∃ u, Becomes .mirrorMiss s u ∧ u.twn.mirrored = true ∧ u.twn.mirrorMiss = s.twn.mirrorMiss + 1 ∧ u.twn.role = .standby ∧
        u.txns = s.txns)

/-- The quench latch holds through every other row (R244, R245, R252). -/
def Obligations.QuenchedGroupsStayQuenched : Prop :=
  ∀ (c : Instr) (rest : List Instr) (s t : State) (g : Group), s.pending = c :: rest → step s = .next t →
    (∀ h m, c ≠ .quenchRelease h m) → resetRow c = false → ((∀ l h x, c ≠ .heartbeatRx l h x) ∨ isMaster s = true) →
    quenched s g = true → quenched t g = true

/-- The safety request (R453) is kept by every step. -/
def Obligations.SafetyRequestFollowsTheFunctions : Prop :=
  let inv (s : State) : Prop := s.saf.running = true →
    (s.qm.safety = true ↔ (∃ k : SafetyPair, eStop s k = true ∧ s.saf.pair[k].state ≠ .permit) ∨ locked s = true)
  (∀ s t : State, inv s → step s = .next t → inv t) ∧
  (∀ (s : State) (g : Group), (callsFor s g).safety = true ↔ s.qm.safety = true ∧ (pNat s Prm.insSafMap).testBit g.val = true)

/-- The invariant of the safety request at reset. -/
def Obligations.SafetyRequestHoldsAtReset : Prop :=
  State.reset.saf.running = true → (State.reset.qm.safety = true ↔
    (∃ k : SafetyPair, eStop State.reset k = true ∧ State.reset.saf.pair[k].state ≠ .permit) ∨ locked State.reset = true)

/-- The main domain has no write access to the supervisor (R19, R427). -/
def Obligations.OnlyTheSupervisorMovesItsFunctions : Prop :=
  ∀ (c : Instr) (s t : State), supervisorRow c = false → exec c s = .next t →
    t.saf.pair = s.saf.pair ∧ t.saf.si = s.saf.si ∧ t.saf.so = s.saf.so ∧ t.saf.running = s.saf.running ∧
    t.saf.degraded = s.saf.degraded ∧ (∀ b : Fin 5, 2 ≤ b.val → t.saf.latched[b] = s.saf.latched[b]) ∧
    ∀ o : SafetyOut, soOn t o = soOn s o

/-- Load outputs and configuration change only by their rows (R404, R86, R87, R365). -/
def Obligations.OutputsAndConfigurationKeepToTheirRows : Prop :=
  ∀ (c : Instr) (s t : State), exec c s = .next t → resetRow c = false →
    (loadOutputRow c = false → t.lo = s.lo) ∧ (configRow c = false → t.cfg = s.cfg)

/-- The active port (R53). -/
def Obligations.ActivePortChangesOnlyWhenAsked : Prop :=
  ∀ (c : Instr) (s t : State), exec c s = .next t →
    (resetRow c = true → t.hst.active = s.hst.active ∧ t.hst.change = s.hst.change ∨ t.hst.active = .a ∧ t.hst.change = none) ∧
    (resetRow c = false → c ≠ .activePortChange → t.hst.active = s.hst.active) ∧
    (c = .activePortChange → t.hst.active ≠ s.hst.active → ∃ k, s.hst.change = some k ∧ t.hst.active = k.port) ∧
    (∀ k, t.hst.change = some k → s.hst.change ≠ some k →
      switchRow c = true ∧ k.port ≠ s.hst.active ∧
      ∀ p, ((∃ v, c = .hstTakeoverWrite p v) ∨ (∃ bar off n v, c = .registerWrite p bar off n v)) → p = k.port)

/-- The reset state as the spec gives it (R39 and the chapters' own rules). -/
def Obligations.ResetStateOfTheModule : Prop :=
  let s := State.reset
  s.pwr.mod = .booting ∧ s.tim.station = 0 ∧ s.tim.lock = .unset ∧ s.hst.active = .a ∧ s.cfg.staged = [] ∧
  s.cmd.taken = [] ∧ s.cmd.pend = [] ∧ s.cmd.held = [] ∧ s.qm.latched = 0 ∧ s.flt.recs = [] ∧ s.ev.log = [] ∧ s.ev.seq = 0 ∧
  s.pending = [] ∧ s.twn.role = .starting ∧
  (∀ r : Ring, s.rings[r].enable = false ∧ s.rings[r].hpi = 0 ∧ s.rings[r].mpi = 0) ∧
  (∀ n : Chan, s.con[n].state ≠ .active ∧ s.con[n].seq = none ∧ running s n = false) ∧
  ∀ o : LoadOut, s.lo.out[o].state = .off ∧ s.lo.out[o].cmd = false

end Slice0Obligations
end

