-- ==== Sys2Proof/Laws/State.lean ====
section
/-! SUPPORT. One lemma per field of the state and update of one entry: what the update writes, and every field it leaves. -/

namespace Sys2Proof.Machine

variable (s : State)

theorem vmod_get {α : Type} {n : Nat} (v : Vector α n) (i : Fin n) (f : α → α) : (vmod v i f)[i] = f v[i] := by simp [vmod]

theorem vmod_get_ne {α : Type} {n : Nat} (v : Vector α n) (i j : Fin n) (f : α → α) (h : j ≠ i) : (vmod v i f)[j] = v[j] := by
  have : i.val ≠ j.val := fun e => h (Fin.ext e.symm)
  simp [vmod, this]

@[simp] theorem modPort_tim (p : Chan) (f : PortSt → PortSt) : (modPort p f s).tim = s.tim := rfl
@[simp] theorem modPort_pwr (p : Chan) (f : PortSt → PortSt) : (modPort p f s).pwr = s.pwr := rfl
@[simp] theorem modPort_hst (p : Chan) (f : PortSt → PortSt) : (modPort p f s).hst = s.hst := rfl
@[simp] theorem modPort_rings (p : Chan) (f : PortSt → PortSt) : (modPort p f s).rings = s.rings := rfl
@[simp] theorem modPort_win (p : Chan) (f : PortSt → PortSt) : (modPort p f s).win = s.win := rfl
@[simp] theorem modPort_cmd (p : Chan) (f : PortSt → PortSt) : (modPort p f s).cmd = s.cmd := rfl
@[simp] theorem modPort_ev (p : Chan) (f : PortSt → PortSt) : (modPort p f s).ev = s.ev := rfl
@[simp] theorem modPort_cfg (p : Chan) (f : PortSt → PortSt) : (modPort p f s).cfg = s.cfg := rfl
@[simp] theorem modPort_ports (p : Chan) (f : PortSt → PortSt) : (modPort p f s).ports = vmod s.ports p f := rfl
@[simp] theorem modPort_txns (p : Chan) (f : PortSt → PortSt) : (modPort p f s).txns = s.txns := rfl
@[simp] theorem modPort_meas (p : Chan) (f : PortSt → PortSt) : (modPort p f s).meas = s.meas := rfl
@[simp] theorem modPort_insCh (p : Chan) (f : PortSt → PortSt) : (modPort p f s).insCh = s.insCh := rfl
@[simp] theorem modPort_ins (p : Chan) (f : PortSt → PortSt) : (modPort p f s).ins = s.ins := rfl
@[simp] theorem modPort_stg (p : Chan) (f : PortSt → PortSt) : (modPort p f s).stg = s.stg := rfl
@[simp] theorem modPort_qm (p : Chan) (f : PortSt → PortSt) : (modPort p f s).qm = s.qm := rfl
@[simp] theorem modPort_asyCh (p : Chan) (f : PortSt → PortSt) : (modPort p f s).asyCh = s.asyCh := rfl
@[simp] theorem modPort_cyc (p : Chan) (f : PortSt → PortSt) : (modPort p f s).cyc = s.cyc := rfl
@[simp] theorem modPort_asy (p : Chan) (f : PortSt → PortSt) : (modPort p f s).asy = s.asy := rfl
@[simp] theorem modPort_store (p : Chan) (f : PortSt → PortSt) : (modPort p f s).store = s.store := rfl
@[simp] theorem modPort_con (p : Chan) (f : PortSt → PortSt) : (modPort p f s).con = s.con := rfl
@[simp] theorem modPort_twn (p : Chan) (f : PortSt → PortSt) : (modPort p f s).twn = s.twn := rfl
@[simp] theorem modPort_img (p : Chan) (f : PortSt → PortSt) : (modPort p f s).img = s.img := rfl
@[simp] theorem modPort_thm (p : Chan) (f : PortSt → PortSt) : (modPort p f s).thm = s.thm := rfl
@[simp] theorem modPort_thmCh (p : Chan) (f : PortSt → PortSt) : (modPort p f s).thmCh = s.thmCh := rfl
@[simp] theorem modPort_lo (p : Chan) (f : PortSt → PortSt) : (modPort p f s).lo = s.lo := rfl
@[simp] theorem modPort_saf (p : Chan) (f : PortSt → PortSt) : (modPort p f s).saf = s.saf := rfl
@[simp] theorem modPort_bus (p : Chan) (f : PortSt → PortSt) : (modPort p f s).bus = s.bus := rfl
@[simp] theorem modPort_flt (p : Chan) (f : PortSt → PortSt) : (modPort p f s).flt = s.flt := rfl
@[simp] theorem modPort_free (p : Chan) (f : PortSt → PortSt) : (modPort p f s).free = s.free := rfl
@[simp] theorem modPort_pending (p : Chan) (f : PortSt → PortSt) : (modPort p f s).pending = s.pending := rfl

@[simp] theorem modTxn_tim (p : Chan) (f : TxnSt → TxnSt) : (modTxn p f s).tim = s.tim := rfl
@[simp] theorem modTxn_pwr (p : Chan) (f : TxnSt → TxnSt) : (modTxn p f s).pwr = s.pwr := rfl
@[simp] theorem modTxn_hst (p : Chan) (f : TxnSt → TxnSt) : (modTxn p f s).hst = s.hst := rfl
@[simp] theorem modTxn_rings (p : Chan) (f : TxnSt → TxnSt) : (modTxn p f s).rings = s.rings := rfl
@[simp] theorem modTxn_win (p : Chan) (f : TxnSt → TxnSt) : (modTxn p f s).win = s.win := rfl
@[simp] theorem modTxn_cmd (p : Chan) (f : TxnSt → TxnSt) : (modTxn p f s).cmd = s.cmd := rfl
@[simp] theorem modTxn_ev (p : Chan) (f : TxnSt → TxnSt) : (modTxn p f s).ev = s.ev := rfl
@[simp] theorem modTxn_cfg (p : Chan) (f : TxnSt → TxnSt) : (modTxn p f s).cfg = s.cfg := rfl
@[simp] theorem modTxn_ports (p : Chan) (f : TxnSt → TxnSt) : (modTxn p f s).ports = s.ports := rfl
@[simp] theorem modTxn_txns (p : Chan) (f : TxnSt → TxnSt) : (modTxn p f s).txns = vmod s.txns p f := rfl
@[simp] theorem modTxn_meas (p : Chan) (f : TxnSt → TxnSt) : (modTxn p f s).meas = s.meas := rfl
@[simp] theorem modTxn_insCh (p : Chan) (f : TxnSt → TxnSt) : (modTxn p f s).insCh = s.insCh := rfl
@[simp] theorem modTxn_ins (p : Chan) (f : TxnSt → TxnSt) : (modTxn p f s).ins = s.ins := rfl
@[simp] theorem modTxn_stg (p : Chan) (f : TxnSt → TxnSt) : (modTxn p f s).stg = s.stg := rfl
@[simp] theorem modTxn_qm (p : Chan) (f : TxnSt → TxnSt) : (modTxn p f s).qm = s.qm := rfl
@[simp] theorem modTxn_asyCh (p : Chan) (f : TxnSt → TxnSt) : (modTxn p f s).asyCh = s.asyCh := rfl
@[simp] theorem modTxn_cyc (p : Chan) (f : TxnSt → TxnSt) : (modTxn p f s).cyc = s.cyc := rfl
@[simp] theorem modTxn_asy (p : Chan) (f : TxnSt → TxnSt) : (modTxn p f s).asy = s.asy := rfl
@[simp] theorem modTxn_store (p : Chan) (f : TxnSt → TxnSt) : (modTxn p f s).store = s.store := rfl
@[simp] theorem modTxn_con (p : Chan) (f : TxnSt → TxnSt) : (modTxn p f s).con = s.con := rfl
@[simp] theorem modTxn_twn (p : Chan) (f : TxnSt → TxnSt) : (modTxn p f s).twn = s.twn := rfl
@[simp] theorem modTxn_img (p : Chan) (f : TxnSt → TxnSt) : (modTxn p f s).img = s.img := rfl
@[simp] theorem modTxn_thm (p : Chan) (f : TxnSt → TxnSt) : (modTxn p f s).thm = s.thm := rfl
@[simp] theorem modTxn_thmCh (p : Chan) (f : TxnSt → TxnSt) : (modTxn p f s).thmCh = s.thmCh := rfl
@[simp] theorem modTxn_lo (p : Chan) (f : TxnSt → TxnSt) : (modTxn p f s).lo = s.lo := rfl
@[simp] theorem modTxn_saf (p : Chan) (f : TxnSt → TxnSt) : (modTxn p f s).saf = s.saf := rfl
@[simp] theorem modTxn_bus (p : Chan) (f : TxnSt → TxnSt) : (modTxn p f s).bus = s.bus := rfl
@[simp] theorem modTxn_flt (p : Chan) (f : TxnSt → TxnSt) : (modTxn p f s).flt = s.flt := rfl
@[simp] theorem modTxn_free (p : Chan) (f : TxnSt → TxnSt) : (modTxn p f s).free = s.free := rfl
@[simp] theorem modTxn_pending (p : Chan) (f : TxnSt → TxnSt) : (modTxn p f s).pending = s.pending := rfl

@[simp] theorem modMeas_tim (p : Chan) (f : MeasSt → MeasSt) : (modMeas p f s).tim = s.tim := rfl
@[simp] theorem modMeas_pwr (p : Chan) (f : MeasSt → MeasSt) : (modMeas p f s).pwr = s.pwr := rfl
@[simp] theorem modMeas_hst (p : Chan) (f : MeasSt → MeasSt) : (modMeas p f s).hst = s.hst := rfl
@[simp] theorem modMeas_rings (p : Chan) (f : MeasSt → MeasSt) : (modMeas p f s).rings = s.rings := rfl
@[simp] theorem modMeas_win (p : Chan) (f : MeasSt → MeasSt) : (modMeas p f s).win = s.win := rfl
@[simp] theorem modMeas_cmd (p : Chan) (f : MeasSt → MeasSt) : (modMeas p f s).cmd = s.cmd := rfl
@[simp] theorem modMeas_ev (p : Chan) (f : MeasSt → MeasSt) : (modMeas p f s).ev = s.ev := rfl
@[simp] theorem modMeas_cfg (p : Chan) (f : MeasSt → MeasSt) : (modMeas p f s).cfg = s.cfg := rfl
@[simp] theorem modMeas_ports (p : Chan) (f : MeasSt → MeasSt) : (modMeas p f s).ports = s.ports := rfl
@[simp] theorem modMeas_txns (p : Chan) (f : MeasSt → MeasSt) : (modMeas p f s).txns = s.txns := rfl
@[simp] theorem modMeas_meas (p : Chan) (f : MeasSt → MeasSt) : (modMeas p f s).meas = vmod s.meas p f := rfl
@[simp] theorem modMeas_insCh (p : Chan) (f : MeasSt → MeasSt) : (modMeas p f s).insCh = s.insCh := rfl
@[simp] theorem modMeas_ins (p : Chan) (f : MeasSt → MeasSt) : (modMeas p f s).ins = s.ins := rfl
@[simp] theorem modMeas_stg (p : Chan) (f : MeasSt → MeasSt) : (modMeas p f s).stg = s.stg := rfl
@[simp] theorem modMeas_qm (p : Chan) (f : MeasSt → MeasSt) : (modMeas p f s).qm = s.qm := rfl
@[simp] theorem modMeas_asyCh (p : Chan) (f : MeasSt → MeasSt) : (modMeas p f s).asyCh = s.asyCh := rfl
@[simp] theorem modMeas_cyc (p : Chan) (f : MeasSt → MeasSt) : (modMeas p f s).cyc = s.cyc := rfl
@[simp] theorem modMeas_asy (p : Chan) (f : MeasSt → MeasSt) : (modMeas p f s).asy = s.asy := rfl
@[simp] theorem modMeas_store (p : Chan) (f : MeasSt → MeasSt) : (modMeas p f s).store = s.store := rfl
@[simp] theorem modMeas_con (p : Chan) (f : MeasSt → MeasSt) : (modMeas p f s).con = s.con := rfl
@[simp] theorem modMeas_twn (p : Chan) (f : MeasSt → MeasSt) : (modMeas p f s).twn = s.twn := rfl
@[simp] theorem modMeas_img (p : Chan) (f : MeasSt → MeasSt) : (modMeas p f s).img = s.img := rfl
@[simp] theorem modMeas_thm (p : Chan) (f : MeasSt → MeasSt) : (modMeas p f s).thm = s.thm := rfl
@[simp] theorem modMeas_thmCh (p : Chan) (f : MeasSt → MeasSt) : (modMeas p f s).thmCh = s.thmCh := rfl
@[simp] theorem modMeas_lo (p : Chan) (f : MeasSt → MeasSt) : (modMeas p f s).lo = s.lo := rfl
@[simp] theorem modMeas_saf (p : Chan) (f : MeasSt → MeasSt) : (modMeas p f s).saf = s.saf := rfl
@[simp] theorem modMeas_bus (p : Chan) (f : MeasSt → MeasSt) : (modMeas p f s).bus = s.bus := rfl
@[simp] theorem modMeas_flt (p : Chan) (f : MeasSt → MeasSt) : (modMeas p f s).flt = s.flt := rfl
@[simp] theorem modMeas_free (p : Chan) (f : MeasSt → MeasSt) : (modMeas p f s).free = s.free := rfl
@[simp] theorem modMeas_pending (p : Chan) (f : MeasSt → MeasSt) : (modMeas p f s).pending = s.pending := rfl

@[simp] theorem modIns_tim (p : Chan) (f : InsCh → InsCh) : (modIns p f s).tim = s.tim := rfl
@[simp] theorem modIns_pwr (p : Chan) (f : InsCh → InsCh) : (modIns p f s).pwr = s.pwr := rfl
@[simp] theorem modIns_hst (p : Chan) (f : InsCh → InsCh) : (modIns p f s).hst = s.hst := rfl
@[simp] theorem modIns_rings (p : Chan) (f : InsCh → InsCh) : (modIns p f s).rings = s.rings := rfl
@[simp] theorem modIns_win (p : Chan) (f : InsCh → InsCh) : (modIns p f s).win = s.win := rfl
@[simp] theorem modIns_cmd (p : Chan) (f : InsCh → InsCh) : (modIns p f s).cmd = s.cmd := rfl
@[simp] theorem modIns_ev (p : Chan) (f : InsCh → InsCh) : (modIns p f s).ev = s.ev := rfl
@[simp] theorem modIns_cfg (p : Chan) (f : InsCh → InsCh) : (modIns p f s).cfg = s.cfg := rfl
@[simp] theorem modIns_ports (p : Chan) (f : InsCh → InsCh) : (modIns p f s).ports = s.ports := rfl
@[simp] theorem modIns_txns (p : Chan) (f : InsCh → InsCh) : (modIns p f s).txns = s.txns := rfl
@[simp] theorem modIns_meas (p : Chan) (f : InsCh → InsCh) : (modIns p f s).meas = s.meas := rfl
@[simp] theorem modIns_insCh (p : Chan) (f : InsCh → InsCh) : (modIns p f s).insCh = vmod s.insCh p f := rfl
@[simp] theorem modIns_ins (p : Chan) (f : InsCh → InsCh) : (modIns p f s).ins = s.ins := rfl
@[simp] theorem modIns_stg (p : Chan) (f : InsCh → InsCh) : (modIns p f s).stg = s.stg := rfl
@[simp] theorem modIns_qm (p : Chan) (f : InsCh → InsCh) : (modIns p f s).qm = s.qm := rfl
@[simp] theorem modIns_asyCh (p : Chan) (f : InsCh → InsCh) : (modIns p f s).asyCh = s.asyCh := rfl
@[simp] theorem modIns_cyc (p : Chan) (f : InsCh → InsCh) : (modIns p f s).cyc = s.cyc := rfl
@[simp] theorem modIns_asy (p : Chan) (f : InsCh → InsCh) : (modIns p f s).asy = s.asy := rfl
@[simp] theorem modIns_store (p : Chan) (f : InsCh → InsCh) : (modIns p f s).store = s.store := rfl
@[simp] theorem modIns_con (p : Chan) (f : InsCh → InsCh) : (modIns p f s).con = s.con := rfl
@[simp] theorem modIns_twn (p : Chan) (f : InsCh → InsCh) : (modIns p f s).twn = s.twn := rfl
@[simp] theorem modIns_img (p : Chan) (f : InsCh → InsCh) : (modIns p f s).img = s.img := rfl
@[simp] theorem modIns_thm (p : Chan) (f : InsCh → InsCh) : (modIns p f s).thm = s.thm := rfl
@[simp] theorem modIns_thmCh (p : Chan) (f : InsCh → InsCh) : (modIns p f s).thmCh = s.thmCh := rfl
@[simp] theorem modIns_lo (p : Chan) (f : InsCh → InsCh) : (modIns p f s).lo = s.lo := rfl
@[simp] theorem modIns_saf (p : Chan) (f : InsCh → InsCh) : (modIns p f s).saf = s.saf := rfl
@[simp] theorem modIns_bus (p : Chan) (f : InsCh → InsCh) : (modIns p f s).bus = s.bus := rfl
@[simp] theorem modIns_flt (p : Chan) (f : InsCh → InsCh) : (modIns p f s).flt = s.flt := rfl
@[simp] theorem modIns_free (p : Chan) (f : InsCh → InsCh) : (modIns p f s).free = s.free := rfl
@[simp] theorem modIns_pending (p : Chan) (f : InsCh → InsCh) : (modIns p f s).pending = s.pending := rfl

@[simp] theorem modAsy_tim (p : Chan) (f : AsyCh → AsyCh) : (modAsy p f s).tim = s.tim := rfl
@[simp] theorem modAsy_pwr (p : Chan) (f : AsyCh → AsyCh) : (modAsy p f s).pwr = s.pwr := rfl
@[simp] theorem modAsy_hst (p : Chan) (f : AsyCh → AsyCh) : (modAsy p f s).hst = s.hst := rfl
@[simp] theorem modAsy_rings (p : Chan) (f : AsyCh → AsyCh) : (modAsy p f s).rings = s.rings := rfl
@[simp] theorem modAsy_win (p : Chan) (f : AsyCh → AsyCh) : (modAsy p f s).win = s.win := rfl
@[simp] theorem modAsy_cmd (p : Chan) (f : AsyCh → AsyCh) : (modAsy p f s).cmd = s.cmd := rfl
@[simp] theorem modAsy_ev (p : Chan) (f : AsyCh → AsyCh) : (modAsy p f s).ev = s.ev := rfl
@[simp] theorem modAsy_cfg (p : Chan) (f : AsyCh → AsyCh) : (modAsy p f s).cfg = s.cfg := rfl
@[simp] theorem modAsy_ports (p : Chan) (f : AsyCh → AsyCh) : (modAsy p f s).ports = s.ports := rfl
@[simp] theorem modAsy_txns (p : Chan) (f : AsyCh → AsyCh) : (modAsy p f s).txns = s.txns := rfl
@[simp] theorem modAsy_meas (p : Chan) (f : AsyCh → AsyCh) : (modAsy p f s).meas = s.meas := rfl
@[simp] theorem modAsy_insCh (p : Chan) (f : AsyCh → AsyCh) : (modAsy p f s).insCh = s.insCh := rfl
@[simp] theorem modAsy_ins (p : Chan) (f : AsyCh → AsyCh) : (modAsy p f s).ins = s.ins := rfl
@[simp] theorem modAsy_stg (p : Chan) (f : AsyCh → AsyCh) : (modAsy p f s).stg = s.stg := rfl
@[simp] theorem modAsy_qm (p : Chan) (f : AsyCh → AsyCh) : (modAsy p f s).qm = s.qm := rfl
@[simp] theorem modAsy_asyCh (p : Chan) (f : AsyCh → AsyCh) : (modAsy p f s).asyCh = vmod s.asyCh p f := rfl
@[simp] theorem modAsy_cyc (p : Chan) (f : AsyCh → AsyCh) : (modAsy p f s).cyc = s.cyc := rfl
@[simp] theorem modAsy_asy (p : Chan) (f : AsyCh → AsyCh) : (modAsy p f s).asy = s.asy := rfl
@[simp] theorem modAsy_store (p : Chan) (f : AsyCh → AsyCh) : (modAsy p f s).store = s.store := rfl
@[simp] theorem modAsy_con (p : Chan) (f : AsyCh → AsyCh) : (modAsy p f s).con = s.con := rfl
@[simp] theorem modAsy_twn (p : Chan) (f : AsyCh → AsyCh) : (modAsy p f s).twn = s.twn := rfl
@[simp] theorem modAsy_img (p : Chan) (f : AsyCh → AsyCh) : (modAsy p f s).img = s.img := rfl
@[simp] theorem modAsy_thm (p : Chan) (f : AsyCh → AsyCh) : (modAsy p f s).thm = s.thm := rfl
@[simp] theorem modAsy_thmCh (p : Chan) (f : AsyCh → AsyCh) : (modAsy p f s).thmCh = s.thmCh := rfl
@[simp] theorem modAsy_lo (p : Chan) (f : AsyCh → AsyCh) : (modAsy p f s).lo = s.lo := rfl
@[simp] theorem modAsy_saf (p : Chan) (f : AsyCh → AsyCh) : (modAsy p f s).saf = s.saf := rfl
@[simp] theorem modAsy_bus (p : Chan) (f : AsyCh → AsyCh) : (modAsy p f s).bus = s.bus := rfl
@[simp] theorem modAsy_flt (p : Chan) (f : AsyCh → AsyCh) : (modAsy p f s).flt = s.flt := rfl
@[simp] theorem modAsy_free (p : Chan) (f : AsyCh → AsyCh) : (modAsy p f s).free = s.free := rfl
@[simp] theorem modAsy_pending (p : Chan) (f : AsyCh → AsyCh) : (modAsy p f s).pending = s.pending := rfl

@[simp] theorem modCyc_tim (p : Chan) (f : CycCh → CycCh) : (modCyc p f s).tim = s.tim := rfl
@[simp] theorem modCyc_pwr (p : Chan) (f : CycCh → CycCh) : (modCyc p f s).pwr = s.pwr := rfl
@[simp] theorem modCyc_hst (p : Chan) (f : CycCh → CycCh) : (modCyc p f s).hst = s.hst := rfl
@[simp] theorem modCyc_rings (p : Chan) (f : CycCh → CycCh) : (modCyc p f s).rings = s.rings := rfl
@[simp] theorem modCyc_win (p : Chan) (f : CycCh → CycCh) : (modCyc p f s).win = s.win := rfl
@[simp] theorem modCyc_cmd (p : Chan) (f : CycCh → CycCh) : (modCyc p f s).cmd = s.cmd := rfl
@[simp] theorem modCyc_ev (p : Chan) (f : CycCh → CycCh) : (modCyc p f s).ev = s.ev := rfl
@[simp] theorem modCyc_cfg (p : Chan) (f : CycCh → CycCh) : (modCyc p f s).cfg = s.cfg := rfl
@[simp] theorem modCyc_ports (p : Chan) (f : CycCh → CycCh) : (modCyc p f s).ports = s.ports := rfl
@[simp] theorem modCyc_txns (p : Chan) (f : CycCh → CycCh) : (modCyc p f s).txns = s.txns := rfl
@[simp] theorem modCyc_meas (p : Chan) (f : CycCh → CycCh) : (modCyc p f s).meas = s.meas := rfl
@[simp] theorem modCyc_insCh (p : Chan) (f : CycCh → CycCh) : (modCyc p f s).insCh = s.insCh := rfl
@[simp] theorem modCyc_ins (p : Chan) (f : CycCh → CycCh) : (modCyc p f s).ins = s.ins := rfl
@[simp] theorem modCyc_stg (p : Chan) (f : CycCh → CycCh) : (modCyc p f s).stg = s.stg := rfl
@[simp] theorem modCyc_qm (p : Chan) (f : CycCh → CycCh) : (modCyc p f s).qm = s.qm := rfl
@[simp] theorem modCyc_asyCh (p : Chan) (f : CycCh → CycCh) : (modCyc p f s).asyCh = s.asyCh := rfl
@[simp] theorem modCyc_cyc (p : Chan) (f : CycCh → CycCh) : (modCyc p f s).cyc = vmod s.cyc p f := rfl
@[simp] theorem modCyc_asy (p : Chan) (f : CycCh → CycCh) : (modCyc p f s).asy = s.asy := rfl
@[simp] theorem modCyc_store (p : Chan) (f : CycCh → CycCh) : (modCyc p f s).store = s.store := rfl
@[simp] theorem modCyc_con (p : Chan) (f : CycCh → CycCh) : (modCyc p f s).con = s.con := rfl
@[simp] theorem modCyc_twn (p : Chan) (f : CycCh → CycCh) : (modCyc p f s).twn = s.twn := rfl
@[simp] theorem modCyc_img (p : Chan) (f : CycCh → CycCh) : (modCyc p f s).img = s.img := rfl
@[simp] theorem modCyc_thm (p : Chan) (f : CycCh → CycCh) : (modCyc p f s).thm = s.thm := rfl
@[simp] theorem modCyc_thmCh (p : Chan) (f : CycCh → CycCh) : (modCyc p f s).thmCh = s.thmCh := rfl
@[simp] theorem modCyc_lo (p : Chan) (f : CycCh → CycCh) : (modCyc p f s).lo = s.lo := rfl
@[simp] theorem modCyc_saf (p : Chan) (f : CycCh → CycCh) : (modCyc p f s).saf = s.saf := rfl
@[simp] theorem modCyc_bus (p : Chan) (f : CycCh → CycCh) : (modCyc p f s).bus = s.bus := rfl
@[simp] theorem modCyc_flt (p : Chan) (f : CycCh → CycCh) : (modCyc p f s).flt = s.flt := rfl
@[simp] theorem modCyc_free (p : Chan) (f : CycCh → CycCh) : (modCyc p f s).free = s.free := rfl
@[simp] theorem modCyc_pending (p : Chan) (f : CycCh → CycCh) : (modCyc p f s).pending = s.pending := rfl

@[simp] theorem modCon_tim (p : Chan) (f : ConCh → ConCh) : (modCon p f s).tim = s.tim := rfl
@[simp] theorem modCon_pwr (p : Chan) (f : ConCh → ConCh) : (modCon p f s).pwr = s.pwr := rfl
@[simp] theorem modCon_hst (p : Chan) (f : ConCh → ConCh) : (modCon p f s).hst = s.hst := rfl
@[simp] theorem modCon_rings (p : Chan) (f : ConCh → ConCh) : (modCon p f s).rings = s.rings := rfl
@[simp] theorem modCon_win (p : Chan) (f : ConCh → ConCh) : (modCon p f s).win = s.win := rfl
@[simp] theorem modCon_cmd (p : Chan) (f : ConCh → ConCh) : (modCon p f s).cmd = s.cmd := rfl
@[simp] theorem modCon_ev (p : Chan) (f : ConCh → ConCh) : (modCon p f s).ev = s.ev := rfl
@[simp] theorem modCon_cfg (p : Chan) (f : ConCh → ConCh) : (modCon p f s).cfg = s.cfg := rfl
@[simp] theorem modCon_ports (p : Chan) (f : ConCh → ConCh) : (modCon p f s).ports = s.ports := rfl
@[simp] theorem modCon_txns (p : Chan) (f : ConCh → ConCh) : (modCon p f s).txns = s.txns := rfl
@[simp] theorem modCon_meas (p : Chan) (f : ConCh → ConCh) : (modCon p f s).meas = s.meas := rfl
@[simp] theorem modCon_insCh (p : Chan) (f : ConCh → ConCh) : (modCon p f s).insCh = s.insCh := rfl
@[simp] theorem modCon_ins (p : Chan) (f : ConCh → ConCh) : (modCon p f s).ins = s.ins := rfl
@[simp] theorem modCon_stg (p : Chan) (f : ConCh → ConCh) : (modCon p f s).stg = s.stg := rfl
@[simp] theorem modCon_qm (p : Chan) (f : ConCh → ConCh) : (modCon p f s).qm = s.qm := rfl
@[simp] theorem modCon_asyCh (p : Chan) (f : ConCh → ConCh) : (modCon p f s).asyCh = s.asyCh := rfl
@[simp] theorem modCon_cyc (p : Chan) (f : ConCh → ConCh) : (modCon p f s).cyc = s.cyc := rfl
@[simp] theorem modCon_asy (p : Chan) (f : ConCh → ConCh) : (modCon p f s).asy = s.asy := rfl
@[simp] theorem modCon_store (p : Chan) (f : ConCh → ConCh) : (modCon p f s).store = s.store := rfl
@[simp] theorem modCon_con (p : Chan) (f : ConCh → ConCh) : (modCon p f s).con = vmod s.con p f := rfl
@[simp] theorem modCon_twn (p : Chan) (f : ConCh → ConCh) : (modCon p f s).twn = s.twn := rfl
@[simp] theorem modCon_img (p : Chan) (f : ConCh → ConCh) : (modCon p f s).img = s.img := rfl
@[simp] theorem modCon_thm (p : Chan) (f : ConCh → ConCh) : (modCon p f s).thm = s.thm := rfl
@[simp] theorem modCon_thmCh (p : Chan) (f : ConCh → ConCh) : (modCon p f s).thmCh = s.thmCh := rfl
@[simp] theorem modCon_lo (p : Chan) (f : ConCh → ConCh) : (modCon p f s).lo = s.lo := rfl
@[simp] theorem modCon_saf (p : Chan) (f : ConCh → ConCh) : (modCon p f s).saf = s.saf := rfl
@[simp] theorem modCon_bus (p : Chan) (f : ConCh → ConCh) : (modCon p f s).bus = s.bus := rfl
@[simp] theorem modCon_flt (p : Chan) (f : ConCh → ConCh) : (modCon p f s).flt = s.flt := rfl
@[simp] theorem modCon_free (p : Chan) (f : ConCh → ConCh) : (modCon p f s).free = s.free := rfl
@[simp] theorem modCon_pending (p : Chan) (f : ConCh → ConCh) : (modCon p f s).pending = s.pending := rfl

@[simp] theorem modThm_tim (p : Chan) (f : ThmCh → ThmCh) : (modThm p f s).tim = s.tim := rfl
@[simp] theorem modThm_pwr (p : Chan) (f : ThmCh → ThmCh) : (modThm p f s).pwr = s.pwr := rfl
@[simp] theorem modThm_hst (p : Chan) (f : ThmCh → ThmCh) : (modThm p f s).hst = s.hst := rfl
@[simp] theorem modThm_rings (p : Chan) (f : ThmCh → ThmCh) : (modThm p f s).rings = s.rings := rfl
@[simp] theorem modThm_win (p : Chan) (f : ThmCh → ThmCh) : (modThm p f s).win = s.win := rfl
@[simp] theorem modThm_cmd (p : Chan) (f : ThmCh → ThmCh) : (modThm p f s).cmd = s.cmd := rfl
@[simp] theorem modThm_ev (p : Chan) (f : ThmCh → ThmCh) : (modThm p f s).ev = s.ev := rfl
@[simp] theorem modThm_cfg (p : Chan) (f : ThmCh → ThmCh) : (modThm p f s).cfg = s.cfg := rfl
@[simp] theorem modThm_ports (p : Chan) (f : ThmCh → ThmCh) : (modThm p f s).ports = s.ports := rfl
@[simp] theorem modThm_txns (p : Chan) (f : ThmCh → ThmCh) : (modThm p f s).txns = s.txns := rfl
@[simp] theorem modThm_meas (p : Chan) (f : ThmCh → ThmCh) : (modThm p f s).meas = s.meas := rfl
@[simp] theorem modThm_insCh (p : Chan) (f : ThmCh → ThmCh) : (modThm p f s).insCh = s.insCh := rfl
@[simp] theorem modThm_ins (p : Chan) (f : ThmCh → ThmCh) : (modThm p f s).ins = s.ins := rfl
@[simp] theorem modThm_stg (p : Chan) (f : ThmCh → ThmCh) : (modThm p f s).stg = s.stg := rfl
@[simp] theorem modThm_qm (p : Chan) (f : ThmCh → ThmCh) : (modThm p f s).qm = s.qm := rfl
@[simp] theorem modThm_asyCh (p : Chan) (f : ThmCh → ThmCh) : (modThm p f s).asyCh = s.asyCh := rfl
@[simp] theorem modThm_cyc (p : Chan) (f : ThmCh → ThmCh) : (modThm p f s).cyc = s.cyc := rfl
@[simp] theorem modThm_asy (p : Chan) (f : ThmCh → ThmCh) : (modThm p f s).asy = s.asy := rfl
@[simp] theorem modThm_store (p : Chan) (f : ThmCh → ThmCh) : (modThm p f s).store = s.store := rfl
@[simp] theorem modThm_con (p : Chan) (f : ThmCh → ThmCh) : (modThm p f s).con = s.con := rfl
@[simp] theorem modThm_twn (p : Chan) (f : ThmCh → ThmCh) : (modThm p f s).twn = s.twn := rfl
@[simp] theorem modThm_img (p : Chan) (f : ThmCh → ThmCh) : (modThm p f s).img = s.img := rfl
@[simp] theorem modThm_thm (p : Chan) (f : ThmCh → ThmCh) : (modThm p f s).thm = s.thm := rfl
@[simp] theorem modThm_thmCh (p : Chan) (f : ThmCh → ThmCh) : (modThm p f s).thmCh = vmod s.thmCh p f := rfl
@[simp] theorem modThm_lo (p : Chan) (f : ThmCh → ThmCh) : (modThm p f s).lo = s.lo := rfl
@[simp] theorem modThm_saf (p : Chan) (f : ThmCh → ThmCh) : (modThm p f s).saf = s.saf := rfl
@[simp] theorem modThm_bus (p : Chan) (f : ThmCh → ThmCh) : (modThm p f s).bus = s.bus := rfl
@[simp] theorem modThm_flt (p : Chan) (f : ThmCh → ThmCh) : (modThm p f s).flt = s.flt := rfl
@[simp] theorem modThm_free (p : Chan) (f : ThmCh → ThmCh) : (modThm p f s).free = s.free := rfl
@[simp] theorem modThm_pending (p : Chan) (f : ThmCh → ThmCh) : (modThm p f s).pending = s.pending := rfl

@[simp] theorem modRing_tim (p : Ring) (f : RingSt → RingSt) : (modRing p f s).tim = s.tim := rfl
@[simp] theorem modRing_pwr (p : Ring) (f : RingSt → RingSt) : (modRing p f s).pwr = s.pwr := rfl
@[simp] theorem modRing_hst (p : Ring) (f : RingSt → RingSt) : (modRing p f s).hst = s.hst := rfl
@[simp] theorem modRing_rings (p : Ring) (f : RingSt → RingSt) : (modRing p f s).rings = vmod s.rings p f := rfl
@[simp] theorem modRing_win (p : Ring) (f : RingSt → RingSt) : (modRing p f s).win = s.win := rfl
@[simp] theorem modRing_cmd (p : Ring) (f : RingSt → RingSt) : (modRing p f s).cmd = s.cmd := rfl
@[simp] theorem modRing_ev (p : Ring) (f : RingSt → RingSt) : (modRing p f s).ev = s.ev := rfl
@[simp] theorem modRing_cfg (p : Ring) (f : RingSt → RingSt) : (modRing p f s).cfg = s.cfg := rfl
@[simp] theorem modRing_ports (p : Ring) (f : RingSt → RingSt) : (modRing p f s).ports = s.ports := rfl
@[simp] theorem modRing_txns (p : Ring) (f : RingSt → RingSt) : (modRing p f s).txns = s.txns := rfl
@[simp] theorem modRing_meas (p : Ring) (f : RingSt → RingSt) : (modRing p f s).meas = s.meas := rfl
@[simp] theorem modRing_insCh (p : Ring) (f : RingSt → RingSt) : (modRing p f s).insCh = s.insCh := rfl
@[simp] theorem modRing_ins (p : Ring) (f : RingSt → RingSt) : (modRing p f s).ins = s.ins := rfl
@[simp] theorem modRing_stg (p : Ring) (f : RingSt → RingSt) : (modRing p f s).stg = s.stg := rfl
@[simp] theorem modRing_qm (p : Ring) (f : RingSt → RingSt) : (modRing p f s).qm = s.qm := rfl
@[simp] theorem modRing_asyCh (p : Ring) (f : RingSt → RingSt) : (modRing p f s).asyCh = s.asyCh := rfl
@[simp] theorem modRing_cyc (p : Ring) (f : RingSt → RingSt) : (modRing p f s).cyc = s.cyc := rfl
@[simp] theorem modRing_asy (p : Ring) (f : RingSt → RingSt) : (modRing p f s).asy = s.asy := rfl
@[simp] theorem modRing_store (p : Ring) (f : RingSt → RingSt) : (modRing p f s).store = s.store := rfl
@[simp] theorem modRing_con (p : Ring) (f : RingSt → RingSt) : (modRing p f s).con = s.con := rfl
@[simp] theorem modRing_twn (p : Ring) (f : RingSt → RingSt) : (modRing p f s).twn = s.twn := rfl
@[simp] theorem modRing_img (p : Ring) (f : RingSt → RingSt) : (modRing p f s).img = s.img := rfl
@[simp] theorem modRing_thm (p : Ring) (f : RingSt → RingSt) : (modRing p f s).thm = s.thm := rfl
@[simp] theorem modRing_thmCh (p : Ring) (f : RingSt → RingSt) : (modRing p f s).thmCh = s.thmCh := rfl
@[simp] theorem modRing_lo (p : Ring) (f : RingSt → RingSt) : (modRing p f s).lo = s.lo := rfl
@[simp] theorem modRing_saf (p : Ring) (f : RingSt → RingSt) : (modRing p f s).saf = s.saf := rfl
@[simp] theorem modRing_bus (p : Ring) (f : RingSt → RingSt) : (modRing p f s).bus = s.bus := rfl
@[simp] theorem modRing_flt (p : Ring) (f : RingSt → RingSt) : (modRing p f s).flt = s.flt := rfl
@[simp] theorem modRing_free (p : Ring) (f : RingSt → RingSt) : (modRing p f s).free = s.free := rfl
@[simp] theorem modRing_pending (p : Ring) (f : RingSt → RingSt) : (modRing p f s).pending = s.pending := rfl

@[simp] theorem modLo_tim (p : LoadOut) (f : LoSt → LoSt) : (modLo p f s).tim = s.tim := rfl
@[simp] theorem modLo_pwr (p : LoadOut) (f : LoSt → LoSt) : (modLo p f s).pwr = s.pwr := rfl
@[simp] theorem modLo_hst (p : LoadOut) (f : LoSt → LoSt) : (modLo p f s).hst = s.hst := rfl
@[simp] theorem modLo_rings (p : LoadOut) (f : LoSt → LoSt) : (modLo p f s).rings = s.rings := rfl
@[simp] theorem modLo_win (p : LoadOut) (f : LoSt → LoSt) : (modLo p f s).win = s.win := rfl
@[simp] theorem modLo_cmd (p : LoadOut) (f : LoSt → LoSt) : (modLo p f s).cmd = s.cmd := rfl
@[simp] theorem modLo_ev (p : LoadOut) (f : LoSt → LoSt) : (modLo p f s).ev = s.ev := rfl
@[simp] theorem modLo_cfg (p : LoadOut) (f : LoSt → LoSt) : (modLo p f s).cfg = s.cfg := rfl
@[simp] theorem modLo_ports (p : LoadOut) (f : LoSt → LoSt) : (modLo p f s).ports = s.ports := rfl
@[simp] theorem modLo_txns (p : LoadOut) (f : LoSt → LoSt) : (modLo p f s).txns = s.txns := rfl
@[simp] theorem modLo_meas (p : LoadOut) (f : LoSt → LoSt) : (modLo p f s).meas = s.meas := rfl
@[simp] theorem modLo_insCh (p : LoadOut) (f : LoSt → LoSt) : (modLo p f s).insCh = s.insCh := rfl
@[simp] theorem modLo_ins (p : LoadOut) (f : LoSt → LoSt) : (modLo p f s).ins = s.ins := rfl
@[simp] theorem modLo_stg (p : LoadOut) (f : LoSt → LoSt) : (modLo p f s).stg = s.stg := rfl
@[simp] theorem modLo_qm (p : LoadOut) (f : LoSt → LoSt) : (modLo p f s).qm = s.qm := rfl
@[simp] theorem modLo_asyCh (p : LoadOut) (f : LoSt → LoSt) : (modLo p f s).asyCh = s.asyCh := rfl
@[simp] theorem modLo_cyc (p : LoadOut) (f : LoSt → LoSt) : (modLo p f s).cyc = s.cyc := rfl
@[simp] theorem modLo_asy (p : LoadOut) (f : LoSt → LoSt) : (modLo p f s).asy = s.asy := rfl
@[simp] theorem modLo_store (p : LoadOut) (f : LoSt → LoSt) : (modLo p f s).store = s.store := rfl
@[simp] theorem modLo_con (p : LoadOut) (f : LoSt → LoSt) : (modLo p f s).con = s.con := rfl
@[simp] theorem modLo_twn (p : LoadOut) (f : LoSt → LoSt) : (modLo p f s).twn = s.twn := rfl
@[simp] theorem modLo_img (p : LoadOut) (f : LoSt → LoSt) : (modLo p f s).img = s.img := rfl
@[simp] theorem modLo_thm (p : LoadOut) (f : LoSt → LoSt) : (modLo p f s).thm = s.thm := rfl
@[simp] theorem modLo_thmCh (p : LoadOut) (f : LoSt → LoSt) : (modLo p f s).thmCh = s.thmCh := rfl
@[simp] theorem modLo_lo (p : LoadOut) (f : LoSt → LoSt) : (modLo p f s).lo = { s.lo with out := vmod s.lo.out p f } := rfl
@[simp] theorem modLo_saf (p : LoadOut) (f : LoSt → LoSt) : (modLo p f s).saf = s.saf := rfl
@[simp] theorem modLo_bus (p : LoadOut) (f : LoSt → LoSt) : (modLo p f s).bus = s.bus := rfl
@[simp] theorem modLo_flt (p : LoadOut) (f : LoSt → LoSt) : (modLo p f s).flt = s.flt := rfl
@[simp] theorem modLo_free (p : LoadOut) (f : LoSt → LoSt) : (modLo p f s).free = s.free := rfl
@[simp] theorem modLo_pending (p : LoadOut) (f : LoSt → LoSt) : (modLo p f s).pending = s.pending := rfl

@[simp] theorem modLg_tim (p : Fin 4) (f : LoGroup → LoGroup) : (modLg p f s).tim = s.tim := rfl
@[simp] theorem modLg_pwr (p : Fin 4) (f : LoGroup → LoGroup) : (modLg p f s).pwr = s.pwr := rfl
@[simp] theorem modLg_hst (p : Fin 4) (f : LoGroup → LoGroup) : (modLg p f s).hst = s.hst := rfl
@[simp] theorem modLg_rings (p : Fin 4) (f : LoGroup → LoGroup) : (modLg p f s).rings = s.rings := rfl
@[simp] theorem modLg_win (p : Fin 4) (f : LoGroup → LoGroup) : (modLg p f s).win = s.win := rfl
@[simp] theorem modLg_cmd (p : Fin 4) (f : LoGroup → LoGroup) : (modLg p f s).cmd = s.cmd := rfl
@[simp] theorem modLg_ev (p : Fin 4) (f : LoGroup → LoGroup) : (modLg p f s).ev = s.ev := rfl
@[simp] theorem modLg_cfg (p : Fin 4) (f : LoGroup → LoGroup) : (modLg p f s).cfg = s.cfg := rfl
@[simp] theorem modLg_ports (p : Fin 4) (f : LoGroup → LoGroup) : (modLg p f s).ports = s.ports := rfl
@[simp] theorem modLg_txns (p : Fin 4) (f : LoGroup → LoGroup) : (modLg p f s).txns = s.txns := rfl
@[simp] theorem modLg_meas (p : Fin 4) (f : LoGroup → LoGroup) : (modLg p f s).meas = s.meas := rfl
@[simp] theorem modLg_insCh (p : Fin 4) (f : LoGroup → LoGroup) : (modLg p f s).insCh = s.insCh := rfl
@[simp] theorem modLg_ins (p : Fin 4) (f : LoGroup → LoGroup) : (modLg p f s).ins = s.ins := rfl
@[simp] theorem modLg_stg (p : Fin 4) (f : LoGroup → LoGroup) : (modLg p f s).stg = s.stg := rfl
@[simp] theorem modLg_qm (p : Fin 4) (f : LoGroup → LoGroup) : (modLg p f s).qm = s.qm := rfl
@[simp] theorem modLg_asyCh (p : Fin 4) (f : LoGroup → LoGroup) : (modLg p f s).asyCh = s.asyCh := rfl
@[simp] theorem modLg_cyc (p : Fin 4) (f : LoGroup → LoGroup) : (modLg p f s).cyc = s.cyc := rfl
@[simp] theorem modLg_asy (p : Fin 4) (f : LoGroup → LoGroup) : (modLg p f s).asy = s.asy := rfl
@[simp] theorem modLg_store (p : Fin 4) (f : LoGroup → LoGroup) : (modLg p f s).store = s.store := rfl
@[simp] theorem modLg_con (p : Fin 4) (f : LoGroup → LoGroup) : (modLg p f s).con = s.con := rfl
@[simp] theorem modLg_twn (p : Fin 4) (f : LoGroup → LoGroup) : (modLg p f s).twn = s.twn := rfl
@[simp] theorem modLg_img (p : Fin 4) (f : LoGroup → LoGroup) : (modLg p f s).img = s.img := rfl
@[simp] theorem modLg_thm (p : Fin 4) (f : LoGroup → LoGroup) : (modLg p f s).thm = s.thm := rfl
@[simp] theorem modLg_thmCh (p : Fin 4) (f : LoGroup → LoGroup) : (modLg p f s).thmCh = s.thmCh := rfl
@[simp] theorem modLg_lo (p : Fin 4) (f : LoGroup → LoGroup) : (modLg p f s).lo = { s.lo with grp := vmod s.lo.grp p f } := rfl
@[simp] theorem modLg_saf (p : Fin 4) (f : LoGroup → LoGroup) : (modLg p f s).saf = s.saf := rfl
@[simp] theorem modLg_bus (p : Fin 4) (f : LoGroup → LoGroup) : (modLg p f s).bus = s.bus := rfl
@[simp] theorem modLg_flt (p : Fin 4) (f : LoGroup → LoGroup) : (modLg p f s).flt = s.flt := rfl
@[simp] theorem modLg_free (p : Fin 4) (f : LoGroup → LoGroup) : (modLg p f s).free = s.free := rfl
@[simp] theorem modLg_pending (p : Fin 4) (f : LoGroup → LoGroup) : (modLg p f s).pending = s.pending := rfl

@[simp] theorem modBus_tim (p : BusId) (f : BusOne → BusOne) : (modBus p f s).tim = s.tim := rfl
@[simp] theorem modBus_pwr (p : BusId) (f : BusOne → BusOne) : (modBus p f s).pwr = s.pwr := rfl
@[simp] theorem modBus_hst (p : BusId) (f : BusOne → BusOne) : (modBus p f s).hst = s.hst := rfl
@[simp] theorem modBus_rings (p : BusId) (f : BusOne → BusOne) : (modBus p f s).rings = s.rings := rfl
@[simp] theorem modBus_win (p : BusId) (f : BusOne → BusOne) : (modBus p f s).win = s.win := rfl
@[simp] theorem modBus_cmd (p : BusId) (f : BusOne → BusOne) : (modBus p f s).cmd = s.cmd := rfl
@[simp] theorem modBus_ev (p : BusId) (f : BusOne → BusOne) : (modBus p f s).ev = s.ev := rfl
@[simp] theorem modBus_cfg (p : BusId) (f : BusOne → BusOne) : (modBus p f s).cfg = s.cfg := rfl
@[simp] theorem modBus_ports (p : BusId) (f : BusOne → BusOne) : (modBus p f s).ports = s.ports := rfl
@[simp] theorem modBus_txns (p : BusId) (f : BusOne → BusOne) : (modBus p f s).txns = s.txns := rfl
@[simp] theorem modBus_meas (p : BusId) (f : BusOne → BusOne) : (modBus p f s).meas = s.meas := rfl
@[simp] theorem modBus_insCh (p : BusId) (f : BusOne → BusOne) : (modBus p f s).insCh = s.insCh := rfl
@[simp] theorem modBus_ins (p : BusId) (f : BusOne → BusOne) : (modBus p f s).ins = s.ins := rfl
@[simp] theorem modBus_stg (p : BusId) (f : BusOne → BusOne) : (modBus p f s).stg = s.stg := rfl
@[simp] theorem modBus_qm (p : BusId) (f : BusOne → BusOne) : (modBus p f s).qm = s.qm := rfl
@[simp] theorem modBus_asyCh (p : BusId) (f : BusOne → BusOne) : (modBus p f s).asyCh = s.asyCh := rfl
@[simp] theorem modBus_cyc (p : BusId) (f : BusOne → BusOne) : (modBus p f s).cyc = s.cyc := rfl
@[simp] theorem modBus_asy (p : BusId) (f : BusOne → BusOne) : (modBus p f s).asy = s.asy := rfl
@[simp] theorem modBus_store (p : BusId) (f : BusOne → BusOne) : (modBus p f s).store = s.store := rfl
@[simp] theorem modBus_con (p : BusId) (f : BusOne → BusOne) : (modBus p f s).con = s.con := rfl
@[simp] theorem modBus_twn (p : BusId) (f : BusOne → BusOne) : (modBus p f s).twn = s.twn := rfl
@[simp] theorem modBus_img (p : BusId) (f : BusOne → BusOne) : (modBus p f s).img = s.img := rfl
@[simp] theorem modBus_thm (p : BusId) (f : BusOne → BusOne) : (modBus p f s).thm = s.thm := rfl
@[simp] theorem modBus_thmCh (p : BusId) (f : BusOne → BusOne) : (modBus p f s).thmCh = s.thmCh := rfl
@[simp] theorem modBus_lo (p : BusId) (f : BusOne → BusOne) : (modBus p f s).lo = s.lo := rfl
@[simp] theorem modBus_saf (p : BusId) (f : BusOne → BusOne) : (modBus p f s).saf = s.saf := rfl
@[simp] theorem modBus_bus (p : BusId) (f : BusOne → BusOne) : (modBus p f s).bus = { s.bus with one := vmod s.bus.one p f } := rfl
@[simp] theorem modBus_flt (p : BusId) (f : BusOne → BusOne) : (modBus p f s).flt = s.flt := rfl
@[simp] theorem modBus_free (p : BusId) (f : BusOne → BusOne) : (modBus p f s).free = s.free := rfl
@[simp] theorem modBus_pending (p : BusId) (f : BusOne → BusOne) : (modBus p f s).pending = s.pending := rfl

@[simp] theorem modTs_tim (p : TempIn) (f : TsSt → TsSt) : (modTs p f s).tim = s.tim := rfl
@[simp] theorem modTs_pwr (p : TempIn) (f : TsSt → TsSt) : (modTs p f s).pwr = s.pwr := rfl
@[simp] theorem modTs_hst (p : TempIn) (f : TsSt → TsSt) : (modTs p f s).hst = s.hst := rfl
@[simp] theorem modTs_rings (p : TempIn) (f : TsSt → TsSt) : (modTs p f s).rings = s.rings := rfl
@[simp] theorem modTs_win (p : TempIn) (f : TsSt → TsSt) : (modTs p f s).win = s.win := rfl
@[simp] theorem modTs_cmd (p : TempIn) (f : TsSt → TsSt) : (modTs p f s).cmd = s.cmd := rfl
@[simp] theorem modTs_ev (p : TempIn) (f : TsSt → TsSt) : (modTs p f s).ev = s.ev := rfl
@[simp] theorem modTs_cfg (p : TempIn) (f : TsSt → TsSt) : (modTs p f s).cfg = s.cfg := rfl
@[simp] theorem modTs_ports (p : TempIn) (f : TsSt → TsSt) : (modTs p f s).ports = s.ports := rfl
@[simp] theorem modTs_txns (p : TempIn) (f : TsSt → TsSt) : (modTs p f s).txns = s.txns := rfl
@[simp] theorem modTs_meas (p : TempIn) (f : TsSt → TsSt) : (modTs p f s).meas = s.meas := rfl
@[simp] theorem modTs_insCh (p : TempIn) (f : TsSt → TsSt) : (modTs p f s).insCh = s.insCh := rfl
@[simp] theorem modTs_ins (p : TempIn) (f : TsSt → TsSt) : (modTs p f s).ins = s.ins := rfl
@[simp] theorem modTs_stg (p : TempIn) (f : TsSt → TsSt) : (modTs p f s).stg = s.stg := rfl
@[simp] theorem modTs_qm (p : TempIn) (f : TsSt → TsSt) : (modTs p f s).qm = s.qm := rfl
@[simp] theorem modTs_asyCh (p : TempIn) (f : TsSt → TsSt) : (modTs p f s).asyCh = s.asyCh := rfl
@[simp] theorem modTs_cyc (p : TempIn) (f : TsSt → TsSt) : (modTs p f s).cyc = s.cyc := rfl
@[simp] theorem modTs_asy (p : TempIn) (f : TsSt → TsSt) : (modTs p f s).asy = s.asy := rfl
@[simp] theorem modTs_store (p : TempIn) (f : TsSt → TsSt) : (modTs p f s).store = s.store := rfl
@[simp] theorem modTs_con (p : TempIn) (f : TsSt → TsSt) : (modTs p f s).con = s.con := rfl
@[simp] theorem modTs_twn (p : TempIn) (f : TsSt → TsSt) : (modTs p f s).twn = s.twn := rfl
@[simp] theorem modTs_img (p : TempIn) (f : TsSt → TsSt) : (modTs p f s).img = s.img := rfl
@[simp] theorem modTs_thm (p : TempIn) (f : TsSt → TsSt) : (modTs p f s).thm = { s.thm with ts := vmod s.thm.ts p f } := rfl
@[simp] theorem modTs_thmCh (p : TempIn) (f : TsSt → TsSt) : (modTs p f s).thmCh = s.thmCh := rfl
@[simp] theorem modTs_lo (p : TempIn) (f : TsSt → TsSt) : (modTs p f s).lo = s.lo := rfl
@[simp] theorem modTs_saf (p : TempIn) (f : TsSt → TsSt) : (modTs p f s).saf = s.saf := rfl
@[simp] theorem modTs_bus (p : TempIn) (f : TsSt → TsSt) : (modTs p f s).bus = s.bus := rfl
@[simp] theorem modTs_flt (p : TempIn) (f : TsSt → TsSt) : (modTs p f s).flt = s.flt := rfl
@[simp] theorem modTs_free (p : TempIn) (f : TsSt → TsSt) : (modTs p f s).free = s.free := rfl
@[simp] theorem modTs_pending (p : TempIn) (f : TsSt → TsSt) : (modTs p f s).pending = s.pending := rfl

@[simp] theorem modTrip_tim (p : TripIn) (f : TripSt → TripSt) : (modTrip p f s).tim = s.tim := rfl
@[simp] theorem modTrip_pwr (p : TripIn) (f : TripSt → TripSt) : (modTrip p f s).pwr = s.pwr := rfl
@[simp] theorem modTrip_hst (p : TripIn) (f : TripSt → TripSt) : (modTrip p f s).hst = s.hst := rfl
@[simp] theorem modTrip_rings (p : TripIn) (f : TripSt → TripSt) : (modTrip p f s).rings = s.rings := rfl
@[simp] theorem modTrip_win (p : TripIn) (f : TripSt → TripSt) : (modTrip p f s).win = s.win := rfl
@[simp] theorem modTrip_cmd (p : TripIn) (f : TripSt → TripSt) : (modTrip p f s).cmd = s.cmd := rfl
@[simp] theorem modTrip_ev (p : TripIn) (f : TripSt → TripSt) : (modTrip p f s).ev = s.ev := rfl
@[simp] theorem modTrip_cfg (p : TripIn) (f : TripSt → TripSt) : (modTrip p f s).cfg = s.cfg := rfl
@[simp] theorem modTrip_ports (p : TripIn) (f : TripSt → TripSt) : (modTrip p f s).ports = s.ports := rfl
@[simp] theorem modTrip_txns (p : TripIn) (f : TripSt → TripSt) : (modTrip p f s).txns = s.txns := rfl
@[simp] theorem modTrip_meas (p : TripIn) (f : TripSt → TripSt) : (modTrip p f s).meas = s.meas := rfl
@[simp] theorem modTrip_insCh (p : TripIn) (f : TripSt → TripSt) : (modTrip p f s).insCh = s.insCh := rfl
@[simp] theorem modTrip_ins (p : TripIn) (f : TripSt → TripSt) : (modTrip p f s).ins = s.ins := rfl
@[simp] theorem modTrip_stg (p : TripIn) (f : TripSt → TripSt) : (modTrip p f s).stg = s.stg := rfl
@[simp] theorem modTrip_qm (p : TripIn) (f : TripSt → TripSt) : (modTrip p f s).qm = { s.qm with trips := vmod s.qm.trips p f } := rfl
@[simp] theorem modTrip_asyCh (p : TripIn) (f : TripSt → TripSt) : (modTrip p f s).asyCh = s.asyCh := rfl
@[simp] theorem modTrip_cyc (p : TripIn) (f : TripSt → TripSt) : (modTrip p f s).cyc = s.cyc := rfl
@[simp] theorem modTrip_asy (p : TripIn) (f : TripSt → TripSt) : (modTrip p f s).asy = s.asy := rfl
@[simp] theorem modTrip_store (p : TripIn) (f : TripSt → TripSt) : (modTrip p f s).store = s.store := rfl
@[simp] theorem modTrip_con (p : TripIn) (f : TripSt → TripSt) : (modTrip p f s).con = s.con := rfl
@[simp] theorem modTrip_twn (p : TripIn) (f : TripSt → TripSt) : (modTrip p f s).twn = s.twn := rfl
@[simp] theorem modTrip_img (p : TripIn) (f : TripSt → TripSt) : (modTrip p f s).img = s.img := rfl
@[simp] theorem modTrip_thm (p : TripIn) (f : TripSt → TripSt) : (modTrip p f s).thm = s.thm := rfl
@[simp] theorem modTrip_thmCh (p : TripIn) (f : TripSt → TripSt) : (modTrip p f s).thmCh = s.thmCh := rfl
@[simp] theorem modTrip_lo (p : TripIn) (f : TripSt → TripSt) : (modTrip p f s).lo = s.lo := rfl
@[simp] theorem modTrip_saf (p : TripIn) (f : TripSt → TripSt) : (modTrip p f s).saf = s.saf := rfl
@[simp] theorem modTrip_bus (p : TripIn) (f : TripSt → TripSt) : (modTrip p f s).bus = s.bus := rfl
@[simp] theorem modTrip_flt (p : TripIn) (f : TripSt → TripSt) : (modTrip p f s).flt = s.flt := rfl
@[simp] theorem modTrip_free (p : TripIn) (f : TripSt → TripSt) : (modTrip p f s).free = s.free := rfl
@[simp] theorem modTrip_pending (p : TripIn) (f : TripSt → TripSt) : (modTrip p f s).pending = s.pending := rfl

@[simp] theorem modLane_tim (p : SeamLane) (f : LaneSt → LaneSt) : (modLane p f s).tim = s.tim := rfl
@[simp] theorem modLane_pwr (p : SeamLane) (f : LaneSt → LaneSt) : (modLane p f s).pwr = s.pwr := rfl
@[simp] theorem modLane_hst (p : SeamLane) (f : LaneSt → LaneSt) : (modLane p f s).hst = s.hst := rfl
@[simp] theorem modLane_rings (p : SeamLane) (f : LaneSt → LaneSt) : (modLane p f s).rings = s.rings := rfl
@[simp] theorem modLane_win (p : SeamLane) (f : LaneSt → LaneSt) : (modLane p f s).win = s.win := rfl
@[simp] theorem modLane_cmd (p : SeamLane) (f : LaneSt → LaneSt) : (modLane p f s).cmd = s.cmd := rfl
@[simp] theorem modLane_ev (p : SeamLane) (f : LaneSt → LaneSt) : (modLane p f s).ev = s.ev := rfl
@[simp] theorem modLane_cfg (p : SeamLane) (f : LaneSt → LaneSt) : (modLane p f s).cfg = s.cfg := rfl
@[simp] theorem modLane_ports (p : SeamLane) (f : LaneSt → LaneSt) : (modLane p f s).ports = s.ports := rfl
@[simp] theorem modLane_txns (p : SeamLane) (f : LaneSt → LaneSt) : (modLane p f s).txns = s.txns := rfl
@[simp] theorem modLane_meas (p : SeamLane) (f : LaneSt → LaneSt) : (modLane p f s).meas = s.meas := rfl
@[simp] theorem modLane_insCh (p : SeamLane) (f : LaneSt → LaneSt) : (modLane p f s).insCh = s.insCh := rfl
@[simp] theorem modLane_ins (p : SeamLane) (f : LaneSt → LaneSt) : (modLane p f s).ins = s.ins := rfl
@[simp] theorem modLane_stg (p : SeamLane) (f : LaneSt → LaneSt) : (modLane p f s).stg = s.stg := rfl
@[simp] theorem modLane_qm (p : SeamLane) (f : LaneSt → LaneSt) : (modLane p f s).qm = s.qm := rfl
@[simp] theorem modLane_asyCh (p : SeamLane) (f : LaneSt → LaneSt) : (modLane p f s).asyCh = s.asyCh := rfl
@[simp] theorem modLane_cyc (p : SeamLane) (f : LaneSt → LaneSt) : (modLane p f s).cyc = s.cyc := rfl
@[simp] theorem modLane_asy (p : SeamLane) (f : LaneSt → LaneSt) : (modLane p f s).asy = s.asy := rfl
@[simp] theorem modLane_store (p : SeamLane) (f : LaneSt → LaneSt) : (modLane p f s).store = s.store := rfl
@[simp] theorem modLane_con (p : SeamLane) (f : LaneSt → LaneSt) : (modLane p f s).con = s.con := rfl
@[simp] theorem modLane_twn (p : SeamLane) (f : LaneSt → LaneSt) : (modLane p f s).twn = { s.twn with lanes := vmod s.twn.lanes p f } := rfl
@[simp] theorem modLane_img (p : SeamLane) (f : LaneSt → LaneSt) : (modLane p f s).img = s.img := rfl
@[simp] theorem modLane_thm (p : SeamLane) (f : LaneSt → LaneSt) : (modLane p f s).thm = s.thm := rfl
@[simp] theorem modLane_thmCh (p : SeamLane) (f : LaneSt → LaneSt) : (modLane p f s).thmCh = s.thmCh := rfl
@[simp] theorem modLane_lo (p : SeamLane) (f : LaneSt → LaneSt) : (modLane p f s).lo = s.lo := rfl
@[simp] theorem modLane_saf (p : SeamLane) (f : LaneSt → LaneSt) : (modLane p f s).saf = s.saf := rfl
@[simp] theorem modLane_bus (p : SeamLane) (f : LaneSt → LaneSt) : (modLane p f s).bus = s.bus := rfl
@[simp] theorem modLane_flt (p : SeamLane) (f : LaneSt → LaneSt) : (modLane p f s).flt = s.flt := rfl
@[simp] theorem modLane_free (p : SeamLane) (f : LaneSt → LaneSt) : (modLane p f s).free = s.free := rfl
@[simp] theorem modLane_pending (p : SeamLane) (f : LaneSt → LaneSt) : (modLane p f s).pending = s.pending := rfl

@[simp] theorem modHp_tim (p : HPort) (f : PortRegs → PortRegs) : (modHp p f s).tim = s.tim := by cases p <;> rfl
@[simp] theorem modHp_pwr (p : HPort) (f : PortRegs → PortRegs) : (modHp p f s).pwr = s.pwr := by cases p <;> rfl
@[simp] theorem modHp_rings (p : HPort) (f : PortRegs → PortRegs) : (modHp p f s).rings = s.rings := by cases p <;> rfl
@[simp] theorem modHp_win (p : HPort) (f : PortRegs → PortRegs) : (modHp p f s).win = s.win := by cases p <;> rfl
@[simp] theorem modHp_cmd (p : HPort) (f : PortRegs → PortRegs) : (modHp p f s).cmd = s.cmd := by cases p <;> rfl
@[simp] theorem modHp_ev (p : HPort) (f : PortRegs → PortRegs) : (modHp p f s).ev = s.ev := by cases p <;> rfl
@[simp] theorem modHp_cfg (p : HPort) (f : PortRegs → PortRegs) : (modHp p f s).cfg = s.cfg := by cases p <;> rfl
@[simp] theorem modHp_ports (p : HPort) (f : PortRegs → PortRegs) : (modHp p f s).ports = s.ports := by cases p <;> rfl
@[simp] theorem modHp_txns (p : HPort) (f : PortRegs → PortRegs) : (modHp p f s).txns = s.txns := by cases p <;> rfl
@[simp] theorem modHp_meas (p : HPort) (f : PortRegs → PortRegs) : (modHp p f s).meas = s.meas := by cases p <;> rfl
@[simp] theorem modHp_insCh (p : HPort) (f : PortRegs → PortRegs) : (modHp p f s).insCh = s.insCh := by cases p <;> rfl
@[simp] theorem modHp_ins (p : HPort) (f : PortRegs → PortRegs) : (modHp p f s).ins = s.ins := by cases p <;> rfl
@[simp] theorem modHp_stg (p : HPort) (f : PortRegs → PortRegs) : (modHp p f s).stg = s.stg := by cases p <;> rfl
@[simp] theorem modHp_qm (p : HPort) (f : PortRegs → PortRegs) : (modHp p f s).qm = s.qm := by cases p <;> rfl
@[simp] theorem modHp_asyCh (p : HPort) (f : PortRegs → PortRegs) : (modHp p f s).asyCh = s.asyCh := by cases p <;> rfl
@[simp] theorem modHp_cyc (p : HPort) (f : PortRegs → PortRegs) : (modHp p f s).cyc = s.cyc := by cases p <;> rfl
@[simp] theorem modHp_asy (p : HPort) (f : PortRegs → PortRegs) : (modHp p f s).asy = s.asy := by cases p <;> rfl
@[simp] theorem modHp_store (p : HPort) (f : PortRegs → PortRegs) : (modHp p f s).store = s.store := by cases p <;> rfl
@[simp] theorem modHp_con (p : HPort) (f : PortRegs → PortRegs) : (modHp p f s).con = s.con := by cases p <;> rfl
@[simp] theorem modHp_twn (p : HPort) (f : PortRegs → PortRegs) : (modHp p f s).twn = s.twn := by cases p <;> rfl
@[simp] theorem modHp_img (p : HPort) (f : PortRegs → PortRegs) : (modHp p f s).img = s.img := by cases p <;> rfl
@[simp] theorem modHp_thm (p : HPort) (f : PortRegs → PortRegs) : (modHp p f s).thm = s.thm := by cases p <;> rfl
@[simp] theorem modHp_thmCh (p : HPort) (f : PortRegs → PortRegs) : (modHp p f s).thmCh = s.thmCh := by cases p <;> rfl
@[simp] theorem modHp_lo (p : HPort) (f : PortRegs → PortRegs) : (modHp p f s).lo = s.lo := by cases p <;> rfl
@[simp] theorem modHp_saf (p : HPort) (f : PortRegs → PortRegs) : (modHp p f s).saf = s.saf := by cases p <;> rfl
@[simp] theorem modHp_bus (p : HPort) (f : PortRegs → PortRegs) : (modHp p f s).bus = s.bus := by cases p <;> rfl
@[simp] theorem modHp_flt (p : HPort) (f : PortRegs → PortRegs) : (modHp p f s).flt = s.flt := by cases p <;> rfl
@[simp] theorem modHp_free (p : HPort) (f : PortRegs → PortRegs) : (modHp p f s).free = s.free := by cases p <;> rfl
@[simp] theorem modHp_pending (p : HPort) (f : PortRegs → PortRegs) : (modHp p f s).pending = s.pending := by cases p <;> rfl

@[simp] theorem portRegs_modHp (p : HPort) (f : PortRegs → PortRegs) : portRegs (modHp p f s) p = f (portRegs s p) := by cases p <;> rfl

theorem portRegs_modHp_ne (p q : HPort) (f : PortRegs → PortRegs) (h : q ≠ p) : portRegs (modHp p f s) q = portRegs s q := by
  cases p <;> cases q <;> first | rfl | exact absurd rfl h

@[simp] theorem modHp_active (p : HPort) (f : PortRegs → PortRegs) : (modHp p f s).hst.active = s.hst.active := by cases p <;> rfl

end Sys2Proof.Machine
end

