-- ==== Sys2Proof/Laws/Frame.lean ====
section
/-! SUPPORT. What the shared operations leave alone: one frame per operation, ending in that of `settle`. -/

namespace Sys2Proof.Safety

open Sys2Proof.Machine

theorem keepsBut_refl (l : List Part) (s : State) : KeepsBut l s s := by
  intro p _; cases p <;> rfl

theorem keepsBut_trans {l : List Part} {s t u : State} (h : KeepsBut l s t) (k : KeepsBut l t u) : KeepsBut l s u := by
  intro p hp
  have a := h p hp
  have b := k p hp
  cases p <;> exact b.trans a

theorem keepsBut_mono {l m : List Part} {s t : State} (h : KeepsBut l s t) (sub : ∀ p, p ∈ l → p ∈ m) : KeepsBut m s t :=
  fun p hp => h p (fun hl => hp (sub p hl))

/-- A frame carried to a larger list that is checked by evaluation. -/
theorem keepsBut_sub {l : List Part} (m : List Part) {s t : State} (h : KeepsBut l s t) (sub : l.all (fun p => decide (p ∈ m)) = true) :
    KeepsBut m s t :=
  keepsBut_mono h (fun p hp => by simpa using List.all_eq_true.mp sub p hp)

theorem keepsBut_ite {l : List Part} {c : Prop} [Decidable c] {s t u : State} (h : KeepsBut l s t) (k : KeepsBut l s u) :
    KeepsBut l s (if c then t else u) := by split <;> assumption

/-! ## Events -/

theorem enter_keeps (code level : Nat) (pin : Bool) (time : DWord) (subject : Nat) (data : List Nat) (s : State) :
    KeepsBut [.ev] s (enter code level pin time subject data s) := by
  intro p hp; cases p <;> first | (simp at hp; done) | exact Eq.refl _

theorem raiseAt_keeps (code level : Nat) (pin : Bool) (time : DWord) (subject : Nat) (data : List Nat) (s : State) :
    KeepsBut [.ev] s (raiseAt code level pin time subject data s) := by
  have h := enter_keeps code level (pin || alwaysPinned code) time subject data s
  unfold raiseAt
  generalize enter code level (pin || alwaysPinned code) time subject data s = t at h
  dsimp only
  split
  · refine keepsBut_trans h (keepsBut_trans ?_ (enter_keeps _ _ _ _ _ _ _))
    intro p hp; cases p <;> first | (simp at hp; done) | exact Eq.refl _
  · exact h

theorem raise_keeps (code subject : Nat) (data : List Nat) (s : State) : KeepsBut [.ev] s (raise code subject data s) :=
  raiseAt_keeps _ _ _ _ _ _ _

theorem enter_tells (code level : Nat) (pin : Bool) (time : DWord) (subject : Nat) (data : List Nat) (s : State) :
    Tells s (enter code level pin time subject data s) code subject data := by
  refine ⟨_, List.mem_append_right _ (List.mem_singleton.mpr rfl), rfl, rfl, rfl, rfl⟩

/-- An event that is raised waits for ring 1. -/
theorem raiseAt_tells (code level : Nat) (pin : Bool) (time : DWord) (subject : Nat) (data : List Nat) (s : State) :
    Tells s (raiseAt code level pin time subject data s) code subject data := by
  have h := enter_tells code level (pin || alwaysPinned code) time subject data s
  unfold raiseAt
  generalize enter code level (pin || alwaysPinned code) time subject data s = t at h
  dsimp only
  split
  · obtain ⟨e, he, r⟩ := h
    exact ⟨e, List.mem_append_left _ he, r⟩
  · exact h

theorem raise_tells (code subject : Nat) (data : List Nat) (s : State) : Tells s (raise code subject data s) code subject data :=
  raiseAt_tells _ _ _ _ _ _ _

/-! ## Signals and returned descriptors -/

theorem modHp_keeps (p : HPort) (f : PortRegs → PortRegs) (s : State) : KeepsBut [.hst] s (modHp p f s) := by
  intro q hq; cases q <;> first | (cases p <;> rfl) | simp at hq

theorem sendVector_keeps (p : HPort) (v : Nat) (s : State) : KeepsBut [.hst] s (sendVector p v s) := modHp_keeps _ _ _

theorem signalPort_keeps (p : HPort) (v : Nat) (s : State) : KeepsBut [.hst] s (signalPort p v s) := by
  unfold signalPort
  dsimp only
  split
  · exact modHp_keeps _ _ _
  · exact keepsBut_trans (modHp_keeps _ _ _) (sendVector_keeps _ _ _)

theorem modRing_keeps (r : Ring) (f : RingSt → RingSt) (s : State) : KeepsBut [.rings] s (modRing r f s) := by
  intro p hp; cases p <;> first | rfl | simp at hp

theorem signalRing_keeps (r : Ring) (s : State) : KeepsBut [.rings, .hst] s (signalRing r s) := by
  unfold signalRing
  have a := keepsBut_sub [.rings, .hst] (modRing_keeps r (fun g => { g with unsignalled := 0, holdAt := none }) s) rfl
  dsimp only
  split
  · exact keepsBut_trans a (keepsBut_trans (keepsBut_sub _ (signalPort_keeps _ _ _) rfl) (keepsBut_sub _ (signalPort_keeps _ _ _) rfl))
  · exact keepsBut_trans a (keepsBut_sub _ (signalPort_keeps _ _ _) rfl)

theorem returned_keeps (r : Ring) (s : State) : KeepsBut [.rings, .hst] s (returned r s) := by
  unfold returned
  dsimp only
  split
  · exact keepsBut_trans (keepsBut_sub _ (modRing_keeps _ _ _) rfl) (signalRing_keeps _ _)
  · exact keepsBut_sub _ (modRing_keeps _ _ _) rfl

theorem writeDesc_keeps (r : Ring) (idx : Word) (op tag len : Half) (w2 : Nat) (words : List (Nat × Word)) (b : Bool) (s : State) :
    KeepsBut [.win] s (writeDesc r idx op tag len w2 words b s) := by
  intro p hp; cases p <;> first | rfl | simp at hp

theorem flushTaken_keeps (l k : List Taken) (s : State) : KeepsBut [.rings, .win, .cmd, .hst] s (flushTaken l k s) := by
  induction l generalizing k s with
  | nil => intro p hp; cases p <;> first | rfl | simp at hp
  | cons t ts ih =>
    unfold flushTaken
    split
    · split
      · exact ih _ _
      · exact keepsBut_trans (keepsBut_trans (keepsBut_sub _ (writeDesc_keeps _ _ _ _ _ _ _ _ _) rfl)
          (keepsBut_sub _ (returned_keeps _ _) rfl)) (ih _ _)
    · exact ih _ _

theorem flushReplies_keeps (l : List HeldReply) (s : State) : KeepsBut [.rings, .win, .cmd, .hst] s (flushReplies l s) := by
  induction l generalizing s with
  | nil => intro p hp; cases p <;> first | rfl | simp at hp
  | cons h hs ih =>
    unfold flushReplies
    split
    · exact keepsBut_trans (keepsBut_trans (keepsBut_sub _ (writeDesc_keeps _ _ _ _ _ _ _ _ _) rfl)
        (keepsBut_sub _ (returned_keeps _ _) rfl)) (ih _)
    · intro p hp; cases p <;> first | rfl | simp at hp

theorem postEvent_keeps (e : Event) (s : State) : KeepsBut [.rings, .win, .hst] s (postEvent e s) :=
  keepsBut_trans (keepsBut_sub _ (writeDesc_keeps _ _ _ _ _ _ _ _ _) rfl) (keepsBut_sub _ (returned_keeps _ _) rfl)

theorem dropHeld_keeps (n : Nat) (s : State) : KeepsBut [.ev] s (dropHeld n s) := by
  induction n generalizing s with
  | zero => exact keepsBut_refl _ _
  | succ n ih =>
    unfold dropHeld
    split
    · exact keepsBut_refl _ _
    · refine keepsBut_trans ?_ (ih _)
      intro p hp; cases p <;> first | rfl | simp at hp

theorem flushHeld_keeps (l : List Event) (s : State) : KeepsBut [.rings, .win, .hst, .ev] s (flushHeld l s) := by
  induction l generalizing s with
  | nil => intro p hp; cases p <;> first | rfl | simp at hp
  | cons e es ih =>
    unfold flushHeld
    split
    · exact keepsBut_trans (keepsBut_sub _ (postEvent_keeps _ _) rfl) (ih _)
    · intro p hp; cases p <;> first | rfl | simp at hp

theorem flushEvents_keeps (s : State) : KeepsBut [.rings, .win, .hst, .ev] s (flushEvents s) := by
  unfold flushEvents
  split
  · refine keepsBut_trans ?_ (keepsBut_sub _ (dropHeld_keeps _ _) rfl)
    refine keepsBut_trans ?_ (flushHeld_keeps _ _)
    have k (a b : Nat) (l : List Nat) : KeepsBut [.rings, .win, .hst, .ev] s
        (let t := raise a b l s; { t with ev := { t.ev with dropped := 0 } }) := by
      refine keepsBut_trans (keepsBut_sub _ (raise_keeps a b l s) rfl) ?_
      intro p hp; cases p <;> first | (simp at hp; done) | exact Eq.refl _
    exact k _ _ _
  · exact keepsBut_trans (flushHeld_keeps _ _) (keepsBut_sub _ (dropHeld_keeps _ _) rfl)

theorem pumpStore_keeps (s : State) : KeepsBut [.store] s (pumpStore s) := by
  intro p hp
  cases p <;> first | (simp at hp; done) | (unfold pumpStore; dsimp only [Part.Same]; split <;> (try rfl); split <;> (try rfl); split <;> (try split) <;> rfl)

theorem queueWrite_keeps (w : StoreWrite) (s : State) : KeepsBut [.store] s (queueWrite w s) := by
  unfold queueWrite
  split
  · exact keepsBut_refl _ _
  · intro p hp; cases p <;> first | rfl | simp at hp

/-- `settle` changes the rings, the window, the commands in hand, the events, the interrupt registers and the store. -/
theorem settle_keeps (s : State) : KeepsBut settledParts s (settle s) := by
  unfold settle
  refine keepsBut_trans ?_ (keepsBut_sub _ (flushReplies_keeps _ _) rfl)
  refine keepsBut_trans (keepsBut_sub _ (pumpStore_keeps s) rfl) ?_
  exact keepsBut_trans (keepsBut_sub _ (flushEvents_keeps _) rfl) (keepsBut_sub _ (flushTaken_keeps _ _ _) rfl)

/-! ## The fields that `settle` leaves -/

@[simp] theorem settle_tim (s : State) : (settle s).tim = s.tim := settle_keeps s .tim (by decide)
@[simp] theorem settle_pwr (s : State) : (settle s).pwr = s.pwr := settle_keeps s .pwr (by decide)
@[simp] theorem settle_cfg (s : State) : (settle s).cfg = s.cfg := settle_keeps s .cfg (by decide)
@[simp] theorem settle_ports (s : State) : (settle s).ports = s.ports := settle_keeps s .ports (by decide)
@[simp] theorem settle_txns (s : State) : (settle s).txns = s.txns := settle_keeps s .txns (by decide)
@[simp] theorem settle_meas (s : State) : (settle s).meas = s.meas := settle_keeps s .meas (by decide)
@[simp] theorem settle_insCh (s : State) : (settle s).insCh = s.insCh := settle_keeps s .insCh (by decide)
@[simp] theorem settle_ins (s : State) : (settle s).ins = s.ins := settle_keeps s .ins (by decide)
@[simp] theorem settle_stg (s : State) : (settle s).stg = s.stg := settle_keeps s .stg (by decide)
@[simp] theorem settle_qm (s : State) : (settle s).qm = s.qm := settle_keeps s .qm (by decide)
@[simp] theorem settle_asyCh (s : State) : (settle s).asyCh = s.asyCh := settle_keeps s .asyCh (by decide)
@[simp] theorem settle_cyc (s : State) : (settle s).cyc = s.cyc := settle_keeps s .cyc (by decide)
@[simp] theorem settle_asy (s : State) : (settle s).asy = s.asy := settle_keeps s .asy (by decide)
@[simp] theorem settle_con (s : State) : (settle s).con = s.con := settle_keeps s .con (by decide)
@[simp] theorem settle_twn (s : State) : (settle s).twn = s.twn := settle_keeps s .twn (by decide)
@[simp] theorem settle_img (s : State) : (settle s).img = s.img := settle_keeps s .img (by decide)
@[simp] theorem settle_thm (s : State) : (settle s).thm = s.thm := settle_keeps s .thm (by decide)
@[simp] theorem settle_thmCh (s : State) : (settle s).thmCh = s.thmCh := settle_keeps s .thmCh (by decide)
@[simp] theorem settle_lo (s : State) : (settle s).lo = s.lo := settle_keeps s .lo (by decide)
@[simp] theorem settle_saf (s : State) : (settle s).saf = s.saf := settle_keeps s .saf (by decide)
@[simp] theorem settle_bus (s : State) : (settle s).bus = s.bus := settle_keeps s .bus (by decide)
@[simp] theorem settle_flt (s : State) : (settle s).flt = s.flt := settle_keeps s .flt (by decide)
@[simp] theorem settle_free (s : State) : (settle s).free = s.free := settle_keeps s .free (by decide)
@[simp] theorem settle_pending (s : State) : (settle s).pending = s.pending := settle_keeps s .pending (by decide)

end Sys2Proof.Safety
end

