-- ==== Sys2Proof/Laws/Memory.lean ====
section
/-! SUPPORT. Tables and window memory: every operation keeps the canonical form, a read after a write, and what a write leaves
alone; and that `settle` keeps the form of the window. -/

namespace Sys2Proof.Machine

variable {α : Type} [DecidableEq α]

theorem tabWfFrom_mono {d : α} {lo lo' : Nat} (t : Tab α) (h : tabWfFrom d lo t = true) (le : lo' ≤ lo) : tabWfFrom d lo' t = true := by
  cases t with
  | nil => rfl
  | cons c t =>
    simp only [tabWfFrom, Bool.and_eq_true, decide_eq_true_eq] at h ⊢
    exact ⟨⟨by omega, h.1.2⟩, h.2⟩

/-- `tabPut` keeps the form. -/
theorem tabPut_wf {d : α} (t : Tab α) (lo n : Nat) (x : α) (h : tabWfFrom d lo t = true) (le : lo ≤ n) :
    tabWfFrom d lo (tabPut d t n x) = true := by
  induction t generalizing lo with
  | nil => unfold tabPut; split <;> simp [tabWfFrom, *]
  | cons c t ih =>
    obtain ⟨k, v⟩ := c
    simp only [tabWfFrom, Bool.and_eq_true, decide_eq_true_eq] at h
    unfold tabPut
    split
    · subst_vars
      split
      · exact tabWfFrom_mono t h.2 (by omega)
      · simp [tabWfFrom, *]
    · split
      · split
        · simp [tabWfFrom, h]
        · have : n + 1 ≤ k := by omega
          simp [tabWfFrom, *]
      · simp only [tabWfFrom, Bool.and_eq_true, decide_eq_true_eq]
        exact ⟨h.1, ih (k + 1) h.2 (by omega)⟩

theorem tabGet_low {d : α} (t : Tab α) (lo n : Nat) (h : tabWfFrom d lo t = true) (lt : n < lo) : tabGet d t n = d := by
  cases t with
  | nil => rfl
  | cons c t =>
    simp only [tabWfFrom, Bool.and_eq_true, decide_eq_true_eq] at h
    have a : n ≠ c.1 := by omega
    have b : n < c.1 := by omega
    simp [tabGet, a, b]

/-- What a table reads as after a write: the value written there, and what it held elsewhere. -/
theorem tabGet_tabPut {d : α} (t : Tab α) (lo n m : Nat) (x : α) (h : tabWfFrom d lo t = true) :
    tabGet d (tabPut d t n x) m = if m = n then x else tabGet d t m := by
  induction t generalizing lo with
  | nil =>
    unfold tabPut
    split <;> simp [tabGet, *]
  | cons c t ih =>
    obtain ⟨k, v⟩ := c
    simp only [tabWfFrom, Bool.and_eq_true, decide_eq_true_eq] at h
    have low : ∀ m, m ≤ k → tabGet d t m = d := fun m hm => tabGet_low t (k + 1) m h.2 (by omega)
    unfold tabPut
    by_cases e : n = k
    · subst e
      by_cases hx : x = d
      · by_cases mn : m = n
        · subst mn; simp [hx, low]
        · by_cases lt : m < n
          · simp [hx, mn, tabGet, lt, low m (by omega)]
          · simp [hx, mn, tabGet, lt]
      · by_cases mn : m = n <;> simp [hx, mn, tabGet]
    · by_cases lt : n < k
      · by_cases hx : x = d
        · by_cases mn : m = n
          · subst mn; simp [e, lt, hx, tabGet]
          · simp [e, lt, hx, mn]
        · by_cases mn : m = n
          · simp [e, lt, hx, mn, tabGet]
          · by_cases l2 : m < n
            · have a : m ≠ k := by omega
              have b : m < k := by omega
              simp [e, lt, hx, mn, tabGet, l2, a, b]
            · simp [e, lt, hx, mn, tabGet, l2]
      · by_cases mk : m = k
        · have : ¬ k = n := fun q => e q.symm
          simp [e, lt, mk, tabGet, this]
        · by_cases l2 : m < k
          · have : m ≠ n := by omega
            simp [e, lt, mk, tabGet, l2, this]
          · simp only [e, lt, if_false, tabGet, mk, l2]
            exact ih (k + 1) h.2

/-! ## Window memory -/

theorem memWrite_wf (m : List Host.Cell) (a : Nat) (b : List Byte) (h : Memory.wf m = true) : Memory.wf (memWrite m a b) = true := by
  induction b generalizing m a with
  | nil => exact h
  | cons x xs ih => exact ih _ _ (tabPut_wf m 0 a x h (Nat.zero_le _))

theorem writeAll_wf (m : List Host.Cell) (w : List (Nat × List Byte)) (h : Memory.wf m = true) : Memory.wf (writeAll m w) = true := by
  induction w generalizing m with
  | nil => exact h
  | cons x xs ih => exact ih _ (memWrite_wf m x.1 x.2 h)

/-- A byte of the window after a write: the byte written where the write reaches, else what stood there. -/
theorem memByte_memWrite (m : List Host.Cell) (a k : Nat) (b : List Byte) (h : Memory.wf m = true) :
    memByte (memWrite m a b) k = if a ≤ k ∧ k < a + b.length then b.getD (k - a) 0 else memByte m k := by
  induction b generalizing m a with
  | nil =>
    have : ¬ (a ≤ k ∧ k < a + 0) := by omega
    simp only [memWrite, List.length_nil, if_neg this]
  | cons x xs ih =>
    have w := tabPut_wf m 0 a x h (Nat.zero_le _)
    rw [show memWrite m a (x :: xs) = memWrite (tabPut memDefault m a x) (a + 1) xs from rfl, ih (tabPut memDefault m a x) (a + 1) w]
    have g := tabGet_tabPut (d := memDefault) m 0 a k x h
    simp only [memByte] at g ⊢
    rw [g]
    simp only [List.length_cons]
    by_cases e : k = a
    · subst e
      have : ¬ (k + 1 ≤ k) := by omega
      simp [this]
    · by_cases l : a ≤ k
      · have s : k - a = (k - (a + 1)) + 1 := by omega
        have i : (a + 1 ≤ k ∧ k < a + 1 + xs.length) ↔ (a ≤ k ∧ k < a + (xs.length + 1)) := by omega
        simp only [i, e, if_false]
        rw [s]
        split <;> simp
      · have : ¬ (a + 1 ≤ k) := by omega
        simp [this, l, e]

/-- A write leaves the bytes outside it. -/
theorem memByte_memWrite_ne (m : List Host.Cell) (a k : Nat) (b : List Byte) (h : Memory.wf m = true) (o : k < a ∨ a + b.length ≤ k) :
    memByte (memWrite m a b) k = memByte m k := by
  have : ¬ (a ≤ k ∧ k < a + b.length) := by omega
  rw [memByte_memWrite m a k b h, if_neg this]

/-! ## The window through `settle` -/

theorem foldl_memWrite_wf (l : List (Nat × Word)) (off : Nat) (m : List Host.Cell) (h : Memory.wf m = true) :
    Memory.wf (l.foldl (fun w p => memWrite w (off + 4 * p.1) (leBytes 4 p.2.toNat)) m) = true := by
  induction l generalizing m with
  | nil => exact h
  | cons x xs ih => exact ih _ (memWrite_wf _ _ _ h)

theorem writeDesc_wf (r : Ring) (idx : Word) (op tag len : Half) (w2 : Nat) (words : List (Nat × Word)) (b : Bool) (s : State)
    (h : Memory.wf s.win = true) : Memory.wf (writeDesc r idx op tag len w2 words b s).win = true := by
  unfold writeDesc
  dsimp only
  refine memWrite_wf _ _ _ (foldl_memWrite_wf _ _ _ (memWrite_wf _ _ _ (memWrite_wf _ _ _ ?_)))
  split
  · exact memWrite_wf _ _ _ h
  · exact h

theorem returned_win (r : Ring) (s : State) : (returned r s).win = s.win := Safety.returned_keeps r s .win (by decide)

theorem flushTaken_wf (l k : List Taken) (s : State) (h : Memory.wf s.win = true) : Memory.wf (flushTaken l k s).win = true := by
  induction l generalizing k s with
  | nil => exact h
  | cons t ts ih =>
    unfold flushTaken
    split
    · split
      · exact ih _ _ h
      · exact ih _ _ (by rw [returned_win]; exact writeDesc_wf _ _ _ _ _ _ _ _ _ h)
    · exact ih _ _ h

theorem flushReplies_wf (l : List HeldReply) (s : State) (h : Memory.wf s.win = true) : Memory.wf (flushReplies l s).win = true := by
  induction l generalizing s with
  | nil => exact h
  | cons x xs ih =>
    unfold flushReplies
    split
    · exact ih _ (by rw [returned_win]; exact writeDesc_wf _ _ _ _ _ _ _ _ _ h)
    · exact h

theorem flushHeld_wf (l : List Event) (s : State) (h : Memory.wf s.win = true) : Memory.wf (flushHeld l s).win = true := by
  induction l generalizing s with
  | nil => exact h
  | cons x xs ih =>
    unfold flushHeld
    split
    · exact ih _ (by rw [postEvent, returned_win]; exact writeDesc_wf _ _ _ _ _ _ _ _ _ h)
    · exact h

theorem dropHeld_win (n : Nat) (s : State) : (dropHeld n s).win = s.win := Safety.dropHeld_keeps n s .win (by decide)

theorem raise_win (c x : Nat) (d : List Nat) (s : State) : (raise c x d s).win = s.win := Safety.raise_keeps c x d s .win (by decide)

theorem flushEvents_wf (s : State) (h : Memory.wf s.win = true) : Memory.wf (flushEvents s).win = true := by
  unfold flushEvents
  split
  · dsimp only
    rw [dropHeld_win]
    refine flushHeld_wf _ _ ?_
    dsimp only
    rw [raise_win]
    exact h
  · dsimp only
    rw [dropHeld_win]
    exact flushHeld_wf _ _ h

/-- `settle` keeps the form of the window. -/
theorem settle_wf (s : State) (h : Memory.wf s.win = true) : Memory.wf (settle s).win = true := by
  unfold settle
  refine flushReplies_wf _ _ (flushTaken_wf _ _ _ (flushEvents_wf _ ?_))
  rw [show (pumpStore s).win = s.win from Safety.pumpStore_keeps s .win (by decide)]
  exact h

end Sys2Proof.Machine
end

