-- ==== Sys2Proof/Laws/Host.lean ====
section
/-! SUPPORT. What taking, admitting and answering a host command does, said once: the frame of the taking, and the state that each
of its answers leaves. -/

namespace Sys2Proof.Safety

open Sys2Proof.Machine

theorem activity_keeps (s : State) : KeepsBut [.hst, .qm, .ev] s (activity s) := by
  unfold activity
  dsimp only
  split
  · refine keepsBut_trans ?_ (keepsBut_sub _ (raise_keeps _ _ _ _) rfl)
    intro p hp; cases p <;> first | (simp at hp; done) | exact Eq.refl _
  · intro p hp; cases p <;> first | (simp at hp; done) | exact Eq.refl _

theorem doorbell_keeps (p : HPort) (s : State) : KeepsBut [.hst, .qm, .ev] s (doorbell p s) := by
  unfold doorbell; split
  · exact activity_keeps s
  · exact keepsBut_refl _ _

/-- Taking a descriptor changes its ring and the host's activity alone. -/
theorem takeSlot_keeps {r : Ring} {s t : State} {idx : Word} (h : takeSlot r s = some (idx, t)) :
    KeepsBut [.rings, .hst, .qm, .ev] s t := by
  unfold takeSlot at h
  dsimp only at h
  split at h
  · cases h
  · split at h
    · cases h
      exact keepsBut_sub _ (modRing_keeps _ _ _) rfl
    · split at h
      · cases h
      · cases h
        exact keepsBut_trans (keepsBut_sub _ (modRing_keeps _ _ _) rfl) (keepsBut_sub _ (doorbell_keeps _ _) rfl)

theorem putTaken_keeps (h : Hdr) (op : Nat) (idx : Word) (r : Option Reply) (s : State) : KeepsBut [.cmd] s (putTaken h op idx r s) := by
  intro p hp; cases p <;> first | (simp at hp; done) | exact Eq.refl _

/-- What `done` answers when the body left the window, the queue and the time base alone. -/
theorem done_of_keeps {s u : State} (w : u.win = s.win) (p : u.pending = s.pending) (b : u.tim.tb = s.tim.tb) :
    done s u = .next (settle u) := by
  unfold done
  rw [← w, ← p, ← b]

/-- What `doneWin` answers when the body left the queue and the time base alone. -/
theorem doneWin_of_keeps {s u : State} (win : List Host.Cell) (p : u.pending = s.pending) (b : u.tim.tb = s.tim.tb) :
    doneWin s win u = .next (settle { u with win := win }) := by
  unfold doneWin
  rw [← p, ← b]

section
variable {h : Hdr} {op least : Nat} {g : Target} {pends : Bool} {body : State → Res} {s t : State} {idx : Word}

/-- An admitted command whose body answers at once. -/
theorem hostCmd_now (a : Admits h op least g pends s idx t) {r : Reply} {u : State} {w : List (Nat × List Byte)}
    (b : body t = .now r u w) :
    hostCmd h op least g pends body s = doneWin s (writeAll s.win w) (putTaken h op idx (some r) u) := by
  obtain ⟨h1, h2, h3, h4, h5, h6⟩ := a
  have : ¬ h.length.toNat < least := by omega
  have f : (pends && full t) = false := by
    cases pends
    · rfl
    · simpa using h6 rfl
  simp [hostCmd, h1, h2, h3, this, h5, f, b]

/-- An admitted command whose descriptor waits in place. -/
theorem hostCmd_wait (a : Admits h op least g pends s idx t) {u : State} (b : body t = .wait u) :
    hostCmd h op least g pends body s = done s (putTaken h op idx none u) := by
  obtain ⟨h1, h2, h3, h4, h5, h6⟩ := a
  have : ¬ h.length.toNat < least := by omega
  have f : (pends && full t) = false := by
    cases pends
    · rfl
    · simpa using h6 rfl
  simp [hostCmd, h1, h2, h3, this, h5, f, b]

/-- An admitted command that answers PENDING. -/
theorem hostCmd_later (a : Admits h op least g pends s idx t) {u : State} {g' : Target} {arg : DWord} {w : List (Nat × List Byte)}
    (b : body t = .later g' arg u w) :
    hostCmd h op least g pends body s = doneWin s (writeAll s.win w)
      (putTaken h op idx (some (reply .pending)) { u with cmd := { u.cmd with pend := u.cmd.pend ++ [pendOf h op g' t.tim.tb arg] } }) := by
  obtain ⟨h1, h2, h3, h4, h5, h6⟩ := a
  have : ¬ h.length.toNat < least := by omega
  have f : (pends && full t) = false := by
    cases pends
    · rfl
    · simpa using h6 rfl
  simp [hostCmd, h1, h2, h3, this, h5, f, b, pendOf]

/-- A command that the module's state refuses. -/
theorem hostCmd_refused {st : Status} (a : takeSlot h.ring s = some (idx, t)) (r : h.ring.val = (if op = 0x0301 then 0 else 2))
    (b : refusal op t = some st) : hostCmd h op least g pends body s = done s (putTaken h op idx (some (reply st)) t) := by
  simp [hostCmd, a, r, b]

/-- A command on a ring its opcode is not valid on. -/
theorem hostCmd_wrongRing (a : takeSlot h.ring s = some (idx, t)) (r : h.ring.val ≠ (if op = 0x0301 then 0 else 2)) :
    hostCmd h op least g pends body s = done s (putTaken h op idx (some (reply .badOpcode)) t) := by
  simp [hostCmd, a, r]

/-- A ring that takes nothing. -/
theorem hostCmd_none (a : takeSlot h.ring s = none) : hostCmd h op least g pends body s = done s s := by
  simp [hostCmd, a]

/-- The taken state has the window, the queue and the times of the state before. -/
theorem admits_base (a : Admits h op least g pends s idx t) : t.win = s.win ∧ t.pending = s.pending ∧ t.tim = s.tim :=
  ⟨takeSlot_keeps a.1 .win (by decide), takeSlot_keeps a.1 .pending (by decide), takeSlot_keeps a.1 .tim (by decide)⟩

/-- The form in which host statements use the answer at once without window writes. -/
theorem hostCmd_now_settle (a : Admits h op least g pends s idx t) {r : Reply} {u : State}
    (b : body t = .now r u []) (w : u.win = t.win) (p : u.pending = t.pending) (tb : u.tim.tb = t.tim.tb) :
    hostCmd h op least g pends body s = .next (settle (putTaken h op idx (some r) u)) := by
  obtain ⟨b1, b2, b3⟩ := admits_base a
  rw [hostCmd_now a b]
  have k : doneWin s (writeAll s.win []) (putTaken h op idx (some r) u) = done s (putTaken h op idx (some r) u) := rfl
  rw [k]
  refine done_of_keeps ?_ ?_ ?_
  · exact w.trans b1
  · exact p.trans b2
  · exact tb.trans (by rw [b3])

/-- The same for a descriptor that waits in place. -/
theorem hostCmd_wait_settle (a : Admits h op least g pends s idx t) {u : State}
    (b : body t = .wait u) (w : u.win = t.win) (p : u.pending = t.pending) (tb : u.tim.tb = t.tim.tb) :
    hostCmd h op least g pends body s = .next (settle (putTaken h op idx none u)) := by
  obtain ⟨b1, b2, b3⟩ := admits_base a
  rw [hostCmd_wait a b]
  exact done_of_keeps (w.trans b1) (p.trans b2) (tb.trans (by rw [b3]))

/-- The same for a command that answers PENDING. -/
theorem hostCmd_later_settle (a : Admits h op least g pends s idx t) {u : State} {g' : Target} {arg : DWord}
    (b : body t = .later g' arg u []) (w : u.win = t.win) (p : u.pending = t.pending) (tb : u.tim.tb = t.tim.tb) :
    hostCmd h op least g pends body s = .next (settle (putTaken h op idx (some (reply .pending))
      { u with cmd := { u.cmd with pend := u.cmd.pend ++ [pendOf h op g' t.tim.tb arg] } })) := by
  obtain ⟨b1, b2, b3⟩ := admits_base a
  rw [hostCmd_later a b]
  have k (x : State) : doneWin s (writeAll s.win []) x = .next (settle
      { x with win := s.win, pending := s.pending, tim := { x.tim with tb := s.tim.tb } }) := rfl
  rw [k]
  congr 2
  rw [show s.win = u.win from (w.trans b1).symm, show s.pending = u.pending from (p.trans b2).symm,
    show s.tim.tb = u.tim.tb from (tb.trans (by rw [b3])).symm]
  rfl

/-- `Replies` from what the body answers; the window is as it was. -/
theorem replies_of {c : Instr} {r : Reply} {l : List Part} {P : State → Prop} {u : State}
    (a : Admits h op least g pends s idx t) (e : exec c s = hostCmd h op least g pends body s) (b : body t = .now r u [])
    (w : u.win = t.win) (p : u.pending = t.pending) (tb : u.tim.tb = t.tim.tb) (k : u.cmd = t.cmd) (f : KeepsBut (.cmd :: l) t u)
    (q : P (putTaken h op idx (some r) u)) : Replies c h op idx s t r l P := by
  refine ⟨_, e.trans (hostCmd_now_settle a b w p tb), ?_, ?_, ?_, ?_, q⟩
  · show u.cmd.taken ++ _ = _; rw [k]; rfl
  · show u.cmd.pend = _; rw [k]
  · show u.cmd.held = _; rw [k]
  · exact keepsBut_trans f (keepsBut_mono (putTaken_keeps _ _ _ _ _) (by intro x hx; simp at hx; simp [hx]))

/-- `Replies` from a body that writes the window. -/
theorem replies_of_writes {c : Instr} {r : Reply} {l : List Part} {P : State → Prop} {u : State} {w : List (Nat × List Byte)}
    (a : Admits h op least g pends s idx t) (e : exec c s = hostCmd h op least g pends body s) (b : body t = .now r u w)
    (p : u.pending = t.pending) (tb : u.tim.tb = t.tim.tb) (k : u.cmd = t.cmd) (f : KeepsBut (.cmd :: .win :: l) t u)
    (q : P { putTaken h op idx (some r) u with win := writeAll t.win w }) : Replies c h op idx s t r (.win :: l) P := by
  obtain ⟨b1, b2, b3⟩ := admits_base a
  refine ⟨{ putTaken h op idx (some r) u with win := writeAll t.win w }, ?_, ?_, ?_, ?_, ?_, q⟩
  · rw [e, hostCmd_now a b, ← b1]
    exact doneWin_of_keeps _ (p.trans b2) (tb.trans (by rw [b3]))
  · show u.cmd.taken ++ _ = _; rw [k]; rfl
  · show u.cmd.pend = _; rw [k]
  · show u.cmd.held = _; rw [k]
  · refine keepsBut_trans f ?_
    intro x hx
    cases x <;> first | (simp at hx; done) | exact Eq.refl _

/-- `Pends` from what the body answers. -/
theorem pends_of {c : Instr} {l : List Part} {P : State → Prop} {u : State} {g' : Target} {arg : DWord}
    (a : Admits h op least g pends s idx t) (e : exec c s = hostCmd h op least g pends body s) (b : body t = .later g' arg u [])
    (w : u.win = t.win) (p : u.pending = t.pending) (tb : u.tim.tb = t.tim.tb) (k : u.cmd = t.cmd) (f : KeepsBut (.cmd :: l) t u)
    (q : P (putTaken h op idx (some (reply .pending)) { u with cmd := { u.cmd with pend := u.cmd.pend ++ [pendOf h op g' t.tim.tb arg] } })) :
    Pends c h op idx s t (pendOf h op g' t.tim.tb arg) l P := by
  refine ⟨_, e.trans (hostCmd_later_settle a b w p tb), ?_, ?_, ?_, ?_, q⟩
  · show u.cmd.taken ++ _ = _; rw [k]; rfl
  · show u.cmd.pend ++ _ = _; rw [k]
  · show u.cmd.held = _; rw [k]
  · refine keepsBut_trans f ?_
    intro x hx
    cases x <;> first | (simp at hx; done) | exact Eq.refl _

/-- `Pends` from a body that writes the window. -/
theorem pends_of_writes {c : Instr} {l : List Part} {P : State → Prop} {u : State} {g' : Target} {arg : DWord}
    {w : List (Nat × List Byte)}
    (a : Admits h op least g pends s idx t) (e : exec c s = hostCmd h op least g pends body s) (b : body t = .later g' arg u w)
    (p : u.pending = t.pending) (tb : u.tim.tb = t.tim.tb) (k : u.cmd = t.cmd) (f : KeepsBut (.cmd :: .win :: l) t u)
    (q : P { putTaken h op idx (some (reply .pending))
      { u with cmd := { u.cmd with pend := u.cmd.pend ++ [pendOf h op g' t.tim.tb arg] } } with win := writeAll t.win w }) :
    Pends c h op idx s t (pendOf h op g' t.tim.tb arg) (.win :: l) P := by
  obtain ⟨b1, b2, b3⟩ := admits_base a
  refine ⟨_, ?_, ?_, ?_, ?_, ?_, q⟩
  · rw [e, hostCmd_later a b, ← b1]
    exact doneWin_of_keeps _ (p.trans b2) (tb.trans (by rw [b3]))
  · show u.cmd.taken ++ _ = _; rw [k]; rfl
  · show u.cmd.pend ++ _ = _; rw [k]
  · show u.cmd.held = _; rw [k]
  · refine keepsBut_trans f ?_
    intro x hx
    cases x <;> first | (simp at hx; done) | exact Eq.refl _

/-- `Finishes` from a body that answers PENDING and completes within the row. -/
theorem finishes_of {c : Instr} {r : Reply} {l : List Part} {P : State → Prop} {u : State}
    (a : Admits h op least g pends s idx t) (e : exec c s = hostCmd h op least g pends body s)
    (b : body t = .now (reply .pending) u [])
    (w : u.win = t.win) (p : u.pending = t.pending) (tb : u.tim.tb = t.tim.tb)
    (k1 : u.cmd.taken = t.cmd.taken) (k2 : u.cmd.pend = t.cmd.pend)
    (k3 : u.cmd.held = t.cmd.held ++ [{ op := BitVec.ofNat 16 op, tag := h.tag, reply := r }]) (f : KeepsBut (.cmd :: l) t u)
    (q : P (putTaken h op idx (some (reply .pending)) u)) : Finishes c h op idx s t r l P := by
  refine ⟨_, e.trans (hostCmd_now_settle a b w p tb), ?_, ?_, ?_, ?_, q⟩
  · show u.cmd.taken ++ _ = _; rw [k1]; rfl
  · exact k2
  · exact k3
  · exact keepsBut_trans f (keepsBut_mono (putTaken_keeps _ _ _ _ _) (by intro x hx; simp at hx; simp [hx]))

/-- `Stays` from a body whose descriptor waits in place. -/
theorem stays_of {c : Instr} {l : List Part} {P : State → Prop} {u : State}
    (a : Admits h op least g pends s idx t) (e : exec c s = hostCmd h op least g pends body s) (b : body t = .wait u)
    (w : u.win = t.win) (p : u.pending = t.pending) (tb : u.tim.tb = t.tim.tb) (k : u.cmd = t.cmd) (f : KeepsBut (.cmd :: l) t u)
    (q : P (putTaken h op idx none u)) : Stays c h op idx s t l P := by
  refine ⟨_, e.trans (hostCmd_wait_settle a b w p tb), ?_, ?_, ?_, ?_, q⟩
  · show u.cmd.taken ++ _ = _; rw [k]; rfl
  · show u.cmd.pend = _; rw [k]
  · show u.cmd.held = _; rw [k]
  · exact keepsBut_trans f (keepsBut_mono (putTaken_keeps _ _ _ _ _) (by intro x hx; simp at hx; simp [hx]))

/-- `AnswersWith` from what the body answers. -/
theorem answersWith_of {c : Instr} {r : Reply} {u : State} (a : Admits h op least g pends s idx t)
    (e : exec c s = hostCmd h op least g pends body s) (b : body t = .now r u []) : AnswersWith c h op idx s r u := by
  have k : doneWin s (writeAll s.win []) (putTaken h op idx (some r) u) = done s (putTaken h op idx (some r) u) := rfl
  unfold AnswersWith
  rw [e, hostCmd_now a b, k]

/-- `Accepts` from what the body answers. -/
theorem accepts_of {c : Instr} {g' : Target} {work : State → State} (a : Admits h op least g pends s idx t)
    (e : exec c s = hostCmd h op least g pends body s) (b : body t = .now (reply .pending) (work (addPend h op g' 0 t)) []) :
    Accepts c h op g' idx s t work :=
  answersWith_of a e b

end

end Sys2Proof.Safety
end

