-- ==== Sys2Proof/Laws/Shared.lean ====
section
/-! SUPPORT. What the operations that several chapters share leave alone: faults, connection states, frames of the links,
restages and the quench matrix. One frame per operation. -/

namespace Sys2Proof.Safety

open Sys2Proof.Machine

/-! ## Commands in hand -/

theorem finishAll_keeps (f : Pend → Bool) (r : Pend → Reply) (s : State) : KeepsBut [.cmd] s (finishAll f r s) := by
  intro p hp; cases p <;> first | (simp at hp; done) | exact Eq.refl _

theorem completeTaken_keeps (op : Nat) (r : Reply) (s : State) : KeepsBut [.cmd] s (completeTaken op r s) := by
  intro p hp; cases p <;> first | (simp at hp; done) | exact Eq.refl _

/-- A frame of a loop from that of its body. -/
theorem forEach_keeps {α : Type} {l : List Part} (xs : List α) (f : α → State → State) (s : State)
    (h : ∀ a t, KeepsBut l t (f a t)) : KeepsBut l s (forEach xs f s) := by
  unfold forEach
  induction xs generalizing s with
  | nil => exact keepsBut_refl _ _
  | cons x xs ih => exact keepsBut_trans (h x s) (ih _)

/-! ## One entry of a field -/

theorem modPort_keeps (p : Chan) (f : PortSt → PortSt) (s : State) : KeepsBut [.ports] s (modPort p f s) := by
  intro p hp; cases p <;> first | (simp at hp; done) | exact Eq.refl _
theorem modTxn_keeps (p : Chan) (f : TxnSt → TxnSt) (s : State) : KeepsBut [.txns] s (modTxn p f s) := by
  intro p hp; cases p <;> first | (simp at hp; done) | exact Eq.refl _
theorem modMeas_keeps (n : Chan) (f : MeasSt → MeasSt) (s : State) : KeepsBut [.meas] s (modMeas n f s) := by
  intro p hp; cases p <;> first | (simp at hp; done) | exact Eq.refl _
theorem modIns_keeps (n : Chan) (f : InsCh → InsCh) (s : State) : KeepsBut [.insCh] s (modIns n f s) := by
  intro p hp; cases p <;> first | (simp at hp; done) | exact Eq.refl _
theorem modAsy_keeps (n : Chan) (f : AsyCh → AsyCh) (s : State) : KeepsBut [.asyCh] s (modAsy n f s) := by
  intro p hp; cases p <;> first | (simp at hp; done) | exact Eq.refl _
theorem modCyc_keeps (n : Chan) (f : CycCh → CycCh) (s : State) : KeepsBut [.cyc] s (modCyc n f s) := by
  intro p hp; cases p <;> first | (simp at hp; done) | exact Eq.refl _
theorem modCon_keeps (n : Chan) (f : ConCh → ConCh) (s : State) : KeepsBut [.con] s (modCon n f s) := by
  intro p hp; cases p <;> first | (simp at hp; done) | exact Eq.refl _
theorem modThm_keeps (n : Chan) (f : ThmCh → ThmCh) (s : State) : KeepsBut [.thmCh] s (modThm n f s) := by
  intro p hp; cases p <;> first | (simp at hp; done) | exact Eq.refl _
theorem modLo_keeps (o : LoadOut) (f : LoSt → LoSt) (s : State) : KeepsBut [.lo] s (modLo o f s) := by
  intro p hp; cases p <;> first | (simp at hp; done) | exact Eq.refl _
theorem modBus_keeps (b : BusId) (f : BusOne → BusOne) (s : State) : KeepsBut [.bus] s (modBus b f s) := by
  intro p hp; cases p <;> first | (simp at hp; done) | exact Eq.refl _
theorem modTs_keeps (i : TempIn) (f : TsSt → TsSt) (s : State) : KeepsBut [.thm] s (modTs i f s) := by
  intro p hp; cases p <;> first | (simp at hp; done) | exact Eq.refl _
theorem modTrip_keeps (i : TripIn) (f : TripSt → TripSt) (s : State) : KeepsBut [.qm] s (modTrip i f s) := by
  intro p hp; cases p <;> first | (simp at hp; done) | exact Eq.refl _
theorem modLane_keeps (l : SeamLane) (f : LaneSt → LaneSt) (s : State) : KeepsBut [.twn] s (modLane l f s) := by
  intro p hp; cases p <;> first | (simp at hp; done) | exact Eq.refl _

/-! ## Faults (17) -/

theorem modFault_keeps (id : Word) (f : FaultRec → FaultRec) (s : State) : KeepsBut [.flt] s (modFault id f s) := by
  intro p hp; cases p <;> first | (simp at hp; done) | exact Eq.refl _

theorem openFault_keeps (cause subject level : Nat) (b : Bool) (origin : Nat) (s : State) :
    KeepsBut [.flt, .ev] s (openFault cause subject level b origin s) := by
  unfold openFault
  dsimp only
  refine keepsBut_trans ?_ (keepsBut_sub _ (raiseAt_keeps _ _ _ _ _ _ _) rfl)
  have k (t : State) (h : KeepsBut [.flt, .ev] s t) (g : FltSt) : KeepsBut [.flt, .ev] s { t with flt := g } := by
    refine keepsBut_trans h ?_
    intro p hp; cases p <;> first | (simp at hp; done) | exact Eq.refl _
  refine k _ ?_ _
  split
  · exact keepsBut_ite (keepsBut_sub _ (modFault_keeps _ _ _) rfl) (keepsBut_refl _ _)
  · exact keepsBut_refl _ _

theorem declareStorm_keeps (s : State) : KeepsBut [.flt, .ev] s (declareStorm s) := by
  unfold declareStorm
  split
  · exact keepsBut_refl _ _
  · refine keepsBut_trans ?_ (openFault_keeps _ _ _ _ _ _)
    refine keepsBut_trans ?_ (keepsBut_sub _ (raiseAt_keeps _ _ _ _ _ _ _) rfl)
    intro p hp; cases p <;> first | (simp at hp; done) | exact Eq.refl _

/-- Raising a fault touches the handler and the events. -/
theorem raiseFault_keeps (cause subject level : Nat) (b : Bool) (origin : Nat) (s : State) :
    KeepsBut [.flt, .ev] s (raiseFault cause subject level b origin s) := by
  unfold raiseFault
  split
  · intro p hp; cases p <;> first | (simp at hp; done) | exact Eq.refl _
  · dsimp only
    split
    · split
      · exact keepsBut_trans (declareStorm_keeps _) (openFault_keeps _ _ _ _ _ _)
      · refine keepsBut_trans (declareStorm_keeps _) ?_
        intro p hp; cases p <;> first | (simp at hp; done) | exact Eq.refl _
    · exact openFault_keeps _ _ _ _ _ _

theorem nextCurrent_keeps (s : State) : KeepsBut [.flt] s (nextCurrent s) := by
  unfold nextCurrent
  split <;> intro p hp <;> cases p <;> first | (simp at hp; done) | exact Eq.refl _

theorem closeFault_keeps (r : FaultRec) (how : Nat) (s : State) : KeepsBut [.flt, .ev] s (closeFault r how s) := by
  unfold closeFault
  dsimp only
  refine keepsBut_trans ?_ (keepsBut_sub _ (raiseAt_keeps _ _ _ _ _ _ _) rfl)
  have k (g : FltSt) : KeepsBut [.flt, .ev] s { s with flt := g } := by
    intro p hp; cases p <;> first | (simp at hp; done) | exact Eq.refl _
  split
  · exact keepsBut_trans (k _) (keepsBut_sub _ (nextCurrent_keeps _) rfl)
  · exact k _

/-- So does the end of a fault's cause. -/
theorem endFault_keeps (cause subject : Nat) (s : State) : KeepsBut [.flt, .ev] s (endFault cause subject s) := by
  unfold endFault
  split
  · exact keepsBut_refl _ _
  · split
    · exact keepsBut_refl _ _
    · split
      · exact closeFault_keeps _ _ _
      · split
        · exact closeFault_keeps _ _ _
        · dsimp only
          split
          · exact keepsBut_trans (keepsBut_sub _ (modFault_keeps _ _ _) rfl) (keepsBut_sub _ (nextCurrent_keeps _) rfl)
          · intro p hp; cases p <;> first | (simp at hp; done) | exact Eq.refl _

theorem endL1_keeps (cause subject : Nat) (s : State) : KeepsBut [.flt, .ev] s (endL1 cause subject s) := by
  unfold endL1
  split
  · exact keepsBut_refl _ _
  · exact closeFault_keeps _ _ _

theorem openL0_keeps (g origin : Nat) (s : State) : KeepsBut [.flt, .ev] s (openL0 g origin s) := by
  unfold openL0
  split
  · intro p hp; cases p <;> first | (simp at hp; done) | exact Eq.refl _
  · refine keepsBut_trans ?_ (keepsBut_sub _ (raiseAt_keeps _ _ _ _ _ _ _) rfl)
    intro p hp; cases p <;> first | (simp at hp; done) | exact Eq.refl _

/-! ## Links and seam -/

theorem sendBody_keeps (p : Chan) (b : DownBody) (s : State) : KeepsBut [.txns] s (sendBody p b s) := modTxn_keeps _ _ _
theorem sendPlain_keeps (p : Chan) (s : State) : KeepsBut [.txns] s (sendPlain p s) := modTxn_keeps _ _ _
theorem sendCmd_keeps (p : Chan) (code : Nat) (args : List Byte) (q : CmdPurpose) (s : State) :
    KeepsBut [.txns] s (sendCmd p code args q s) := keepsBut_trans (modTxn_keeps _ _ _) (sendBody_keeps _ _ _)

theorem streamReset_keeps (p : Chan) (b : Bool) (s : State) : KeepsBut [.txns, .ev] s (streamReset p b s) := by
  unfold streamReset
  dsimp only
  split
  · exact keepsBut_sub _ (modTxn_keeps _ _ _) rfl
  · exact keepsBut_trans (keepsBut_sub _ (modTxn_keeps _ _ _) rfl) (keepsBut_sub _ (raise_keeps _ _ _ _) rfl)

theorem seamFrames_keeps (l : SeamLane) (n : Nat) (s : State) : KeepsBut [.twn] s (seamFrames l n s) := by
  unfold seamFrames
  split
  · exact keepsBut_refl _ _
  · intro p hp; cases p <;> first | (simp at hp; done) | exact Eq.refl _

theorem seamBoth_keeps (s : State) : KeepsBut [.twn] s (seamBoth s) := keepsBut_trans (seamFrames_keeps _ _ _) (seamFrames_keeps _ _ _)

theorem sendSeam_keeps (o : SeamOut) (s : State) : KeepsBut [.twn] s (sendSeam o s) := by
  unfold sendSeam
  dsimp only
  split
  · exact keepsBut_refl _ _
  · refine keepsBut_trans (seamFrames_keeps (reliableLane s) 1 s) ?_
    intro p hp; cases p <;> first | (simp at hp; done) | exact Eq.refl _

theorem seamAgain_keeps (ack : Half) (s : State) : KeepsBut [.twn] s (seamAgain ack s) := seamFrames_keeps _ _ _

/-! ## Staging (08) -/

theorem sendSched_keeps (p : Chan) (g : Word) (first h : Nat) (c : Bool) (l : List SchedEntry) (s : State) :
    KeepsBut [.txns, .stg, .free] s (sendSched p g first h c l s) := by
  have core (r : Bool × State) (f : TxnSt → TxnSt) (kr : KeepsBut [.txns, .stg, .free] s r.2) : KeepsBut [.txns, .stg, .free] s
      (modTxn p f (if r.1 then (let s := sendPlain p (sendPlain p r.2); { s with stg := { s.stg with splits := s.stg.splits + 1 } })
        else sendPlain p r.2)) := by
    refine keepsBut_trans ?_ (keepsBut_sub _ (modTxn_keeps _ _ _) rfl)
    split
    · refine keepsBut_trans kr ?_
      intro p hp; cases p <;> first | (simp at hp; done) | exact Eq.refl _
    · exact keepsBut_trans kr (keepsBut_sub _ (sendPlain_keeps _ _) rfl)
  unfold sendSched
  refine core _ _ ?_
  generalize (if c = true then splitCase s p first l.length else some false) = o
  cases o
  · intro p hp; cases p <;> first | (simp at hp; done) | exact Eq.refl _
  · exact keepsBut_refl _ _

theorem mirrorSet_keeps (g : Word) (first : Nat) (b : Bool) (x : PeriodSet) (l : List (Chan × List PeriodPlan)) (s : State) :
    KeepsBut [.twn] s (mirrorSet g first b x l s) := by
  unfold mirrorSet
  dsimp only
  split
  · refine keepsBut_trans ?_ (seamBoth_keeps _)
    intro p hp; cases p <;> first | (simp at hp; done) | exact Eq.refl _
  · intro p hp; cases p <;> first | (simp at hp; done) | exact Eq.refl _

theorem closeSegment_keeps (start : Nat) (x : PeriodSet) (s : State) : KeepsBut [.ins, .asy, .asyCh] s (closeSegment start x s) := by
  unfold closeSegment
  dsimp only
  refine keepsBut_trans (t := { s with ins := _, asy := _ }) ?_ (forEach_keeps _ _ _ ?_)
  · intro p hp; cases p <;> first | (simp at hp; done) | exact Eq.refl _
  · intro a t
    split
    · exact keepsBut_sub _ (modAsy_keeps _ _ _) rfl
    · exact keepsBut_refl _ _

/-- The parts that forming a generation may change. -/
def stagedParts : List Part := [.txns, .stg, .free, .twn, .insCh, .ins, .asy, .asyCh]

theorem formHorizon_keeps (c : Bool) (first h : Nat) (s : State) : KeepsBut stagedParts s (formHorizon c first h s) := by
  unfold formHorizon
  dsimp only
  refine keepsBut_trans ?_ (forEach_keeps _ _ _ (fun a t => keepsBut_sub _ (modIns_keeps _ _ _) rfl))
  generalize hm : (if isMaster s = true then _ else s : State) = m
  have km : KeepsBut stagedParts s m := by
    rw [← hm]
    split
    · have k1 (t : State) (h1 : KeepsBut stagedParts s t) (l : List Chan) (f : Chan → State → State)
          (hf : ∀ a t, KeepsBut stagedParts t (f a t)) : KeepsBut stagedParts s (forEach l f t) :=
        keepsBut_trans h1 (forEach_keeps _ _ _ hf)
      have k0 (x : StgSt) : KeepsBut stagedParts s { useGen s with stg := x } := by
        intro p hp; cases p <;> first | (simp [stagedParts] at hp; done) | exact Eq.refl _
      split
      · refine keepsBut_trans ?_ (keepsBut_sub _ (mirrorSet_keeps _ _ _ _ _ _) rfl)
        exact k1 _ (k0 _) _ _ (fun a t => keepsBut_sub _ (sendSched_keeps _ _ _ _ _ _ _) rfl)
      · exact k1 _ (k0 _) _ _ (fun a t => keepsBut_sub _ (sendSched_keeps _ _ _ _ _ _ _) rfl)
    · exact keepsBut_refl _ _
  refine keepsBut_trans km ?_
  split
  · have loop {α : Type} (l : List α) (f : α → State → State) (t : State) (h1 : KeepsBut stagedParts m t)
        (hf : ∀ a t, KeepsBut stagedParts t (f a t)) : KeepsBut stagedParts m (forEach l f t) :=
      keepsBut_trans h1 (forEach_keeps _ _ _ hf)
    have last (t : State) (h1 : KeepsBut stagedParts m t) (o : Option PeriodSet) :
        KeepsBut stagedParts m (match o with
          | some x => closeSegment first x t
          | none => t) := by
      cases o
      · exact h1
      · exact keepsBut_trans h1 (keepsBut_sub _ (closeSegment_keeps _ _ _) rfl)
    refine last _ ?_ _
    split
    · refine loop _ _ _ ?_ ?_
      · refine loop _ _ _ (loop _ _ _ (keepsBut_refl _ _) ?_) ?_
        · intro a t; split
          · exact keepsBut_sub _ (modIns_keeps _ _ _) rfl
          · exact keepsBut_refl _ _
        · intro a t; exact keepsBut_sub _ (modIns_keeps _ _ _) rfl
      · intro a t; split
        · exact keepsBut_refl _ _
        · exact keepsBut_sub _ (modIns_keeps _ _ _) rfl
    · refine loop _ _ _ (loop _ _ _ (keepsBut_refl _ _) ?_) ?_
      · intro a t; split
        · exact keepsBut_sub _ (modIns_keeps _ _ _) rfl
        · exact keepsBut_refl _ _
      · intro a t; exact keepsBut_sub _ (modIns_keeps _ _ _) rfl
  · exact keepsBut_refl _ _

/-- A restage changes what forming a generation changes, and says so. -/
theorem restageFor_keeps (cause : Nat) (s : State) : KeepsBut (.ev :: stagedParts) s (restageFor cause s).2 := by
  have kn : KeepsBut (.ev :: stagedParts) s (restageNow s).2 := by
    unfold restageNow
    split
    · exact keepsBut_refl _ _
    · have h := keepsBut_sub (.ev :: stagedParts) (formHorizon_keeps false (nextStart s) (max 1 (pNat s Prm.insHorizon)) s) rfl
      refine keepsBut_trans h ?_
      intro p hp; cases p <;> first | (simp [stagedParts] at hp; done) | exact Eq.refl _
  unfold restageFor
  split
  · exact keepsBut_refl _ _
  · dsimp only
    split
    · refine keepsBut_trans kn ?_
      intro p hp; cases p <;> first | (simp [stagedParts] at hp; done) | exact Eq.refl _
    · refine keepsBut_trans kn ?_
      intro p hp; cases p <;> first | (simp [stagedParts] at hp; done) | exact Eq.refl _
    · exact keepsBut_trans kn (keepsBut_sub _ (raise_keeps _ _ _ _) rfl)

/-! ## Channel connection (11) -/

theorem chEvent_keeps (code : Nat) (n : Chan) (a b c : Nat) (h e : Bool) (k : Nat) (s : State) :
    KeepsBut [.ev] s (chEvent code n a b c h e k s) := raise_keeps _ _ _ _

theorem markDirty_keeps (n : Chan) (s : State) : KeepsBut [.twn] s (markDirty n s) := by
  intro p hp; cases p <;> first | (simp at hp; done) | exact Eq.refl _

theorem abortCycle_keeps (n : Chan) (reason : Nat) (s : State) : KeepsBut [.con, .cyc, .ev] s (abortCycle n reason s) := by
  unfold abortCycle
  dsimp only
  split
  · exact keepsBut_refl _ _
  · split
    · exact keepsBut_trans (keepsBut_sub _ (modCon_keeps _ _ _) rfl) (keepsBut_sub _ (modCyc_keeps _ _ _) rfl)
    · refine keepsBut_trans ?_ (keepsBut_sub _ (raise_keeps _ _ _ _) rfl)
      exact keepsBut_trans (keepsBut_sub _ (modCon_keeps _ _ _) rfl) (keepsBut_sub _ (modCyc_keeps _ _ _) rfl)

theorem dropService_keeps (n : Chan) (st : Status) (s : State) : KeepsBut [.con, .img, .twn, .cmd] s (dropService n st s) := by
  unfold dropService
  split
  · exact keepsBut_refl _ _
  · refine keepsBut_trans ?_ (keepsBut_sub _ (finishAll_keeps _ _ _) rfl)
    intro p hp; cases p <;> first | (simp at hp; done) | exact Eq.refl _

/-- The parts that a change of a channel's connection state may change. -/
def chParts : List Part := [.con, .cyc, .ev, .img, .twn, .cmd, .insCh, .store]

theorem setCh_keeps (n : Chan) (new : ChState) (cause : Nat) (host : Bool) (s : State) : KeepsBut chParts s (setCh n new cause host s) := by
  unfold setCh
  dsimp only
  split
  · exact keepsBut_refl _ _
  · refine keepsBut_trans ?_ (keepsBut_sub _ (markDirty_keeps _ _) rfl)
    refine keepsBut_trans ?_ (keepsBut_sub _ (chEvent_keeps _ _ _ _ _ _ _ _ _) rfl)
    have step (b : Bool) (f : State → State) (hf : ∀ t, KeepsBut chParts t (f t)) (t : State) (h : KeepsBut chParts s t) :
        KeepsBut chParts s (if b = true then f t else t) := by
      split
      · exact keepsBut_trans h (hf t)
      · exact h
    have k0 : KeepsBut chParts s (modCon n (fun c => { c with state := new, cause := BitVec.ofNat 8 cause }) s) :=
      keepsBut_sub _ (modCon_keeps _ _ _) rfl
    have k1 : KeepsBut chParts s (if s.con[n].state = .active then abortCycle n 1 (modCon n (fun c => { c with state := new, cause := BitVec.ofNat 8 cause }) s)
        else modCon n (fun c => { c with state := new, cause := BitVec.ofNat 8 cause }) s) := by
      split
      · exact keepsBut_trans k0 (keepsBut_sub _ (abortCycle_keeps _ _ _) rfl)
      · exact k0
    generalize (if s.con[n].state = .active then abortCycle n 1 (modCon n (fun c => { c with state := new, cause := BitVec.ofNat 8 cause }) s)
        else modCon n (fun c => { c with state := new, cause := BitVec.ofNat 8 cause }) s) = t1 at k1
    have k2 : KeepsBut chParts s (if serviceable new = true then t1 else dropService n (if new = .fenced then .fenced else .wrongState) t1) := by
      split
      · exact k1
      · exact keepsBut_trans k1 (keepsBut_sub _ (dropService_keeps _ _ _) rfl)
    generalize (if serviceable new = true then t1 else dropService n (if new = .fenced then .fenced else .wrongState) t1) = t2 at k2
    have k3 (f : InsCh → InsCh) : KeepsBut chParts s (if new = .active then modIns n f t2 else t2) := by
      split
      · exact keepsBut_trans k2 (keepsBut_sub _ (modIns_keeps _ _ _) rfl)
      · exact k2
    split
    · exact keepsBut_trans (k3 _) (keepsBut_sub _ (queueWrite_keeps _ _) rfl)
    · exact k3 _

theorem endSeq_keeps (n : Chan) (st : Status) (s : State) : KeepsBut [.con, .twn, .cmd] s (endSeq n st s) := by
  unfold endSeq
  dsimp only
  have k : KeepsBut [.con, .twn, .cmd] s (markDirty n (modCon n (fun c => { c with seq := none }) s)) :=
    keepsBut_trans (keepsBut_sub _ (modCon_keeps _ _ _) rfl) (keepsBut_sub _ (markDirty_keeps _ _) rfl)
  split
  · exact keepsBut_trans k (keepsBut_sub _ (finishAll_keeps _ _ _) rfl)
  · exact k

theorem startSeq_keeps (n : Chan) (kind : SeqKind) (st : ConStep) (h : Bool) (cause : Nat) (s : State) :
    KeepsBut [.con, .cyc, .ev, .twn] s (startSeq n kind st h cause s) := by
  unfold startSeq
  dsimp only
  refine keepsBut_trans (keepsBut_sub _ (abortCycle_keeps n 1 s) rfl) ?_
  exact keepsBut_trans (keepsBut_sub _ (modCon_keeps _ _ _) rfl) (keepsBut_sub _ (markDirty_keeps _ _) rfl)

theorem sendAbort_keeps (p : Chan) (a : Byte) (s : State) : KeepsBut [.stg, .txns, .insCh] s (sendAbort p a s) := by
  unfold sendAbort
  split
  · intro p hp; cases p <;> first | (simp at hp; done) | exact Eq.refl _
  · exact keepsBut_refl _ _

/-! ## Decisions and the quench matrix (11 R340; 08 R244) -/

theorem protect_keeps (n : Chan) (cause : Nat) (b : Bool) (s : State) : KeepsBut decideParts s (protect n cause b s) := by
  have k0 (f : ConCh → ConCh) : KeepsBut decideParts s (modCon n f s) := keepsBut_sub _ (modCon_keeps _ _ _) rfl
  have k1 (c : Prop) [Decidable c] (t : State) (h : KeepsBut decideParts s t) :
      KeepsBut decideParts s (if c then setCh n .bypass cause false t else t) := by
    split
    · exact keepsBut_trans h (keepsBut_sub _ (setCh_keeps _ _ _ _ _) rfl)
    · exact h
  have k2 (c : Prop) [Decidable c] (t : State) (h : KeepsBut decideParts s t) :
      KeepsBut decideParts s (if c then sendAbort n 0xB4 t else t) := by
    split
    · exact keepsBut_trans h (keepsBut_sub _ (sendAbort_keeps _ _ _) rfl)
    · exact h
  unfold protect
  dsimp only
  split
  · exact k2 _ _ (k1 _ _ (k0 _))
  · refine keepsBut_trans ?_ (keepsBut_sub _ (markDirty_keeps _ _) rfl)
    refine keepsBut_trans ?_ (keepsBut_sub _ (restageFor_keeps 2 _) rfl)
    exact keepsBut_trans (k2 _ _ (k1 _ _ (k0 _))) (keepsBut_sub _ (chEvent_keeps _ _ _ _ _ _ _ _ _) rfl)

theorem unprotect_keeps (n : Chan) (cause : Nat) (s : State) : KeepsBut decideParts s (unprotect n cause s) := by
  unfold unprotect
  split
  · refine keepsBut_trans ?_ (keepsBut_sub _ (markDirty_keeps _ _) rfl)
    refine keepsBut_trans ?_ (keepsBut_sub _ (restageFor_keeps 2 _) rfl)
    exact keepsBut_trans (keepsBut_sub _ (modCon_keeps _ _ _) rfl) (keepsBut_sub _ (chEvent_keeps _ _ _ _ _ _ _ _ _) rfl)
  · exact keepsBut_refl _ _

theorem countDecision_keeps (n : Chan) (c : Nat) (s : State) : KeepsBut [.con] s (countDecision n c s).2 := by
  unfold countDecision
  split
  · exact modCon_keeps _ _ _
  · exact keepsBut_refl _ _

theorem abandon_keeps (n : Chan) (st : Status) (s : State) : KeepsBut decideParts s (abandon n st s) := by
  unfold abandon
  split
  · exact keepsBut_refl _ _
  · refine keepsBut_trans ?_ (keepsBut_sub _ (endSeq_keeps _ _ _) rfl)
    split
    · exact keepsBut_sub _ (raise_keeps _ _ _ _) rfl
    · exact keepsBut_refl _ _

theorem startDisc_keeps (n : Chan) (k : SeqKind) (h : Bool) (cause : Nat) (b : Bool) (s : State) :
    KeepsBut decideParts s (startDisc n k h cause b s) := by
  unfold startDisc
  dsimp only
  refine keepsBut_trans ?_ (keepsBut_sub _ (startSeq_keeps _ _ _ _ _ _) rfl)
  split
  · exact keepsBut_sub _ (modCon_keeps _ _ _) rfl
  · exact protect_keeps _ _ _ _

theorem decideFence_keeps (n : Chan) (c : Nat) (s : State) : KeepsBut decideParts s (decideFence n c s) := by
  have k := keepsBut_sub decideParts (countDecision_keeps n c s) rfl
  unfold decideFence
  dsimp only
  split
  · refine keepsBut_trans ?_ (keepsBut_sub _ (raiseFault_keeps _ _ _ _ _ _) rfl)
    exact keepsBut_trans k (keepsBut_sub _ (modCon_keeps _ _ _) rfl)
  · refine keepsBut_trans ?_ (keepsBut_sub _ (raiseFault_keeps _ _ _ _ _ _) rfl)
    exact keepsBut_trans k (keepsBut_sub _ (modCon_keeps _ _ _) rfl)

theorem decideRetire_keeps (n : Chan) (c : Nat) (s : State) : KeepsBut decideParts s (decideRetire n c s) := by
  unfold decideRetire
  dsimp only
  refine keepsBut_trans ?_ (keepsBut_sub _ (raiseFault_keeps _ _ _ _ _ _) rfl)
  refine keepsBut_trans ?_ (keepsBut_sub _ (modCon_keeps _ _ _) rfl)
  split
  · exact keepsBut_sub _ (modCon_keeps _ _ _) rfl
  · exact keepsBut_refl _ _

theorem decideDisconnect_keeps (n : Chan) (c : Nat) (b : Bool) (s : State) : KeepsBut decideParts s (decideDisconnect n c b s) := by
  have k := keepsBut_sub decideParts (countDecision_keeps n c s) rfl
  unfold decideDisconnect
  split
  · exact keepsBut_refl _ _
  · dsimp only
    split
    · refine keepsBut_trans ?_ (keepsBut_sub _ (raiseFault_keeps _ _ _ _ _ _) rfl)
      exact keepsBut_trans k (keepsBut_sub _ (modCon_keeps _ _ _) rfl)
    · exact keepsBut_trans (keepsBut_trans k (abandon_keeps _ _ _)) (startDisc_keeps _ _ _ _ _ _)

theorem decideHold_keeps (n : Chan) (c : Nat) (b : Bool) (s : State) : KeepsBut decideParts s (decideHold n c b s) := by
  unfold decideHold
  split
  · exact keepsBut_refl _ _
  · dsimp only
    refine keepsBut_trans ?_ (protect_keeps _ _ _ _)
    split
    · exact abandon_keeps _ _ _
    · exact keepsBut_refl _ _

theorem actOn_keeps (n : Chan) (c : Nat) (s : State) : KeepsBut decideParts s (actOn n c s) := by
  unfold actOn
  split
  all_goals first
    | exact decideDisconnect_keeps _ _ _ _
    | exact decideHold_keeps _ _ _ _
    | exact keepsBut_refl _ _
    | skip
  all_goals split
  all_goals first
    | exact decideDisconnect_keeps _ _ _ _
    | exact decideHold_keeps _ _ _ _
    | exact decideRetire_keeps _ _ _
    | exact decideFence_keeps _ _ _
    | exact keepsBut_refl _ _

/-- A cause that becomes present changes what decisions change. -/
theorem causeOn_keeps (n : Chan) (c : Nat) (s : State) : KeepsBut decideParts s (causeOn n c s) := by
  unfold causeOn
  split
  · exact keepsBut_refl _ _
  · exact keepsBut_trans (keepsBut_trans (keepsBut_sub _ (modCon_keeps _ _ _) rfl) (keepsBut_sub _ (markDirty_keeps _ _) rfl))
      (actOn_keeps _ _ _)

/-- So does one that clears. -/
theorem causeOff_keeps (n : Chan) (c : Nat) (s : State) : KeepsBut decideParts s (causeOff n c s) := by
  unfold causeOff
  split
  · exact keepsBut_refl _ _
  · dsimp only
    refine keepsBut_trans ?_ (unprotect_keeps _ _ _)
    have k (f : ConCh → ConCh) : KeepsBut decideParts s (endFault (0x0200 + c) n.val (markDirty n (modCon n f s))) := by
      refine keepsBut_trans ?_ (keepsBut_sub _ (endFault_keeps _ _ _) rfl)
      exact keepsBut_trans (keepsBut_sub _ (modCon_keeps _ _ _) rfl) (keepsBut_sub _ (markDirty_keeps _ _) rfl)
    split
    · exact keepsBut_trans (k _) (keepsBut_sub _ (modCon_keeps _ _ _) rfl)
    · exact k _

/-- The parts that a quench may change. -/
def quenchParts : List Part := .qm :: .bus :: decideParts

theorem keepsBut_cond {l : List Part} {c : Prop} [Decidable c] {s t u : State} (h : KeepsBut l s t) (k : KeepsBut l t u) :
    KeepsBut l s (if c then u else t) := by
  split
  · exact keepsBut_trans h k
  · exact h

theorem seqStep_keeps (n : Chan) (st : ConStep) (s : State) : KeepsBut [.con, .twn] s (seqStep n st s) :=
  keepsBut_trans (keepsBut_sub _ (modCon_keeps _ _ _) rfl) (keepsBut_sub _ (markDirty_keeps _ _) rfl)

theorem quenchChan_keeps (n : Chan) (s : State) : KeepsBut decideParts s (quenchChan n s) := by
  unfold quenchChan
  dsimp only
  refine keepsBut_ite ?_ ?_
  · refine keepsBut_cond ?_ (keepsBut_sub _ (seqStep_keeps _ _ _) rfl)
    refine keepsBut_cond ?_ (keepsBut_sub _ (endSeq_keeps _ _ _) rfl)
    refine keepsBut_trans ?_ (keepsBut_sub _ (setCh_keeps _ _ _ _ _) rfl)
    refine keepsBut_trans ?_ (keepsBut_sub _ (modCon_keeps _ _ _) rfl)
    refine keepsBut_cond ?_ (keepsBut_sub _ (raise_keeps _ _ _ _) rfl)
    exact keepsBut_cond (keepsBut_refl _ _) (keepsBut_sub _ (modIns_keeps _ _ _) rfl)
  · exact keepsBut_cond (keepsBut_refl _ _) (keepsBut_sub _ (modIns_keeps _ _ _) rfl)

theorem queueTrip_keeps (b : BusId) (f : Trip0) (s : State) : KeepsBut [.bus] s (queueTrip b f s) := modBus_keeps _ _ _

theorem broadcastTrip_keeps (m : Byte) (c : QCause) (s : State) : KeepsBut [.bus] s (broadcastTrip m c s) := by
  unfold broadcastTrip
  dsimp only
  split
  · exact keepsBut_refl _ _
  · refine forEach_keeps _ _ _ ?_
    intro a t
    refine keepsBut_trans ?_ (forEach_keeps _ _ _ (fun b u => queueTrip_keeps b _ u))
    intro p hp; cases p <;> first | (simp at hp; done) | exact Eq.refl _

theorem latch_keeps (m : Byte) (c : QCause) (s : State) : KeepsBut quenchParts s (latch m c s) := by
  unfold latch
  dsimp only
  have k0 (q : QmSt) (a b : Nat) (l : List Nat) : KeepsBut quenchParts s (raise a b l { s with qm := q }) := by
    refine keepsBut_trans ?_ (keepsBut_sub _ (raise_keeps _ _ _ _) rfl)
    intro p hp; cases p <;> first | (simp [quenchParts, decideParts] at hp; done) | exact Eq.refl _
  split
  · exact k0 _ _ _ _
  · refine keepsBut_trans ?_ (forEach_keeps _ _ _ (fun a t => forEach_keeps _ _ _ (fun b u => keepsBut_sub _ (quenchChan_keeps b u) rfl)))
    refine keepsBut_trans ?_ (keepsBut_sub _ (broadcastTrip_keeps _ _ _) rfl)
    split
    · exact keepsBut_trans (k0 _ _ _ _) (forEach_keeps _ _ _ (fun a t => keepsBut_sub _ (openL0_keeps _ _ _) rfl))
    · exact k0 _ _ _ _

/-- The matrix changes what a quench changes. -/
theorem evalMatrix_keeps (s : State) : KeepsBut quenchParts s (evalMatrix s) := by
  unfold evalMatrix
  dsimp only
  split
  · exact keepsBut_refl _ _
  · exact latch_keeps _ _ _

end Sys2Proof.Safety
end

