-- ==== Sys2Proof/Machine/SeamOut.lean ====
section
/-! DEFINITION. What the frames hold that the module puts on the seam (12 R356, R361 to R368): functions of the state at the moment a
frame is built. The set of a SET_MIRROR is kept whole in the state (`TwnSt.mirror`). -/

namespace Sys2Proof.Machine

/-- HEARTBEAT (12 *HEARTBEAT payload*): `tx` is the stamp that hardware writes in flight; the arrival stamp is the receiver's. -/
def heartbeatOf (s : State) (tx : Stamp) : Heartbeat :=
  let p := s.twn.partner
  let o := s.twn.offer
  { address := address s, twin := twinBit s, role := BitVec.ofNat 3 (roleCode s), ready := readyBit s, powerFail := s.pwr.warn
    holdupFault := s.pwr.holdupFault, timeOk := s.tim.lock == .locked || s.tim.lock == .holdover, bankB := s.pwr.bank == .b
    seamVer := (runningBank s).seamVer, seamMin := (runningBank s).seamMin, quenched := s.qm.latched, count := s.twn.count
    epoch := epochOf s, genLast := s.stg.genLast, fwCount := s.twn.fwCount, configSeq := s.cfg.seq, image := (runningBank s).version
    tTx := tx, echoTx := (p.map (·.tTx)).getD ⟨0, 0⟩, echoRx := (p.map (·.arrival)).getD ⟨0, 0⟩, arrival := ⟨0, 0⟩
    handoverAt := (o.map (·.at_)).getD 0, handoverEpoch := (o.map (·.epoch)).getD 0, handoverGen := (o.map (·.gen)).getD 0 }

/-! ## STATE_MIRROR (R362, R367) -/

/-- The step of R333 that a sequence stands at; 0 in a disconnection. -/
def stepCode (q : ConSeq) : Nat :=
  match q.kind, q.step with
  | .connect _, .waitBypass => 1
  | .connect _, .openTest => 2
  | .connect _, .prechargeCmd => 3
  | .connect _, .precharging => 3
  | .connect _, .closeCmd => 4
  | .connect _, .closedTest => 4
  | .connect _, .relayOpen => 5
  | .connect _, .release => 6
  | _, _ => 0

/-- *Cell and wire flag entries*: one per cell with PLAUS latched and per wire suspected or confirmed open. -/
def flagsOf (s : State) (n : Chan) : List FlagEntry :=
  let m := s.meas[n]
  let cells := (m.cells.filter (fun c => c.2.plaus)).map (fun c =>
    ({ index := BitVec.ofNat 9 c.1, wire := false, flag := true, isOpen := false, cellFault := false, impChecked := false } : FlagEntry))
  let opens := m.openWires.map (fun w =>
    ({ index := BitVec.ofNat 9 w.wire, wire := true, flag := m.suspects.any (fun x => x.wire == w.wire), isOpen := true,
       cellFault := w.cellFault, impChecked := w.impChecked } : FlagEntry))
  let only := m.suspects.filter (fun x => !m.openWires.any (fun w => w.wire == x.wire))
  cells ++ opens ++ only.map (fun x =>
    ({ index := BitVec.ofNat 9 x.wire, wire := true, flag := true, isOpen := false, cellFault := false, impChecked := false } : FlagEntry))

/-- *Channel bookkeeping entry*, flag entries and count records of a channel. -/
def bookOf (s : State) (n : Chan) : ChanBook :=
  let c := s.con[n]
  let g := s.asyCh[n].grant
  { channel := n, state := BitVec.ofNat 8 c.state.code, step := BitVec.ofNat 3 ((c.seq.map stepCode).getD 0), inSequence := c.seq.isSome
    protective := c.protective, host := c.hostHold, service := c.service, gap := c.gap, rest := c.rest, assayRest := c.assayRest
    present := c.present, fenceCause := if c.state == .fenced then c.fenceCause else 0xFF, fenceK := if c.state == .fenced then BitVec.ofNat 4 c.fenceK else 0
    retireCause := if c.retiredRec || c.retireCause ≠ 0 then c.retireCause else 0xFF, annealAt := c.annealAt.getD 0
    restStart := (g.map (·.1)).getD 0, restLen := BitVec.ofNat 16 ((g.map (·.2)).getD 0)
    retiredNode := if c.retiredRec then c.retiredNode else 0, retiredPack := if c.retiredRec then c.retiredPack else 0
    flags := flagsOf s n
    counts := (c.counts.filter (fun k => decide (k.1.toNat ≤ 16) && decide ((s.tim.station - k.2).toNat < dayTicks))).map
      (fun k => { cause := k.1, time := k.2 }) }

/-- The bookkeeping that a STATE_MIRROR for a set of channels carries. -/
def booksOf (s : State) (channels : DWord) : List ChanBook :=
  (allChans.filter (fun n => channels.getLsbD n.val)).map (bookOf s)

/-! ## RECONCILE (R363, R367) -/

/-- A signed value in the units of its field. -/
def signed (w : Nat) (x : Rat) : BitVec w := BitVec.ofInt w (satI w (toLsb x))

/-- *Group reconciliation entry*. -/
def groupRecon (s : State) (n : Chan) (i : Nat) : GroupRecon :=
  let g := grpAt s n i
  { index := BitVec.ofNat 16 (n.val * 256 + i), z := signed 32 (g.z * 1000000000), ub := BitVec.ofNat 16 (units 2 (g.ub * 10000))
    za := BitVec.ofNat 16 (units 2 (g.za * 10000)), cap := BitVec.ofNat 32 (units 4 (g.cap.getD 0 * 100))
    uc := BitVec.ofNat 16 (units 2 (g.uc * 10000)), learned := g.cap.isSome, unverified := g.unverified, eps := signed 32 (g.eps * 10000)
    if1 := signed 32 (g.if1 * 1000), if2 := signed 32 (g.if2 * 1000) }

/-- *Channel reconciliation entry*. -/
def chanRecon (s : State) (n : Chan) : ChanRecon :=
  let a := s.asyCh[n]
  let l := a.pubLim
  let k := a.cont.getD (0, 0, 0)
  { channel := n, chg := [signed 32 l.c2, signed 32 l.c10, signed 32 l.c60], dis := [signed 32 l.d2, signed 32 l.d10, signed 32 l.d60]
    fu := BitVec.ofNat 16 (units 2 (a.fu * 10000)), restReq := a.restReq.isSome, granted := a.grant.isSome, derating := a.derating
    gap := a.gap.isSome, contLost := a.contLost, epsCh := signed 32 (a.eps * 10000), anchorAge := BitVec.ofNat 32 (anchorAge s n)
    edgeCnt := k.2.1, charge := k.1, nodeId := k.2.2, bleed := s.meas[n].bleed
    epsSeg := if some n = allChans.find? (populated s) then signed 32 (s.asy.eps * 10000) else 0
    reqAge := BitVec.ofNat 32 ((a.restReq.map (fun t => min 0xFFFFFFFF ((s.tim.tb - t) / tSec))).getD 0) }

/-- *Assay cycle block* and its *Group anchor entries*. -/
def assayRecon (s : State) (n : Chan) : AssayRecon :=
  let c := s.cyc[n]
  let pct (x : Rat) : Half := BitVec.ofNat 16 (units 2 (x * 10000))
  { channel := n, phase := BitVec.ofNat 3 c.phase, elapsed := BitVec.ofNat 32 ((s.tim.station - c.started).toNat / tSec)
    tTop := c.tTop, tBot := c.tBot, cycleQ := BitVec.ofInt 64 c.cycleQ
    anchors := (groupsOf s n).map (fun i =>
      let g := grpAt s n i
      { zTop := pct g.top.1, uTop := pct g.top.2, zBot := pct g.bot.1, uBot := pct g.bot.2 }) }

/-- The content of the RECONCILE of an estimator update. -/
def reconcileOf (s : State) (tag : DWord) : Reconcile :=
  let pop := allChans.filter (populated s)
  { tag := tag, groups := pop.flatMap (fun n => (groupsOf s n).map (groupRecon s n)), channels := pop.map (chanRecon s)
    assays := (pop.filter (fun n => s.cyc[n].phase ≠ 0)).map (assayRecon s)
    imps := (groupsOf s s.twn.impRotate).map (impNow s s.twn.impRotate), learned := pop.map (fun n => (n, learnedNow s n)) }

/-! ## CONFIG (R368) -/

/-- The configuration record as a list in ascending ID: every parameter whose persisted value is not its default. -/
def configOf (s : State) : List ConfigEntry :=
  s.cfg.stored.map (fun e => { id := BitVec.ofNat 16 e.1, marked := s.cfg.marked.contains e.1, value := e.2 })

end Sys2Proof.Machine
end

