-- ==== Sys2Proof/WellFormed.lean ====
section
/-! DEFINITION. What a command has to be to reach the block at all: the sizes and bounds of the manual's own layouts (03
*Descriptor layout*, *BAR0 register map*, *BAR2 layout*; 05 and 12 payloads; 16 frames). A meaning answers for a command outside
them too. -/

namespace Sys2Proof

/-- LENGTH counts the parameter bytes of words 3 to 15 (03 *Descriptor layout*). -/
def Hdr.ok (h : Hdr) : Bool := h.length.toNat ≤ 52

/-- The command keeps the bounds of its layout. -/
def Instr.wf : Instr → Bool
  | .getParam h _ _ _ => h.ok
  | .setParam h _ _ value _ => h.ok && value.length ≤ 32
  | .commitConfig h _ => h.ok
  | .readIdentity h => h.ok
  | .setTime h _ => h.ok
  | .setTimeTimeout => true
  | .hostSwitch h => h.ok
  | .activePortChange => true
  | .streamSetup h _ _ _ _ => h.ok
  | .resetModule h _ => h.ok
  | .deferredRestart => true
  | .chConnect h _ _ => h.ok
  | .chDisconnect h _ => h.ok
  | .chDormant h _ => h.ok
  | .chRetire h _ _ => h.ok
  | .chRestore h _ => h.ok
  | .armReference h ref => h.ok && ref.preds.length ≤ 7
  | .loadAll h => h.ok
  | .loadAllGo _ _ => true
  | .quenchRelease h _ => h.ok
  | .restage h => h.ok
  | .setMode h _ => h.ok
  | .assayCycleStart h _ => h.ok
  | .assayCycleAbort h _ => h.ok
  | .restGrant h _ _ _ => h.ok
  | .touchmarkProvision h _ _ => h.ok
  | .readLimits h _ => h.ok
  | .nodeUpdate h _ _ => h.ok
  | .nodeCalibrate h _ _ => h.ok
  | .linkRetest h _ => h.ok
  | .thermalMode h _ => h.ok
  | .loSet h _ _ _ => h.ok
  | .loRearm h _ => h.ok
  | .safetyStatus h => h.ok
  | .busRecover h _ => h.ok
  | .busSend h _ _ _ _ data _ => h.ok && data.length ≤ 64
  | .busMode h _ _ => h.ok
  | .busModeApply _ => true
  | .twinHandover h => h.ok
  | .imageUpdate h _ _ _ => h.ok
  | .imageActivate h _ => h.ok
  | .logRead h _ _ _ _ => h.ok
  | .faultAck h _ => h.ok
  | .unknownOpcode h _ => h.ok
  | .hstHeartbeatWrite _ => true
  | .hstTakeoverWrite _ _ => true
  | .hstRingHpiWrite _ _ _ => true
  | .hstRingCfgWrite _ _ _ => true
  | .hstIrqPendClear _ _ _ _ => true
  | .hstWriteDropsRead _ _ => true
  | .hstTimeLoRead _ => true
  | .registerWrite _ bar offset size _ => [1, 2, 4, 8].contains size && offset < (match bar with
      | .bar0 => 0x4000
      | .bar2 => 0x0400_0000)
  | .streamInterval _ => true
  | .powerOn _ _ => true
  | .mrst => true
  | .watchdogReset => true
  | .clockLoss _ => true
  | .railFault => true
  | .clockRestored => true
  | .portSettleTimeout _ => true
  | .moduleReady => true
  | .holdupTestDone _ _ => true
  | .roleResolution => true
  | .aloneWaitExpiry => true
  | .powerFailWarning _ => true
  | .powerFailHandover => true
  | .powerFailWithdrawn => true
  | .reserveExhausted => true
  | .checkpointPeriodic => true
  | .recordWriteDone _ => true
  | .ppsEdge _ _ => true
  | .ppsLossTimeout => true
  | .holdoverExpiry => true
  | .oscCompensation _ => true
  | .compensationLearn _ => true
  | .hostPortReset _ _ => true
  | .hostLinkChange _ up width speed => !up || ([1, 2, 4].contains width.toNat && speed ≠ 0)
  | .hostSilenceTimeout _ => true
  | .portLightDetect _ => true
  | .lightOnUnpopulated _ => true
  | .characterLock _ _ => true
  | .toneQualified _ => true
  | .rangingComplete _ _ => true
  | .rangingVerified _ => true
  | .bringupStageOverrun _ => true
  | .bringupRetry _ => true
  | .exchangeTimeout _ => true
  | .faultToneArrival _ _ => true
  | .toneLost _ _ => true
  | .downstreamDetect _ => true
  | .toneHealthyReturn _ => true
  | .syncInterval => true
  | .statReceived _ _ _ _ => true
  | .timingReplyAbsent _ => true
  | .capsReceived _ _ _ => true
  | .cellsReportReceived _ _ x => x.cells.length ≤ 256 && x.temps.all (fun t => t.length ≤ 64)
  | .cellsBurstReceived _ _ x => x.first.toNat + x.samples.length ≤ 256
  | .cellsTriggerReceived _ _ x => x.cells.length ≤ 256
  | .touchReceived _ _ x => x.main.length = x.stone.length && x.main.length ≤ 256
  | .edgesReceived _ _ x => 1 ≤ x.recs.length
  | .replyReceived _ _ x => x.data.length ≤ 1016
  | .frameInvalid _ => true
  | .retransmitTimeout _ => true
  | .cmdReplyTimeout _ _ => true
  | .frameErrorCheck _ => true
  | .reloadPoint _ => true
  | .pulseSuppressedReport => true
  | .saturationReport => true
  | .referenceLateReport => true
  | .restagedReport => true
  | .tripInputDemand _ _ => true
  | .tripWiringFault _ _ => true
  | .tripChatterEnd _ => true
  | .tripPresenceEnd _ => true
  | .blankingEnd _ => true
  | .hwFaultRequest _ => true
  | .laneSelftest _ _ => true
  | .debugHalt => true
  | .tripreqHoldEnd => true
  | .prechargeTimeout _ => true
  | .contactorTestTimeout _ => true
  | .contactorOpenRetry _ => true
  | .disconnectBypassTimeout _ => true
  | .annealDelayExpiry _ => true
  | .cellLimitTimer _ _ _ => true
  | .plausHoldExpiry _ => true
  | .contactRecheck => true
  | .openWireScan => true
  | .estimatorUpdate => true
  | .restRequestRepeat _ => true
  | .restWaitExpiry _ => true
  | .restStart _ => true
  | .restEnd _ => true
  | .assayTimeout _ => true
  | .impedanceSave => true
  | .tsConversion _ _ => true
  | .tsFaultTrip _ => true
  | .dieWarnRecheck => true
  | .thermalShutdown _ _ _ => true
  | .thermalRestart => true
  | .loShort _ _ => true
  | .loOverload _ _ => true
  | .loThermalLatch _ _ => true
  | .loThermalRelease _ _ => true
  | .loUndervoltage _ _ => true
  | .loUvRestart _ => true
  | .loInrushEnd _ _ => true
  | .loAttemptDue _ => true
  | .loAnnealed _ => true
  | .loAttemptReset _ => true
  | .loClampTurnoff _ _ _ => true
  | .loStuckOn _ _ => true
  | .loOnMax _ => true
  | .loOpenLoad _ _ _ => true
  | .siDemand _ => true
  | .siPermit _ => true
  | .pulseSample _ _ _ _ => true
  | .discrepancyTick => true
  | .twoHandSyncTimeout _ => true
  | .srstPressAccepted _ => true
  | .resetStuck _ => true
  | .siChatter _ _ => true
  | .offPulseTest _ _ _ => true
  | .soReadbackFault _ _ => true
  | .degradedExpiry => true
  | .hallmarkScan _ => true
  | .safetyInternalFault => true
  | .vsafeLoss => true
  | .vsafeStart _ => true
  | .tripBroadcastRx _ _ _ data => data.length ≤ 64
  | .twinStatusRx _ _ data => data.length ≤ 64
  | .busFrameRx _ f => f.data.length ≤ 64
  | .busTxComplete _ _ => true
  | .busTxError _ _ _ _ => true
  | .busRecoveryDone _ _ => true
  | .busSupplyAbsent _ => true
  | .busSupplyRestored _ => true
  | .oneShotTimeout _ => true
  | .twinStatusTimer => true
  | .segmentStatusTimer => true
  | .heartbeatTx => true
  | .fwCountTick => true
  | .heartbeatRx _ _ _ => true
  | .seamLaneDown _ => true
  | .fwSilence => true
  | .nodeWitness => true
  | .handoverWithdraw => true
  | .setMirrorRx _ x => x.entries.length ≤ 64 && x.reference.preds.length ≤ 7
  | .mirrorMiss => true
  | .stateMirrorRx _ _ books => books.length ≤ 64
  | .reconcileRx _ _ => true
  | .configRx _ _ entries _ => entries.all (fun e => e.value.length < 65536)
  | .imageRx _ _ _ => true
  | .seamRetxTimeout => true
  | .faultActionStep => true
  | .l2BlockRestart _ _ _ => true
  | .ringIrqHoldExpiry _ => true
  | .portLightLoss _ => true
  | .bringupWaitExpiry _ => true
  | .rangingSync _ => true
  | .seamLaneLock _ _ => true
  | .seamFrameInvalid _ => true
  | .busRxError _ _ => true
  | .dieWarning _ _ _ _ => true
  | .debugResume => true
  | .tapInstruction _ _ => true
  | .internalFaultDetected _ _ => true
  | .imageChunkWritten => true
  | .causeCountExpiry _ _ => true
  | .serviceHoldWaitTimeout _ => true

end Sys2Proof
end

