-- ==== Sys2Proof/Tests/Slice0.lean ====
section
/-! SUPPORT. The author's tests: an ill-formed term for each check of WellFormed; for every statement that has hypotheses, states and
operands that meet them, clause by clause; and small tests of one command each, with the result worked out from the rule named. -/

namespace Sys2Proof.Tests

open Sys2Proof.Machine Sys2Proof.Safety

set_option maxRecDepth 100000
set_option Elab.async false

/-! ## Small states -/

/-- A main domain in READY. -/
def onPwr : PwrSt :=
  { mod := .ready, imageRuns := true, configLoaded := true, matrixOk := true, wasReady := true, dark := false, holdupOk := true }

/-- The four command, event and reply rings enabled. -/
def ringsOn : Vector RingSt 64 :=
  ((State.reset.rings.set 0 { enable := true }).set 1 { enable := true, dir := true } |>.set 2 { enable := true }).set 3
    { enable := true, dir := true }

/-- A READY master that works alone. -/
def base : State := { pwr := onPwr, twn := { role := .active }, rings := ringsOn }

/-- The same, a standby. -/
def standby : State := { base with twn := { role := .standby } }

/-- The same, with its twin switch on and a partner that answers, ready, as a standby. -/
def twin : State :=
  { base with pwr := { onPwr with hbB := 0x10 }
              twn := { role := .active, epoch := some 5, lost := false, partner := some { (default : Heartbeat) with epoch := 5, role := 3, ready := true } } }

/-- A header of ring 2, and one of ring 0. -/
def hdr : Hdr := { ring := 2, tag := 7, length := 52 }
def hdr0 : Hdr := { ring := 0, tag := 7, length := 52 }

/-- The state in which a command of a ring is taken. -/
def taken (r : Ring) (s : State) : State := ((takeSlot r s).map Prod.snd).getD s

/-- A command taken from a ring is admitted when its checks pass. -/
theorem admits_of {h : Hdr} {op least : Nat} {g : Target} {pends : Bool} {s : State} {idx : Word}
    (e : (takeSlot h.ring s).map Prod.fst = some idx)
    (k : (h.ring.val == (if op = 0x0301 then 0 else 2) && (refusal op (taken h.ring s)).isNone && decide (least ≤ h.length.toNat) &&
      !targetBusy (taken h.ring s) g && (!pends || !full (taken h.ring s))) = true) :
    Admits h op least g pends s idx (taken h.ring s) := by
  cases hs : takeSlot h.ring s with
  | none => simp [hs] at e
  | some x =>
    obtain ⟨i, t⟩ := x
    simp only [hs, Option.map_some, Option.some.injEq] at e
    simp only [taken, hs, Option.map_some, Option.getD_some, Bool.and_eq_true, beq_iff_eq, decide_eq_true_eq, Bool.not_eq_true',
      Bool.or_eq_true, Option.isNone_iff_eq_none] at k
    obtain ⟨⟨⟨⟨k1, k2⟩, k3⟩, k4⟩, k5⟩ := k
    refine ⟨by simp [taken, hs, e], k1, ?_, k3, ?_, ?_⟩ <;> simp only [taken, hs, Option.map_some, Option.getD_some]
    · exact k2
    · exact k4
    · intro hp; rcases k5 with k5 | k5
      · simp [hp] at k5
      · exact k5

/-- A master in READY with its rings enabled and no command in hand takes and admits every ring 2 command. -/
theorem admitted {op least : Nat} {g : Target} {pends : Bool} {s : State} (hr : s.rings = ringsOn) (hm : s.pwr.mod = .ready)
    (hw : s.twn.role = .active) (hc : s.cmd = {}) (ho : op ≠ 0x0301) (hl : least ≤ 52) :
    Admits hdr op least g pends s 0 (taken 2 s) := by
  have e : takeSlot hdr.ring s = some (0, taken 2 s) := by
    have h1 : s.rings[(2 : Ring)] = ({ enable := true } : RingSt) := by rw [hr]; rfl
    simp [taken, takeSlot, hdr, h1, owned]
  have k := takeSlot_keeps e
  have hp : (taken 2 s).pwr = s.pwr := k .pwr (by decide)
  have ht : (taken 2 s).twn = s.twn := k .twn (by decide)
  have hcm : (taken 2 s).cmd = {} := (k .cmd (by decide)).trans hc
  refine ⟨e, by simp [ho, hdr], ?_, hl, ?_, fun _ => ?_⟩
  · simp [refusal, hp, hm, isMaster, ht, hw]
  · simp [targetBusy, hcm]
  · simp [full, hcm]

/-- A channel's state with what a command about it needs. -/
def chan (n : Chan) (f : ConCh → ConCh) (s : State := base) : State := modCon n f s

/-- Every gate of R334 open on a channel of one cell in CONNECTED-BYPASS. -/
def gated : State :=
  modMeas 63 (fun m => { m with cells := [(0, { volt := 36000, valid := true })] })
    (chan 63 (fun c => { c with state := .bypass })
      { base with tim := { lock := .locked }
                  cfg := { eff := [(Prm.insCarrierPeriod, [0, 0, 3, 0]), (Prm.insMinPulse, [40, 0]), (Prm.insDeadTime, [40, 0]),
                                   (Prm.asyCellModel, [1]),
                                   (Prm.asyCells + 63, [1, 0])] } })

/-! ## Ill-formed commands: one for each check -/

/-- A header whose LENGTH counts more bytes than words 3 to 15 hold. -/
def longHdr : Hdr := { ring := 2, tag := 7, length := 53 }

/-- Every host command that carries such a header is refused. -/
theorem ill_formed_headers :
    ([.getParam longHdr 0 0 default, .setParam longHdr 0 0 [] default, .commitConfig longHdr false, .readIdentity longHdr,
      .setTime longHdr 0, .hostSwitch longHdr, .streamSetup longHdr 4 0 0 0, .resetModule longHdr false, .chConnect longHdr 0 true,
      .chDisconnect longHdr 0, .chDormant longHdr 0, .chRetire longHdr 0 0, .chRestore longHdr 0, .armReference longHdr default,
      .loadAll longHdr, .quenchRelease longHdr 0, .restage longHdr, .setMode longHdr false, .assayCycleStart longHdr 0,
      .assayCycleAbort longHdr 0, .restGrant longHdr 0 0 0, .touchmarkProvision longHdr 0 default, .readLimits longHdr 0,
      .nodeUpdate longHdr 0 default, .nodeCalibrate longHdr 0 0, .linkRetest longHdr 0, .thermalMode longHdr false,
      .loSet longHdr 0 0 0, .loRearm longHdr 0, .safetyStatus longHdr, .busRecover longHdr 0, .busSend longHdr 0 0 0 0 [] default,
      .busMode longHdr 0 0, .twinHandover longHdr, .imageUpdate longHdr 0 default false, .imageActivate longHdr .a,
      .logRead longHdr 0 0 0 default, .faultAck longHdr 0, .unknownOpcode longHdr 0] : List Instr).all (fun i => !i.wf) = true := by
  decide

theorem ill_formed_long_value : (Instr.setParam hdr 0 33 (List.replicate 33 0) default).wf = false := by decide
theorem ill_formed_eighth_prediction : (Instr.armReference hdr0 { (default : RefDesc) with preds := List.replicate 8 0 }).wf = false := by
  decide
theorem ill_formed_bus_send : (Instr.busSend hdr 1 0 2 65 (List.replicate 65 0) default).wf = false := by decide
theorem ill_formed_write_size : (Instr.registerWrite .a .bar0 0 3 0).wf = false := by decide
theorem ill_formed_write_beyond_bar0 : (Instr.registerWrite .a .bar0 0x4000 4 0).wf = false := by decide
theorem ill_formed_write_beyond_bar2 : (Instr.registerWrite .a .bar2 0x4000000 4 0).wf = false := by decide
theorem ill_formed_link_width : (Instr.hostLinkChange .a true 3 1).wf = false := by decide
theorem ill_formed_link_speed : (Instr.hostLinkChange .a true 4 0).wf = false := by decide
theorem ill_formed_report : (Instr.cellsReportReceived 0 default { (default : CellsReport) with cells := List.replicate 257 0 }).wf = false := by
  decide
theorem ill_formed_temps : (Instr.cellsReportReceived 0 default { (default : CellsReport) with temps := some (List.replicate 65 0) }).wf = false := by
  decide
theorem ill_formed_burst :
    (Instr.cellsBurstReceived 0 default { (default : CellsBurst) with first := 256, samples := [default] }).wf = false := by decide
theorem ill_formed_trigger :
    (Instr.cellsTriggerReceived 0 default { (default : CellsTrigger) with cells := List.replicate 257 0 }).wf = false := by decide
theorem ill_formed_touch_lengths : (Instr.touchReceived 0 default { (default : TouchFrame) with main := [0] }).wf = false := by decide
theorem ill_formed_touch_count :
    (Instr.touchReceived 0 default { (default : TouchFrame) with main := List.replicate 257 0, stone := List.replicate 257 0 }).wf = false := by
  decide
theorem ill_formed_edges : (Instr.edgesReceived 0 default { base := 0, recs := [] }).wf = false := by decide
theorem ill_formed_reply : (Instr.replyReceived 0 default { (default : NodeReply) with data := List.replicate 1017 0 }).wf = false := by
  decide
theorem ill_formed_trip_broadcast : (Instr.tripBroadcastRx 0 0 0 (List.replicate 65 0)).wf = false := by decide
theorem ill_formed_twin_status : (Instr.twinStatusRx 0 0 (List.replicate 65 0)).wf = false := by decide
theorem ill_formed_bus_frame : (Instr.busFrameRx 0 { (default : BusFrame) with data := List.replicate 65 0 }).wf = false := by decide
theorem ill_formed_mirror_entries :
    (Instr.setMirrorRx default { (default : SetMirror) with entries := List.replicate 65 default }).wf = false := by decide
theorem ill_formed_mirror_predictions :
    (Instr.setMirrorRx default { (default : SetMirror) with reference := { (default : RefDesc) with preds := List.replicate 8 0 } }).wf = false := by
  decide
theorem ill_formed_books : (Instr.stateMirrorRx default 0 (List.replicate 65 default)).wf = false := by decide

/-- An entry whose value is longer than its 16-bit LEN can say. -/
theorem ill_formed_config (n : Nat) (h : 65536 ≤ n) :
    (Instr.configRx default 0 [{ id := 0, marked := false, value := List.replicate n 0 }] true).wf = false := by
  simp [Instr.wf, h]

/-- Well-formed commands at the same bounds. -/
theorem well_formed_neighbours :
    ([.setParam hdr 0 32 (List.replicate 32 0) default, .busSend hdr 1 0 2 64 (List.replicate 64 0) default,
      .registerWrite .a .bar0 0x3FFC 4 0, .registerWrite .a .bar2 0x3FFFFFF 1 0, .hostLinkChange .a true 4 3,
      .hostLinkChange .a false 0 0, .edgesReceived 0 default { base := 0, recs := [default] }] : List Instr).all Instr.wf = true := by
  decide

/-! ## What every step does -/

theorem witness_EmptyQueueCountsTimeBase : base.pending = [] ∧ base.tim.slewStep = 0 ∧ base.tim.slewAcc = 0 := by decide

theorem witness_ExecKeepsQueueAndTimeBase : ∃ t, exec .holdoverExpiry base = .next t := ⟨_, rfl⟩

theorem witness_StepKeepsWindowForm : WindowForm base ∧ ∃ t, step base = .next t := ⟨rfl, _, rfl⟩

/-! ## Taking commands -/

/-- The four states in which commands are refused: BOOTING, neither bank verifies, safe, a READY standby. -/
theorem witness_ModuleStateRefusesCommands :
    let with_ (m : ModState) : State := { base with pwr := { onPwr with mod := m } }
    hostForm (.loadAll hdr) = some (hdr, 0x0302, 0, .none, false) ∧ hdr.ring.val = 2 ∧
    (∀ m, (takeSlot hdr.ring (with_ m)).isSome = true ∧ (taken 2 (with_ m)).pwr.mod = m) ∧
    0x0302 ∉ [0x0101, 0x0104, 0x0105, 0x0A02] ∧ 0x0302 ∉ [0x0104, 0x0A02] ∧
    0x0302 ∉ [0x0101, 0x0104, 0x0405, 0x0801, 0x0B01, 0x0B02, 0x0107, 0x0A02, 0x0110] ∧
    (takeSlot hdr.ring standby).isSome = true ∧ (taken 2 standby).pwr.mod = .ready ∧ isMaster (taken 2 standby) = false :=
  ⟨rfl, rfl, fun m => by cases m <;> decide, by decide, by decide, by decide, by decide, by decide, by decide⟩

theorem witness_WrongRingIsBadOpcode :
    hostForm (.loadAll hdr0) = some (hdr0, 0x0302, 0, .none, false) ∧ (takeSlot hdr0.ring base).isSome = true ∧ hdr0.ring.val ≠ 2 ∧
    (takeSlot hdr.ring base).isSome = true ∧ (takeSlot hdr.ring State.reset).isNone = true := by
  refine ⟨rfl, ?_⟩; decide

/-- A command for a channel, a port, a bus and a commit that has one PENDING, and the seventeenth. -/
theorem witness_BusyTargetsAnswerBusy :
    let one (g : Target) : Pend := pendOf hdr 0x0201 g 0 0
    let s : State := { base with cmd := { pend := [one (.channel 0), one (.port 63), one (.bus 3), one .commit] } }
    let full : State := { base with cmd := { pend := List.replicate 15 (one .none)
                                             held := [{ op := 0x0105, tag := 1, reply := { status := .ok } }] } }
    (takeSlot hdr.ring s).isSome = true ∧ (∀ op ∈ [0x0103, 0x0201, 0x0503, 0x0901, 0x0105], refusal op (taken 2 s) = none ∧
      refusal op (taken 2 full) = none) ∧ 52 ≤ hdr.length.toNat ∧
    hostForm (.chDormant hdr 0) = some (hdr, 0x0203, 4, .channel 0, true) ∧ one (.channel 0) ∈ (taken 2 s).cmd.pend ∧
    hostForm (.linkRetest hdr 63) = some (hdr, 0x0503, 4, .port 63, true) ∧ one (.port 63) ∈ (taken 2 s).cmd.pend ∧
    hostForm (.busRecover hdr 1) = some (hdr, 0x0901, 4, .bus 1, true) ∧ one (.bus 3) ∈ (taken 2 s).cmd.pend ∧
      (1#2 &&& 3#2) ≠ 0 ∧
    hostForm (.commitConfig hdr true) = some (hdr, 0x0103, 4, .commit, true) ∧ one .commit ∈ (taken 2 s).cmd.pend ∧
    hostForm (.setTime hdr 0) = some (hdr, 0x0105, 8, .none, true) ∧ (takeSlot hdr.ring full).isSome = true ∧
      16 ≤ (taken 2 full).cmd.pend.length + (taken 2 full).cmd.held.length := by
  refine ⟨by decide, by decide, by decide, rfl, by decide, rfl, by decide, rfl, by decide, by decide, ?_, by decide, rfl, by decide, by decide⟩
  rfl

/-- A finished descriptor behind an unfinished one, and a final reply held. -/
theorem witness_DescriptorsReturnInSlotOrder :
    let x (i : Word) (r : Option Reply) : Taken := { ring := 2, idx := i, op := 0x0110, tag := 1, len := 8, reply := r }
    let s : State := { State.reset with cmd := { taken := [x 0 none, x 1 (some {})], held := [{ op := 0x0105, tag := 1, reply := {} }] } }
    (settle s).cmd.taken = [x 0 none] ++ x 1 (some {}) :: [] ∧ (settle s).cmd.held ≠ [] := by decide

theorem witness_ReplyIsWrittenWithOwnLast : WindowForm base ∧ ∀ x ∈ (okWords [(3, 1), (15, 2)]).words, 3 ≤ x.1 ∧ x.1 ≤ 15 :=
  ⟨rfl, by decide⟩

/-! ## Parameters (03) -/

/-- GET_PARAM of each view, short and long; SET_PARAM sealed, unknown and good. HST_SILENCE_LIMIT 0x1300, HST_OBSERVER_READ 0x1301,
a bulk object of 64 bytes 0x4040, MOD_ADDRESS 0x1000. -/
theorem witness_ParameterReadsAndWrites :
    let bulk : Bulk := { offset := 0x01010000, length := 80 }
    let s : State := { base with win := [(0x01010003, 0x80)]
                                 cfg := { staged := [(0x1300, [9, 9, 0, 0])], eff := [(0x4040, List.replicate 64 1)]
                                          stored := [(0x4040, List.replicate 64 1)] } }
    let t := taken 2 s
    Admits hdr 0x0101 4 .none false s 0 t ∧ Admits hdr 0x0102 8 .none false s 0 t ∧
    (∀ id ∈ [0x1300, 0x1301, 0x4040], (paramRow id).isSome = true ∧ sealedId id = false) ∧
    (tabGet [] t.cfg.staged 0x1300 ≠ [] ∧ tabGet [] t.cfg.staged 0x1301 = [] ∧ (valueIn t.cfg.eff 0x1300).length ≤ 32 ∧
      (tabGet [] t.cfg.staged 0x1300).length ≤ 32 ∧ (valueIn t.cfg.stored 0x1301).length ≤ 32) ∧
    (32 < (valueIn t.cfg.eff 0x4040).length ∧ 32 < (valueIn t.cfg.stored 0x4040).length ∧ tabGet [] t.cfg.staged 0x4040 = [] ∧
      bulkOk t bulk 64 = true ∧ 48 ≤ hdr.length.toNat) ∧ WindowForm t ∧
    (sealedId 0x1000 = true ∧ sealedId 0x0001 = false ∧ (paramRow 0x0001).isNone = true) ∧
    (∀ row ∈ paramRow 0x1300, row.size = 4 ∧ checkValue row [100, 0, 0, 0] = .ok ∧ checkValue row [0x40, 0x42, 0x0F, 0] = .ok) ∧
    t.cfg.staged.length < 256 ∧ 8 + 4 ≤ hdr.length.toNat := by
  refine ⟨admitted rfl rfl rfl rfl (by decide) (by decide), admitted rfl rfl rfl rfl (by decide) (by decide), by decide, by decide, by decide, rfl, by decide,
    by decide, by decide⟩

/-! ## Configuration, time, the active port, restarts (03) -/

theorem witness_CommitAndTimeCommands_commit :
    let t := taken 2 base
    let bad : State := { base with cfg := { staged := [(Prm.asyOvThresh, [0, 0])] } }
    let t1 := taken 2 bad
    Admits hdr 0x0103 4 .commit true base 0 t ∧ Admits hdr 0x0103 4 .commit true bad 0 t1 ∧
    (t.pwr.warn = false ∧ t.pwr.holdupFault = false ∧ t.store.fenced = false ∧ t.store.worn = false) ∧
    (commitFault t).isNone = true ∧
    (t1.pwr.warn = false ∧ t1.pwr.holdupFault = false ∧ t1.store.fenced = false ∧ t1.store.worn = false) ∧
    (commitFault t1).isSome = true :=
  ⟨admitted rfl rfl rfl rfl (by decide) (by decide), admitted rfl rfl rfl rfl (by decide) (by decide), by decide, rfl, by decide, rfl⟩

/-- SET_TIME with UNSET and with a set clock and an ACTIVE channel; its end; HOST_SWITCH with and without a link; the change;
RESET_MODULE alone, with a ready standby, and with a channel ACTIVE. -/
theorem witness_CommitAndTimeCommands_rest :
    let busy : State := modCon 0 (fun c => { c with state := .active }) { base with tim := { lock := .free } }
    let up : State := { base with hst := { b := { link := true } } }
    let p : Pend := pendOf hdr 0x0105 .none 0 0
    let due : State := { base with cmd := { pend := [p] } }
    let sw : State := { base with hst := { change := some { port := .b, cause := 0 } } }
    Admits hdr 0x0104 0 .none false base 0 (taken 2 base) ∧
    Admits hdr 0x0105 8 .none true base 0 (taken 2 base) ∧ (taken 2 base).tim.lock = .unset ∧
    Admits hdr 0x0105 8 .none true busy 0 (taken 2 busy) ∧
      ((taken 2 busy).tim.lock ≠ .unset ∧ activeChans (taken 2 busy) ≠ [] ∧ wouldChange (taken 2 busy) 0 = true) ∧
    pendOp due 0x0105 = some p ∧
    Admits hdr 0x0106 0 .none false up 0 (taken 2 up) ∧ (portRegs (taken 2 up) .b).link = true ∧
    Admits hdr 0x0106 0 .none false base 0 (taken 2 base) ∧ (portRegs (taken 2 base) .b).link = false ∧
    (sw.hst.change = some { port := .b, cause := 0 } ∧ HPort.b ≠ sw.hst.active) ∧
    Admits hdr 0x0110 4 .none false base 0 (taken 2 base) ∧
      (mayOffer (taken 2 base) = false ∧ isMaster (taken 2 base) = true ∧ activeChans (taken 2 base) = []) ∧
    Admits hdr 0x0110 4 .none false twin 0 (taken 2 twin) ∧
      (isMaster (taken 2 twin) = true ∧ (taken 2 twin).twn.open_ = none ∧ mayOffer (taken 2 twin) = true) ∧
    Admits hdr 0x0110 4 .none false busy 0 (taken 2 busy) ∧
      (isMaster (taken 2 busy) = true ∧ mayOffer (taken 2 busy) = false ∧ activeChans (taken 2 busy) ≠ []) := by
  refine ⟨admitted rfl rfl rfl rfl (by decide) (by decide), admitted rfl rfl rfl rfl (by decide) (by decide), by decide, admitted rfl rfl rfl rfl (by decide) (by decide),
    by decide, by decide, admitted rfl rfl rfl rfl (by decide) (by decide), by decide, admitted rfl rfl rfl rfl (by decide) (by decide), by decide, by decide,
    admitted rfl rfl rfl rfl (by decide) (by decide), by decide, admitted rfl rfl rfl rfl (by decide) (by decide), by decide, admitted rfl rfl rfl rfl (by decide) (by decide),
    by decide⟩

/-! ## Registers (03) -/

theorem witness_ReadClearNeverLosesADrop : portFenced base .a = false ∧ portFenced base .b = false := by decide

/-- BAR2 writes at both ends of both areas; writes that are dropped; a heartbeat; takeovers that are due and not. -/
theorem witness_WritesOfThePorts :
    let inArea (offset size : Nat) : Prop := 1 ≤ size ∧ size ≤ 8 ∧
      (0x1000 ≤ offset ∧ offset + size ≤ 0x1400 ∨ 0x10000 ≤ offset ∧ offset + size ≤ 0x04000000)
    let linked : State := { base with hst := { a := { link := true } } }
    portFenced base .a = false ∧ WindowForm base ∧ HPort.a = base.hst.active ∧ HPort.b ≠ base.hst.active ∧
    inArea 0x1000 8 ∧ inArea 0x13FF 1 ∧ inArea 0x10000 1 ∧ inArea 0x03FFFFF8 8 ∧ ¬inArea 0x13FF 2 ∧ ¬inArea 0xFFFF 8 ∧
    ((3 ≠ 4 ∨ 0x10 % 4 ≠ 0) ∧ (4 ≠ 4 ∨ 0x11 % 4 ≠ 0)) ∧ refsOnly base = false ∧
    (0x00005A3C#32).toNat % 65536 = 0x5A3C ∧ (portRegs base base.hst.active).link = false ∧
    (0x5A3B#32).toNat % 65536 ≠ 0x5A3C ∧ ((portRegs linked linked.hst.active).link = true ∧ linked.hst.silent = false ∧
      (0x00005A3C#32).getLsbD 16 = false) ∧ (0x00015A3C#32).getLsbD 16 = true ∧ (2#32).getLsbD 0 = false := by
  refine ⟨by decide, rfl, by decide⟩

/-! ## Rings, streams, links (03) -/

/-- A ring's registers: sizes at both ends, a full ring, an index one too far and one behind; a stream and its buffer. -/
theorem witness_RingRegistersAndStreams :
    let full : State := { modRing 2 (fun g => { g with hpi := 255, tkn := 255 }) base with win := [(0x90000 + 255 * 64 + 3, 0x80)] }
    let fenced : State := { base with flt := { fencedBlocks := [(0x0104, 0)] } }
    let str : State := modRing 63 (fun g => { g with kind := 6, enable := true, dir := true }) base
    let buf : State := { modRing 4 (fun g => { g with kind := 3, enable := true, dir := true, hpi := 1, tkn := 1 }) base with
                         win := [(0x11000E, 1), (0x11000F, 1), (0x110010, 16), (0x01010003, 0x80)] }
    let irq : State := modRing 63 (fun g => { g with irq := 0x10000, unsignalled := 1, holdAt := some 0 }) base
    let t := taken 2 base
    portFenced base .a = false ∧ HPort.a = base.hst.active ∧ HPort.b ≠ base.hst.active ∧ portFenced fenced .a = true ∧
    ((7 ≠ base.rings[2].sizeLog2.toNat ∧ base.rings[2].enable = true) ∧ (0x23#32).toNat % 16 < 4 ∧ 12 < (0x2D#32).toNat % 16) ∧
    (4 ≤ (0x24#32).toNat % 16 ∧ (0x24#32).getLsbD 5 = true ∧ (0x2C#32).toNat % 16 ≤ 12 ∧ (0x2C#32).getLsbD 5 = true) ∧
    (base.rings[63].enable = false ∧ base.rings[63].fault = false) ∧
    (full.rings[2].enable = true ∧ full.rings[2].fault = false ∧ full.hst.silent = false ∧ portFenced full .a = false ∧
      (256#32 - full.rings[2].hpi).toNat < 2 ^ 31 ∧ (256#32 - full.rings[2].mpi).toNat ≤ 2 ^ full.rings[2].sizeLog2.toNat ∧
      (256#32 - full.rings[2].tkn).toNat = 1 ∧
        bitOf (memNum full.win (slotOff 2 full.rings[2] (full.rings[2].tkn + BitVec.ofNat 32 0)) 4) 31 = true) ∧
    (2 ^ 31 ≤ (254#32 - full.rings[2].hpi).toNat ∧ 2 ^ full.rings[2].sizeLog2.toNat < (257#32 - full.rings[2].mpi).toNat) ∧
    Admits hdr 0x0107 20 .none false base 0 t ∧ (t.rings[4].enable = false ∧ t.rings[63].enable = false) ∧
    (str.rings[63].kind ≠ 0 ∧ str.rings[63].enable = true ∧ str.rings[63].dir = true ∧ canPost str 63 = false) ∧
    (canPost buf 4 = true ∧ buf.rings[4].kind ≠ 0 ∧ buf.rings[4].dir = true ∧ bulkOk buf (streamBuffer buf 4) 0 = true) ∧
    (base.rings[2].kind = 0 ∧ base.rings[63].enable = false) ∧
    (irq.rings[63].irq.toNat / 65536 % 4096 ≠ 0 ∧ irq.rings[63].unsignalled ≠ 0 ∧ irq.rings[63].holdAt ≠ none) := by
  refine ⟨by decide, by decide, by decide, by decide, by decide, by decide, by decide, by decide, by decide,
    admitted rfl rfl rfl rfl (by decide) (by decide), by decide, by decide, by decide, by decide, by decide⟩

/-- Links up and down, and silence with and without the quench of HST_SILENCE_ACTION 1. -/
theorem witness_HostLinksAndSilence :
    let up : State := { base with hst := { a := { link := true } } }
    let keep : State := { base with cfg := { eff := [(Prm.insSilenceAction, [0])] } }
    let silent : State := { base with hst := { silent := true } }
    (portRegs up .a).link = true ∧ (portRegs up .b).link = false ∧ up.pwr.imageRuns = true ∧ up.hst.silent = false ∧
    (portRegs base base.hst.active).link = false ∧ pNat base Prm.insSilenceAction = 1 ∧ pNat keep Prm.insSilenceAction ≠ 1 ∧
    (keep.hst.silent = false ∧ keep.pwr.imageRuns = true ∧ (portRegs keep keep.hst.active).link = false) ∧
    silent.hst.silent = true := by decide

/-! ## Resets, start-up, supply, station time (02) -/

theorem witness_ResetsKeepWhatTheTableKeeps :
    let due : State := { base with pwr := { onPwr with restart := some .resetModule } }
    let held : State := { base with pwr := { onPwr with clockHeld := true } }
    let hot : State := { base with pwr := { onPwr with thermalHeld := true } }
    let warned : State := { base with pwr := { onPwr with warn := true } }
    (∀ s ∈ [base, due, held, hot, warned], s.store.inFlight = none) ∧ base.pwr.thermalHeld = false ∧ mainUp base = true ∧
    (mainUp due = true ∧ due.pwr.restart ≠ none) ∧ base.pwr.restart = none ∧
    (warned.pwr.warn = true ∧ warned.pwr.supplyHeld = false) ∧ base.pwr.warn = false ∧ (1#4 ≠ 0 ∧ 8#4 ≠ 0) ∧
    (held.pwr.clockHeld = true ∧ held.pwr.thermalHeld = false ∧ held.pwr.supplyHeld = false) ∧ base.pwr.clockHeld = false ∧
    (hot.pwr.thermalHeld = true ∧ hot.pwr.clockHeld = false ∧ hot.pwr.supplyHeld = false) := by
  refine ⟨?_, ?_⟩
  · intro s hs; simp only [List.mem_cons, List.not_mem_nil, or_false] at hs; rcases hs with rfl | rfl | rfl | rfl | rfl <;> rfl
  · decide

theorem witness_StartUpToReady :
    let up : State := { base with pwr := { onPwr with mod := .booting }, cfg := { eff := [(Prm.modPopulated, [1, 0, 0, 0, 0, 0, 0, 0x80])] } }
    let settled : State := modPort 63 (fun x => { x with settled := true }) (modPort 0 (fun x => { x with settled := true }) up)
    let role (r : Role) (hb : Byte) (ha : Byte) (lost : Bool) (k : BitVec 3) : State :=
      { settled with pwr := { settled.pwr with hbB := hb, hbA := ha }
                     twn := { role := r, lost := lost, partner := some { (default : Heartbeat) with role := k } } }
    let two (r : Role) : State := modTxn 63 (fun x => { x with stat := some { (default : Stat) with otherMaster := false } })
      (modPort 63 (fun x => { x with state := .running }) (role r 0x10 0 true 0))
    (populated up 0 = true ∧ populated up 63 = true ∧ populated up 1 = false ∧ up.ports[63].settled = false ∧
      up.pwr.configLoaded = true ∧ settled.ports[63].settled = true) ∧
    (mainUp up = true ∧ up.pwr.imageRuns = true) ∧
    (settled.pwr.mod = .booting ∧ mainUp settled = true ∧ settled.pwr.imageRuns = true ∧ settled.pwr.configLoaded = true ∧
      settled.pwr.matrixOk = true ∧ settled.pwr.fallback = false ∧ ∀ p : Chan, populated settled p = true → settled.ports[p].settled = true) ∧
    (twinBit (role .starting 0x10 0 true 0) = true ∧ (role .starting 0x10 0 true 0).twn.mismatch = none ∧
      paired (role .starting 0x10 0 true 0) = false) ∧
    ((role .candidate 0x10 0 false 2).twn.partner.any (fun h => h.role == 2) = true ∧ (role .candidate 0x10 0 false 2).twn.lost = false) ∧
    ((role .candidate 0x10 0 false 1).twn.partner.any (fun h => h.role == 1) = true ∧ (role .candidate 0x10 0 false 1).twn.portEpoch = none ∧
      oddAddr (role .candidate 0x10 0 false 1) = false ∧ oddAddr (role .candidate 0x10 1 false 1) = true) ∧
    ((two .candidate).twn.role = .candidate ∧ (two .candidate).twn.lost = true ∧ otherGone (two .candidate) = true) ∧
    (base.twn.role ≠ .candidate ∧ otherGone (role .candidate 0x10 0 true 0) = false) := by decide

/-- The warning with and without a partner that can take over, its withdrawal, and each kind of write that can end. -/
theorem witness_PowerFailAndRecordWrites :
    let warned : State := { base with pwr := { onPwr with warn := true } }
    let hand : State := { twin with pwr := { twin.pwr with warn := true } }
    let fly (w : StoreWrite) : State := { base with store := { inFlight := some w } }
    let e : Event := default
    let next : State := { warned with store := { queue := [.checkpoint 1] } }
    (mainUp base = true ∧ base.pwr.warn = false ∧ base.pwr.mod = .ready ∧ ∀ n, .learned n true ∉ base.store.queue) ∧
    warned.pwr.warn = true ∧ (hand.pwr.warn = true ∧ hand.twn.open_ = none ∧ mayOffer hand = true) ∧ mayOffer base = false ∧
    (fwRuns base = true ∧ .checkpoint 0 ∉ base.store.queue ∧ base.store.inFlight ≠ some (.checkpoint 0) ∧
      base.store.fenced = false ∧ base.store.worn = false) ∧ base.store.inFlight = none ∧
    ((fly (.calibration 63)).store.inFlight = some (.calibration 63) ∧
      tabGet 0 (fly (.calibration 63)).store.writes (0x100 + 63) + 1 < writeLimit) ∧
    ((fly (.pinned e)).store.inFlight = some (.pinned e)) ∧
    (next.pwr.warn = true ∧ next.store.inFlight = none ∧ (settle next).store.inFlight = some (.checkpoint 1)) := by
  decide

/-- Edges in each lock state, one second after the last or off by 2 us, losses, and the bounds of the learning rule. -/
theorem witness_LockStatesOfStationTime :
    let st (t : TimSt) : State := { base with tim := t }
    let acq : State := st { lock := .acquire, anchor := some 0, lastEdge := some 0, good := 3 }
    let lck : State := st { lock := .locked, anchor := some 0, lastEdge := some 0 }
    let long : State := st { lock := .locked, tb := 600 * tSec }
    let a := arrivalOf acq 800000000 0
    let off := arrivalOf lck 800001600 0
    (base.cmd.pend = [] ∧ base.tim.seamSrc = false ∧ base.tim.lock = .unset ∧ base.tim.lastEdge = none) ∧
    ((st { lock := .free }).tim.lock = .free ∧ (st { lock := .free }).tim.lastEdge = none) ∧
    (acq.tim.lock = .acquire ∧ acq.tim.lastEdge = some 0 ∧ withinUs 1 (a - 0 - secUnits - acq.tim.slewStep) = true ∧
      phaseError acq a = some 0 ∧ acq.tim.good = 3) ∧
    (phaseError (st { lock := .holdover, anchor := some 0 }) a = some 0 ∧ withinUs 1 0 = true) ∧
    (phaseError lck off = some (2 * tUs * tUnit) ∧ withinUs 1 (2 * tUs * tUnit) = false ∧ lck.tim.lastRejected = none) ∧
    (lck.tim.lock = .locked ∧ (st { lock := .acquire }).tim.lock = .acquire ∧ (st { lock := .holdover }).tim.lock = .holdover ∧
      base.tim.lock ≠ .holdover ∧ mainUp base = true) ∧
    (base.tim.lock ≠ .locked ∧ lck.tim.tb - lck.thm.lockedAt < 600 * tSec) ∧
    (long.tim.lock = .locked ∧ 600 * tSec ≤ long.tim.tb - long.thm.lockedAt) := by
  decide

/-! ## Bring-up (04) -/

/-- Every link state a clause starts from, the sixty-four measurements good and bad. -/
theorem witness_BringUpOfAPort :
    let at_ (st : LinkState) (f : PortSt → PortSt) : State := modPort 63 (fun x => f { x with state := st }) base
    let none_ : State := { base with cfg := { eff := [(Prm.modPopulated, [1, 0, 0, 0, 0, 0, 0, 0])] } }
    let good : State := at_ .ranging (fun x => { x with ranging := List.replicate 64 5000 })
    let far : State := at_ .ranging (fun x => { x with ranging := List.replicate 64 100000 })
    portOn base 63 = true ∧ populated none_ 63 = false ∧ populated base 63 = true ∧
    (let s := at_ .aligned (fun x => { x with lock := true })
     portOn s 63 = true ∧ s.ports[63].state = .aligned ∧ s.ports[63].lock = true ∧ s.ports[63].waiting = false ∧
       s.ports[63].tone ≠ .fault ∧ s.con[63].present = 0) ∧
    ((at_ .tone id).ports[63].state = .tone ∧ (at_ .running id).ports[63].state = .running ∧ (at_ .dark id).ports[63].state = .dark) ∧
    (good.ports[63].state = .ranging ∧ good.ports[63].delay = none ∧ good.ports[63].ranging.length = 64 ∧
      (trimmed good.ports[63].ranging).1 ≤ (10 * pNat good Prm.lnkDelayMax : Nat) ∧ (trimmed good.ports[63].ranging).2 ≤ 20 ∧
      (2000#32).toInt.natAbs ≤ 2000 ∧ 2000 < (2001#32).toInt.natAbs) ∧
    ((10 * pNat far Prm.lnkDelayMax : Nat) < (trimmed far.ports[63].ranging).1) ∧
    8 ≤ (at_ .ranging (fun x => { x with verified := 8 })).ports[63].verified ∧
    ((at_ .exchange id).ports[63].state = .exchange ∧ (serviceOf (at_ .exchange id) 63).isNone = true) ∧
    (portOn (at_ .refused id) 63 = true ∧ (at_ .unpartnered id).ports[63].state = .unpartnered ∧
      (at_ .crossWired id).ports[63].state = .crossWired) ∧
    (let s := at_ .light (fun x => { x with waiting := true })
     s.ports[63].waiting = true ∧ s.ports[63].state ≠ .running ∧ s.ports[63].state ≠ .off ∧ s.ports[63].state = .light) ∧
    base.ports[63].state = .off := by
  intro at_ none_ good far; refine ⟨?_, ?_, ?_, ?_, ?_, ?_, ?_, ?_, ?_, ?_, ?_, ?_⟩ <;> decide +kernel

/-! ## Channel connection (11) -/

theorem witness_ConnectionCommandsOfTheHost :
    let ok (op least : Nat) (s : State) : Prop := Admits hdr op least (.channel 63) true s 0 (taken 2 s)
    let st (x : ChState) : State := chan 63 (fun c => { c with state := x })
    let caused (x : ChState) : State := chan 63 (fun c => { c with state := x, present := 2, fenceCause := 1 })
    let open_ : State := modTxn 63 (fun x => { x with stat := some { (default : Stat) with contactor := 0 } })
      (modPort 63 (fun x => { x with state := .running }) (st .retired))
    let fenced : State := chan 63 (fun c => { c with state := .fenced, fenceCause := 1 })
    (ok 0x0201 4 (st .disconnected) ∧ ok 0x0201 4 gated ∧ ok 0x0201 4 (st .bypass) ∧ ok 0x0201 4 (caused .bypass) ∧ ok 0x0201 4 (st .active)) ∧
    (let t := taken 2 (st .disconnected)
     populated t 63 = true ∧ t.con[63].seq = none ∧ t.meas[63].setupLeft = 0 ∧ t.con[63].state = .disconnected ∧
       t.con[63].present = 0 ∧ t.cyc[63].phase = 0 ∧ (serviceOf t 63).isNone = true ∧ reported t 63 ≠ some .bypassed) ∧
    (gateStatus (taken 2 gated) 63 = none ∧ gateStatus (taken 2 (st .bypass)) 63 = some .wrongState ∧
      (taken 2 (st .bypass)).con[63].state = .bypass) ∧
    ((taken 2 (caused .bypass)).con[63].present ≠ 0 ∧ (taken 2 (st .active)).con[63].state = .active) ∧
    (ok 0x0202 4 (st .active) ∧ ok 0x0202 4 (st .dormant) ∧ ok 0x0202 4 (st .fenced) ∧ ok 0x0203 4 (st .bypass) ∧ ok 0x0203 4 (st .quenched)) ∧
    (let s := modPort 63 (fun x => { x with state := .running }) (st .disconnected)
     ok 0x0203 4 s ∧ running (taken 2 s) 63 = true) ∧
    (ok 0x0204 8 (st .disconnected) ∧ ok 0x0204 8 (st .retired) ∧ retireConfirmed 63 0x3F01 = true ∧ retireConfirmed 63 0x3E01 = false ∧
      retireConfirmed 63 0x3F00 = false) ∧
    (ok 0x0205 4 (st .bypass) ∧ ok 0x0205 4 (caused .fenced) ∧ ok 0x0205 4 fenced ∧ ok 0x0205 4 open_ ∧ ok 0x0205 4 (st .retired)) ∧
    (hasCause (taken 2 (caused .fenced)) 63 (caused .fenced).con[63].fenceCause.toNat = true ∧ hasCause (taken 2 fenced) 63 1 = false ∧
      running (taken 2 open_) 63 = true ∧ contactOpen (taken 2 open_) 63 = true ∧ (taken 2 open_).con[63].seq = none ∧
      running (taken 2 (st .retired)) 63 = false) := by
  refine ⟨⟨?_, ?_, ?_, ?_, ?_⟩, by decide, by decide, by decide, ⟨?_, ?_, ?_, ?_, ?_⟩, ⟨?_, by decide⟩, ⟨?_, ?_, by decide⟩,
    ⟨?_, ?_, ?_, ?_, ?_⟩, by decide⟩ <;> exact admitted rfl rfl rfl rfl (by decide) (by decide)

theorem witness_SequenceTimersAndCauses :
    let step (k : ConStep) (host : Bool) (tries : Nat) : State :=
      chan 63 (fun c => { c with seq := some { kind := .disconnect, step := k, host := host, cause := 0, since := 0, tries := tries } })
    let volts (v : Int) (s : State) : State := modMeas 63 (fun m => { m with hasReport := true, capV := v }) s
    let told (k : BitVec 2) (s : State) : State := modTxn 63 (fun x => { x with stat := some { (default : Stat) with contactor := k } }) s
    let fenced : State := chan 63 (fun c => { c with state := .fenced, annealAt := some 0, fenceCause := 1 })
    let open_ : State := modIns 63 (fun x => { x with repState := some .bypassed }) (step .openRetry true 1)
    let plaus : State := chan 63 (fun c => { c with present := 0x20, protective := true })
    let cell (v : Half) : State := modMeas 63 (fun m => { m with cells := [(255, { volt := v, valid := true })] }) base
    let one : State := modPort 63 (fun x => { x with state := .running }) base
    (atStep (step .precharging true 0) 63 .precharging = true ∧ atStep base 63 .precharging = false) ∧
    (atStep (step .openTest true 0) 63 .openTest = true ∧ (step .openTest true 0).meas[63].hasReport = false) ∧
    (let s := volts 1000000 (step .openTest true 0); s.meas[63].hasReport = true ∧ apart s 63 = true) ∧
    (let s := volts 0 (step .openTest true 0); s.meas[63].hasReport = true ∧ apart s 63 = false) ∧
    (let s := told 0 (step .openedTest true 0); atStep s 63 .openedTest = true ∧ contactOpen s 63 = true) ∧
    (let s := step .closedTest true 1; s.con[63].seq.any (fun q => q.step == .closedTest && q.tries != 0) = true ∧
      together (volts 0 s) 63 = true ∧ together (volts 1000000 s) 63 = false) ∧
    (atStep base 63 .openTest = false ∧ atStep base 63 .openedTest = false ∧ atStep base 63 .closedTest = false) ∧
    (atStep open_ 63 .openRetry = true ∧ reported open_ 63 = some .bypassed ∧ reported (step .openRetry true 1) 63 ≠ some .bypassed) ∧
    (let s : State := { step .waitCurrent true 0 with cmd := { pend := [pendOf hdr 0x0202 (.channel 63) 0 0] } }
     s.con[63].seq.any (fun q => q.host && q.kind == .disconnect && q.step == .waitCurrent) = true ∧
       pendChan s 63 = some (pendOf hdr 0x0202 (.channel 63) 0 0)) ∧
    base.con[63].seq = none ∧
    (isMaster fenced = true ∧ fenced.con[63].state = .fenced ∧ fenced.con[63].annealAt.isSome = true ∧ hasCause fenced 63 1 = false ∧
      contactor (told 0 fenced) 63 = some 0 ∧ contactor (told 1 fenced) 63 = some 1 ∧ contactor fenced 63 = none) ∧
    (isMaster standby = false ∧ (cellAt base 63 255).valid = false) ∧
    (let s := cell 37500; (cellAt s 63 255).valid = true ∧ highOf (cellAt s 63 255) ≥ pNat s Prm.asyVmax + 1000) ∧
    (let s := cell 24000; (cellAt s 63 255).valid = true ∧ lowOf (cellAt s 63 255) + 1000 ≤ pNat s Prm.asyVsd ∧
      highOf (cellAt s 63 255) < pNat s Prm.asyVmax + 1000) ∧
    (isMaster plaus = true ∧ hasCause plaus 63 5 = true ∧ plaus.con[63].protective = true ∧ hasCause base 63 5 = false) ∧
    (let s := chan 63 (fun c => { c with recheck := true }); s.con[63].recheck = true ∧ contactor s 63 = none) ∧
    runningPorts base = [] ∧
    (isMaster one = true ∧ pNat one Prm.asyOwScan ≠ 0 ∧ runningPorts one = [63] ∧ one.meas[63].testing = none) := by
  decide

/-! ## Engine and staging (07, 08) -/

/-- ARM_REFERENCE off the grid, late, too early, at the last moment and on a standby; load-all in both modes; a restage near
the reload point. TCTL is 20,000 ticks and the horizon 4 periods. -/
theorem witness_ReferencesLoadsAndModes :
    let ref (p : DWord) : RefDesc := { (default : RefDesc) with period := p, npred := 7 }
    let direct : State := { base with ins := { direct := true } }
    let badd : State := { direct with win := [(0x1003, 0x80)] }
    let waits : State := { base with ins := { direct := true, snapshot := some [], snapByOpcode := true } }
    let near : State := { base with tim := { station := 19999 } }
    let t := taken 0 base
    Admits hdr0 0x0301 52 .none false base 0 t ∧
    ((ref 20001).npred.toNat ≤ 7 ∧ tctl t ≠ 0 ∧ (ref 20001).period.toNat % tctl t ≠ 0) ∧
    ((ref 0).period.toNat % tctl t = 0 ∧ (ref 0).period.toNat ≤ t.tim.station.toNat) ∧
    ((ref 100000).period.toNat % tctl t = 0 ∧
      max 1 (pNat t Prm.insHorizon) * tctl t < (ref 100000).period.toNat - t.tim.station.toNat) ∧
    ((ref 80000).period.toNat % tctl t = 0 ∧ t.tim.station.toNat < (ref 80000).period.toNat ∧
      (ref 80000).period.toNat - t.tim.station.toNat ≤ max 1 (pNat t Prm.insHorizon) * tctl t) ∧
    ((takeSlot 0 standby).isSome = true ∧ refusal 0x0301 standby = some .notActive ∧ refRefused standby (ref 80000) = none ∧
      52 ≤ hdr0.length.toNat) ∧
    (Admits hdr 0x0302 0 .none false base 0 (taken 2 base) ∧ (taken 2 base).ins.direct = false) ∧
    (Admits hdr 0x0302 0 .none false badd 0 (taken 2 badd) ∧ (taken 2 badd).ins.direct = true ∧ badEntry (taken 2 badd) = some 0) ∧
    (Admits hdr 0x0302 0 .none false direct 0 (taken 2 direct) ∧ (taken 2 direct).ins.direct = true ∧
      badEntry (taken 2 direct) = none ∧ (taken 2 direct).ins.snapshot = none) ∧
    (portFenced base .a = false ∧ HPort.a = base.hst.active ∧ (1#32).getLsbD 0 = true) ∧
    (direct.ins.direct = true ∧ staging direct = true ∧ badEntry direct = none ∧ direct.ins.snapshot = none) ∧
    (staging waits = true ∧ badEntry waits = none ∧ waits.ins.snapshot.isSome = true ∧ waits.ins.snapByOpcode = true) ∧
    Admits hdr 0x0305 4 .none false base 0 (taken 2 base) ∧
    (Admits hdr 0x0304 0 .none false near 0 (taken 2 near) ∧ staging (taken 2 near) = true ∧ mergesNow (taken 2 near) = true) := by
  refine ⟨admits_of (by decide) (by decide), by decide, by decide, by decide, by decide, by decide,
    ⟨admitted rfl rfl rfl rfl (by decide) (by decide), by decide⟩, ⟨admitted rfl rfl rfl rfl (by decide) (by decide), by decide⟩,
    ⟨admitted rfl rfl rfl rfl (by decide) (by decide), by decide⟩, by decide, by decide, by decide,
    admitted rfl rfl rfl rfl (by decide) (by decide), ⟨admitted rfl rfl rfl rfl (by decide) (by decide), by decide⟩⟩

/-- A reload point on the grid at a master, one held back, one at a standby, and what the reports of a second find. -/
theorem witness_ReloadPointsAndReports :
    let held : State := { base with twn := { role := .active, takeFrom := some 40000 } }
    let supp : State := modIns 63 (fun x => { x with eng := { x.eng with suppressed := 1 } }) base
    let same (s : State) (m : Chan) : Prop := s.insCh[m].eng.suppressed = s.insCh[m].reported.1 ∧
      s.insCh[m].eng.closed = s.insCh[m].reported.2.1 ∧ s.insCh[m].eng.reversals = s.insCh[m].reported.2.2.1
    (tctl base ≠ 0 ∧ (20000#64).toNat % tctl base = 0 ∧ (20001#64).toNat % tctl base ≠ 0 ∧ base.pwr.mod = .ready ∧
      base.ins.lastClosed ≠ some 20000 ∧ mainUp base = true) ∧
    ((reloadTurn 20000 base).twn.role = .active ∧ heldBack 20000 (reloadTurn 20000 base) = false) ∧
    ((reloadTurn 20000 held).twn.role = .active ∧ heldBack 20000 (reloadTurn 20000 held) = true) ∧
    (reloadTurn 20000 standby).twn.role = .standby ∧
    (∀ m, same base m) ∧ (¬ same supp 63 ∧ ∀ m : Chan, m ≠ 63 → same supp m) ∧
    ({ satPeriods := 1 } : InsSt).satPeriods ≠ ({ satPeriods := 1 } : InsSt).satReported ∧ base.ins.satPeriods = base.ins.satReported ∧
    base.hst.lateCount = 0 ∧ ({ lateCount := 1 } : HstSt).lateCount ≠ 0 ∧
    (base.stg.byLimits = (0, 0) ∧ base.stg.byDelay = (0, 0)) ∧
    (({ byLimits := (1, 5) } : StgSt).byLimits.1 ≠ 0 ∧ ({ byLimits := (1, 5) } : StgSt).byDelay.1 = 0) ∧
    (({ byDelay := (1, 5) } : StgSt).byLimits.1 = 0 ∧ ({ byDelay := (1, 5) } : StgSt).byDelay.1 ≠ 0) := by
  refine ⟨by decide, by decide, by decide, by decide, by decide, by decide, by decide⟩

/-! ## The quench matrix (08) -/

/-- A used input free, blanked, at nine entries, in demand, with a wiring fault and chattering; an unused one. -/
theorem witness_TripInputsQuenchTheirGroups :
    let map : State := { base with cfg := { eff := [(Prm.insGroup + 63, [7]), (Prm.insTripMap + 7, [0x80])] } }
    let trip (t : TripSt) (s : State) : State := { s with qm := { trips := (Vector.replicate 8 {}).set 7 t } }
    let edge : State := modIns 63 (fun x => { x with closedEdges := [(0, .inserted, 10)] })
      { map with cfg := { eff := [(Prm.insGroup + 63, [7]), (Prm.insTripMap + 7, [0x80]), (Prm.insBlankTime + 7, [4, 0])] } }
    let chat : State := trip { wiring := true, entries := List.replicate 9 0 } map
    (tripUsed map 7 = true ∧ inDemand map.qm.trips[7] = false ∧ (pNat map (Prm.insTripMap + 7)).testBit 7 = true ∧
      blankingRuns map 7 = false) ∧
    (tripUsed edge 7 = true ∧ inDemand edge.qm.trips[7] = false ∧ blankingRuns edge 7 = true ∧ quenched edge 7 = false) ∧
    (tripUsed chat 7 = true ∧ chat.qm.trips[7].demand = false ∧ chat.qm.trips[7].chatter = false ∧ chat.qm.trips[7].wiring = true ∧
      chat.qm.trips[7].entries.length = 9 ∧ chat.tim.tb - chat.qm.trips[7].entries.getLastD 0 < tSec) ∧
    (let s := trip { demand := true } map; s.qm.trips[7].demand = true ∧ s.qm.trips[7].wiring = false ∧ s.qm.trips[7].chatter = false ∧
      inDemand s.qm.trips[7] = true) ∧
    tripUsed base 7 = false ∧ base.qm.trips[7].chatter = false ∧ (trip { chatter := true } map).qm.trips[7].chatter = true ∧
    stormCase base 3 = false ∧ (1 ≤ (1#8).toNat ∧ (4#8).toNat ≤ 4 ∧ (0#8).toNat = 0 ∧ 4 < (5#8).toNat) ∧
    (pNat base Prm.insHaltMap).testBit 7 = true := by
  decide

theorem witness_LanesReleaseAndTripRequest :
    let q (x : QmSt) : State := { base with qm := x }
    let one : State := q { lane := 2, laneBad := 4 }
    let two : State := q { lane := 2, laneBad := 4, laneFailed := 1 }
    base.qm.laneBad.getLsbD base.qm.lane.val = false ∧
    (one.qm.laneBad.getLsbD one.qm.lane.val = true ∧ one.qm.laneFailed = 0 ∧ (findFault one 0x0301 2).isNone = true ∧
      stormCase one 2 = false) ∧
    (two.qm.laneBad.getLsbD two.qm.lane.val = true ∧ two.qm.laneFailed.getLsbD two.qm.lane.val = false ∧ two.qm.laneFailed ≠ 0 ∧
      isMaster two = true) ∧
    (let s := q { latched := 0x81 }; Admits hdr 0x0303 4 .none false s 0 (taken 2 s)) ∧
    (let s := q { latched := 0x80, fwHalt := true }
     Admits hdr 0x0303 4 .none false s 0 (taken 2 s) ∧ (0x80#8).getLsbD 7 = true ∧ quenched (taken 2 s) 7 = true ∧
       presentFor (taken 2 s) 7 = true) ∧
    base.qm.tripreq = false ∧ tripCause (q { tripA2 := true }) = true ∧
    (q { tripreq := true }).qm.tripreq = true ∧ tripCause (q { tripreq := true }) = false := by
  refine ⟨by decide, by decide, by decide, admitted rfl rfl rfl rfl (by decide) (by decide),
    ⟨admitted rfl rfl rfl rfl (by decide) (by decide), by decide⟩, by decide⟩

/-! ## The assay engine (09, 10) -/

/-- Eight ACTIVE channels and a cell model. -/
def eight : State :=
  { base with con := (Vector.range 64).map (fun k => { state := if k < 8 then .active else .disconnected })
              cfg := { eff := [(Prm.asyCellModel, [1])] } }

theorem witness_AssayCommandsOfTheHost :
    let st (x : ChState) : State := chan 63 (fun c => { c with state := x })
    let phase (k : Nat) : State := { st .active with cyc := State.reset.cyc.set 63 { phase := k } }
    let none_ : State := { base with cfg := { eff := [(Prm.modPopulated, [1, 0, 0, 0, 0, 0, 0, 0])] } }
    let model : State := { base with cfg := { eff := [(Prm.asyCellModel, [1])] } }
    let bulk : Bulk := { offset := 0x01010000, length := 192 }
    let buf (x : ChState) (y : LinkState) : State :=
      modPort 63 (fun p => { p with state := y }) (modTxn 63 (fun p => { p with caps := some { (default : Caps) with tmark := true } })
        { st x with win := [(0x01010000, 0xA0), (0x01010003, 0x80)] })
    let ok (op least : Nat) (s : State) : Prop := Admits hdr op least (.channel 63) false s 0 (taken 2 s)
    (ok 0x0401 4 (st .fenced) ∧ ok 0x0401 4 (st .bypass) ∧ Admits hdr 0x0401 4 (.channel 0) false eight 0 (taken 2 eight)) ∧
    ((taken 2 (st .fenced)).con[63].state = .fenced ∧ (taken 2 (st .bypass)).con[63].state ≠ .fenced ∧
      (taken 2 (st .bypass)).con[63].state ≠ .active) ∧
    (let t := taken 2 eight
     t.con[0].state = .active ∧ t.ins.direct = false ∧ (∀ k : Chan, t.cyc[k].phase = 0) ∧ modelOk t = true ∧
       pNat t Prm.asyAcMinActive ≤ (activeChans t).length ∧ t.asyCh[0].grant = none ∧ cycleFlag t 0 = false ∧
       t.pwr.warn = false ∧ t.pwr.holdupFault = false) ∧
    (ok 0x0402 4 base ∧ ok 0x0402 4 (phase 1) ∧ ok 0x0402 4 (phase 4)) ∧
    ((taken 2 base).cyc[63].phase = 0 ∧ (taken 2 (phase 1)).cyc[63].phase = 1 ∧ (taken 2 (phase 4)).cyc[63].phase = 4) ∧
    (ok 0x0403 16 base ∧ ok 0x0403 16 (st .active)) ∧
    (restable (taken 2 base) 63 = false ∧ populated (taken 2 (st .active)) 63 = true ∧ restable (taken 2 (st .active)) 63 = true ∧
      (taken 2 (st .active)).tim.station = 0 ∧ (taken 2 (st .active)).asyCh[63].restFrom = none) ∧
    ((0#32).toNat < 1 ∧ 300 < (301#32).toNat ∧ 0 + 3600 * tSec < (2880000000001#64).toNat ∧ (0#64).toNat ≤ 0 ∧
      0 < (2880000000000#64).toNat ∧ (2880000000000#64).toNat ≤ 0 + 3600 * tSec) ∧
    Admits hdr 0x0404 12 (.channel 63) true base 0 (taken 2 base) ∧ bulkOk (taken 2 base) bulk 160 = false ∧
    Admits hdr 0x0404 12 (.channel 63) true (buf .dormant .running) 0 (taken 2 (buf .dormant .running)) ∧
      WindowForm (taken 2 (buf .dormant .running)) ∧
    Admits hdr 0x0404 12 (.channel 63) true (buf .bypass .running) 0 (taken 2 (buf .bypass .running)) ∧
      WindowForm (taken 2 (buf .bypass .running)) ∧
    (let t := taken 2 (buf .bypass .running)
     bulkOk t bulk 160 = true ∧ 160 ≤ bulkValid t bulk ∧ running t 63 = true ∧ t.con[63].state ≠ .dormant ∧
       t.txns[63].caps.any (·.tmark) = true ∧ (taken 2 (buf .dormant .running)).con[63].state = .dormant) ∧
    (Admits hdr 0x0405 4 .none false base 0 (taken 2 base) ∧ Admits hdr 0x0405 4 .none false model 0 (taken 2 model) ∧
      Admits hdr 0x0405 4 .none false none_ 0 (taken 2 none_)) ∧
    (64 ≤ (64#8).toNat ∧ 64#8 ≠ 0xFF ∧ (63#8).toNat = 63 ∧ populated (taken 2 none_) 63 = false ∧ modelOk (taken 2 base) = false ∧
      modelOk (taken 2 model) = true ∧ populated (taken 2 model) 63 = true) := by
  refine ⟨⟨?_, ?_, ?_⟩, by decide, by decide +kernel, ⟨?_, ?_, ?_⟩, by decide, ⟨?_, ?_⟩, by decide, by decide, ?_, by decide, ?_, rfl, ?_, rfl,
    by decide, ⟨?_, ?_, ?_⟩, by decide⟩ <;> exact admitted rfl rfl rfl rfl (by decide) (by decide)

/-- No populated channel is enough for the estimator; a wide group for the rests; grants at both kinds of module; phases 1 and 5. -/
theorem witness_RestsSavesAndEstimator :
    let empty : State := { base with cfg := { eff := [(Prm.modPopulated, [0, 0, 0, 0, 0, 0, 0, 0])] } }
    let idle : State := { empty with twn := { role := .standby } }
    let fenced : State := { base with flt := { fencedBlocks := [(0x0401, 0), (0x0401, 1)] } }
    let halted : State := { base with qm := { fwHalt := true } }
    let asy (a : AsyCh) (s : State) : State := modAsy 63 (fun _ => a) s
    let wide : State := asy { restReq := some 0, worst := (1 / 10, 0) } base
    let act : State := asy { grant := some (0, 300) } (chan 63 (fun c => { c with state := .active }))
    let cyc (k : Nat) : State := { base with cyc := State.reset.cyc.set 63 { phase := k } }
    (blockFenced fenced 0x0401 0 = true ∧ blockFenced fenced 0x0401 1 = true ∧ fwRuns halted = false) ∧
    (fwRuns empty = true ∧ blockFenced empty 0x0401 0 = false ∧ isMaster (estimate empty) = true) ∧
    (fwRuns idle = true ∧ blockFenced idle 0x0401 1 = false ∧ isMaster (estimate idle) = false) ∧
    (isMaster wide = true ∧ wide.asyCh[63].restReq.isSome = true ∧ wide.asyCh[63].grant = none ∧ wide.asyCh[63].worst.1 > 3 / 100 ∧
      wide.cyc[63].phase = 0) ∧
    (isMaster standby = false ∧ base.asyCh[63].restReq = none ∧ base.asyCh[63].grant = none) ∧
    (act.asyCh[63].grant.isSome = true ∧ act.asyCh[63].restFrom = none ∧ isMaster act = true ∧ restable act 63 = true ∧
      restable (asy { grant := some (0, 300) } base) 63 = false) ∧
    ((asy { restFrom := some 0 } base).asyCh[63].restFrom.isSome = true ∧ base.asyCh[63].restFrom = none) ∧
    ((cyc 1).cyc[63].phase ≠ 0 ∧ (cyc 1).cyc[63].phase ≠ 5 ∧ (cyc 5).cyc[63].phase = 5 ∧ base.cyc[63].phase = 0 ∧
      ∀ m : Chan, base.cyc[m].tmPending = false) := by
  intro empty idle fenced halted asy wide act cyc
  refine ⟨?_, ?_, ?_, ?_, ?_, ?_, ?_, ?_⟩ <;> decide +kernel

/-! ## Tones and frames (04, 05) -/

theorem witness_TonesOfAPort :
    let tone (t : ToneState) (l : LinkState) (c : ChState) : State :=
      modPort 63 (fun x => { x with tone := t, state := l }) (chan 63 (fun x => { x with state := c }))
    let dark : State := { base with pwr := { onPwr with dark := true } }
    (let s := tone .healthy .running .active
     portOn s 63 = true ∧ armed s 63 = true ∧ s.ports[63].tone ≠ .fault ∧ s.ports[63].tone ≠ .lost ∧ s.con[63].state ≠ .dormant ∧
       s.ports[63].tone ≠ .downstream ∧ s.ports[63].state = .running ∧ s.ports[63].tone = .healthy) ∧
    (let s := tone .fault .aligned .disconnected
     portOn s 63 = true ∧ s.ports[63].tone = .fault ∧ s.ports[63].state ≠ .running ∧ s.ports[63].tone ≠ .healthy) ∧
    portOn dark 63 = false ∧ base.ports[63].tone = .lost ∧ (tone .downstream .running .active).ports[63].tone = .downstream := by
  decide

theorem witness_FrameTimersAndSync :
    let run : State := modPort 63 (fun x => { x with state := .running }) base
    let delay : State := modPort 63 (fun x => { x with state := .ranging, delay := some 5000 }) base
    let f : DownFrame := { rcnt := 1, body := .cmd 0 0 0 [] }
    let c : NodeCmd := { id := 9, code := 0, args := [], purpose := .protect, at_ := 0 }
    let txn (x : TxnSt) (s : State) : State := modTxn 63 (fun _ => x) s
    runningPorts base = [] ∧ (runningPorts run = [63] ∧ run.ports[63].delay = none ∧ run.ports[63].state = .running) ∧
    base.ports[63].state ≠ .running ∧
    (Admits hdr 0x0503 4 (.port 63) true run 0 (taken 2 run) ∧ (taken 2 run).ports[63].state = .running) ∧
    (Admits hdr 0x0503 4 (.port 63) true base 0 (taken 2 base) ∧ (taken 2 base).ports[63].state ≠ .running ∧
      (taken 2 base).ports[63].delay = none) ∧
    (Admits hdr 0x0503 4 (.port 63) true delay 0 (taken 2 delay) ∧ (taken 2 delay).ports[63].state ≠ .running ∧
      (taken 2 delay).ports[63].delay.isSome = true) ∧
    (receiving run 63 = true ∧ receiving base 63 = false ∧ base.txns[63].unacked = []) ∧
    ((txn { unacked := [f], tries := 7 } base).txns[63].unacked = f :: [] ∧ (txn { unacked := [f], tries := 7 } base).txns[63].sreset = false ∧
      (txn { unacked := [f], tries := 7 } base).txns[63].tries < 8 ∧ 8 ≤ (txn { unacked := [f], tries := 8 } base).txns[63].tries) ∧
    ((∀ x ∈ base.txns[63].cmds, x.id ≠ 9) ∧ (txn { cmds := [c] } base).txns[63].cmds.find? (fun x => x.id == 9) = some c ∧
      c.purpose = .protect) ∧
    (let s := txn { framesBad := 100 } run; (s.txns[63].framesBad - s.txns[63].badAtCheck).toNat ≤ 100) ∧
    (let s := txn { framesBad := 101 } run; s.ports[63].state = .running ∧ 100 < (s.txns[63].framesBad - s.txns[63].badAtCheck).toNat ∧
      s.txns[63].badSaidAt = none) ∧
    (let s := txn { badSaidAt := some 0 } base; s.txns[63].badSaidAt = some 0 ∧ s.tim.tb - 0 < 60 * tSec) := by
  refine ⟨by decide, by decide, by decide, ⟨?_, by decide⟩, ⟨?_, by decide⟩, ⟨?_, by decide⟩, by decide, by decide,
    by decide +kernel, by decide, by decide, by decide⟩ <;> exact admitted rfl rfl rfl rfl (by decide) (by decide)

/-- A header with a SEQ, RCNT and ACK. -/
def frame (rcnt ack : Byte) (sreset : Bool := false) : FrameHdr :=
  { seq := 1, rcnt := rcnt, ack := ack, retx := false, resend := false, sreset := sreset }

theorem witness_HeaderOfAReceivedFrame :
    let txn (x : TxnSt) : State := modTxn 63 (fun _ => x) base
    let f : DownFrame := { rcnt := 1, body := .cmd 0 0 0 [] }
    (base.txns[63].sreset = false ∧ (frame 1 0).rcnt = base.txns[63].rcntRx + 1 ∧ (frame 2 0).rcnt ≠ base.txns[63].rcntRx + 1 ∧
      newer8 (frame 2 0).rcnt base.txns[63].rcntRx = true ∧ newer8 (frame 127 0).rcnt base.txns[63].rcntRx = true) ∧
    (let s := txn { unacked := [f], rcntTx := 1 }
     s.txns[63].sreset = false ∧ newer8 (frame 0 0).ack s.txns[63].rcntTx = false ∧ f ∈ s.txns[63].unacked ∧
       newer8 f.rcnt (frame 0 0).ack = true ∧ s.txns[63].waiting = []) ∧
    (let s := txn { sreset := true }; s.txns[63].sreset = true ∧ (frame 0 0).sreset = false ∧ (frame 0 0 true).sreset = true) := by
  decide +kernel

/-- A RUNNING port of two cells, and one in EXCHANGE with its partner's port. -/
def node (st : LinkState) : State :=
  modPort 63 (fun x => { x with state := st })
    { base with cfg := { eff := [(Prm.asyAvgMode, [0]), (Prm.asyOwScan, [0, 0]), (Prm.asyCells + 63, [2, 0]), (Prm.asyTemps + 63, [0])] } }

theorem witness_FramesFromANode :
    let run := node .running
    let exc := node .exchange
    let dup := modTxn 0 (fun x => { x with caps := some { (default : Caps) with nodeId := 7 } }) (modPort 0 (fun x => { x with state := .running }) exc)
    let caps (proto : Half) (side : Bool) (cells : Half) : Caps :=
      { (default : Caps) with proto := proto, sideB := side, cells := cells, nodeId := 7, features := 0xFFFF }
    let c : NodeCmd := { id := 9, code := 0x20, args := [], purpose := .protect, at_ := 0 }
    let cmd := modTxn 63 (fun x => { x with cmds := [c] }) run
    let rep : NodeReply := { (default : NodeReply) with cmdId := 9, code := 0x20 }
    receiving base 63 = false ∧ receiving run 63 = true ∧ receiving exc 63 = true ∧
    ((acceptHdr 63 (frame 0 0) false run).1 = true ∧ run.ports[63].state = .running ∧
      (acceptHdr 63 (frame 0 0) false (modTxn 63 (fun x => { x with sreset := true }) run)).1 = true ∧ exc.ports[63].state ≠ .running) ∧
    ((acceptHdr 63 (frame 2 0) true run).1 = false ∧ (acceptHdr 63 (frame 1 0) true run).1 = true ∧
      (acceptHdr 63 (frame 1 0) true exc).1 = true) ∧
    (cellCount run 63 = 2 ∧ run.meas[63].carrierAt = none) ∧
    (let r := acceptHdr 63 (frame 1 0) true cmd
     r.1 = true ∧ rep.result ≠ 1 ∧ r.2.txns[63].cmds.find? (fun x => x.id == rep.cmdId && x.code == rep.code) = some c) ∧
    (let r := (acceptHdr 63 (frame 1 0) true exc).2
     (caps 0x0200 false 2).proto.toNat / 256 ≠ 1 ∧ (caps 0x01FF false 2).proto.toNat / 256 = 1 ∧
       (caps 0x0100 true 2).sideB ≠ sideExpected r ∧ (caps 0x0100 false 2).sideB = sideExpected r ∧
       sameNode r 63 7 = none ∧ capsFault r 63 (caps 0x0100 false 3) = some 3 ∧ capsFault r 63 (caps 0x0100 false 2) = none) ∧
    sameNode (acceptHdr 63 (frame 1 0) true dup).2 63 7 = some 0 := by
  decide +kernel

/-! ## The crucible (13) -/

/-- TS15 off, throttling, and tripping all groups at 100 °C with its fault trip; the die warning on both sides. -/
theorem witness_ThermalInputsTripAndDieWarning :
    let conf (role : Byte) (s : State) : State :=
      { s with cfg := { eff := [(Prm.insThmMap, [0xFF]), (Prm.thmTs + 15, [1, role, 0xFF, 0, 0, 0, 0xE8, 3, 0, 0, 0, 0])] } }
    let ts (x : TsSt) : State := conf 6 { base with thm := { ts := (Vector.replicate 16 {}).set 15 x } }
    let warn : State := { base with thm := { dieWarn := true, receivedAt := some 0 } }
    let s := ts {}
    Admits hdr 0x0601 4 .none false base 0 (taken 2 base) ∧ tsType base 15 = 0 ∧
    (tsType s 15 ≠ 0 ∧ mainUp s = true ∧ s.pwr.configLoaded = true ∧ blockFenced s 0x0601 0xFFFF = false) ∧
    (tsRead .isShort = .inr 1 ∧ s.thm.ts[15].fault = none ∧ s.thm.ts[15].bad = 0 ∧ 1 ≤ (ts { bad := 1 }).thm.ts[15].bad) ∧
    (tsRead (.reading 1000) = .inl 1000 ∧ tsTrips s 15 = true ∧ tsTrip s 15 ≤ 1000 ∧ (tsScope s 15).testBit 7 = true ∧
      (pNat s Prm.insThmMap).testBit 7 = true ∧ (0 : Int) < tsTrip s 15 - pNat s Prm.thmHyst) ∧
    ((ts { fault := some 1 }).thm.ts[15].fault = some 1 ∧ (ts { fault := some 1 }).thm.ts[15].good = 0 ∧
      1 ≤ (ts { fault := some 1, good := 1 }).thm.ts[15].good) ∧
    (tsFaultTrip s 15 = true ∧ tsFaultTrip base 15 = false ∧ tsTrips base 15 = false) ∧
    (base.thm.dieWarn = false ∧ pInt base Prm.thmDieWarn ≤ (1500#16).toInt ∧ warn.thm.dieWarn = true ∧
      (0#16).toInt ≤ pInt base Prm.thmDieWarn - 50 ∧ pInt base Prm.thmDieWarn - 50 < (1500#16).toInt) ∧
    (twin.twn.open_ = none ∧ mayOffer twin = true ∧ lately twin.tim.tb twin.thm.receivedAt (600 * tSec) = false ∧
      lately warn.tim.tb warn.thm.receivedAt (600 * tSec) = true) := by
  refine ⟨admitted rfl rfl rfl rfl (by decide) (by decide), by decide, by decide, by decide, by decide, by decide, by decide,
    by decide, by decide⟩

/-! ## Load outputs (14) -/

/-- The module with LO31 in a state. -/
def lo31 (x : LoSt) (s : State := base) : State := { s with lo := { out := (Vector.replicate 32 {}).set 31 x } }

/-- LO31 configured with ON_MAX 1 s and an open-load limit, its group with an isolation switch. -/
def lo31Cfg (x : LoSt) : State :=
  lo31 x { base with cfg := { eff := [(Prm.loCutoff, [8]), (Prm.loCfg + 31, [20, 0, 100, 0, 1, 0, 1, 0, 1, 0, 0, 0, 1, 0, 0, 0])] } }

theorem witness_LoadOutputsTurnOnAndOff :
    let fenced : State := { base with lo := { fenced := true } }
    let busy : State := { base with lo := { out := ((Vector.replicate 32 {}).set 24 { state := .inrush }).set 31 {} } }
    let out (x : LoSt) : LoSt := (lo31 x).lo.out[31]
    (Admits hdr 0x0701 12 .none false base 0 (taken 2 base) ∧ Admits hdr 0x0702 4 .none false base 0 (taken 2 base) ∧
      (taken 2 base).lo.fenced = false) ∧
    (Admits hdr 0x0701 12 .none false fenced 0 (taken 2 fenced) ∧ Admits hdr 0x0702 4 .none false fenced 0 (taken 2 fenced) ∧
      (taken 2 fenced).lo.fenced = true) ∧
    ((out { failed := true }).failed = true ∧ (out { latch := true }).latch = true ∧ (out { retired := some 0 }).retired.isSome = true) ∧
    ((out {}).failed = false ∧ (out {}).retired = none ∧ (out {}).latch = false ∧ (out {}).cmd = false ∧ (out { cmd := true }).cmd = true) ∧
    (pNat base Prm.loToggleMax ≤ ((out { toggles := List.replicate 10 0 }).toggles.filter (fun a => decide (0 - a < tSec))).length ∧
      ((out { toggles := List.replicate 9 0 }).toggles.filter (fun a => decide (0 - a < tSec))).length < pNat base Prm.loToggleMax) ∧
    (base.lo.grp[loGroup 31].cut = false ∧ (out {}).next = none ∧ (out {}).state ≠ .cut ∧ loFlag base 31 0 = false ∧
      inrushIn base (loGroup 31) = false ∧ inrushIn busy (loGroup 31) = true ∧ busy.lo.out[31].state ≠ .inrush) ∧
    ((out { next := some 1 }).next = some 1 ∧ base.tim.tb < 1) ∧ loGroup 23 ≠ loGroup 24 ∧
    ((out { state := .inrush }).state = .inrush ∧ (out { state := .wait, cmd := true }).state = .wait ∧ loRuns base = true) ∧
    ((out { state := .uvOff, cmd := true, next := some 1 }).state = .uvOff ∧ (out { state := .uvOff, next := some 1 }).next.isSome = true) ∧
    (loLit (out { state := .on, annealing := true }) = true ∧ (out { state := .on, annealing := true }).annealing = true ∧
      loLit (out {}) = false) ∧
    ((lo31Cfg { cmd := true, state := .on }).lo.out[31].cmd = true ∧ loOnMax (lo31Cfg {}) 31 ≠ 0 ∧ loRuns (lo31Cfg {}) = true ∧
      loOnMax base 31 = 0) := by
  refine ⟨⟨?_, ?_, by decide⟩, ⟨?_, ?_, by decide⟩, by decide, by decide, by decide, by decide, by decide, by decide, by decide,
    by decide, by decide, by decide⟩ <;> exact admitted rfl rfl rfl rfl (by decide) (by decide)

theorem witness_LoadOutputFaultsCountAttempts :
    let off (x : LoSt) : State := lo31 x { base with pwr := { onPwr with mod := .booting } }
    (loLit (lo31 { state := .on, k := 7 }).lo.out[31] = true ∧ loRuns (lo31 { state := .on, k := 7 }) = true ∧
      (lo31 { state := .on, k := 7 }).lo.out[31].k < 8 ∧ (lo31 { state := .on, k := 7 }).lo.out[31].state = .on) ∧
    (loLit (lo31 { state := .inrush, k := 8 }).lo.out[31] = true ∧ 8 ≤ (lo31 { state := .inrush, k := 8 }).lo.out[31].k ∧
      (lo31 { state := .inrush, k := 8 }).lo.out[31].state = .inrush) ∧
    (loLit (off { state := .on }).lo.out[31] = true ∧ loRuns (off { state := .on }) = false) ∧
    (loLit (lo31 {}).lo.out[31] = false ∧ (lo31 {}).lo.out[31].state ≠ .uvOff ∧ (lo31 {}).lo.out[31].state ≠ .wait ∧
      (lo31 {}).lo.out[31].state ≠ .queued) ∧
    (let s := lo31 { state := .latched, latch := true }
     s.lo.out[31].latch = true ∧ s.lo.out[31].cmd = false ∧ s.lo.out[31].state = .latched ∧ s.lo.out[31].retired = none ∧
       s.lo.out[31].failed = false ∧ (lo31 {}).lo.out[31].latch = false) ∧
    320000000 < (65535#16).toNat * 48 * (65535#16).toNat / 2 ∧
    (let s := lo31 {}; s.lo.out[31].cmd = false ∧ s.lo.out[31].state ≠ .cut ∧ (pNat s Prm.loCutoff).testBit (loGroup 31).val = false) ∧
    ((pNat (lo31Cfg {}) Prm.loCutoff).testBit (loGroup 31).val = true ∧ (lo31 { cmd := true }).lo.out[31].cmd = true) ∧
    ((lo31Cfg { state := .on }).lo.out[31].state = .on ∧ loHalf (lo31Cfg {}) 31 8 ≠ 0 ∧
      (lo31Cfg { state := .on }).lo.out[31].openLoad = none) := by
  decide

/-! ## The safety supervisor (15) -/

/-- Pair 0 an emergency stop, pair 7 a guard door, pair 3 the two-hand control; each with a state. -/
def safe3 (e g h : PairSt) (si : Vector SiSt 16 := Vector.replicate 16 {}) (x : SafSt := {}) : State :=
  { base with saf := { x with latched := #v[0, 0, 0x01, 0x80, 0x0B]
                              pair := (((Vector.replicate 8 {}).set 0 e).set 7 g).set 3 h, si := si } }

/-- The same with input 15, contact B of the door, permitting. -/
def doorB : Vector SiSt 16 := (Vector.replicate 16 {}).set 15 { permit := true }

theorem witness_SafetyFunctionsDemandAndReset :
    let on := safe3 { state := .permit } { state := .permit } { state := .demand, sync := some 0 } doorB
    let off := safe3 { state := .demand } { state := .demand } { state := .demand } doorB
    let differ := safe3 {} { state := .permit, count := 19 } {} doorB
    let src := safe3 {} { state := .demand } {} (x := { srcLow := 0xF })
    let reset := safe3 { state := .resetPending, since := 0 } { state := .faultClearable, since := 0, disc := true } { state := .demand }
    let young : State := { reset with saf := { reset.saf with pair := reset.saf.pair.set 0 { state := .resetPending, since := 1 } } }
    (({ running := false } : SafSt).running = false ∧ on.saf.running = true ∧ locked on = false ∧
      ∀ m : SafetyPair, on.saf.pair[m].state ≠ .lockout) ∧
    (on.saf.si[15].permit = true ∧ pairOf 15 = 7 ∧ twoHand on 7 = false ∧ on.saf.pair[7].state = .permit ∧ eStop on 7 = false ∧
      eStop on 0 = true ∧ on.saf.pair[0].state = .permit ∧ on.saf.si[15].chatter = false) ∧
    (starved src 15 = true ∧ starved off 14 = false ∧ off.saf.pair[7].state = .demand ∧ off.saf.si[14].permit = false ∧
      ∀ j : SafetyIn, pairOf j = pairOf 14 → j ≠ 14 → permits off j = true) ∧
    (pairType differ 3 = 0 ∧ pairType differ 7 ≠ 0 ∧ differ.saf.si[contactA 7].permit ≠ differ.saf.si[contactB 7].permit ∧
      discTime differ ≤ differ.saf.pair[7].count + 1 ∧ differ.saf.pair[7].state = .permit ∧
      differ.saf.si[contactA 0].permit = differ.saf.si[contactB 0].permit ∧ discTime differ ≠ 0) ∧
    (twoHand on 3 = true ∧ on.saf.pair[3].state = .demand ∧ on.saf.pair[3].sync.isSome = true ∧ handsChatter on 3 = false ∧
      off.saf.pair[3].sync = none) ∧
    (100 ≤ (100#16).toNat ∧ (3000#16).toNat ≤ 3000 ∧ (99#16).toNat < 100 ∧ 3000 < (3001#16).toNat ∧ reset.saf.stuck = false) ∧
    (reset.saf.pair[0].state = .resetPending ∧ reset.saf.pair[0].since ≤ reset.tim.tb - (100#16).toNat * tMs ∧
      ¬ young.saf.pair[0].since ≤ young.tim.tb - (100#16).toNat * tMs ∧ reset.saf.pair[7].state = .faultClearable ∧
      reset.saf.pair[3].state = .demand ∧ reset.saf.stuck ≠ true) := by
  decide

theorem witness_SafetyOutputsAndLockouts :
    let none_ : State := { base with saf := { running := false } }
    let on := safe3 { state := .permit } { state := .permit } {} doorB
    let src := safe3 {} { state := .permit } {} ((Vector.replicate 16 {}).set 15 { permit := true, highRun := 1 })
      { srcRun := Vector.replicate 4 1 }
    let sw : State := { on with saf := { on.saf with so := on.saf.so.set 7 { runs := (1, 0) } } }
    let deg : State := { sw with saf := { sw.saf with degraded := some { switch := false, index := 3, at_ := 0, absentAt := none } } }
    (none_.saf.running = false ∧ on.saf.running = true) ∧
    (1 ≤ src.saf.srcRun[3] ∧ src.saf.srcHigh.getLsbD 3 = false ∧ src.saf.degraded.isNone = true ∧ contactIn src 15 = true ∧ sourceOf 15 = 3 ∧
      (0x8000#16).getLsbD 15 = true ∧ 1 ≤ src.saf.si[15].highRun ∧ locked src = false ∧ src.saf.pair[pairOf 15].state = .permit) ∧
    (soOn on 3 = false ∧ soOn on 7 = true ∧ soOn sw 7 = true ∧ 1 ≤ sw.saf.so[7].runs.1 ∧ sw.saf.so[7].failed.getLsbD 0 = false ∧
      sw.saf.degraded.isNone = true ∧ soOn deg 7 = true ∧ deg.saf.degraded.isSome = true ∧ deg.saf.lockDegraded = false) ∧
    (let x : HallmarkScan := { (default : HallmarkScan) with hbC := 0x01, hbD := 0x80, hbE := 0x0B }
     scanAll x = on.saf.latched ∧ x.contradictory = 0 ∧ (0#8) ≠ on.saf.latched[(2 : Fin 5)]) ∧
    pairUsed on 1 = false ∧
    (Admits hdr 0x0801 0 .none false none_ 0 (taken 2 none_) ∧ (taken 2 none_).saf.running = false) ∧
    (Admits hdr 0x0801 0 .none false base 0 (taken 2 base) ∧ (taken 2 base).saf.running = true) := by
  refine ⟨by decide, by decide, by decide, by decide, by decide, ⟨?_, by decide⟩, ⟨?_, by decide⟩⟩ <;>
    exact admitted rfl rfl rfl rfl (by decide) (by decide)

/-! ## The coordination bus (16) -/

/-- Both buses enabled, bus B as given. -/
def bus (x : BusOne) (s : State := base) (all : BusSt := {}) : State :=
  { s with bus := { all with one := all.one.set 1 x }, cfg := { eff := [(Prm.busEnable, [3])] } }

theorem witness_BusCommandsOfTheHost :
    let unfit (mask : BitVec 2) (t : State) : Prop := ∃ b : BusId, inMask mask b = true ∧ (busEnabled t b = false ∨ t.bus.one[b].mode ≠ 0)
    let disabled : State := { base with cfg := { eff := [(Prm.busEnable, [0])] } }
    let ok := bus {}
    let off := bus { state := .busOff }
    let clash := bus {} (all := { clash := true })
    let heard := bus {} (all := { clash := true, ownHeardAt := some 0 })
    let rec_ : State := { bus { state := .recovering } with cmd := { pend := [pendOf hdr 0x0901 (.bus 2) 0 2] } }
    let full := bus { fifo := List.replicate 31 { ident := 0, data := [], at_ := 0, tag := none } }
    let send (s : State) : Prop := Admits hdr 0x0902 52 (.bus 2) true s 0 (taken 2 s)
    (Admits hdr 0x0903 8 (.bus 2) false disabled 0 (taken 2 disabled) ∧ Admits hdr 0x0903 8 (.bus 2) false ok 0 (taken 2 ok)) ∧
    (inMask 2 1 = true ∧ busEnabled (taken 2 disabled) 1 = false ∧ ∀ b : BusId, inMask 2 b = true → busEnabled (taken 2 ok) b = true) ∧
    ((bus { modeReq := some 2 }).bus.one[1].modeReq = some 2 ∧ ok.bus.one[1].modeReq = none) ∧
    (Admits hdr 0x0901 4 (.bus 2) true disabled 0 (taken 2 disabled) ∧ Admits hdr 0x0901 4 (.bus 2) true ok 0 (taken 2 ok) ∧
      Admits hdr 0x0901 4 (.bus 2) true clash 0 (taken 2 clash) ∧ Admits hdr 0x0901 4 (.bus 2) true heard 0 (taken 2 heard) ∧
      Admits hdr 0x0901 4 (.bus 2) true off 0 (taken 2 off)) ∧
    (unfit 2 (taken 2 disabled) ∧ ¬ unfit 2 (taken 2 ok) ∧ ¬ unfit 2 (taken 2 clash) ∧ ¬ unfit 2 (taken 2 heard) ∧ ¬ unfit 2 (taken 2 off)) ∧
    ((∀ b : BusId, inMask 2 b = true → (taken 2 ok).bus.one[b].state ≠ .busOff) ∧ (taken 2 ok).bus.clash = false ∧
      (taken 2 clash).bus.clash = true ∧ ownHeard (taken 2 clash) = false ∧ ownHeard (taken 2 heard) = true ∧
      (taken 2 off).bus.one[1].state = .busOff ∧ (taken 2 off).bus.clash = false) ∧
    (rec_.bus.one[1].state = .recovering ∧ ok.bus.one[1].state ≠ .recovering ∧ pendOf hdr 0x0901 (.bus 2) 0 2 ∈ rec_.cmd.pend ∧
      (2#64 &&& 3 = BitVec.ofNat 64 (busBit 1))) ∧
    (send disabled ∧ send ok ∧ send off ∧ send clash ∧ send full) ∧
    (64 < (65#7).toNat ∧ (64#7).toNat ≤ 64 ∧ 32 < (33#7).toNat ∧ (32#7).toNat ≤ 32 ∧ (1#4).toNat ≤ 1 ∧ (0xFF#13).toNat ≤ 0xFF ∧
      1 < (2#4).toNat ∧ 0xFF < (0x100#13).toNat ∧ bulkOk (taken 2 ok) { offset := 0, length := 0 } 33 = false) ∧
    ((taken 2 full).bus.one[1].fifo.length < 32 ∧ (taken 2 full).bus.one[1].state = .errorActive ∧ (2#2) ≠ 0) := by
  refine ⟨⟨?_, ?_⟩, by decide, by decide, ⟨?_, ?_, ?_, ?_, ?_⟩, by decide, by decide, by decide, ⟨?_, ?_, ?_, ?_, ?_⟩, by decide,
    by decide⟩ <;> exact admitted rfl rfl rfl rfl (by decide) (by decide)

theorem witness_BusFramesErrorsAndSupply :
    let deaf : State := { base with cfg := { eff := [(Prm.busEnable, [0])] } }
    let ok := bus {}
    let listen := bus { mode := 1 }
    let seen := bus {} (all := { accepted := [(5, 3, 0)] })
    let frame : OneShot := { ident := 0, data := [], at_ := 0, tag := some 7 }
    let p : Pend := pendOf hdr 0x0902 (.bus 2) 0 0x88
    let q : Pend := pendOf hdr 0x0902 (.bus 2) 0 0x80
    let send : State := { bus { fifo := [frame] } with cmd := { pend := [p, q] } }
    let hot := bus { fifo := [frame], tec := 248, state := .errorPassive }
    let master : State := bus {} twin
    (busHears deaf 1 = false ∧ busHears ok 1 = true ∧ busHears listen 1 = true ∧ listen.bus.one[1].mode = 1 ∧ ok.bus.one[1].mode ≠ 1) ∧
    (5#12 ≠ address ok ∧ seen.bus.accepted.any (fun a => a.1 == 5#12 && a.2.1 == BitVec.ofNat 16 (ofLe (slice [0, 0, 3, 0] 2 2)) &&
        decide (seen.tim.tb - a.2.2 < tSec)) = true ∧ (64#13).toNat > 63 ∧ (63#13).toNat ≤ 63 ∧
      (pNat { ok with cfg := { eff := [(Prm.busTripRxMap + 63, [0x80])] } } (Prm.busTripRxMap + (63#13).toNat)).testBit 7 = true) ∧
    (let d : List Byte := [2, 0, 0, 0, 6, 0, 0, 0, 0, 0, 0, 0, 0, 0, 0, 0]
     twinBit master = true ∧ busHears master 1 = true ∧ 16 ≤ d.length ∧ isMaster master = true ∧ anyLane master = false ∧
       ofLe (slice d 0 1) % 8 = 2 ∧
       master.twn.epoch.any (fun own => newer32 (BitVec.ofNat 32 (ofLe (slice d 4 4))) own) = true ∧ partnerAddr master ≠ 5) ∧
    (busTalks deaf 1 = false ∧ offered ok 1 .oneShot = none ∧ busTalks send 1 = true ∧ (offered send 1 .oneShot).isSome = true ∧
      send.bus.one[1].tec ≤ 255 ∧ send.bus.one[1].fifo.head? = some frame ∧ frame.tag.isSome = true ∧ q ∈ send.cmd.pend ∧
      sendWaits 1 q = true ∧ ∀ c : BusId, c ≠ 1 → sendWaits c q = false) ∧
    (busTalks hot 1 = true ∧ (offered hot 1 .oneShot).isSome = true ∧ 247 < hot.bus.one[1].tec ∧ hot.bus.one[1].state = .errorPassive ∧
      hot.bus.one[1].tec ≤ 255) ∧
    ((offered (bus { class1 := some [] }) 1 .twin).isSome = true ∧
      (offered (bus { class0 := [{ zone := 0, groups := 0, causes := 0, count := 0, at_ := 0, mask := 2 }] }) 1 .trip).isSome = true) ∧
    (mainUp ok = true ∧ ok.bus.one[1].state ≠ .noSupply ∧ (bus { state := .noSupply }).bus.one[1].state = .noSupply) ∧
    (twinBit base = false ∧ twinBit twin = true ∧ twin.pwr.configLoaded = true) ∧
    (pNat { base with cfg := { eff := [(Prm.busStatusInterval, [0, 0])] } } Prm.busStatusInterval = 0 ∧
      pNat { base with cfg := { eff := [(Prm.busStatusInterval, [1, 0])] } } Prm.busStatusInterval ≠ 0 ∧
      busSends ok 1 = true ∧ busSends deaf 1 = false ∧ (ok.bus.one[1].fifo.filter (fun x => x.tag.isSome)).length < 32) := by
  decide

/-! ## Node services and images (12) -/

theorem witness_NodeServicesAndImages :
    let bulk : Bulk := { offset := 0x01010000, length := 20 }
    let buf : List Host.Cell := [(0x01010000, 4), (0x01010003, 0x80)]
    let node_ (x : ChState) : State := modPort 63 (fun p => { p with state := .running })
      (modTxn 63 (fun p => { p with caps := some { (default : Caps) with features := 0xFFFF } }) (chan 63 (fun c => { c with state := x })))
    let can : State := { node_ .disconnected with win := buf }
    let owned : State := { node_ .disconnected with twn := { role := .active, serviceOwner := some 0 } }
    let waits : State := { owned with img := { service := [(63, { (default : ServiceSt) with stage := 2 })] } }
    let fenced : State := { base with flt := { fencedBlocks := [(0x0103, 0xFFFF)] } }
    let busy : State := { base with img := { following := true } }
    let img : State := { base with win := buf }
    let chunk : ChunkSt := { (default : ChunkSt) with bank := .b, last := false }
    let wr : State := { base with img := { chunk := some chunk }, cmd := { pend := [pendOf hdr 0x0A02 .none 0 0] } }
    let blank : State := { base with img := { b := { valid := false } } }
    let due : State := { base with pwr := { onPwr with restart := some .resetModule } }
    let up (op least : Nat) (s : State) : Prop := Admits hdr op least (.channel 63) true s 0 (taken 2 s)
    let im (op least : Nat) (s : State) : Prop := Admits hdr op least .none true s 0 (taken 2 s)
    (up 0x0501 8 base ∧ up 0x0501 8 (node_ .bypass) ∧ up 0x0501 8 can) ∧
    (serviceRefused (taken 2 base) 63 true = some .wrongState ∧ serviceRefused (taken 2 (node_ .bypass)) 63 true = none ∧
      bulkOk (taken 2 (node_ .bypass)) bulk 4 = false ∧ serviceRefused (taken 2 can) 63 true = none ∧ bulkOk (taken 2 can) bulk 4 = true) ∧
    (up 0x0502 8 base ∧ up 0x0502 8 owned ∧ up 0x0502 8 (node_ .bypass)) ∧
    (serviceRefused (taken 2 owned) 63 false = none ∧ (taken 2 owned).twn.serviceOwner.isSome = true ∧
      serviceRefused (taken 2 (node_ .bypass)) 63 false = none ∧ (taken 2 (node_ .bypass)).twn.serviceOwner = none) ∧
    ((chan 63 (fun c => { c with state := .fenced })).con[63].state = .fenced ∧ base.con[63].state ≠ .fenced ∧ running base 63 = false) ∧
    ((serviceOf base 63).isNone = true ∧ (serviceOf waits 63).any (fun v => v.stage == 2) = true ∧ waits.twn.serviceOwner.isSome = true ∧
      waits.twn.serviceOwner ≠ some 63) ∧
    (im 0x0A02 16 busy ∧ im 0x0A02 16 fenced ∧ im 0x0A02 16 base ∧ im 0x0A02 16 img) ∧
    ((taken 2 busy).img.following = true ∧ (taken 2 img).pwr.warn = false ∧ (taken 2 img).img.chunk.isNone = true ∧
      (taken 2 img).img.following = false ∧ blockFenced (taken 2 fenced) 0x0103 0xFFFF = true ∧
      blockFenced (taken 2 img) 0x0103 0xFFFF = false ∧ bulkOk (taken 2 base) bulk 4 = false ∧ bulkOk (taken 2 img) bulk 4 = true ∧
      (chunkRefused (taken 2 img) 0 (bulkRead (taken 2 img) bulk)).isNone = true ∧
      (chunkRefused (taken 2 img) 4 (bulkRead (taken 2 img) bulk)).isSome = true) ∧
    (base.img.chunk.isNone = true ∧ wr.img.chunk.isSome = true ∧ wr.img.following = false ∧ pendOf hdr 0x0A02 .none 0 0 ∈ wr.cmd.pend ∧
      chunk.last = false) ∧
    (im 0x0A03 4 due ∧ im 0x0A03 4 blank ∧ im 0x0A03 4 twin ∧ im 0x0A03 4 base) ∧
    ((taken 2 due).pwr.restart ≠ none ∧ ((taken 2 base).twn.open_ = none ∧ (taken 2 base).pwr.restart = none) ∧
      (bankOf (taken 2 blank) .b).valid = false ∧ (bankOf (taken 2 twin) .b).valid = true ∧ paired (taken 2 twin) = true ∧
      mayOffer (taken 2 twin) = true ∧ bankPairs (taken 2 twin) .b = true ∧ (bankOf (taken 2 base) .b).valid = true ∧
      paired (taken 2 base) = false ∧ activeChans (taken 2 base) = []) := by
  refine ⟨⟨?_, ?_, ?_⟩, by decide, ⟨?_, ?_, ?_⟩, by decide, by decide, by decide, ⟨?_, ?_, ?_, ?_⟩, by decide, by decide,
    ⟨?_, ?_, ?_, ?_⟩, by decide⟩ <;> exact admitted rfl rfl rfl rfl (by decide) (by decide)

/-! ## Faults, logs, the test port (17, 18) -/

/-- A fault record. -/
def fault (id : Word) (cause : Half) (level : Nat) (st : FaultState) : FaultRec :=
  { id := id, cause := cause, subject := 0xFFFF, level := level, state := st, permanent := false, acked := false, count := 1, first := 0
    last := 0, steps := 0, seenAt := 0 }

theorem witness_FaultHandlerOpensActsAndEnds :
    let with_ (r : FaultRec) (s : State) : State := { s with flt := { recs := [r], current := some r.id } }
    let l2 := with_ (fault 9 0x0103 2 .current) base
    let l3 := with_ (fault 9 0x0101 3 .current) base
    let pair : State := { base with asy := { lockstep := [(1, 0)] } }
    let boot := with_ (fault 9 0x0101 3 .current) { base with pwr := { onPwr with mod := .booting } }
    ({ onPwr with clockHeld := true }).clockHeld = true ∧
    ((base.pwr.clockHeld = false ∧ base.pwr.thermalHeld = false ∧ base.pwr.supplyHeld = false) ∧ 2 ≤ (2#16).toNat ∧ (1#16).toNat < 2) ∧
    ((findFault l2 0x0103 0xFFFF).isSome = true ∧ (findFault base 0x0103 0xFFFF).isNone = true ∧ stormCase base 2 = false ∧
      base.flt.current = none ∧ l2.flt.current = some 9 ∧ levelOf l2 9 < 3 ∧ 2 ≤ levelOf l2 9 ∧ (findFault l2 0x0101 0xFFFF).isNone = true ∧
      stormCase l2 3 = false ∧ stormCase l2 2 = false) ∧
    (∃ q ∈ pair.asy.lockstep, q.1 ≠ (0#16).toNat ∧ (pair.tim.station - q.2).toNat ≤ tSec) ∧
    ((base.flt.current.bind (faultById base)).isNone = true ∧ l2.flt.current.bind (faultById l2) = some (fault 9 0x0103 2 .current) ∧
      fences 0x0103 = false ∧ retires 0x0103 = false ∧ l3Waits (fault 9 0x0101 3 .current) boot = true) ∧
    (l3.flt.current.bind (faultById l3) = some (fault 9 0x0101 3 .current) ∧ l3Waits (fault 9 0x0101 3 .current) l3 = false ∧
      fences 0x0101 = false ∧ retires 0x0101 = false ∧ isMaster l3 = true ∧ l3.pwr.mod ≠ .safe ∧ l3.twn.open_ = none ∧
      mayOffer l3 = false ∧ mayOffer (with_ (fault 9 0x0101 3 .current) twin) = true ∧
      isMaster (with_ (fault 9 0x0101 3 .current) standby) = false) ∧
    (let s := with_ (fault 9 0x0103 2 .done) base
     findFault s 0x0103 0xFFFF = some (fault 9 0x0103 2 .done) ∧ (0x0103#16) ≠ 0x07FF ∧ 9#32 ∉ s.flt.queue ∧
       findFault l3 0x0101 0xFFFF = some (fault 9 0x0101 3 .current)) := by
  decide

theorem witness_FaultAckClosesEndedFaults :
    let s : State := { base with flt := { recs := [fault 8 0x0103 2 .ended, fault 9 0x0101 3 .current], current := some 9 } }
    (taken 2 standby).pwr.mod = .ready ∧ Admits hdr 0x0B02 4 .none false s 0 (taken 2 s) ∧
    (faultById (taken 2 s) 7 = none ∧ faultById (taken 2 s) 8 = some (fault 8 0x0103 2 .ended) ∧ (8#32) ≠ 0xFFFFFFFF ∧
      faultById (taken 2 s) 9 = some (fault 9 0x0101 3 .current) ∧ (taken 2 s).flt.current ≠ some 8) := by
  refine ⟨by decide, admitted rfl rfl rfl rfl (by decide) (by decide), by decide⟩

theorem witness_LogReadAndTestPort :
    let bulk : Bulk := { offset := 0x01010000, length := 131088 }
    let s : State := { base with win := [(0x01010003, 0x80)] }
    Admits hdr 0x0B01 20 .none true base 0 (taken 2 base) ∧ Admits hdr 0x0B01 20 .none true s 0 (taken 2 s) ∧ WindowForm (taken 2 s) ∧
    ((0#32).toNat < 1 ∧ 4096 < (4097#32).toNat ∧ 1 ≤ (1#32).toNat ∧ (4096#32).toNat ≤ 4096 ∧ (3#32).getLsbD 0 = true ∧
      (3#32).getLsbD 1 = true ∧ 1024 ≤ (1024#32).toNat ∧ (1023#32).toNat < 1024 ∧ bulkOk (taken 2 base) bulk (32 * 4096) = false ∧
      bulkOk (taken 2 s) bulk (32 * 4096) = true) := by
  refine ⟨admitted rfl rfl rfl rfl (by decide) (by decide), admitted rfl rfl rfl rfl (by decide) (by decide), rfl, by decide⟩

/-! ## The seam link and twin operation (12) -/

/-- A twin with its seam as given. -/
def seam (t : TwnSt) : State := { base with pwr := { onPwr with hbB := 0x10 }, twn := t }

/-- A lane that is UP. -/
def upLane : LaneSt := { up := true, lock := true, good := 99 }

/-- The partner's heartbeat: address 1, twin, its role; it carries an offer of epoch 6. -/
def beat : Heartbeat :=
  { (default : Heartbeat) with address := 1, twin := true, role := 2, epoch := 5, count := 1, handoverAt := 20000, handoverEpoch := 6 }

theorem witness_LanesHeartbeatsAndTakeover :
    let both := seam { role := .active, lanes := Vector.replicate 2 upLane, lost := false, dirty := 1, partner := some beat, hadLane := true }
    let one := seam { role := .standby, lanes := #v[{}, upLane], lost := false, partner := some beat, hadLane := true }
    let alone := seam { role := .standby, lost := true }
    let cand := seam { role := .candidate, lost := false, partner := some beat }
    let bad := seam { role := .standby, lanes := #v[{}, { bad := List.replicate 100 0 }] }
    let refused := seam { role := .standby, mismatch := some 1 }
    let node_ : State := modTxn 63 (fun x => { x with stat := some { (default : Stat) with otherMaster := false } })
      (modPort 63 (fun x => { x with state := .running }) (seam { role := .standby, lost := true }))
    let offer (a : Asked) : State := seam { role := .active, open_ := some a, offer := some { at_ := 0, epoch := 6, gen := 0 } }
    let open_ : State := { twin with twn := { twin.twn with open_ := some .die } }
    let ask : State := { seam { role := .standby, askPartner := true } with cmd := { pend := [pendOf hdr 0x0A01 .none 0 0] } }
    (mainUp base = true ∧ twinBit base = false) ∧
    (mainUp both = true ∧ twinBit both = true ∧ both.twn.lanes[0].up = true ∧ anyLane both = true ∧ both.twn.dirty ≠ 0 ∧
      both.twn.mismatch = none ∧ both.twn.unacked.length < 256 ∧ isMaster both = true) ∧
    (one.twn.lanes[0].up = false ∧ one.twn.lost = false ∧ one.twn.role = .standby ∧ one.pwr.mod = .ready ∧ one.twn.hadLane = true ∧
      one.twn.mismatch = none ∧ cand.twn.lanes[0].up = false ∧ cand.twn.lost = false ∧ cand.twn.role ≠ .standby) ∧
    (one.twn.lanes[1].fenced = false ∧ refused.twn.mismatch.isSome = true ∧ { beat with address := 2 }.address ≠ address one ^^^ 1) ∧
    (beat.address = address one ^^^ 1 ∧ beat.twin = true ∧ one.twn.partner.any (fun p => !newer32 beat.count p.count) = true ∧
      one.twn.partner.any (fun p => !newer32 (beat.count + 1) p.count) = false ∧ alone.twn.lost = true ∧ 99 ≤ one.twn.lanes[1].good ∧
      one.twn.open_ = none ∧ beat.role = 2 ∧ beat.handoverAt ≠ 0 ∧ newer32 beat.handoverEpoch beat.epoch = true) ∧
    ((laneBad one 1).length < 100 ∧ 100 ≤ (laneBad bad 1).length ∧ bad.twn.lanes[1].fenced = false) ∧
    (base.pwr.imageRuns = true ∧ base.qm.fwHalt = false) ∧
    (mayTake one = true ∧ paired one = true ∧ anyLane one = true ∧ mayTake base = false) ∧
    (mayTake node_ = true ∧ anyLane node_ = false ∧ node_.twn.hadLane = false ∧ otherGone node_ = true) ∧
    (Admits hdr 0x0A01 0 .none true open_ 0 (taken 2 open_) ∧ (taken 2 open_).twn.open_.isSome = true) ∧
    (Admits hdr 0x0A01 0 .none true twin 0 (taken 2 twin) ∧ (taken 2 twin).twn.open_ = none ∧ (taken 2 twin).twn.askPartner = false ∧
      isMaster (taken 2 twin) = true ∧ mayOffer (taken 2 twin) = true) ∧
    (Admits hdr 0x0A01 0 .none true base 0 (taken 2 base) ∧ mayOffer (taken 2 base) = false) ∧
    (ask.twn.offer = none ∧ ask.twn.askPartner = true ∧ pendOf hdr 0x0A01 .none 0 0 ∈ ask.cmd.pend ∧ base.twn.open_ = none ∧
      base.twn.askPartner = false) ∧
    ((offer .command).twn.open_ = some .command ∧ (offer (.activate .b)).twn.open_ = some (.activate .b) ∧
      (offer .command).twn.offer = some { at_ := 0, epoch := 6, gen := 0 } ∧ isMaster (offer .command) = true ∧
      isMaster { offer .command with twn := { (offer .command).twn with role := .standby } } = false) ∧ anyLane base = false := by
  refine ⟨by decide, by decide, by decide, by decide, by decide, by decide, by decide, by decide, by decide,
    ⟨admitted rfl rfl rfl rfl (by decide) (by decide), by decide⟩, ⟨admitted rfl rfl rfl rfl (by decide) (by decide), by decide⟩,
    ⟨admitted rfl rfl rfl rfl (by decide) (by decide), by decide⟩, by decide, by decide, by decide⟩

/-- TWIN_HANDOVER at a standby that is ready and at one that is not. -/
theorem witness_LanesHeartbeatsAndTakeover_standby :
    let s (at_ : Option Nat) : State :=
      { seam { role := .standby, lanes := Vector.replicate 2 upLane, lost := false, partner := some beat, reconciledAt := at_ } with
        tim := { lock := .locked } }
    let ok (x : State) : Prop := Admits hdr 0x0A01 0 .none true x 0 (taken 2 x)
    (ok (s (some 0)) ∧ ok (s none)) ∧
    (isMaster (taken 2 (s (some 0))) = false ∧ paired (taken 2 (s (some 0))) = true ∧ standbyReady (taken 2 (s (some 0))) = true ∧
      horizonOk (taken 2 (s (some 0))) = true ∧ standbyReady (taken 2 (s none)) = false) := by
  refine ⟨⟨admits_of (by decide) (by decide), admits_of (by decide) (by decide)⟩, by decide⟩

theorem witness_WhatAStandbyTakesFromItsPartner :
    let s : State := seam { role := .standby, lost := false, overRun := 9, within := 9 }
    let h (r : Half) : SeamHdr := { (default : SeamHdr) with rcnt := r }
    let g (z : Word) : GroupRecon := { (default : GroupRecon) with index := 0x3FFF, z := z }
    let mir : SetMirror := { (default : SetMirror) with gen := 5, restage := true }
    let have_ : State := seam { role := .standby, lost := false, mirror := some mir }
    let follow : State := { s with cfg := { eff := [(Prm.twnImageFollow, [1])] } }
    (seamOpen base = false ∧ seamOpen s = true ∧ seamOpen twin = true ∧ twin.twn.role ≠ .standby) ∧
    ((h 1).rcnt = s.twn.rcntRx + 1 ∧ (h 1).rcnt = twin.twn.rcntRx + 1 ∧ (h 2).rcnt ≠ s.twn.rcntRx + 1 ∧
      newer16 (h 2).rcnt s.twn.rcntRx = true ∧ newer16 (h 0x7FFF).rcnt s.twn.rcntRx = true) ∧
    (s.twn.mirror.any (fun m => !newer32 mir.gen m.gen) = false ∧ have_.twn.mirror.any (fun m => !newer32 mir.gen m.gen) = true) ∧
    (tabWfFrom ({} : GrpSt) 0 s.asyCh[(Fin.ofNat 64 ((g 0).index.toNat / 256) : Chan)].grps = true ∧
      max 0 (deltaZ s (g 0)) ≤ (pNat s Prm.twnReconTol : Rat) ∧ (pNat s Prm.twnReconTol : Rat) < max 0 (deltaZ s (g 1000000000)) ∧
      9 ≤ s.twn.overRun ∧ 9 ≤ s.twn.within) ∧
    ((1#32) ≠ s.cfg.seq ∧ (0#32) = s.cfg.seq) ∧
    (pBool follow Prm.twnImageFollow = true ∧ (bankOf follow (otherBank follow.pwr.bank)).version ≠ 7 ∧ follow.img.chunk.isNone = true ∧
      follow.pwr.warn = false ∧ blockFenced follow 0x0103 0xFFFF = false) ∧
    (mainUp s = true ∧ s.twn.mirrored = false ∧ tctl s ≠ 0 ∧ base.twn.role ≠ .standby) := by
  refine ⟨by decide, by decide, by decide, by decide +kernel, by decide, by decide, by decide⟩

/-! ## Rules of the whole machine -/

theorem witness_QuenchedGroupsStayQuenched :
    let s : State := { base with qm := { latched := 0x80 }, pending := [.holdoverExpiry] }
    s.pending = .holdoverExpiry :: [] ∧ (∃ t, step s = .next t) ∧ (∀ h m, Instr.holdoverExpiry ≠ .quenchRelease h m) ∧
    resetRow .holdoverExpiry = false ∧ isMaster s = true ∧ quenched s 7 = true := by
  refine ⟨rfl, ⟨_, rfl⟩, ?_, rfl, rfl, rfl⟩
  intro h m e
  exact Instr.noConfusion e

theorem witness_SafetyRequestFollowsTheFunctions :
    let s : State := { safe3 { state := .demand } {} {} with qm := { safety := true } }
    s.saf.running = true ∧ s.qm.safety = true ∧ (∃ k : SafetyPair, eStop s k = true ∧ s.saf.pair[k].state ≠ .permit) ∧
    ∃ t, step s = .next t :=
  ⟨rfl, rfl, ⟨0, by decide⟩, ⟨_, rfl⟩⟩

theorem witness_SafetyRequestHoldsAtReset : State.reset.saf.running = true := rfl

/-- A row of the main domain; a step that asks for the other port, and one that makes it active. -/
theorem witness_RowsAndTheActivePort :
    let sw : State := { base with hst := { change := some { port := .b, cause := 0 } } }
    (supervisorRow .holdoverExpiry = false ∧ loadOutputRow .holdoverExpiry = false ∧ configRow .holdoverExpiry = false ∧
      resetRow .holdoverExpiry = false ∧ resetRow .mrst = true ∧ Instr.holdoverExpiry ≠ .activePortChange) ∧
    (∃ t, exec .holdoverExpiry base = .next t) ∧ (∃ t, exec .mrst base = .next t) ∧
    (∃ t, exec .activePortChange sw = .next t ∧ t.hst.active ≠ sw.hst.active) ∧
    (∃ t, exec (.hstTakeoverWrite .b 0x5A3C) base = .next t ∧ t.hst.change = some { port := .b, cause := 1 } ∧
      base.hst.change ≠ some { port := .b, cause := 1 }) :=
  ⟨by decide, ⟨_, rfl⟩, ⟨_, rfl⟩, ⟨_, rfl, by decide⟩, ⟨_, rfl, by decide, by decide⟩⟩

/-! ## One command each, with the result that the rule named gives -/

/-- The state after a command, and the codes of the events that wait for ring 1. -/
def after (c : Instr) (s : State) : State := match exec c s with
  | .next t => t
  | _ => s
def said (s : State) : List Half := s.ev.held.map (·.code)

/-- R7: of bits 0 and 1 cleared by the write, bit 0 is set in the same cycle and stays. -/
theorem test_irq_set_wins :
    (after (.hstIrqPendClear .a false 3 1) { base with hst := { a := { irqPend := 7 } } }).hst.a.irqPend = 5 := by decide

/-- R8: the read returns five dropped writes, and the one of the same cycle counts as the first. -/
theorem test_drops_read :
    let t := after (.hstWriteDropsRead .a true) { base with hst := { a := { drops := 5 } } }
    t.hst.a.readValue = 5 ∧ t.hst.a.drops = 1 := by decide

/-- R28 register map: reading TIME_LO latches the high word. -/
theorem test_time_latch :
    let t := after (.hstTimeLoRead .b) { base with tim := { station := 0x123456789 } }
    t.hst.b.timeHi = 1 ∧ t.hst.b.readValue = 0x23456789 := by decide

/-- R52: a write of LOAD_ALL_GO from the observing port is discarded and counted. -/
theorem test_observer_write_dropped :
    let t := after (.registerWrite .b .bar0 0x0080 4 1) base
    t.hst.b.drops = 1 ∧ t.ins = base.ins := by decide

/-- BAR0 takes only aligned 32-bit accesses. -/
theorem test_byte_write_dropped : (after (.registerWrite .a .bar0 0x0010 1 1) base).hst.a.drops = 1 := by decide

/-- R55: without FORCE, with the active port's link up and no silence, a takeover is ignored. -/
theorem test_takeover_ignored :
    (after (.hstTakeoverWrite .b 0x5A3C) { base with hst := { a := { link := true } } }).hst.change = none := by decide
theorem test_takeover_force :
    (after (.hstTakeoverWrite .b 0x15A3C) { base with hst := { a := { link := true } } }).hst.change =
      some { port := .b, cause := 3 } := by decide

/-- R32: LOCKED, 3 s without a valid edge. -/
theorem test_pps_loss : (after .ppsLossTimeout { base with tim := { lock := .locked } }).tim.lock = .holdover := by decide
theorem test_pps_loss_acquire : (after .ppsLossTimeout { base with tim := { lock := .acquire } }).tim.lock = .free := by decide

/-- R34. -/
theorem test_holdover_expiry : (after .holdoverExpiry { base with tim := { lock := .holdover } }).tim.lock = .free := by decide

/-- R107: a FAULT tone on an armed port quenches the group of its channel and counts one quench; off guard it quenches nothing. -/
theorem test_tone_quench :
    let s : State := { chan 9 (fun c => { c with state := .active }) with
      cfg := { eff := [(0x3089, [1])] }
      ports := base.ports.set 9 { state := .running, tone := .healthy } }
    ((after (.faultToneArrival 9 1) s).qm.latched = 2 ∧ (after (.faultToneArrival 9 1) s).qm.quenches = 1) ∧
    (after (.faultToneArrival 9 1) { s with con := base.con }).qm.latched = 0 := by decide

/-- R128: an invalid frame is counted and has no other effect on the frame layer. -/
theorem test_invalid_frame :
    (after (.frameInvalid 5) { base with ports := base.ports.set 5 { state := .running, lock := true, light := true } }).txns[5] =
      { base.txns[5] with framesBad := 1 } := by decide

/-- R157: a hundred bad frames in the second are not yet too many. -/
theorem test_frame_errors :
    let s (n : Word) : State := { base with ports := base.ports.set 3 { state := .running }
                                            txns := base.txns.set 3 { framesBad := n } }
    (said (after (.frameErrorCheck 3) (s 100)) = [] ∧ (said (after (.frameErrorCheck 3) (s 101))).length = 1) := by decide

/-- R246: an unused trip input causes no quench and raises no event. -/
theorem test_unused_trip :
    let t := after (.tripInputDemand 0 true) { base with cfg := { eff := [(Prm.insTripMap, [0])] } }
    t.qm.latched = 0 ∧ said t = [] := by decide

/-- R251: the second mismatch in a row on one lane marks it failed. -/
theorem test_lane_failed :
    let t := after (.laneSelftest false 9) { base with qm := { lane := 1, laneBad := 2 } }
    t.qm.laneFailed = 2 ∧ t.qm.selftestFails = 1 ∧ t.qm.lane = 2 := by decide

/-- R387: one conversion that shows a fault is not enough, the second is. -/
theorem test_sensor_fault :
    let s (x : TsSt) : State := { base with thm := { ts := (Vector.replicate 16 {}).set 2 x }
                                            cfg := { eff := [(Prm.thmTs + 2, [1, 1, 0xFF, 0, 0, 0, 0xE8, 3, 0, 0, 0, 0])] } }
    (after (.tsConversion 2 .isOpen) (s {})).thm.ts[2].fault = none ∧
    (after (.tsConversion 2 .isOpen) (s { bad := 1 })).thm.ts[2].fault = some 0 := by decide

/-- R410: a short in its third attempt schedules the fourth 800 ms after the fault. -/
theorem test_short_schedules :
    let t := after (.loShort 4 default) { base with lo := { out := (Vector.replicate 32 {}).set 4 { state := .on, cmd := true, k := 3 } } }
    t.lo.out[4].state = .wait ∧ t.lo.out[4].k = 4 ∧ t.lo.out[4].next = some (8 * 80000000) := by decide

/-- R410: a short at k = 8 retires the output. -/
theorem test_short_retires :
    let t := after (.loShort 4 default) { base with lo := { out := (Vector.replicate 32 {}).set 4 { state := .on, cmd := true, k := 8 } } }
    t.lo.out[4].state = .retired := by decide

/-- R411: after 60 s k is 0. -/
theorem test_attempts_reset :
    (after (.loAttemptReset 1) { base with lo := { out := (Vector.replicate 32 {}).set 1 { state := .on, cmd := true, k := 5 } } }).lo.out[1].k
      = 0 := by decide

/-- R413: an undervoltage turn-off leaves k unchanged. -/
theorem test_undervoltage :
    let t := after (.loUndervoltage 1 600) { base with lo := { out := (Vector.replicate 32 {}).set 1 { state := .on, cmd := true, k := 5 } } }
    t.lo.out[1].state = .uvOff ∧ t.lo.out[1].k = 5 := by decide

/-- R418: the output goes off and is no longer commanded on. -/
theorem test_on_max :
    let t := after (.loOnMax 1) { base with cfg := { eff := [(Prm.loCfg + 1, [20, 0, 100, 0, 1, 0, 1, 0, 1, 0, 0, 0, 1, 0, 0, 0])] }
                                            lo := { out := (Vector.replicate 32 {}).set 1 { state := .on, cmd := true } } }
    t.lo.out[1].state = .off ∧ t.lo.out[1].cmd = false := by decide

/-- R444: a press of fewer than 100 ticks is ignored. -/
theorem test_press_too_short :
    (after (.srstPressAccepted 99) base).saf.resets = 0 := by decide

/-- R472: a transmit error count beyond 255 is bus-off. -/
theorem test_bus_off :
    let s : State := { base with bus := { one := (Vector.replicate 2 {}).set 0 { state := .errorPassive, tec := 248,
                                                                                 fifo := [⟨0, [], 0, none⟩] } } }
    (after (.busTxError 0 .oneShot .crc false) s).bus.one[0].state = .busOff := by decide

/-- R475: in error passive an acknowledge error does not raise the count. -/
theorem test_ack_error_passive :
    let s : State := { base with bus := { one := (Vector.replicate 2 {}).set 0 { state := .errorPassive, tec := 200,
                                                                                 fifo := [⟨0, [], 0, none⟩] } } }
    (after (.busTxError 0 .oneShot .ack false) s).bus.one[0].tec = 200 := by decide

/-- R478: a mode change takes effect at the end of the frame in progress. -/
theorem test_bus_mode :
    (after (.busModeApply 1) { base with bus := { one := (Vector.replicate 2 {}).set 1 { modeReq := some 2 } } }).bus.one[1].mode = 2 := by
  decide

/-- R507: EXTEST outside MRST runs as BYPASS. -/
theorem test_extest : (after (.tapInstruction .extest false) base).pwr.tap = .bypass ∧ (after (.tapInstruction .extest true) base).pwr.tap = .extest := by
  decide

/-- R356: the firmware count advances by one. -/
theorem test_fw_count : (after .fwCountTick { base with twn := { role := .active, fwCount := 0xFFFFFFFF } }).twn.fwCount = 0 := by decide

/-- R355: the other lane is still UP, so the partner is not lost. -/
theorem test_lane_down :
    let s : State := { twin with twn := { role := .active, lost := false, lanes := Vector.replicate 2 { lock := true, up := true, good := 100 } } }
    let t := after (.seamLaneDown 0) s
    t.twn.lanes[0].up = false ∧ t.twn.lost = false ∧ (after (.seamLaneDown 1) t).twn.lost = true := by decide

/-- 12 *HEARTBEAT payload*: the role, and the epoch as 0 before the first. -/
theorem test_heartbeat_payload :
    (heartbeatOf standby ⟨5, 0⟩).role = 3 ∧ (heartbeatOf twin ⟨5, 0⟩).epoch = 5 ∧ (heartbeatOf base ⟨5, 0⟩).epoch = 0 := by decide

/-- R362, R367: a connection in its open test is mirrored as step 2 of R333, and the standby holds it as that step. -/
theorem test_book_round :
    let q : ConSeq := { kind := .connect true, step := .openTest, host := true, cause := 0, since := 0, tries := 0 }
    let b := bookOf (chan 9 (fun c => { c with state := .precharge, seq := some q, protective := true })) 9
    b.step = 2 ∧ (takeBook standby b).con[9].state = .precharge ∧ (takeBook standby b).con[9].protective = true ∧
      ((takeBook standby b).con[9].seq.map (·.step)) = some .openTest := by decide

/-- R484: the same key again is a duplicate. -/
theorem test_duplicate_fault :
    let t := after (.internalFaultDetected 0x0102 0xFFFF) (after (.internalFaultDetected 0x0102 0xFFFF) base)
    t.flt.recs.map (·.count) = [2] ∧ t.flt.coalesced = 1 ∧ t.flt.raised = 1 := by decide

/-- R46: a failed test of the hold-up reserve. -/
theorem test_holdup : (after (.holdupTestDone false 0) base).pwr.holdupFault = true := by decide

/-- R15: the boot ROM latches both switch blocks. -/
theorem test_hallmark : (after (.powerOn 0x31 0x12) State.reset).pwr.hbA = 0x31 ∧ (after (.powerOn 0x31 0x12) State.reset).pwr.hbB = 0x12 := by
  decide +kernel

/-- No row has bits (spec/opcode_table.json). -/
theorem test_no_words : decodeTableWord 32 0xFFFFFFFF = none := rfl

end Sys2Proof.Tests
end

/-! ## SUPPORT. How every command ends

Each row answers in one of a few shared forms: `done` behind its guards, a host command, a row of the supervisor, a frame series
of the seam, a reset. The rule for each form is said once; `exec_completes` sorts the rows by form. -/

namespace Sys2Proof.Safety

open Sys2Proof.Machine

/-- How every command ends: `settle` of a state that has the queue and the time base of `s` (log 6), and a canonical window if `s`
has one. -/
def Completes (s : State) (o : Out) : Prop :=
  ∃ u, o = .next (settle u) ∧ u.pending = s.pending ∧ u.tim.tb = s.tim.tb ∧
    (Memory.wf s.win = true → Memory.wf u.win = true)

theorem Completes.goesOn {s : State} {o : Out} (h : Completes s o) : GoesOn o := by
  obtain ⟨u, e, -⟩ := h
  exact ⟨settle u, e⟩

theorem completes_doneWin {s : State} {win : List Host.Cell} (u : State) (w : Memory.wf s.win = true → Memory.wf win = true) :
    Completes s (doneWin s win u) := ⟨_, rfl, rfl, rfl, w⟩

theorem completes_done (s u : State) : Completes s (done s u) := completes_doneWin u id

/-- A reset empties the window (log 11). -/
theorem completes_cleared (s u : State) : Completes s (doneWin s [] u) := completes_doneWin u fun _ => rfl

theorem completes_writes (s u : State) (w : List (Nat × List Byte)) : Completes s (doneWin s (writeAll s.win w) u) :=
  completes_doneWin u (writeAll_wf _ w)

section
variable {s t : State} {c : Prop} [Decidable c] {a b o : Out}

theorem completes_ite (ha : Completes s a) (hb : Completes s b) : Completes s (if c then a else b) := by
  split
  · exact ha
  · exact hb

/-- A guard behind which the row answers at once. -/
theorem completes_unless (u : State) (h : Completes s o) : Completes s (if c then done s u else o) :=
  completes_ite (completes_done s u) h

/-- A last guard. -/
theorem completes_guarded (u v : State) : Completes s (if c then done s u else done s v) :=
  completes_unless u (completes_done s v)

/-- A command run on a state that has the queue, the time base and the window of `s`. -/
theorem completes_congr (p : t.pending = s.pending) (k : t.tim.tb = s.tim.tb) (w : t.win = s.win) (h : Completes t o) :
    Completes s o := by
  obtain ⟨u, e, hp, hk, hw⟩ := h
  exact ⟨u, e, hp.trans p, hk.trans k, w ▸ hw⟩

end

/-- A host command completes whatever its ring, the module's state and its own body say (03 R62 to R71). -/
theorem completes_hostCmd (h : Hdr) (op least : Nat) (g : Target) (pends : Bool) (body : State → Res) (s : State) :
    Completes s (hostCmd h op least g pends body s) := by
  unfold hostCmd
  split
  case h_1 => exact completes_done _ _
  case h_2 idx t _ =>
    refine completes_ite (completes_done _ _) ?_
    split
    · exact completes_done _ _
    · refine completes_unless _ (completes_unless _ ?_)
      split
      · exact completes_writes _ _ _
      · exact completes_done _ _
      · exact completes_writes _ _ _

theorem completes_safeRow (s : State) (f : State → State) : Completes s (safeRow s f) := completes_guarded _ _

theorem completes_seamSeries (h : SeamHdr) (f : State → State) (s : State) : Completes s (seamSeries h f s) :=
  completes_unless _ (completes_guarded _ _)

theorem completes_resetNow (c : StartCause) (s : State) : Completes s (resetNow c s) := completes_cleared _ _

/-! ## SUPPORT. Rows that answer by a case of the state or of an operand -/

section
variable (s : State)

theorem execPpsLossTimeout_completes : Completes s (execPpsLossTimeout s) := by
  unfold execPpsLossTimeout
  refine completes_unless _ (completes_ite (completes_guarded _ _) ?_)
  split <;> exact completes_done _ _

theorem execReplyReceived_completes (p : Chan) (hdr : FrameHdr) (x : NodeReply) : Completes s (execReplyReceived p hdr x s) := by
  refine completes_unless _ (completes_unless _ ?_)
  split <;> exact completes_done _ _

theorem execCapsReceived_completes (p : Chan) (hdr : FrameHdr) (x : Caps) : Completes s (execCapsReceived p hdr x s) := by
  refine completes_unless _ (completes_unless _ (completes_unless _ (completes_unless _ ?_)))
  split
  · exact completes_done _ _
  · split <;> exact completes_done _ _

theorem execInternalFaultDetected_completes (cause subject : Half) : Completes s (execInternalFaultDetected cause subject s) := by
  refine completes_unless _ ?_
  split
  case h_4 => exact completes_guarded _ _
  case h_5 => exact completes_guarded _ _
  all_goals exact completes_done _ _

theorem execTsConversion_completes (i : TempIn) (res : TsResult) : Completes s (execTsConversion i res s) := by
  refine completes_unless _ ?_
  split
  case h_1 => exact completes_guarded _ _
  case h_2 =>
    dsimp only
    split
    · exact completes_done _ _
    · exact completes_guarded _ _

theorem execHeartbeatRx_completes (lane : SeamLane) (hdr : SeamHdr) (x : Heartbeat) :
    Completes s (execHeartbeatRx lane hdr x s) := by
  refine completes_unless _ (completes_unless _ ?_)
  split
  · exact completes_done _ _
  · exact completes_guarded _ _

theorem execLoOpenLoad_completes (o : LoadOut) (begins : Bool) (m : LoMeas) : Completes s (execLoOpenLoad o begins m s) := by
  refine completes_unless _ (completes_ite (completes_unless _ (completes_unless _ (completes_guarded _ _))) ?_)
  split <;> exact completes_done _ _

theorem execBusTxError_completes (b : BusId) (k : TxKind) (e : BusErr) (d : Bool) : Completes s (execBusTxError b k e d s) := by
  refine completes_unless _ ?_
  split <;> exact completes_done _ _

theorem execHandoverWithdraw_completes : Completes s (execHandoverWithdraw s) := by
  unfold execHandoverWithdraw
  split
  · exact completes_ite (completes_writes _ _ _) (completes_done _ _)
  · exact completes_guarded _ _

theorem execReloadPoint_completes (start : DWord) : Completes s (execReloadPoint start s) := by
  refine completes_unless _ ?_
  split
  · exact completes_unless _ (completes_writes _ _ _)
  · exact completes_done _ _
  · exact completes_done _ _

theorem execRegisterWrite_completes (port : HPort) (bar : Bar) (offset size : Nat) (value : DWord) :
    Completes s (execRegisterWrite port bar offset size value s) := by
  refine completes_unless _ ?_
  cases bar
  · exact completes_guarded _ _
  · exact completes_unless _ (completes_doneWin _ (memWrite_wf _ _ _))

/-- Returning a stream descriptor writes its slot alone. -/
theorem returnStream_wf (r : Ring) (p : Reply) (h : Memory.wf s.win = true) : Memory.wf (returnStream r p s).win = true := by
  unfold returnStream
  rw [returned_win]
  exact writeDesc_wf _ _ _ _ _ _ _ _ _ h

theorem execStreamInterval_completes (ring : Ring) : Completes s (execStreamInterval ring s) := by
  refine completes_unless _ (completes_unless _ (completes_ite ?_ ?_))
  · refine completes_doneWin _ fun h => returnStream_wf _ _ _ ?_
    exact h
  · refine completes_doneWin _ fun h => returnStream_wf _ _ _ ?_
    dsimp only [modRing_win]
    exact writeAll_wf _ _ h

/-- A standby keeps the reference before the command is refused (07 R214), on a state that differs in the insertion part alone. -/
theorem execArmReference_completes (h : Hdr) (ref : RefDesc) : Completes s (execArmReference h ref s) := by
  have either (kept : Bool) : Completes s (hostCmd h 0x0301 52 .none false (takeRef ref)
      (if kept then keepRef ref s.tim.station s else s)) := by
    cases kept
    · exact completes_hostCmd _ _ _ _ _ _ _
    · exact completes_congr rfl rfl rfl (completes_hostCmd _ _ _ _ _ _ (keepRef ref s.tim.station s))
  unfold execArmReference
  exact either _

end

/-! ## SUPPORT. Every command -/

/-- The rows by the form of their answer: without a guard, behind one or more guards, host commands, rows of the supervisor, frame
series, resets, and those that answer by a case. -/
theorem exec_completes (c : Instr) (s : State) : Completes s (exec c s) := by
  cases c with
  | hstHeartbeatWrite | hstRingHpiWrite | hstRingCfgWrite | syncInterval | pulseSuppressedReport | restagedReport
  | tripPresenceEnd | blankingEnd | debugHalt | tripreqHoldEnd | loShort | loThermalLatch | loClampTurnoff | busRecoveryDone
  | oneShotTimeout | debugResume | tapInstruction | causeCountExpiry => exact completes_done _ _
  | hostPortReset port kind => cases kind <;> exact completes_done _ _
  | loadAllGo | hstTakeoverWrite | hstIrqPendClear | hstWriteDropsRead | hstTimeLoRead | clockRestored | portSettleTimeout
  | moduleReady | holdupTestDone | aloneWaitExpiry | powerFailWarning | powerFailHandover | powerFailWithdrawn
  | checkpointPeriodic | holdoverExpiry | oscCompensation | hostSilenceTimeout | portLightDetect | lightOnUnpopulated
  | toneQualified | rangingVerified | bringupStageOverrun | bringupRetry | exchangeTimeout | faultToneArrival | toneLost
  | downstreamDetect | toneHealthyReturn | statReceived | timingReplyAbsent | frameInvalid | frameErrorCheck
  | saturationReport | referenceLateReport | tripWiringFault | tripChatterEnd | hwFaultRequest | annealDelayExpiry
  | plausHoldExpiry | contactRecheck | openWireScan | restRequestRepeat | restWaitExpiry | restEnd | assayTimeout
  | impedanceSave | tsFaultTrip | dieWarnRecheck | thermalRestart | loOverload | loThermalRelease | loUvRestart | loInrushEnd
  | loAnnealed | loAttemptReset | loStuckOn | loOnMax | vsafeLoss | vsafeStart | tripBroadcastRx | twinStatusRx
  | busTxComplete | busSupplyAbsent | busSupplyRestored | twinStatusTimer | segmentStatusTimer | fwCountTick | seamLaneDown
  | fwSilence | nodeWitness | seamRetxTimeout | ringIrqHoldExpiry | bringupWaitExpiry | seamLaneLock | busRxError
  | serviceHoldWaitTimeout => exact completes_guarded _ _
  | roleResolution | compensationLearn | hostLinkChange | characterLock | cellsBurstReceived | cellsTriggerReceived
  | touchReceived | edgesReceived | tripInputDemand | laneSelftest | contactorOpenRetry | cellLimitTimer | estimatorUpdate
  | restStart | loAttemptDue | busFrameRx | heartbeatTx | setMirrorRx | mirrorMiss | portLightLoss =>
    exact completes_unless _ (completes_guarded _ _)
  | ppsEdge | cellsReportReceived | contactorTestTimeout | loUndervoltage | seamFrameInvalid | dieWarning =>
    exact completes_unless _ (completes_unless _ (completes_guarded _ _))
  | rangingComplete => exact completes_unless _ (completes_unless _ (completes_unless _ (completes_guarded _ _)))
  | getParam | setParam | commitConfig | readIdentity | setTime | hostSwitch | streamSetup | resetModule | chConnect
  | chDisconnect | chDormant | chRetire | chRestore | loadAll | quenchRelease | restage | setMode | assayCycleStart
  | assayCycleAbort | restGrant | touchmarkProvision | readLimits | nodeUpdate | nodeCalibrate | linkRetest | thermalMode
  | loSet | loRearm | safetyStatus | busRecover | busSend | busMode | twinHandover | imageUpdate | imageActivate | logRead
  | faultAck => unfold exec; exact completes_hostCmd _ _ _ _ _ _ _
  | siDemand | siPermit | pulseSample | discrepancyTick | twoHandSyncTimeout | resetStuck | siChatter | offPulseTest
  | soReadbackFault | degradedExpiry | hallmarkScan | safetyInternalFault => unfold exec; exact completes_safeRow _ _
  | srstPressAccepted => exact completes_unless _ (completes_safeRow _ _)
  | stateMirrorRx | reconcileRx | configRx | imageRx => unfold exec; exact completes_seamSeries _ _ _
  | mrst => exact completes_resetNow _ _
  | watchdogReset | deferredRestart => exact completes_ite (completes_resetNow _ _) (completes_done _ _)
  | powerOn | clockLoss | railFault => exact completes_cleared _ _
  | reserveExhausted => exact completes_unless _ (completes_cleared _ _)
  | thermalShutdown => exact completes_unless _ (completes_unless _ (completes_cleared _ _))
  | setTimeTimeout | busModeApply | unknownOpcode | cmdReplyTimeout | rangingSync | imageChunkWritten =>
    dsimp only [exec, execSetTimeTimeout, execBusModeApply, execUnknownOpcode, execCmdReplyTimeout, execRangingSync,
      execImageChunkWritten]
    split <;> exact completes_done _ _
  | activePortChange | recordWriteDone =>
    dsimp only [exec, execActivePortChange, execRecordWriteDone]
    split
    · exact completes_done _ _
    · exact completes_guarded _ _
  | prechargeTimeout | disconnectBypassTimeout =>
    dsimp only [exec, execPrechargeTimeout, execDisconnectBypassTimeout]
    split
    · exact completes_guarded _ _
    · exact completes_done _ _
  | retransmitTimeout | faultActionStep | l2BlockRestart =>
    dsimp only [exec, execRetransmitTimeout, execFaultActionStep, execL2BlockRestart]
    split
    · exact completes_done _ _
    · exact completes_unless _ (completes_guarded _ _)
  | armReference => exact execArmReference_completes s _ _
  | registerWrite => exact execRegisterWrite_completes s _ _ _ _ _
  | streamInterval => exact execStreamInterval_completes s _
  | ppsLossTimeout => exact execPpsLossTimeout_completes s
  | capsReceived => exact execCapsReceived_completes s _ _ _
  | replyReceived => exact execReplyReceived_completes s _ _ _
  | reloadPoint => unfold exec; exact execReloadPoint_completes s _
  | tsConversion => exact execTsConversion_completes s _ _
  | loOpenLoad => exact execLoOpenLoad_completes s _ _ _
  | busTxError => exact execBusTxError_completes s _ _ _ _
  | heartbeatRx => exact execHeartbeatRx_completes s _ _ _
  | handoverWithdraw => exact execHandoverWithdraw_completes s
  | internalFaultDetected => exact execInternalFaultDetected_completes s _ _

/-- Settles O3: every row ends in one of the shared forms, each of which is a next state. -/
theorem execAnswersNext : Obligations.ExecAnswersNext := by
  intro c s
  exact (exec_completes c s).goesOn

/-! ## SUPPORT. Registers of a host port (00 R7, R8; 03 *BAR0 register map*) -/

theorem getLsbD_putHalf_true (x : DWord) (v : Word) (k : Nat) :
    (putHalf true x v).getLsbD k = if k < 32 then x.getLsbD k else v.getLsbD (k - 32) := by
  refine BitVec.getLsbD_append.trans ?_
  split <;> simp [*]

theorem getLsbD_putHalf_false (x : DWord) (v : Word) (k : Nat) :
    (putHalf false x v).getLsbD k = if k < 32 then v.getLsbD k else x.getLsbD k := by
  refine BitVec.getLsbD_append.trans ?_
  split
  case isTrue => rfl
  case isFalse h =>
    have e : 32 + (k - 32) = k := by omega
    by_cases hk : k < 64
    · have : k - 32 < 32 := by omega
      simp [e, this]
    · have : ¬ k - 32 < 32 := by omega
      simp [this, BitVec.getLsbD_of_ge x k (by omega)]

theorem getHalf_putHalf (high : Bool) (x : DWord) (v : Word) : getHalf high (putHalf high x v) = v := by
  cases high
  case false => ext k hk; simp [getHalf, getLsbD_putHalf_false, hk]
  case true => ext k hk; simp [getHalf, getLsbD_putHalf_true, hk]

theorem getHalf_not_putHalf (high : Bool) (x : DWord) (v : Word) : getHalf (!high) (putHalf high x v) = getHalf (!high) x := by
  cases high
  case false => ext k hk; simp [getHalf, getLsbD_putHalf_false]
  case true => ext k hk; simp [getHalf, getLsbD_putHalf_true, hk]

/-- HST_IRQ_PEND after a clear of one half (00 R7). -/
def pendAfter (high : Bool) (value setNow : Word) (x : DWord) : DWord := putHalf high x (getHalf high x &&& ~~~value ||| setNow)

theorem execHstIrqPendClear_open {p : HPort} {s : State} (open_ : portFenced s p = false) (high : Bool) (value setNow : Word) :
    exec (.hstIrqPendClear p high value setNow) s =
      done s (modHp p (fun r => { r with irqPend := pendAfter high value setNow r.irqPend }) s) := by
  simp only [exec, execHstIrqPendClear, open_, pendAfter, Bool.false_eq_true, if_false]

/-- A bit of a half after a clear: set by the module in the same cycle, or set before and not cleared (00 R7). -/
theorem getLsbD_clear_or_set (old value setNow : Word) {k : Nat} (hk : k < 32) :
    (old &&& ~~~value ||| setNow).getLsbD k = (setNow.getLsbD k || (old.getLsbD k && !value.getLsbD k)) := by
  simp [hk, Bool.or_comm]

/-- A change of a port's registers is what it makes of the registers that stand there. -/
theorem modHp_congr {p : HPort} {f g : PortRegs → PortRegs} {s : State} (h : f (portRegs s p) = g (portRegs s p)) :
    modHp p f s = modHp p g s := by
  cases p <;> simp only [modHp, portRegs] at h ⊢ <;> rw [h]

/-- A row whose own work is a change of one port's registers. -/
theorem runs_modHp {c : Instr} {s : State} {p : HPort} {f : PortRegs → PortRegs} {P : State → Prop}
    (e : exec c s = done s (modHp p f s)) (q : P (modHp p f s)) : Runs c s [.hst] P :=
  ⟨modHp p f s, e.trans (done_of_keeps (by simp) (by simp) (by simp)), modHp_keeps p f s, q⟩

/-- Settles O14: each row is a change of the port's registers, and the two halves of HST_IRQ_PEND are apart. -/
theorem readClearNeverLosesADrop : Obligations.ReadClearNeverLosesADrop := by
  intro p s open_
  refine ⟨fun concurrent => ?_, ?_, fun high value setNow => ?_⟩
  · exact runs_modHp (by simp [exec, execHstWriteDropsRead, open_]) rfl
  · exact runs_modHp (by simp [exec, execHstTimeLoRead, open_]) rfl
  · refine runs_modHp (execHstIrqPendClear_open open_ high value setNow)
      ⟨pendAfter high value setNow (portRegs s p).irqPend, ?_, getHalf_not_putHalf _ _ _, fun k hk => ?_⟩
    · exact modHp_congr rfl
    · rw [pendAfter, getHalf_putHalf]
      exact getLsbD_clear_or_set _ _ _ hk

end Sys2Proof.Safety

/-! ## SUPPORT. The front of the queue -/

namespace Sys2Proof.Safety

/-- Settles O1: `step` matches on the queue, and the queue of the state is `c` followed by the rest. -/
theorem stepRunsFrontCommand : Obligations.StepRunsFrontCommand := fun _ _ _ => rfl

end Sys2Proof.Safety

/-! ## SUPPORT. Bring-up of a cell link port (04)

A row of bring-up hands to `done` a few changes of one entry of `ports`. Each lemma names that state through the guard of its row
(`runs_of_done`) and reads the entry from the one change that `vmod_vmod` makes of them. -/

namespace Sys2Proof.Safety

open Sys2Proof.Machine

/-- Two changes of one entry are one change. -/
theorem vmod_vmod {α : Type} {n : Nat} (v : Vector α n) (i : Fin n) (f g : α → α) :
    vmod (vmod v i f) i g = vmod v i (fun x => g (f x)) := by
  simp [vmod]

/-- A change of an entry is what it makes of the entry that stands there. -/
theorem vmod_congr {α : Type} {n : Nat} (v : Vector α n) (i : Fin n) {f g : α → α} (h : f v[i] = g v[i]) :
    vmod v i f = vmod v i g :=
  congrArg (fun x => v.set i.val x i.isLt) h

/-- `Runs` from the state that a row hands to `done`, when its parts leave the window, the queue and the times alone. -/
theorem runs_of_done {c : Instr} {s u : State} {l : List Part} {P : State → Prop} (e : exec c s = done s u) (k : KeepsBut l s u)
    (apart : [Part.win, .pending, .tim].all (fun p => decide (p ∉ l)) = true) (q : P u) : Runs c s l P := by
  simp only [List.all_cons, List.all_nil, Bool.and_true, Bool.and_eq_true, decide_eq_true_eq] at apart
  obtain ⟨hwin, hpending, htim⟩ := apart
  exact ⟨u, e.trans (done_of_keeps (k .win hwin) (k .pending hpending) (congrArg TimSt.tb (k .tim htim))), k, q⟩

/-- A power reading draws one free value and sets the power of its port. -/
theorem readPower_keeps (p : Chan) (s : State) : KeepsBut [.ports, .free] s (readPower p s) := by
  intro q hq; cases q <;> first | (simp at hq; done) | exact Eq.refl _

theorem readTk_ports (p : Chan) (s : State) : (readTk p s).ports =
    vmod s.ports p (fun x => { x with tkStatus := (drawWord s).1.truncate 8 }) := rfl

theorem recomputeDeadline_keeps (s : State) : KeepsBut [.hst] s (recomputeDeadline s) := by
  intro q hq; cases q <;> first | (simp at hq; done) | exact Eq.refl _

theorem bringupFails_keeps (p : Chan) (new : LinkState) (s : State) : KeepsBut [.ports] s (bringupFails p new s) :=
  modPort_keeps _ _ _

/-- A healed tone withdraws causes of the channel: its port stays as it is. -/
theorem toneHealed_ports (p : Chan) (s : State) : (toneHealed p s).ports = s.ports := by
  have noPorts : Part.ports ∉ decideParts := by decide
  unfold toneHealed
  dsimp only
  have h : (causeOff p 10 (causeOff p 9 (modMeas p (fun m => { m with toneByWire := false }) s))).ports = s.ports :=
    (causeOff_keeps p 10 _ .ports noPorts).trans (causeOff_keeps p 9 _ .ports noPorts)
  split
  · exact (causeOff_keeps p 11 _ .ports noPorts).trans h
  · exact h

theorem readPower_ports (p : Chan) (s : State) : (readPower p s).ports =
    vmod s.ports p (fun x => { x with rxPower := if x.light then (drawWord s).1.truncate 16 else 0x8000 }) := rfl

/-- A port that has light reads a power. -/
theorem readPower_lit (p : Chan) (f : PortSt → PortSt) (s : State) (lit : (f s.ports[p]).light = true) :
    ∃ w, (readPower p (modPort p f s)).ports = vmod s.ports p (fun x => { f x with rxPower := w }) := by
  refine ⟨(drawWord (modPort p f s)).1.truncate 16, ?_⟩
  rw [readPower_ports, modPort_ports, vmod_vmod]
  exact vmod_congr _ _ (by rw [if_pos lit])

section
variable (p : Chan) (s : State)

/-! ### Light and lock -/

theorem portLightDetect_lights (on : portOn s p = true) : Runs (.portLightDetect p) s [.ports, .free] (fun u =>
    ∃ w, u.ports = vmod s.ports p (fun x =>
      { x with light := true, rxPower := w, state := if x.state = .dark then .light else x.state })) := by
  refine runs_of_done (if_neg (by simp [on])) ?_ (by decide) (readPower_lit p _ s rfl)
  exact keepsBut_trans (keepsBut_sub _ (modPort_keeps _ _ _) rfl) (readPower_keeps _ _)

theorem lightOnUnpopulated_reports (none_ : populated s p = false) : Runs (.lightOnUnpopulated p) s [.ports, .free, .ev] (fun u =>
    Tells s u 0x8504 p.val [] ∧ ∃ w, u.ports = vmod s.ports p (fun x => { x with light := true, rxPower := w })) := by
  have e : exec (.lightOnUnpopulated p) s =
      done s (readPower p (modPort p (fun x => { x with light := true }) (raise 0x8504 p.val [] s))) := if_neg (by simp [none_])
  have kept := raise_keeps 0x8504 p.val [] s
  have told := raise_tells 0x8504 p.val [] s
  generalize raise 0x8504 p.val [] s = t at e kept told
  refine runs_of_done e ?_ (by decide) ⟨told, ?_⟩
  · refine keepsBut_trans (keepsBut_sub _ kept rfl) ?_
    exact keepsBut_trans (keepsBut_sub _ (modPort_keeps _ _ _) rfl) (keepsBut_sub _ (readPower_keeps _ _) rfl)
  · rw [← kept .ports (by decide)]
    exact readPower_lit p _ _ rfl

theorem characterLock_lost (on : portOn s p = true) (aligned : s.ports[p].state = .aligned) (locked : s.ports[p].lock = true) :
    Runs (.characterLock p false) s [.ports] (fun u => (∀ q : Chan, q ≠ p → u.ports[q] = s.ports[q]) ∧
      u.ports[p].state = .light ∧ u.ports[p].lock = false ∧ u.ports[p].codeErrors = s.ports[p].codeErrors + 4) := by
  have e : exec (.characterLock p false) s = done s (bringupFails p .light (modPort p
      (fun x => { x with lock := false, codeErrors := x.codeErrors + (if x.lock then 4 else 0) }) s)) := by
    simp only [exec, execCharacterLock, on, aligned]
    rfl
  refine runs_of_done e (keepsBut_trans (modPort_keeps _ _ _) (bringupFails_keeps _ _ _)) (by decide) ?_
  simp only [bringupFails, modPort_ports, vmod_vmod, vmod_get, locked, if_true, and_true]
  exact fun q h => vmod_get_ne _ _ _ _ h

theorem portLightLoss_light (light : s.ports[p].state = .light) : Runs (.portLightLoss p) s [.ports] (fun u =>
    u.ports[p].state = .dark ∧ u.ports[p].light = false ∧ u.ports[p].lock = false ∧
      ∀ q : Chan, q ≠ p → u.ports[q] = s.ports[q]) := by
  have e : exec (.portLightLoss p) s = done s (bringupFails p .dark (modPort p
      (fun x => { x with light := false, lock := false, rxPower := 0x8000 }) s)) := by
    simp only [exec, execPortLightLoss, running, light]
    rfl
  refine runs_of_done e (keepsBut_trans (modPort_keeps _ _ _) (bringupFails_keeps _ _ _)) (by decide) ?_
  simp only [bringupFails, modPort_ports, vmod_vmod, vmod_get, true_and]
  exact fun q h => vmod_get_ne _ _ _ _ h

theorem portLightLoss_stays (l : s.ports[p].state = .off ∨ s.ports[p].state = .running) : Becomes (.portLightLoss p) s
    (modPort p (fun x => { x with light := false, lock := false, rxPower := 0x8000 }) s) := by
  obtain l | l := l <;> simp only [Becomes, exec, execPortLightLoss, running, l] <;> rfl

/-! ### Tone, and the ways back -/

theorem toneQualified_heals (on : portOn s p = true) (aligned : s.ports[p].state = .aligned) (free : s.ports[p].waiting = false)
    (sound : s.ports[p].tone ≠ .fault) : ∃ u, exec (.toneQualified p) s = .next (settle u) ∧
      u.ports[p].state = .tone ∧ u.ports[p].tone = .healthy ∧ ∀ q : Chan, q ≠ p → u.ports[q] = s.ports[q] := by
  have reads := readTk_ports p (modPort p (fun x => { x with state := .tone, ranging := [], verified := 0, sent := [] }) s)
  refine ⟨_, (if_neg ?_).trans (congrArg (done s) (if_neg ?_)), ?_⟩
  · simp only [on, aligned, free]
    decide
  · simpa only [reads, modPort_ports, vmod_vmod, vmod_get] using sound
  · simp only [toneHealed_ports, reads, modPort_ports, vmod_vmod, vmod_get, true_and]
    exact fun q h => vmod_get_ne _ _ _ _ h

theorem bringupStageOverrun_falls (l : bringing s.ports[p].state = true) : Runs (.bringupStageOverrun p) s [.ports] (fun u =>
    u.ports[p].state = (if s.ports[p].light then .light else .dark) ∧ u.ports[p].lock = false ∧ u.ports[p].ranging = []) := by
  refine runs_of_done (if_pos (by simp only [l, Bool.or_true])) ?_ (by decide) ?_
  · exact keepsBut_trans (modPort_keeps _ _ _) (bringupFails_keeps _ _ _)
  · simp only [bringupFails, modPort_ports, vmod_vmod, vmod_get, and_self]

theorem bringupStageOverrun_idles (l : s.ports[p].state = .running ∨ s.ports[p].state = .dark) :
    Idles (.bringupStageOverrun p) s := by
  obtain l | l := l <;> simp only [Idles, exec, execBringupStageOverrun, l] <;> rfl

theorem bringupWaitExpiry_ends (waiting : s.ports[p].waiting = true) (down : s.ports[p].state ≠ .running)
    (lit : s.ports[p].state ≠ .off) :
    Runs (.bringupWaitExpiry p) s [.ports] (fun u =>
      u.ports[p].waiting = false ∧ u.ports[p].state = rxState s p ∧ ∀ q : Chan, q ≠ p → u.ports[q] = s.ports[q]) := by
  refine runs_of_done (if_pos ?_) (modPort_keeps _ _ _) (by decide) ?_
  · simp only [waiting, running, Bool.true_and, Bool.not_eq_true', beq_eq_false_iff_ne]
    exact down
  · simp only [modPort_ports, vmod_get, if_neg lit, true_and]
    exact fun q h => vmod_get_ne _ _ _ _ h

/-! ### Ranging and the exchange -/

theorem sendSync_keeps (step : Bool) : KeepsBut [.ports, .txns, .free] s (sendSync p step s) := by
  intro q hq; cases q <;> first | (simp at hq; done) | exact Eq.refl _

/-- A SYNC is counted on its port and remembered with its SEQ (R113). -/
theorem sendSync_ports (step : Bool) : ∃ q : SyncSent, (sendSync p step s).ports =
    vmod s.ports p (fun x => { x with syncs := x.syncs + 1, sent := (q :: x.sent).take 64 }) := ⟨_, rfl⟩

theorem sendSync_txns (step : Bool) : (sendSync p step s).txns =
    vmod s.txns p (fun x => { x with seqTx := x.seqTx + 1, resend := false }) := rfl

theorem rangingSync_first (tone : s.ports[p].state = .tone) : Runs (.rangingSync p) s [.ports, .txns, .free] (fun u =>
    u.ports[p].state = .ranging ∧ u.ports[p].delay = none ∧ u.ports[p].syncs = s.ports[p].syncs + 1 ∧
    u.txns[p].seqTx = s.txns[p].seqTx + 1 ∧ ∀ q : Chan, q ≠ p → u.ports[q] = s.ports[q] ∧ u.txns[q] = s.txns[q]) := by
  have e : exec (.rangingSync p) s = done s (sendSync p false (modPort p
      (fun x => { x with state := .ranging, delay := none, round := none, ranging := [], verified := 0 }) s)) := by
    simp only [exec, execRangingSync, tone]
  obtain ⟨l, sent⟩ := sendSync_ports p (modPort p
    (fun x => { x with state := .ranging, delay := none, round := none, ranging := [], verified := 0 }) s) false
  refine runs_of_done e (keepsBut_trans (keepsBut_sub _ (modPort_keeps _ _ _) rfl) (sendSync_keeps _ _ _)) (by decide) ?_
  simp only [sent, sendSync_txns, modPort_ports, modPort_txns, vmod_vmod, vmod_get, true_and]
  exact fun q h => ⟨vmod_get_ne _ _ _ _ h, vmod_get_ne _ _ _ _ h⟩

theorem rangingSync_again (ranging : s.ports[p].state = .ranging) : Runs (.rangingSync p) s [.ports, .txns, .free] (fun u =>
    u.ports[p].state = .ranging ∧ u.ports[p].delay = s.ports[p].delay ∧ u.ports[p].syncs = s.ports[p].syncs + 1 ∧
    u.txns[p].seqTx = s.txns[p].seqTx + 1) := by
  have e : exec (.rangingSync p) s = done s (sendSync p true s) := by simp only [exec, execRangingSync, ranging]
  obtain ⟨l, sent⟩ := sendSync_ports p s true
  refine runs_of_done e (sendSync_keeps _ _ _) (by decide) ?_
  simp only [sent, sendSync_txns, vmod_get, ranging, and_self]

/-- A port that had no delay takes it with no restage. -/
theorem setDelay_first (d round : Rat) (new : s.ports[p].delay = none) : (setDelay p d round s).2 =
    recomputeDeadline (modPort p (fun x => { x with delay := some d, round := some round }) s) := by
  simp only [setDelay, new, Option.any_none]
  rfl

section
variable (f : Word) (ranging : s.ports[p].state = .ranging) (new : s.ports[p].delay = none) (full : s.ports[p].ranging.length = 64)
include ranging new full

/-- Sixty-four measurements of a port without a delay are judged in order: the delay, the spread, the frequency (R116, R117). -/
theorem execRangingComplete_judges : exec (.rangingComplete p f) s =
    let t := trimmed s.ports[p].ranging
    if t.1 > (10 * pNat s Prm.lnkDelayMax : Nat) then done s (refuse p 0 (units 4 t.1) s)
    else if t.2 > 20 then done s (refuse p 1 (units 4 t.2) s)
    else if f.toInt.natAbs > 2000 then done s (refuse p 2 f.toNat s)
    else done s (setDelay p t.1 (2 * t.1 + asymmetry s p) (modPort p (fun x => { x with ranging := [], verified := 0 }) s)).2 := by
  refine if_neg ?_
  simp only [ranging, new, full]
  decide

theorem rangingComplete_delay (short : (trimmed s.ports[p].ranging).1 ≤ (10 * pNat s Prm.lnkDelayMax : Nat))
    (narrow : (trimmed s.ports[p].ranging).2 ≤ 20) (true_ : f.toInt.natAbs ≤ 2000) :
    Runs (.rangingComplete p f) s [.ports, .hst] (fun u =>
      u.ports[p].delay = some (trimmed s.ports[p].ranging).1 ∧ u.ports[p].state = .ranging ∧ u.ports[p].verified = 0 ∧
      ∀ q : Chan, q ≠ p → u.ports[q] = s.ports[q]) := by
  have none_ : (modPort p (fun x => { x with ranging := [], verified := 0 }) s).ports[p].delay = none := by
    simpa only [modPort_ports, vmod_get] using new
  refine runs_of_done ((execRangingComplete_judges p s f ranging new full).trans
    ((if_neg (not_lt.mpr short)).trans ((if_neg (not_lt.mpr narrow)).trans (if_neg (not_lt.mpr true_))))) ?_ (by decide) ?_
  · rw [setDelay_first _ _ _ _ none_]
    refine keepsBut_trans ?_ (keepsBut_sub _ (recomputeDeadline_keeps _) rfl)
    exact keepsBut_sub _ (keepsBut_trans (modPort_keeps _ _ _) (modPort_keeps _ _ _)) rfl
  · simp only [setDelay_first _ _ _ _ none_, recomputeDeadline, modPort_ports, vmod_vmod, vmod_get, ranging, true_and]
    exact fun q h => vmod_get_ne _ _ _ _ h

theorem rangingComplete_refuses (bad : (10 * pNat s Prm.lnkDelayMax : Nat) < (trimmed s.ports[p].ranging).1 ∨
    20 < (trimmed s.ports[p].ranging).2 ∨ 2000 < f.toInt.natAbs) :
    ∃ cause value, Becomes (.rangingComplete p f) s (refuse p cause value s) := by
  unfold Becomes
  rw [execRangingComplete_judges p s f ranging new full]
  dsimp only
  by_cases far : (10 * pNat s Prm.lnkDelayMax : Nat) < (trimmed s.ports[p].ranging).1
  · exact ⟨_, _, if_pos far⟩
  rw [if_neg far]
  by_cases wide : 20 < (trimmed s.ports[p].ranging).2
  · exact ⟨_, _, if_pos wide⟩
  rw [if_neg wide]
  obtain h | h | h := bad
  · exact absurd h far
  · exact absurd h wide
  · exact ⟨_, _, if_pos h⟩

end

/-- The stream reset at the start of an exchange reports nothing (R134). -/
theorem streamReset_exchange_keeps : KeepsBut [.txns] s (streamReset p true s) := modTxn_keeps _ _ _

theorem rangingVerified_exchanges (ranging : s.ports[p].state = .ranging) (verified : 8 ≤ s.ports[p].verified) :
    Runs (.rangingVerified p) s [.ports, .txns] (fun u =>
      u.ports = vmod s.ports p (fun x => { x with state := .exchange, outlierList := [] }) ∧ u.txns[p].sreset = true ∧
      u.txns[p].unacked = [] ∧ u.txns[p].cmds = [] ∧ u.txns[p].rcntTx = 0 ∧ u.txns[p].streamResets = s.txns[p].streamResets) := by
  refine runs_of_done (if_neg ?_) ?_ (by decide) ?_
  · simp only [ranging, bne_self_eq_false, Bool.false_or, decide_eq_true_eq]
    exact not_lt.mpr verified
  · refine keepsBut_trans ?_ (keepsBut_sub _ (streamReset_exchange_keeps _ _) rfl)
    exact keepsBut_trans (keepsBut_sub _ (modPort_keeps _ _ _) rfl) (keepsBut_sub _ (modTxn_keeps _ _ _) rfl)
  · simp only [streamReset, if_true, modTxn_ports, modPort_ports, modTxn_txns, modPort_txns, vmod_vmod, vmod_get, and_self]

theorem exchangeTimeout_unpartners (l : s.ports[p].state = .exchange) (none_ : serviceOf s p = none) :
    Becomes (.exchangeTimeout p) s (unpartner p 0 s) := by
  simp only [Becomes, exec, execExchangeTimeout, l, none_]
  rfl

theorem bringupRetry_tone (on : portOn s p = true) (l : stopped s.ports[p].state = true) :
    Becomes (.bringupRetry p) s (modPort p (fun x => { x with state := .tone, ranging := [], verified := 0, sent := [] }) s) :=
  if_pos (by simp only [l, on, Bool.and_self])

end

/-- Settles O22: one lemma per row above, for the port's link state before it. -/
theorem bringUpOfAPort : Obligations.BringUpOfAPort := by
  intro p s
  refine ⟨portLightDetect_lights p s, lightOnUnpopulated_reports p s, fun h => if_pos h, fun h => ?_, characterLock_lost p s,
    fun on l free sound _ => toneQualified_heals p s on l free sound, rangingSync_first p s, rangingSync_again p s,
    fun f l new full => ⟨rangingComplete_delay p s f l new full, rangingComplete_refuses p s f l new full⟩,
    rangingVerified_exchanges p s, exchangeTimeout_unpartners p s, fun l => bringupStageOverrun_falls p s ?_,
    bringupStageOverrun_idles p s, fun on l => bringupRetry_tone p s on ?_, fun l => ?_, bringupWaitExpiry_ends p s,
    portLightLoss_light p s, portLightLoss_stays p s⟩
  · exact (if_neg (by simp only [h]; decide)).trans (if_pos rfl)
  · obtain l | l | l := l <;> rw [l] <;> rfl
  · obtain l | l | l := l <;> rw [l] <;> rfl
  · exact if_neg (by simp only [l]; exact Bool.false_ne_true)

end Sys2Proof.Safety

/-! ## SUPPORT. The main domain's operations leave the supervisor's state (00 R19; 15 R427)

One frame per operation that a row of the main domain calls: its `saf` is that of the state before. The frames are simp lemmas, so
each is read off the definition from those of the operations it calls, with a case split where the definition matches. A loop whose
body keeps `saf` by definition needs `-implicitDefEqProofs`: `forEach_saf` wants a proof about the body, not only its reduct. -/

namespace Sys2Proof.Safety

open Sys2Proof.Machine

@[simp] theorem saf_ite (c : Prop) [Decidable c] (s t : State) : (if c then s else t).saf = if c then s.saf else t.saf :=
  apply_ite State.saf c s t

@[simp] theorem snd_saf_ite {α : Type} (c : Prop) [Decidable c] (s t : α × State) :
    (if c then s else t).2.saf = if c then s.2.saf else t.2.saf :=
  apply_ite (fun x : α × State => x.2.saf) c s t

/-- A fold leaves the supervisor's state when each step does; `view` finds the state in what the fold carries. -/
theorem foldl_saf {α β : Type} (view : β → State) (xs : List α) (f : β → α → β) (b : β)
    (h : ∀ b x, (view (f b x)).saf = (view b).saf) : (view (xs.foldl f b)).saf = (view b).saf := by
  induction xs generalizing b with
  | nil => rfl
  | cons x xs ih => exact (ih (f b x)).trans (h b x)

@[simp] theorem forEach_saf {α : Type} (xs : List α) (f : α → State → State) (s : State) (h : ∀ a t, (f a t).saf = t.saf) :
    (forEach xs f s).saf = s.saf :=
  foldl_saf id xs (fun s a => f a s) s fun t a => h a t

/-! ### Operations of Machine/Ops.lean -/

@[simp] theorem drawWord_saf (s : State) : (drawWord s).2.saf = s.saf := rfl
@[simp] theorem drawBool_saf (s : State) : (drawBool s).2.saf = s.saf := rfl
@[simp] theorem raiseAt_saf (code level : Nat) (pin : Bool) (time : DWord) (subject : Nat) (data : List Nat) (s : State) :
    (raiseAt code level pin time subject data s).saf = s.saf :=
  raiseAt_keeps code level pin time subject data s .saf (by decide)

@[simp] theorem raise_saf (code subject : Nat) (data : List Nat) (s : State) : (raise code subject data s).saf = s.saf :=
  raise_keeps code subject data s .saf (by decide)

@[simp] theorem sendVector_saf (p : HPort) (v : Nat) (s : State) : (sendVector p v s).saf = s.saf :=
  sendVector_keeps p v s .saf (by decide)

@[simp] theorem signalRing_saf (r : Ring) (s : State) : (signalRing r s).saf = s.saf := signalRing_keeps r s .saf (by decide)
@[simp] theorem returned_saf (r : Ring) (s : State) : (returned r s).saf = s.saf := returned_keeps r s .saf (by decide)
@[simp] theorem writeDesc_saf (r : Ring) (idx : Word) (op tag len : Half) (w2 : Nat) (words : List (Nat × Word)) (full : Bool)
    (s : State) :
    (writeDesc r idx op tag len w2 words full s).saf = s.saf :=
  writeDesc_keeps r idx op tag len w2 words full s .saf (by decide)

@[simp] theorem queueWrite_saf (w : StoreWrite) (s : State) : (queueWrite w s).saf = s.saf :=
  queueWrite_keeps w s .saf (by decide)

@[simp] theorem seamFrames_saf (l : SeamLane) (n : Nat) (s : State) : (seamFrames l n s).saf = s.saf :=
  seamFrames_keeps l n s .saf (by decide)

@[simp] theorem seamBoth_saf (s : State) : (seamBoth s).saf = s.saf := seamBoth_keeps s .saf (by decide)
@[simp] theorem sendSeam_saf (o : SeamOut) (s : State) : (sendSeam o s).saf = s.saf := sendSeam_keeps o s .saf (by decide)
@[simp] theorem seamAgain_saf (ack : Half) (s : State) : (seamAgain ack s).saf = s.saf := seamAgain_keeps ack s .saf (by decide)

/-! ### Operations of Machine/Faults.lean -/

@[simp] theorem modFault_saf (id : Word) (f : FaultRec → FaultRec) (s : State) : (modFault id f s).saf = s.saf :=
  modFault_keeps id f s .saf (by decide)

@[simp] theorem raiseFault_saf (cause subject level : Nat) (permanent : Bool) (origin : Nat) (s : State) :
    (raiseFault cause subject level permanent origin s).saf = s.saf :=
  raiseFault_keeps cause subject level permanent origin s .saf (by decide)

@[simp] theorem nextCurrent_saf (s : State) : (nextCurrent s).saf = s.saf := nextCurrent_keeps s .saf (by decide)
@[simp] theorem closeFault_saf (r : FaultRec) (how : Nat) (s : State) : (closeFault r how s).saf = s.saf :=
  closeFault_keeps r how s .saf (by decide)

@[simp] theorem endFault_saf (cause subject : Nat) (s : State) : (endFault cause subject s).saf = s.saf :=
  endFault_keeps cause subject s .saf (by decide)

@[simp] theorem endL1_saf (cause subject : Nat) (s : State) : (endL1 cause subject s).saf = s.saf :=
  endL1_keeps cause subject s .saf (by decide)

@[simp] theorem openL0_saf (g : Nat) (origin : Nat) (s : State) : (openL0 g origin s).saf = s.saf :=
  openL0_keeps g origin s .saf (by decide)

/-! ### Operations of Machine/Link.lean -/

@[simp] theorem nodeService_saf (p : Chan) (cause value : Nat) (s : State) : (nodeService p cause value s).saf = s.saf := by
  simp [nodeService]

@[simp] theorem sendBody_saf (p : Chan) (b : DownBody) (s : State) : (sendBody p b s).saf = s.saf :=
  sendBody_keeps p b s .saf (by decide)

@[simp] theorem sendCmd_saf (p : Chan) (code : Nat) (args : List Byte) (purpose : CmdPurpose) (s : State) :
    (sendCmd p code args purpose s).saf = s.saf :=
  sendCmd_keeps p code args purpose s .saf (by decide)

@[simp] theorem streamReset_saf (p : Chan) (atExchange : Bool) (s : State) : (streamReset p atExchange s).saf = s.saf :=
  streamReset_keeps p atExchange s .saf (by decide)

@[simp] theorem streamResumed_saf (p : Chan) (s : State) : (streamResumed p s).saf = s.saf := rfl
@[simp] theorem recomputeDeadline_saf (s : State) : (recomputeDeadline s).saf = s.saf := rfl

/-! ### Operations of Machine/Staging.lean -/

@[simp] theorem formHorizon_saf (closing : Bool) (first h : Nat) (s : State) : (formHorizon closing first h s).saf = s.saf :=
  formHorizon_keeps closing first h s .saf (by decide)

@[simp] theorem formGeneration_saf (closing : Bool) (first : Nat) (s : State) : (formGeneration closing first s).saf = s.saf := by
  simp [formGeneration]

@[simp] theorem closeTo_saf (k start : Nat) (s : State) : (closeTo k start s).saf = s.saf := by
  induction k generalizing s with
  | zero => rfl
  | succ k ih =>
    unfold closeTo
    split <;> simp [ih]

@[simp] theorem sayRestaged_saf (cause count : Nat) (gen : Word) (s : State) : (sayRestaged cause count gen s).saf = s.saf := by
  simp [sayRestaged]

@[simp] theorem restageFor_saf (cause : Nat) (s : State) : (restageFor cause s).2.saf = s.saf :=
  restageFor_keeps cause s .saf (by decide)

@[simp] theorem restage_saf (cause : Nat) (s : State) : (restage cause s).saf = s.saf := by simp [restage]
@[simp] theorem sendAbort_saf (p : Chan) (action : Byte) (s : State) : (sendAbort p action s).saf = s.saf :=
  sendAbort_keeps p action s .saf (by decide)

/-! ### Operations of Machine/Operands.lean -/

@[simp] theorem activity_saf (s : State) : (activity s).saf = s.saf := activity_keeps s .saf (by decide)
@[simp] theorem doorbell_saf (p : HPort) (s : State) : (doorbell p s).saf = s.saf := doorbell_keeps p s .saf (by decide)
@[simp] theorem finishAll_saf (sel : Pend → Bool) (r : Pend → Reply) (s : State) : (finishAll sel r s).saf = s.saf :=
  finishAll_keeps sel r s .saf (by decide)

@[simp] theorem finishOp_saf (op : Nat) (r : Reply) (s : State) : (finishOp op r s).saf = s.saf := rfl
@[simp] theorem completeTaken_saf (op : Nat) (r : Reply) (s : State) : (completeTaken op r s).saf = s.saf :=
  completeTaken_keeps op r s .saf (by decide)

@[simp] theorem putTaken_saf (h : Hdr) (op : Nat) (idx : Word) (r : Option Reply) (s : State) :
    (putTaken h op idx r s).saf = s.saf :=
  putTaken_keeps h op idx r s .saf (by decide)

@[simp] theorem later1_saf (h : Hdr) (op : Nat) (r : Reply) (s : State) : (later1 h op r s).saf = s.saf := rfl

/-! ### Operations of Machine/CellView.lean -/

@[simp] theorem modCell_saf (n : Chan) (i : Nat) (f : CellSt → CellSt) (s : State) : (modCell n i f s).saf = s.saf := rfl
@[simp] theorem modTemp_saf (n : Chan) (i : Nat) (f : TempSt → TempSt) (s : State) : (modTemp n i f s).saf = s.saf := rfl

/-! ### Operations of Machine/Connection.lean -/

@[simp] theorem addCount_saf (n : Chan) (cause : Nat) (s : State) : (addCount n cause s).saf = s.saf := rfl
@[simp] theorem chEvent_saf (code : Nat) (n : Chan) (old new cause : Nat) (host ended : Bool) (count : Nat) (s : State) :
    (chEvent code n old new cause host ended count s).saf = s.saf :=
  chEvent_keeps code n old new cause host ended count s .saf (by decide)

@[simp] theorem markDirty_saf (n : Chan) (s : State) : (markDirty n s).saf = s.saf := markDirty_keeps n s .saf (by decide)
@[simp] theorem abortCycle_saf (n : Chan) (reason : Nat) (s : State) : (abortCycle n reason s).saf = s.saf :=
  abortCycle_keeps n reason s .saf (by decide)

@[simp] theorem dropService_saf (n : Chan) (st : Status) (s : State) : (dropService n st s).saf = s.saf :=
  dropService_keeps n st s .saf (by decide)

@[simp] theorem setCh_saf (n : Chan) (new : ChState) (cause : Nat) (host : Bool) (s : State) :
    (setCh n new cause host s).saf = s.saf :=
  setCh_keeps n new cause host s .saf (by decide)

@[simp] theorem clearHolds_saf (n : Chan) (s : State) : (clearHolds n s).saf = s.saf := rfl
@[simp] theorem endSeq_saf (n : Chan) (st : Status) (s : State) : (endSeq n st s).saf = s.saf :=
  endSeq_keeps n st s .saf (by decide)

@[simp] theorem protect_saf (n : Chan) (cause : Nat) (atOnce : Bool) (s : State) : (protect n cause atOnce s).saf = s.saf :=
  protect_keeps n cause atOnce s .saf (by decide)

@[simp] theorem seqStep_saf (n : Chan) (st : ConStep) (s : State) : (seqStep n st s).saf = s.saf :=
  seqStep_keeps n st s .saf (by decide)

@[simp] theorem sendPrecharge_saf (n : Chan) (close : Bool) (p : CmdPurpose) (s : State) :
    (sendPrecharge n close p s).saf = s.saf :=
  rfl

@[simp] theorem sendContactor_saf (n : Chan) (close : Bool) (s : State) : (sendContactor n close s).saf = s.saf := rfl
@[simp] theorem weldEvent_saf (n : Chan) (kind : Nat) (s : State) : (weldEvent n kind s).saf = s.saf := by simp [weldEvent]
@[simp] theorem prechargeEvent_saf (n : Chan) (reason elapsed : Nat) (s : State) :
    (prechargeEvent n reason elapsed s).saf = s.saf := by
  simp [prechargeEvent]

@[simp] theorem countDecision_saf (n : Chan) (c : Nat) (s : State) : (countDecision n c s).2.saf = s.saf :=
  countDecision_keeps n c s .saf (by decide)

@[simp] theorem abandon_saf (n : Chan) (st : Status) (s : State) : (abandon n st s).saf = s.saf :=
  abandon_keeps n st s .saf (by decide)

@[simp] theorem retireNow_saf (n : Chan) (s : State) : (retireNow n s).saf = s.saf := by simp [retireNow]
@[simp] theorem startSeq_saf (n : Chan) (kind : SeqKind) (step : ConStep) (host : Bool) (cause : Nat) (s : State) :
    (startSeq n kind step host cause s).saf = s.saf :=
  startSeq_keeps n kind step host cause s .saf (by decide)

@[simp] theorem startDisc_saf (n : Chan) (kind : SeqKind) (host : Bool) (cause : Nat) (atOnce : Bool) (s : State) :
    (startDisc n kind host cause atOnce s).saf = s.saf :=
  startDisc_keeps n kind host cause atOnce s .saf (by decide)

@[simp] theorem retireBegin_saf (n : Chan) (cause : Nat) (byCount host : Bool) (s : State) :
    (retireBegin n cause byCount host s).saf = s.saf := by
  simp [retireBegin]

@[simp] theorem decideDisconnect_saf (n : Chan) (cause : Nat) (atOnce : Bool) (s : State) :
    (decideDisconnect n cause atOnce s).saf = s.saf :=
  decideDisconnect_keeps n cause atOnce s .saf (by decide)

@[simp] theorem causeOn_saf (n : Chan) (c : Nat) (s : State) : (causeOn n c s).saf = s.saf :=
  causeOn_keeps n c s .saf (by decide)

@[simp] theorem causeOnAt_saf (n : Chan) (c detail : Nat) (s : State) : (causeOnAt n c detail s).saf = s.saf := by
  simp [causeOnAt]

@[simp] theorem causeOff_saf (n : Chan) (c : Nat) (s : State) : (causeOff n c s).saf = s.saf :=
  causeOff_keeps n c s .saf (by decide)

@[simp] theorem placeByStat_saf (n : Chan) (cause : Nat) (host : Bool) (s : State) : (placeByStat n cause host s).saf = s.saf := by
  unfold placeByStat
  split <;> simp

@[simp] theorem anneal_saf (n : Chan) (host : Bool) (s : State) : (anneal n host s).saf = s.saf := by
  unfold anneal
  split <;> simp

@[simp] theorem fenceHold_saf (n : Chan) (cause : Nat) (s : State) : (fenceHold n cause s).saf = s.saf := by simp [fenceHold]
@[simp] theorem fenceDone_saf (n : Chan) (cause : Nat) (s : State) : (fenceDone n cause s).saf = s.saf := by simp [fenceDone]
@[simp] theorem prechargeFail_saf (n : Chan) (reason elapsed : Nat) (s : State) :
    (prechargeFail n reason elapsed s).saf = s.saf := by
  simp [prechargeFail]

@[simp] theorem welded_saf (n : Chan) (kind : Nat) (s : State) : (welded n kind s).saf = s.saf := by
  unfold welded
  dsimp only
  split <;> simp

@[simp] theorem contactBad_saf (n : Chan) (kind : Nat) (s : State) : (contactBad n kind s).saf = s.saf := by simp [contactBad]
@[simp] theorem openFailed_saf (n : Chan) (s : State) : (openFailed n s).saf = s.saf := by
  unfold openFailed
  split <;> simp

@[simp] theorem discEnd_saf (n : Chan) (s : State) : (discEnd n s).saf = s.saf := by
  unfold discEnd
  (repeat' split) <;> simp

@[simp] theorem closedPassed_saf (n : Chan) (s : State) : (closedPassed n s).saf = s.saf := by simp [closedPassed]
@[simp] theorem seqAdvance_saf (n : Chan) (report : Option Int) (s : State) : (seqAdvance n report s).saf = s.saf := by
  unfold seqAdvance
  (repeat' split) <;> simp

@[simp] theorem seqPoll_saf (n : Chan) (report : Option Int) (s : State) : (seqPoll n report s).saf = s.saf := by simp [seqPoll]
@[simp] theorem seqReply_saf (n : Chan) (result : Option Nat) (s : State) : (seqReply n result s).saf = s.saf := by
  unfold seqReply
  split
  case h_1 => rfl
  dsimp only
  split
  case h_3 =>
    split
    · simp
    · split
      · split <;> simp
      · simp
  all_goals simp

@[simp] theorem tripEvent_saf (ended : Bool) (by_ : Byte) (packI : Int) (s : State) :
    (tripEvent ended by_ packI s).saf = s.saf := by
  simp [tripEvent]

@[simp] theorem assertTrip_saf (by_ : Byte) (packI : Int) (s : State) : (assertTrip by_ packI s).saf = s.saf := by
  simp [assertTrip]

@[simp] theorem endTrip_saf (s : State) : (endTrip s).saf = s.saf := by simp [endTrip]
@[simp] theorem releaseTrip_saf (s : State) : (releaseTrip s).saf = s.saf := by simp [releaseTrip]
@[simp] theorem checkA1_saf (n : Chan) (w : Int) (s : State) : (checkA1 n w s).saf = s.saf := by simp [checkA1]

/-! ### Operations of Machine/Quench.lean -/

@[simp] theorem quenchChan_saf (n : Chan) (s : State) : (quenchChan n s).saf = s.saf := quenchChan_keeps n s .saf (by decide)
@[simp] theorem latch_saf (mask : Byte) (c : QCause) (s : State) : (latch mask c s).saf = s.saf :=
  latch_keeps mask c s .saf (by decide)

@[simp] theorem evalMatrix_saf (s : State) : (evalMatrix s).saf = s.saf := evalMatrix_keeps s .saf (by decide)
@[simp] theorem busTrip_saf (mask : Byte) (s : State) : (busTrip mask s).2.saf = s.saf := by simp [busTrip]
@[simp] theorem releaseChan_saf (n : Chan) (s : State) : (releaseChan n s).saf = s.saf := by
  unfold releaseChan
  (repeat' split) <;> simp

@[simp] theorem releaseGroups_saf (mask : Byte) (s : State) : (releaseGroups mask s).2.saf = s.saf := by
  unfold releaseGroups
  dsimp only
  rw [forEach_saf _ _ _ fun g u => by simp, saf_ite, raise_saf, ite_self]
  refine forEach_saf _ _ _ fun g u => ?_
  split <;> simp

@[simp] theorem hwFault_saf (cause : Nat) (subject : Nat) (s : State) : (hwFault cause subject s).saf = s.saf := by
  simp [hwFault]

@[simp] theorem tripFaultEvent_saf (i : TripIn) (kind : Nat) (ended : Bool) (s : State) :
    (tripFaultEvent i kind ended s).saf = s.saf := by
  simp [tripFaultEvent]

/-! ### Operations of Machine/Decisions.lean -/

@[simp] theorem judgeCells_saf (n : Chan) (s : State) : (judgeCells n s).saf = s.saf := by
  unfold judgeCells
  split <;> simp

@[simp] theorem judgeTemps_saf (n : Chan) (s : State) : (judgeTemps n s).saf = s.saf := by
  unfold judgeTemps
  split <;> simp

@[simp] theorem judgePlaus_saf (n : Chan) (s : State) : (judgePlaus n s).saf = s.saf := by simp [judgePlaus]
@[simp] theorem judgeWires_saf (n : Chan) (s : State) : (judgeWires n s).saf = s.saf := by
  unfold judgeWires
  split <;> simp

@[simp] theorem judgeAuth_saf (n : Chan) (s : State) : (judgeAuth n s).saf = s.saf := by simp [judgeAuth]
@[simp] theorem wireTone_saf (n : Chan) (s : State) : (wireTone n s).saf = s.saf := by simp [wireTone]
@[simp] theorem desat_saf (n : Chan) (s : State) : (desat n s).saf = s.saf := by simp [desat]
@[simp] theorem toneCauses_saf (n : Chan) (c : Byte) (s : State) : (toneCauses n c s).saf = s.saf := by simp [toneCauses]
@[simp] theorem uncount_saf (n : Chan) (cause : Nat) (s : State) : (uncount n cause s).saf = s.saf := rfl
@[simp] theorem layToWire_saf (n : Chan) (s : State) : (layToWire n s).saf = s.saf := by
  unfold layToWire
  split <;> simp

@[simp] theorem toneHealed_saf (n : Chan) (s : State) : (toneHealed n s).saf = s.saf := by simp [toneHealed]
@[simp] theorem judgeContact_saf (n : Chan) (s : State) : (judgeContact n s).saf = s.saf := by simp [judgeContact]
@[simp] theorem judgeAll_saf (n : Chan) (s : State) : (judgeAll n s).saf = s.saf := by simp [judgeAll]

/-! ### Operations of Machine/Frames.lean -/

@[simp] theorem acceptHdr_saf (p : Chan) (h : FrameHdr) (reliable : Bool) (s : State) :
    (acceptHdr p h reliable s).2.saf = s.saf := by
  unfold acceptHdr
  dsimp only
  (repeat' split) <;> simp

@[simp] theorem sendSetup_saf (n : Chan) (k : Nat) (p : CmdPurpose) (s : State) : (sendSetup n k p s).saf = s.saf := by
  simp [sendSetup]

@[simp] theorem sendSetups_saf (n : Chan) (s : State) : (sendSetups n s).saf = s.saf := by simp [sendSetups]

/-! ### Operations of Machine/CellModel.lean -/

@[simp] theorem modGrp_saf (n : Chan) (i : Nat) (f : GrpSt → GrpSt) (s : State) : (modGrp n i f s).saf = s.saf := rfl

/-! ### Operations of Machine/Learned.lean -/

@[simp] theorem loadLearned_saf (n : Chan) (r : LearnedRec) (s : State) : (loadLearned n r s).saf = s.saf := by
  simp -implicitDefEqProofs [loadLearned]

@[simp] theorem loadImp_saf (n : Chan) (i : Nat) (r : ImpRec) (s : State) : (loadImp n i r s).saf = s.saf := rfl
@[simp] theorem loadNominal_saf (n : Chan) (s : State) : (loadNominal n s).saf = s.saf := by
  simp -implicitDefEqProofs [loadNominal]

@[simp] theorem newPackSoc_saf (n : Chan) (s : State) : (newPackSoc n s).saf = s.saf := by
  simp -implicitDefEqProofs [newPackSoc]

@[simp] theorem writeLearned_saf (n : Chan) (s : State) : (writeLearned n s).saf = s.saf := by simp [writeLearned]
@[simp] theorem unverifiedEvent_saf (n : Chan) (cause : Nat) (ended : Bool) (s : State) :
    (unverifiedEvent n cause ended s).saf = s.saf := by
  simp [unverifiedEvent]

@[simp] theorem setUnverified_saf (n : Chan) (s : State) : (setUnverified n s).saf = s.saf := by
  simp -implicitDefEqProofs [setUnverified]

@[simp] theorem unverifiedFor_saf (n : Chan) (cause : Nat) (s : State) : (unverifiedFor n cause s).saf = s.saf := by
  simp [unverifiedFor]

@[simp] theorem clearUnverified_saf (n : Chan) (s : State) : (clearUnverified n s).saf = s.saf := by
  simp -implicitDefEqProofs [clearUnverified]

@[simp] theorem checkVerified_saf (n : Chan) (s : State) : (checkVerified n s).saf = s.saf := by simp [checkVerified]
@[simp] theorem packChanged_saf (n : Chan) (loaded : Bool) (old new : DWord) (s : State) :
    (packChanged n loaded old new s).saf = s.saf := by
  simp [packChanged]

@[simp] theorem authFailEvent_saf (n : Chan) (cause : Nat) (pack : DWord) (s : State) :
    (authFailEvent n cause pack s).saf = s.saf := by
  simp [authFailEvent]

@[simp] theorem wake_saf (n : Chan) (now : DWord) (s : State) : (wake n now s).saf = s.saf := by
  simp -implicitDefEqProofs [wake]

/-! ### Operations of Machine/Touchmark.lean -/

@[simp] theorem touchSend_saf (n : Chan) (s : State) : (touchSend n s).saf = s.saf := by
  unfold touchSend
  (repeat' split) <;> simp

@[simp] theorem setTouch_saf (n : Chan) (t : TouchSt) (s : State) : (setTouch n t s).saf = s.saf := by simp [setTouch]
@[simp] theorem endTouch_saf (n : Chan) (s : State) : (endTouch n s).saf = s.saf := rfl
@[simp] theorem startIdent_saf (n : Chan) (job : TouchJob) (changed : Bool) (s : State) :
    (startIdent n job changed s).saf = s.saf := by
  simp [startIdent]

@[simp] theorem cycleDoneEvent_saf (n : Chan) (stored tm : Bool) (s : State) : (cycleDoneEvent n stored tm s).saf = s.saf := by
  unfold cycleDoneEvent
  split <;> simp

@[simp] theorem startHistory_saf (n : Chan) (s : State) : (startHistory n s).saf = s.saf := by simp [startHistory]
@[simp] theorem historyEnd_saf (n : Chan) (ok : Bool) (s : State) : (historyEnd n ok s).saf = s.saf := by simp [historyEnd]
@[simp] theorem historyWrite_saf (n : Chan) (t : TouchSt) (s : State) : (historyWrite n t s).saf = s.saf := by
  simp [historyWrite]

@[simp] theorem provEnd_saf (n : Chan) (r : Reply) (s : State) : (provEnd n r s).saf = s.saf := rfl
@[simp] theorem authLost_saf (n : Chan) (cause : Nat) (s : State) : (authLost n cause s).saf = s.saf := by simp [authLost]
@[simp] theorem authFail_saf (n : Chan) (cause : Nat) (s : State) : (authFail n cause s).saf = s.saf := by simp [authFail]
@[simp] theorem noAuth_saf (n : Chan) (cause : Nat) (changed : Bool) (s : State) : (noAuth n cause changed s).saf = s.saf := by
  simp [noAuth]

@[simp] theorem authDone_saf (n : Chan) (t : TouchSt) (s : State) : (authDone n t s).saf = s.saf := by
  simp -implicitDefEqProofs [authDone]

@[simp] theorem authSlots_saf (n : Chan) (t : TouchSt) (s : State) : (authSlots n t s).saf = s.saf := by
  unfold authSlots
  dsimp only
  split <;> simp

@[simp] theorem authImps_saf (n : Chan) (t : TouchSt) (s : State) : (authImps n t s).saf = s.saf := by
  refine (endTouch_saf _ _).trans (forEach_saf _ _ _ fun i u => ?_)
  split <;> simp

@[simp] theorem identRead_saf (n : Chan) (t : TouchSt) (s : State) : (identRead n t s).saf = s.saf := by
  unfold identRead
  dsimp only
  (repeat' split) <;> simp

@[simp] theorem touchRead_saf (n : Chan) (ok : Bool) (data : List Byte) (s : State) : (touchRead n ok data s).saf = s.saf := by
  unfold touchRead
  dsimp only
  (repeat' split) <;> simp

@[simp] theorem touchWritten_saf (n : Chan) (ok : Bool) (s : State) : (touchWritten n ok s).saf = s.saf := by
  unfold touchWritten
  split <;> simp

@[simp] theorem touchSigned_saf (n : Chan) (ok : Bool) (data : List Byte) (s : State) : (touchSigned n ok data s).saf = s.saf := by
  unfold touchSigned
  split <;> simp

@[simp] theorem packExchange_saf (n : Chan) (c : Caps) (changed : Bool) (s : State) : (packExchange n c changed s).saf = s.saf := by
  simp [packExchange]

/-! ### Operations of Machine/Anchor.lean -/

@[simp] theorem advanceFilters_saf (n : Chan) (i secs : Rat) (s : State) : (advanceFilters n i secs s).saf = s.saf := by
  simp -implicitDefEqProofs [advanceFilters]

@[simp] theorem gapBegin_saf (n : Chan) (t : DWord) (s : State) : (gapBegin n t s).saf = s.saf := by
  simp -implicitDefEqProofs [gapBegin]

@[simp] theorem gapReport_saf (n : Chan) (wStart : Int) (wEnd : DWord) (packI : Int) (s : State) :
    (gapReport n wStart wEnd packI s).saf = s.saf := by
  unfold gapReport
  split <;> simp

@[simp] theorem adopt_saf (n : Chan) (k : Nat) (z u : Rat) (s : State) : (adopt n k z u s).saf = s.saf := rfl
@[simp] theorem anchorGroup_saf (n : Chan) (g : GapSt) (t : DWord) (k : Nat) (s : State) : (anchorGroup n g t k s).saf = s.saf := by
  unfold anchorGroup
  (repeat' split) <;> simp

@[simp] theorem takeAnchor_saf (n : Chan) (t : DWord) (s : State) : (takeAnchor n t s).saf = s.saf := by
  unfold takeAnchor
  split <;> simp

@[simp] theorem gapEnd_saf (n : Chan) (t : DWord) (s : State) : (gapEnd n t s).saf = s.saf := by simp [gapEnd]
@[simp] theorem gapDrop_saf (n : Chan) (s : State) : (gapDrop n s).saf = s.saf := rfl
@[simp] theorem relaxBegin_saf (n : Chan) (s : State) : (relaxBegin n s).saf = s.saf := by
  unfold relaxBegin
  split <;> simp

@[simp] theorem relaxReport_saf (n : Chan) (wStart : Int) (wEnd : DWord) (packI : Int) (s : State) :
    (relaxReport n wStart wEnd packI s).saf = s.saf := by
  unfold relaxReport
  dsimp only
  (repeat' split) <;> simp

@[simp] theorem slowFit_saf (n : Chan) (r : RelaxSt) (lasted : Rat) (k : Nat) (s : State) :
    (slowFit n r lasted k s).saf = s.saf := by
  unfold slowFit
  split <;> simp

@[simp] theorem relaxEnd_saf (n : Chan) (t : DWord) (s : State) : (relaxEnd n t s).saf = s.saf := by
  unfold relaxEnd
  split <;> simp

@[simp] theorem gapClose_saf (n : Chan) (t : DWord) (s : State) : (gapClose n t s).saf = s.saf := by simp [gapClose]

/-! ### Operations of Machine/Burst.lean -/

@[simp] theorem burstGroup_saf (n : Chan) (t : BurstTimes) (e : EdgeSeen) (k : Nat) (x : BurstSample) (s : State) :
    (burstGroup n t e k x s).2.saf = s.saf := by
  unfold burstGroup
  split <;> simp

@[simp] theorem burstPair_saf (n : Chan) (t : BurstTimes) (e : EdgeSeen) (samples : List BurstSample) (s : State) :
    (burstPair n t e samples s).saf = s.saf := by
  unfold burstPair
  dsimp only
  (repeat' split) <;> simp

@[simp] theorem burstDone_saf (n : Chan) (b : BurstSt) (e : EdgeSeen) (s : State) : (burstDone n b e s).saf = s.saf := by
  unfold burstDone
  dsimp only
  split
  · simp
  · rw [modCyc_saf, burstPair_saf]
    exact foldl_saf Prod.snd _ _ _ fun _ _ => burstGroup_saf _ _ _ _ _ _

@[simp] theorem burstMatch_saf (n : Chan) (s : State) : (burstMatch n s).saf = s.saf := by
  unfold burstMatch
  (repeat' split) <;> simp

@[simp] theorem burstSegment_saf (n : Chan) (x : CellsBurst) (s : State) : (burstSegment n x s).saf = s.saf := by
  unfold burstSegment
  dsimp only
  split <;> simp

@[simp] theorem driftEvent_saf (n : Chan) (k kind : Nat) (ended : Bool) (b : Nat) (s : State) :
    (driftEvent n k kind ended b s).saf = s.saf := by
  simp [driftEvent]

@[simp] theorem driftKind_saf (n : Chan) (k kind b : Nat) (met : Bool) (s : State) : (driftKind n k kind b met s).saf = s.saf := by
  simp [driftKind]

@[simp] theorem takeBaseline_saf (n : Chan) (k : Nat) (s : State) : (takeBaseline n k s).saf = s.saf := by simp [takeBaseline]
@[simp] theorem driftCheck_saf (n : Chan) (k b : Nat) (s : State) : (driftCheck n k b s).saf = s.saf := by
  unfold driftCheck
  dsimp only
  (repeat' split) <;> simp

@[simp] theorem fitBin_saf (n : Chan) (k b : Nat) (s : State) : (fitBin n k b s).saf = s.saf := by simp [fitBin]
@[simp] theorem fitChannel_saf (n : Chan) (s : State) : (fitChannel n s).saf = s.saf := by simp [fitChannel]

/-! ### Operations of Machine/Measure.lean -/

@[simp] theorem updateCell_saf (n : Chan) (x : CellsReport) (mask : BitVec 256) (i : Nat) (v : Half) (s : State) :
    (updateCell n x mask i v s).saf = s.saf := by
  unfold updateCell
  (repeat' split) <;> simp

@[simp] theorem markStale_saf (n : Chan) (s : State) : (markStale n s).saf = s.saf := by simp [markStale]
@[simp] theorem updateTemp_saf (n : Chan) (t : Nat) (v : Half) (s : State) : (updateTemp n t v s).saf = s.saf := rfl
@[simp] theorem keepTemp_saf (n : Chan) (t : Nat) (v : Half) (s : State) : (keepTemp n t v s).saf = s.saf := by simp [keepTemp]
@[simp] theorem plausEvent_saf (n : Chan) (cell : Nat) (sum ended : Bool) (main other : Nat) (s : State) :
    (plausEvent n cell sum ended main other s).saf = s.saf := by
  simp [plausEvent]

@[simp] theorem startWireTest_saf (n : Chan) (k : Nat) (s : State) : (startWireTest n k s).saf = s.saf := by
  simp [startWireTest]

@[simp] theorem nextSuspect_saf (n : Chan) (s : State) : (nextSuspect n s).saf = s.saf := by
  unfold nextSuspect
  split <;> simp

@[simp] theorem suspectWire_saf (n : Chan) (k : Nat) (s : State) : (suspectWire n k s).saf = s.saf := by simp [suspectWire]
@[simp] theorem endSuspect_saf (n : Chan) (k : Nat) (s : State) : (endSuspect n k s).saf = s.saf := by simp [endSuspect]
@[simp] theorem latchPlaus_saf (n : Chan) (i : Nat) (main other : Nat) (s : State) : (latchPlaus n i main other s).saf = s.saf := by
  simp [latchPlaus]

@[simp] theorem confirmOpen_saf (n : Chan) (w : Suspect) (checked cellFault : Bool) (s : State) :
    (confirmOpen n w checked cellFault s).saf = s.saf := by
  simp [confirmOpen]

@[simp] theorem classifyWires_saf (n : Chan) (s : State) : (classifyWires n s).saf = s.saf := by simp [classifyWires]
@[simp] theorem wireTested_saf (n : Chan) (k : Nat) (d : Option (Half × Half)) (s : State) : (wireTested n k d s).saf = s.saf := by
  unfold wireTested
  dsimp only
  (repeat' split) <;> simp

@[simp] theorem stackSum_saf (n : Chan) (s : State) : (stackSum n s).saf = s.saf := by
  unfold stackSum
  dsimp only
  (repeat' split) <;> simp

@[simp] theorem deviations_saf (n : Chan) (s : State) : (deviations n s).saf = s.saf := by simp [deviations]
@[simp] theorem countCell_saf (n : Chan) (x : TouchFrame) (cmp : List (Option Int)) (i : Nat) (s : State) :
    (countCell n x cmp i s).saf = s.saf := by
  unfold countCell
  dsimp only
  (repeat' split) <;> simp

@[simp] theorem touchCompare_saf (n : Chan) (x : TouchFrame) (s : State) : (touchCompare n x s).saf = s.saf := by
  simp [touchCompare]

@[simp] theorem takeReport_saf (n : Chan) (x : CellsReport) (s : State) : (takeReport n x s).saf = s.saf := by
  unfold takeReport
  split <;> simp

/-! ### Operations of Machine/Service.lean -/

@[simp] theorem putService_saf (n : Chan) (v : ServiceSt) (s : State) : (putService n v s).saf = s.saf := rfl
@[simp] theorem servicePoll_saf (n : Chan) (s : State) : (servicePoll n s).saf = s.saf := by
  unfold servicePoll
  split <;> simp

@[simp] theorem takeHold_saf (n : Chan) (s : State) : (takeHold n s).saf = s.saf := by
  unfold takeHold
  split <;> simp

@[simp] theorem nextHold_saf (s : State) : (nextHold s).saf = s.saf := by
  unfold nextHold
  split <;> simp

@[simp] theorem startService_saf (n : Chan) (v : ServiceSt) (s : State) : (startService n v s).saf = s.saf := by
  simp [startService]

@[simp] theorem endService_saf (n : Chan) (st : Status) (s : State) : (endService n st s).saf = s.saf := by simp [endService]
@[simp] theorem serviceRelease_saf (n : Chan) (s : State) : (serviceRelease n s).saf = s.saf := by
  unfold serviceRelease
  split <;> simp

@[simp] theorem serviceDone_saf (n : Chan) (v : ServiceSt) (s : State) : (serviceDone n v s).saf = s.saf := by
  simp [serviceDone]

@[simp] theorem nextChunk_saf (n : Chan) (v : ServiceSt) (s : State) : (nextChunk n v s).saf = s.saf := by simp [nextChunk]
@[simp] theorem reExchange_saf (n : Chan) (s : State) : (reExchange n s).saf = s.saf := rfl
@[simp] theorem serviceReply_saf (n : Chan) (result : Option Nat) (data : List Byte) (s : State) :
    (serviceReply n result data s).saf = s.saf := by
  unfold serviceReply
  (repeat' split) <;> simp

@[simp] theorem serviceCaps_saf (n : Chan) (image : Word) (s : State) : (serviceCaps n image s).saf = s.saf := by
  unfold serviceCaps
  split <;> simp

@[simp] theorem serviceSetup_saf (n : Chan) (s : State) : (serviceSetup n s).saf = s.saf := by
  unfold serviceSetup
  split <;> simp

@[simp] theorem bleedTaken_saf (n : Chan) (args : List Byte) (s : State) : (bleedTaken n args s).saf = s.saf := by
  simp [bleedTaken]

@[simp] theorem setupReply_saf (n : Chan) (k : Nat) (ok : Bool) (args : List Byte) (s : State) :
    (setupReply n k ok args s).saf = s.saf := by
  simp [setupReply]

@[simp] theorem cmdDone_saf (p : Chan) (c : NodeCmd) (result : Option Nat) (data : List Byte) (s : State) :
    (cmdDone p c result data s).saf = s.saf := by
  unfold cmdDone
  split <;> simp

@[simp] theorem failCmds_saf (p : Chan) (s : State) : (failCmds p s).saf = s.saf := by simp [failCmds]

/-! ### Operations of Machine/PortRows.lean -/

@[simp] theorem readPower_saf (p : Chan) (s : State) : (readPower p s).saf = s.saf := rfl
@[simp] theorem readTk_saf (p : Chan) (s : State) : (readTk p s).saf = s.saf := rfl
@[simp] theorem retestFailed_saf (p : Chan) (s : State) : (retestFailed p s).saf = s.saf := rfl
@[simp] theorem leaveRunning_saf (p : Chan) (new : LinkState) (s : State) : (leaveRunning p new s).saf = s.saf := by
  simp [leaveRunning]

@[simp] theorem bringupFails_saf (p : Chan) (new : LinkState) (s : State) : (bringupFails p new s).saf = s.saf := rfl
@[simp] theorem settlePort_saf (p : Chan) (s : State) : (settlePort p s).saf = s.saf := rfl
@[simp] theorem placeFenced_saf (n : Chan) (cause : Nat) (s : State) : (placeFenced n cause s).saf = s.saf := by
  simp [placeFenced]

@[simp] theorem placeDark_saf (n : Chan) (s : State) : (placeDark n s).saf = s.saf := by simp [placeDark]
@[simp] theorem placeStart_saf (n : Chan) (s : State) : (placeStart n s).saf = s.saf := by
  unfold placeStart
  (repeat' split) <;> simp

@[simp] theorem settleRefused_saf (n : Chan) (s : State) : (settleRefused n s).saf = s.saf := by simp [settleRefused]
@[simp] theorem unpartner_saf (p : Chan) (cause : Nat) (s : State) : (unpartner p cause s).saf = s.saf := by simp [unpartner]
@[simp] theorem sendSync_saf (p : Chan) (step : Bool) (s : State) : (sendSync p step s).saf = s.saf := rfl
@[simp] theorem setDelay_saf (p : Chan) (d round : Rat) (s : State) : (setDelay p d round s).2.saf = s.saf := by simp [setDelay]
@[simp] theorem delayEvent_saf (p : Chan) (old new : Rat) (moved : Bool) (s : State) :
    (delayEvent p old new moved s).saf = s.saf := by
  simp [delayEvent]

@[simp] theorem trackDelay_saf (p : Chan) (down : Rat) (s : State) : (trackDelay p down s).saf = s.saf := by
  unfold trackDelay
  split <;> simp

@[simp] theorem retestTake_saf (p : Chan) (down : Rat) (s : State) : (retestTake p down s).saf = s.saf := by
  unfold retestTake
  split <;> simp

@[simp] theorem timingReply_saf (p : Chan) (x : Stat) (t4 : Stamp) (s : State) : (timingReply p x t4 s).saf = s.saf := by
  unfold timingReply
  dsimp only
  (repeat' split) <;> simp

@[simp] theorem refuse_saf (p : Chan) (cause value : Nat) (s : State) : (refuse p cause value s).saf = s.saf := by simp [refuse]
@[simp] theorem faultToneEvent_saf (p : Chan) (cause : Byte) (wasArmed : Bool) (s : State) :
    (faultToneEvent p cause wasArmed s).saf = s.saf := by
  simp [faultToneEvent]

@[simp] theorem linkLossEvent_saf (p : Chan) (cause : Nat) (st : LinkState) (wasArmed : Bool) (s : State) :
    (linkLossEvent p cause st wasArmed s).saf = s.saf := by
  simp [linkLossEvent]

/-! ### Operations of Machine/EdgeRows.lean -/

@[simp] theorem breakContinuity_saf (n : Chan) (s : State) : (breakContinuity n s).saf = s.saf := by
  unfold breakContinuity
  dsimp only
  split <;> simp -implicitDefEqProofs

@[simp] theorem countCharge_saf (n : Chan) (r : EdgeRec) (s : State) : (countCharge n r s).saf = s.saf := by
  unfold countCharge
  dsimp only
  split <;> simp

@[simp] theorem edgeStream_saf (n : Chan) (x : ExecRec) (s : State) : (edgeStream n x s).saf = s.saf := by
  simp -implicitDefEqProofs [edgeStream]

@[simp] theorem edgeGap_saf (n : Chan) (time stop : DWord) (st : Option OutState) (s : State) :
    (edgeGap n time stop st s).saf = s.saf := by
  unfold edgeGap
  split <;> simp

@[simp] theorem edgeEngine_saf (n : Chan) (r : EdgeRec) (stop : DWord) (stale : Bool) (s : State) :
    (edgeEngine n r stop stale s).saf = s.saf :=
  rfl

@[simp] theorem takeEdge_saf (n : Chan) (base : DWord) (s : State) (r : EdgeRec) : (takeEdge n base s r).saf = s.saf := by
  simp [takeEdge]

@[simp] theorem reportAssay_saf (n : Chan) (x : CellsReport) (wStart : Int) (s : State) :
    (reportAssay n x wStart s).saf = s.saf := by
  simp [reportAssay]

/-! ### Operations of Machine/Crucible.lean -/

@[simp] theorem setRate_saf (n : Chan) (t : Nat) (s : State) : (setRate n t s).saf = s.saf := by
  unfold setRate
  dsimp only
  (repeat' split) <;> simp

@[simp] theorem rorEvent_saf (n : Chan) (kind t : Nat) (ended : Bool) (s : State) : (rorEvent n kind t ended s).saf = s.saf := by
  simp [rorEvent]

@[simp] theorem rateOfRise_saf (n : Chan) (s : State) : (rateOfRise n s).saf = s.saf := by
  unfold rateOfRise
  dsimp only
  (repeat' split) <;> simp

@[simp] theorem fastMode_saf (n : Chan) (s : State) : (fastMode n s).saf = s.saf := by simp [fastMode]
@[simp] theorem tsSteps_saf (fresh : Bool) (s : State) : (tsSteps fresh s).saf = s.saf := by
  refine forEach_saf _ _ _ fun i u => ?_
  split
  · rfl
  · split <;> rfl

@[simp] theorem throttleEvent_saf (subject chan step source factor sensor : Nat) (temp : Int) (s : State) :
    (throttleEvent subject chan step source factor sensor temp s).saf = s.saf := by
  simp [throttleEvent]

@[simp] theorem throttle_saf (fresh : Bool) (n : Chan) (s : State) : (throttle fresh n s).saf = s.saf := by
  unfold throttle
  dsimp only
  (repeat' split) <;> simp

@[simp] theorem crucibleUpdate_saf (s : State) : (crucibleUpdate s).saf = s.saf := by simp [crucibleUpdate]
@[simp] theorem sensorFaultEvent_saf (i : TempIn) (kind : Nat) (ended trip : Bool) (s : State) :
    (sensorFaultEvent i kind ended trip s).saf = s.saf := by
  simp [sensorFaultEvent]

@[simp] theorem tsTake_saf (i : TempIn) (t : Int) (s : State) : (tsTake i t s).saf = s.saf := rfl

/-! ### Operations of Machine/Estimator.lean -/

@[simp] theorem advanceGroup_saf (n : Chan) (d : Int) (id_ : Rat) (i : Nat) (s : State) : (advanceGroup n d id_ i s).saf = s.saf :=
  rfl

@[simp] theorem advanceChan_saf (n : Chan) (s : State) : (advanceChan n s).2.saf = s.saf := by
  simp -implicitDefEqProofs [advanceChan]

@[simp] theorem advanceAll_saf (l : List Chan) (s : State) : (advanceAll l s).2.saf = s.saf := by
  induction l generalizing s with
  | nil => rfl
  | cons n ns ih => exact (ih _).trans (advanceChan_saf n s)

@[simp] theorem advanceSegment_saf (l : List (Chan × (Rat × Rat) × (Rat × Rat))) (s : State) :
    (advanceSegment l s).saf = s.saf := by
  unfold advanceSegment
  dsimp only
  split <;> rfl

/-! ### Operations of Machine/Limits.lean -/

@[simp] theorem limitsUpdate_saf (n : Chan) (s : State) : (limitsUpdate n s).saf = s.saf := by
  unfold limitsUpdate
  dsimp only
  split <;> simp

@[simp] theorem deratedEvent_saf (n : Chan) (cause : Nat) (ended : Bool) (factor : Rat) (s : State) :
    (deratedEvent n cause ended factor s).saf = s.saf := by
  simp [deratedEvent]

@[simp] theorem deratedEvents_saf (n : Chan) (s : State) : (deratedEvents n s).saf = s.saf := by simp [deratedEvents]
@[simp] theorem segmentLimits_saf (s : State) : (segmentLimits s).saf = s.saf := rfl
@[simp] theorem restEvent_saf (n : Chan) (ended again : Bool) (s : State) : (restEvent n ended again s).saf = s.saf := by
  simp [restEvent]

@[simp] theorem restRequests_saf (n : Chan) (s : State) : (restRequests n s).saf = s.saf := by
  unfold restRequests
  dsimp only
  split <;> simp

@[simp] theorem finishRest_saf (n : Chan) (s : State) : (finishRest n s).saf = s.saf := by
  simp -implicitDefEqProofs [finishRest]

@[simp] theorem restEarly_saf (n : Chan) (s : State) : (restEarly n s).saf = s.saf := by
  unfold restEarly
  split <;> simp

@[simp] theorem bypassGap_saf (n : Chan) (s : State) : (bypassGap n s).saf = s.saf := by
  unfold bypassGap
  split
  · rfl
  · split <;> simp -implicitDefEqProofs

@[simp] theorem ownGap_saf (s : State) : (ownGap s).saf = s.saf := by
  unfold ownGap
  (repeat' split) <;> simp

@[simp] theorem bleedUpdate_saf (n : Chan) (s : State) : (bleedUpdate n s).saf = s.saf := by simp [bleedUpdate]
@[simp] theorem countCycles_saf (n : Chan) (s : State) : (countCycles n s).saf = s.saf := by simp [countCycles]
@[simp] theorem notStored_saf (n : Chan) (reason : Nat) (s : State) : (notStored n reason s).saf = s.saf := by simp [notStored]
@[simp] theorem restAnchors_saf (n : Chan) (top : Bool) (miss : Rat) (s : State) : (restAnchors n top miss s).saf = s.saf := by
  simp -implicitDefEqProofs [restAnchors]

@[simp] theorem cyclePhase_saf (n : Chan) (p : Nat) (s : State) : (cyclePhase n p s).saf = s.saf := rfl
@[simp] theorem learnGroup_saf (n : Chan) (dq : Rat) (k : Nat) (s : State) : (learnGroup n dq k s).2.saf = s.saf := by
  simp [learnGroup]

@[simp] theorem writeBack_saf (n : Chan) (s : State) : (writeBack n s).saf = s.saf := by simp [writeBack]
@[simp] theorem cycleLearn_saf (n : Chan) (s : State) : (cycleLearn n s).saf = s.saf := by
  unfold cycleLearn
  simp only [cyclePhase_saf, writeBack_saf, checkVerified_saf, modCyc_saf]
  exact foldl_saf Prod.snd _ _ _ fun _ _ => learnGroup_saf _ _ _ _

@[simp] theorem cycleUpdate_saf (n : Chan) (s : State) : (cycleUpdate n s).saf = s.saf := by
  unfold cycleUpdate
  dsimp only
  (repeat' split) <;> simp

/-! ### Operations of Machine/AssayRows.lean -/

@[simp] theorem provPoll_saf (n : Chan) (s : State) : (provPoll n s).saf = s.saf := by simp [provPoll]
@[simp] theorem masterUpdate_saf (n : Chan) (s : State) : (masterUpdate n s).saf = s.saf := by simp [masterUpdate]
@[simp] theorem estimate_saf (s : State) : (estimate s).saf = s.saf := by simp [estimate]
@[simp] theorem restBegin_saf (n : Chan) (s : State) : (restBegin n s).saf = s.saf := rfl

/-! ### Operations of Machine/TimeBase.lean -/

@[simp] theorem timeEvent_saf (old : LockState) (byCmd : Bool) (s : State) : (timeEvent old byCmd s).saf = s.saf := by
  simp [timeEvent]

@[simp] theorem setLock_saf (new : LockState) (seam byCmd : Bool) (s : State) : (setLock new seam byCmd s).saf = s.saf := by
  simp [setLock]

@[simp] theorem setSlew_saf (e : Int) (s : State) : (setSlew e s).saf = s.saf := rfl
@[simp] theorem acquire_saf (a : Int) (e : Option Int) (byCmd : Bool) (s : State) : (acquire a e byCmd s).saf = s.saf := by
  simp [acquire]

@[simp] theorem loopStep_saf (e : Int) (s : State) : (loopStep e s).saf = s.saf := rfl
@[simp] theorem edgeOutside_saf (a : Int) (s : State) : (edgeOutside a s).saf = s.saf := by simp [edgeOutside]
@[simp] theorem edgeAccepted_saf (a : Int) (s : State) : (edgeAccepted a s).saf = s.saf := by
  unfold edgeAccepted
  dsimp only
  split <;> simp

@[simp] theorem edgeLoads_saf (a : Int) (p : Pend) (s : State) : (edgeLoads a p s).2.saf = s.saf := by
  unfold edgeLoads
  dsimp only
  (repeat' split) <;> simp

@[simp] theorem edgeLoadsAll_saf (a : Int) (due : List Pend) (s : State) : (edgeLoadsAll a due s).2.saf = s.saf :=
  foldl_saf (fun x : Bool × Int × State => x.2.2) _ _ _ fun _ _ => edgeLoads_saf _ _ _

@[simp] theorem edgeTakes_saf (a : Int) (due : List Pend) (s : State) : (edgeTakes a due s).saf = s.saf := by simp [edgeTakes]
@[simp] theorem edgeOnSeam_saf (a : Int) (due : List Pend) (s : State) : (edgeOnSeam a due s).saf = s.saf := by
  simp [edgeOnSeam]

/-! ### Operations of Machine/Twin.lean -/

@[simp] theorem seamAck_saf (ack : Half) (s : State) : (seamAck ack s).saf = s.saf := by simp [seamAck]
@[simp] theorem seamGoBack_saf (ack : Half) (s : State) : (seamGoBack ack s).saf = s.saf := by simp [seamGoBack]
@[simp] theorem seamCommon_saf (h : SeamHdr) (s : State) : (seamCommon h s).saf = s.saf := by simp [seamCommon]
@[simp] theorem seamPlain_saf (h : SeamHdr) (s : State) : (seamPlain h s).saf = s.saf := by simp [seamPlain]
@[simp] theorem roleEvent_saf (old new cause : Nat) (hitless : Bool) (gen : Word) (from_ : DWord) (s : State) :
    (roleEvent old new cause hitless gen from_ s).saf = s.saf := by
  simp [roleEvent]

@[simp] theorem judgeRole_saf (s : State) : (judgeRole s).saf = s.saf := by
  unfold judgeRole
  split <;> simp

@[simp] theorem seamEnds_saf (s : State) : (seamEnds s).saf = s.saf := by simp [seamEnds]
@[simp] theorem becomeMaster_saf (cause : Nat) (epoch : Word) (s : State) : (becomeMaster cause epoch s).saf = s.saf := by
  simp [becomeMaster]

@[simp] theorem dropTrip_saf (s : State) : (dropTrip s).saf = s.saf := by simp [dropTrip]
@[simp] theorem dropFrames_saf (p : Chan) (s : State) : (dropFrames p s).saf = s.saf := rfl
@[simp] theorem becomeStandby_saf (cause : Nat) (s : State) : (becomeStandby cause s).saf = s.saf := by
  simp -implicitDefEqProofs [becomeStandby]

@[simp] theorem sawEpoch_saf (e : Word) (s : State) : (sawEpoch e s).saf = s.saf := by
  unfold sawEpoch
  dsimp only
  split <;> simp

@[simp] theorem sendTakeovers_saf (gen : Word) (from_ : DWord) (s : State) : (sendTakeovers gen from_ s).saf = s.saf := by
  simp -implicitDefEqProofs [sendTakeovers]

@[simp] theorem replaceChan_saf (n : Chan) (s : State) : (replaceChan n s).saf = s.saf := by
  unfold replaceChan
  dsimp only
  (repeat' split) <;> simp

@[simp] theorem masterSteps_saf (s : State) : (masterSteps s).saf = s.saf := by simp [masterSteps]
@[simp] theorem takeover_saf (cause : Nat) (s : State) : (takeover cause s).saf = s.saf := by simp [takeover]
@[simp] theorem receiveArm_saf (o : Offer) (s : State) : (receiveArm o s).saf = s.saf := by simp [receiveArm]
@[simp] theorem openHandover_saf (a : Asked) (s : State) : (openHandover a s).saf = s.saf := rfl
@[simp] theorem restartSoon_saf (r : Restart) (s : State) : (restartSoon r s).saf = s.saf := rfl
@[simp] theorem preferBank_saf (k : Bank) (s : State) : (preferBank k s).saf = s.saf := rfl
@[simp] theorem handedOver_saf (s : State) : (handedOver s).saf = s.saf := by
  unfold handedOver
  (repeat' split) <;> simp

/-! ### Operations of Machine/BusRows.lean -/

@[simp] theorem passiveEvent_saf (b : BusId) (ended : Bool) (s : State) : (passiveEvent b ended s).saf = s.saf := by
  simp [passiveEvent]

@[simp] theorem busOffEvent_saf (b : BusId) (ended supply : Bool) (s : State) : (busOffEvent b ended supply s).saf = s.saf := by
  simp [busOffEvent]

@[simp] theorem clashEvent_saf (b : BusId) (own ended : Bool) (ident : BitVec 29) (s : State) :
    (clashEvent b own ended ident s).saf = s.saf := by
  simp [clashEvent]

@[simp] theorem aloneEvent_saf (b : BusId) (ended : Bool) (count : Nat) (s : State) : (aloneEvent b ended count s).saf = s.saf := by
  simp [aloneEvent]

@[simp] theorem tripBroadcastEvent_saf (b : BusId) (received : Bool) (buses zone source groups causes count hit : Nat) (s : State) :
    (tripBroadcastEvent b received buses zone source groups causes count hit s).saf = s.saf := by
  simp [tripBroadcastEvent]

@[simp] theorem sendsDone_saf (s : State) : (sendsDone s).saf = s.saf := rfl
@[simp] theorem oneShotEnds_saf (b : BusId) (code : Nat) (f : OneShot) (s : State) : (oneShotEnds b code f s).saf = s.saf := by
  simp [oneShotEnds]

@[simp] theorem endFifo_saf (b : BusId) (code : Nat) (s : State) : (endFifo b code s).saf = s.saf := by simp [endFifo]
@[simp] theorem endFirst_saf (b : BusId) (code : Nat) (s : State) : (endFirst b code s).saf = s.saf := by
  unfold endFirst
  split <;> simp

@[simp] theorem queueOneShot_saf (b : BusId) (f : OneShot) (s : State) : (queueOneShot b f s).saf = s.saf := rfl
@[simp] theorem busReturns_saf (b : BusId) (s : State) : (busReturns b s).saf = s.saf := rfl
@[simp] theorem busJudge_saf (b : BusId) (s : State) : (busJudge b s).saf = s.saf := by simp [busJudge]
@[simp] theorem busRejoins_saf (b : BusId) (supply : Bool) (s : State) : (busRejoins b supply s).saf = s.saf := by
  simp [busRejoins]

@[simp] theorem declareClash_saf (b : BusId) (own : Bool) (ident : BitVec 29) (s : State) :
    (declareClash b own ident s).saf = s.saf := by
  simp [declareClash]

@[simp] theorem clearClash_saf (s : State) : (clearClash s).saf = s.saf := by simp -implicitDefEqProofs [clearClash]
@[simp] theorem recoversDone_saf (s : State) : (recoversDone s).saf = s.saf := rfl
@[simp] theorem tripSent_saf (b : BusId) (s : State) : (tripSent b s).saf = s.saf := by
  unfold tripSent
  split <;> simp

@[simp] theorem tecRaise_saf (e : BusErr) (dataPhase : Bool) (x : BusOne) (s : State) :
    (tecRaise e dataPhase x s).2.saf = s.saf := by
  unfold tecRaise
  split <;> simp

@[simp] theorem recvAfter_saf (b : BusId) (s : State) : (recvAfter b s).saf = s.saf := by simp [recvAfter]
@[simp] theorem busTakes_saf (b : BusId) (ident : BitVec 29) (s : State) : (busTakes b ident s).saf = s.saf := by
  simp [busTakes]

@[simp] theorem busRecord_saf (b : BusId) (f : BusFrame) (s : State) : (busRecord b f s).saf = s.saf := by
  simp -implicitDefEqProofs [busRecord]

@[simp] theorem takeTrip_saf (b : BusId) (f : BusFrame) (s : State) : (takeTrip b f s).saf = s.saf := by simp [takeTrip]
@[simp] theorem takeStatus_saf (b : BusId) (f : BusFrame) (s : State) : (takeStatus b f s).saf = s.saf := by simp [takeStatus]
@[simp] theorem takeFrame_saf (b : BusId) (f : BusFrame) (s : State) : (takeFrame b f s).saf = s.saf := by
  unfold takeFrame
  split <;> simp

@[simp] theorem busEnableChanged_saf (old : Nat) (s : State) : (busEnableChanged old s).saf = s.saf := by
  simp [busEnableChanged]

/-! ### Operations of Machine/EngineRows.lean -/

@[simp] theorem dropWrite_saf (p : HPort) (s : State) : (dropWrite p s).saf = s.saf := by simp [dropWrite]
@[simp] theorem rejectLoad_saf (s : State) : (rejectLoad s).saf = s.saf := rfl
@[simp] theorem takeLoad_saf (byOpcode : Bool) (s : State) : (takeLoad byOpcode s).saf = s.saf := by simp [takeLoad]
@[simp] theorem loadGo_saf (v : Word) (s : State) : (loadGo v s).saf = s.saf := by simp [loadGo]
@[simp] theorem keepRef_saf (r : RefDesc) (at_ : DWord) (s : State) : (keepRef r at_ s).saf = s.saf := rfl
@[simp] theorem countLate_saf (r : RefDesc) (s : State) : (countLate r s).saf = s.saf := rfl
@[simp] theorem reloadCarriers_saf (start : Nat) (old : Nat) (s : State) : (reloadCarriers start old s).saf = s.saf := by
  simp -implicitDefEqProofs [reloadCarriers]

@[simp] theorem reloadParams_saf (start : Nat) (s : State) : (reloadParams start s).saf = s.saf := by simp [reloadParams]
@[simp] theorem applyMode_saf (s : State) : (applyMode s).saf = s.saf := by
  unfold applyMode
  split <;> simp

@[simp] theorem applyLoad_saf (start : Nat) (s : State) : (applyLoad start s).saf = s.saf := by
  unfold applyLoad
  split <;> simp

@[simp] theorem gapHold_saf (start : Nat) (n : Chan) (s : State) : (gapHold start n s).saf = s.saf := by simp [gapHold]
@[simp] theorem enterActive_saf (n : Chan) (s : State) : (enterActive n s).saf = s.saf := by
  unfold enterActive
  (repeat' split) <;> simp

@[simp] theorem missTriggers_saf (n : Chan) (s : State) : (missTriggers n s).saf = s.saf := rfl
@[simp] theorem staleCheck_saf (n : Chan) (s : State) : (staleCheck n s).saf = s.saf := by simp [staleCheck]
@[simp] theorem makeOffer_saf (start : Nat) (s : State) : (makeOffer start s).saf = s.saf := by simp [makeOffer]
@[simp] theorem reloadTurn_saf (start : Nat) (s : State) : (reloadTurn start s).saf = s.saf := by simp [reloadTurn]
@[simp] theorem reloadForm_saf (start : Nat) (s : State) : (reloadForm start s).saf = s.saf := by
  unfold reloadForm
  dsimp only
  split <;> simp

/-! ### Operations of Machine/QuenchRows.lean -/

@[simp] theorem demandBegins_saf (i : TripIn) (s : State) : (demandBegins i s).saf = s.saf := by simp [demandBegins]
@[simp] theorem demandEnds_saf (i : TripIn) (s : State) : (demandEnds i s).saf = s.saf := by simp [demandEnds]
@[simp] theorem enterSafe_saf (s : State) : (enterSafe s).saf = s.saf := by simp [enterSafe]
@[simp] theorem selftestEvent_saf (lane kind : Nat) (vector : Half) (s : State) :
    (selftestEvent lane kind vector s).saf = s.saf := by
  simp [selftestEvent]

@[simp] theorem twoLanes_saf (origin : Nat) (s : State) : (twoLanes origin s).saf = s.saf := by simp [twoLanes]

/-! ### Operations of Machine/Commit.lean -/

@[simp] theorem populationChanged_saf (old : Nat) (s : State) : (populationChanged old s).saf = s.saf := by
  simp [populationChanged]

@[simp] theorem countsChanged_saf (n : Chan) (s : State) : (countsChanged n s).saf = s.saf := by simp [countsChanged]
@[simp] theorem tsChanged_saf (old : Tab (List Byte)) (i : TempIn) (s : State) : (tsChanged old i s).saf = s.saf := by
  simp [tsChanged]

@[simp] theorem polarityChanged_saf (old : Nat) (s : State) : (polarityChanged old s).saf = s.saf := by simp [polarityChanged]
@[simp] theorem configEffects_saf (old : Tab (List Byte)) (carrier : Bool) (s : State) :
    (configEffects old carrier s).saf = s.saf := by
  simp -implicitDefEqProofs [configEffects]

@[simp] theorem configWritten_saf (s : State) : (configWritten s).saf = s.saf := by
  unfold configWritten
  split <;> simp

@[simp] theorem configLost_saf (s : State) : (configLost s).saf = s.saf := rfl

/-! ### Operations of Machine/ConnectionRows.lean -/

@[simp] theorem chDone_saf (n : Chan) (st : Status) (s : State) : (chDone n st s).saf = s.saf := rfl
@[simp] theorem recheckChan_saf (n : Chan) (s : State) : (recheckChan n s).saf = s.saf := by
  unfold recheckChan
  dsimp only
  (repeat' split) <;> simp

/-! ### Operations of Machine/LoadOut.lean -/

@[simp] theorem loEvent_saf (code level : Nat) (o : LoadOut) (ended offState : Bool) (kind : Nat) (s : State) :
    (loEvent code level o ended offState kind s).saf = s.saf := by
  simp [loEvent]

@[simp] theorem loMeasure_saf (o : LoadOut) (m : LoMeas) (s : State) : (loMeasure o m s).saf = s.saf := rfl
@[simp] theorem uvEvent_saf (g : Fin 4) (ended : Bool) (s : State) : (uvEvent g ended s).saf = s.saf := by simp [uvEvent]
@[simp] theorem uvDone_saf (o : LoadOut) (s : State) : (uvDone o s).saf = s.saf := by simp [uvDone]
@[simp] theorem loStart_saf (o : LoadOut) (s : State) : (loStart o s).saf = s.saf := by simp [loStart]
@[simp] theorem loNextQueued_saf (g : Fin 4) (s : State) : (loNextQueued g s).saf = s.saf := by
  unfold loNextQueued
  (repeat' split) <;> simp

@[simp] theorem loTurnOn_saf (o : LoadOut) (inrush attempt : Bool) (s : State) : (loTurnOn o inrush attempt s).saf = s.saf := by
  simp [loTurnOn]

@[simp] theorem loAuto_saf (o : LoadOut) (attempt : Bool) (s : State) : (loAuto o attempt s).saf = s.saf := by simp [loAuto]
@[simp] theorem loOff_saf (o : LoadOut) (st : LoState) (s : State) : (loOff o st s).saf = s.saf := by simp [loOff]
@[simp] theorem loRetire_saf (o : LoadOut) (kind : Nat) (s : State) : (loRetire o kind s).saf = s.saf := by simp [loRetire]
@[simp] theorem loFault_saf (o : LoadOut) (kind : Nat) (m : LoMeas) (s : State) : (loFault o kind m s).saf = s.saf := by
  simp [loFault]

@[simp] theorem loTrip_saf (o : LoadOut) (kind : Nat) (m : LoMeas) (s : State) : (loTrip o kind m s).saf = s.saf := by
  simp [loTrip]

@[simp] theorem loResume_saf (o : LoadOut) (s : State) : (loResume o s).saf = s.saf := by
  unfold loResume
  dsimp only
  (repeat' split) <;> simp

@[simp] theorem loCutGroup_saf (g : Fin 4) (s : State) : (loCutGroup g s).saf = s.saf := by simp [loCutGroup]
@[simp] theorem loStuck_saf (o : LoadOut) (s : State) : (loStuck o s).saf = s.saf := by simp [loStuck]
@[simp] theorem loSelfTest_saf (o : LoadOut) (s : State) : (loSelfTest o s).2.saf = s.saf := rfl
@[simp] theorem loTested_saf (o : LoadOut) (outcome : Nat) (s : State) : (loTested o outcome s).saf = s.saf := by
  unfold loTested
  split <;> simp

@[simp] theorem loResetOne_saf (powerOn : Bool) (o : LoadOut) (s : State) : (loResetOne powerOn o s).saf = s.saf := rfl
@[simp] theorem loReset_saf (powerOn : Bool) (s : State) : (loReset powerOn s).saf = s.saf := by
  simp -implicitDefEqProofs [loReset]

@[simp] theorem loReadyOne_saf (o : LoadOut) (s : State) : (loReadyOne o s).saf = s.saf := by simp [loReadyOne]
@[simp] theorem loReady_saf (s : State) : (loReady s).saf = s.saf := by simp [loReady]
@[simp] theorem loSetOne_saf (o : LoadOut) (on inrush : Bool) (s : State) : (loSetOne o on inrush s).2.saf = s.saf := by
  unfold loSetOne
  dsimp only
  (repeat' split) <;> simp

@[simp] theorem loSetAll_saf (sel st inr : Word) (s : State) : (loSetAll sel st inr s).2.saf = s.saf :=
  foldl_saf Prod.snd _ _ _ fun _ _ => loSetOne_saf _ _ _ _

@[simp] theorem loUncut_saf (g : Fin 4) (s : State) : (loUncut g s).saf = s.saf := by simp [loUncut]
@[simp] theorem loRearmOne_saf (o : LoadOut) (s : State) : (loRearmOne o s).2.saf = s.saf := by simp [loRearmOne]

/-! ### Operations of Machine/TwinRows.lean -/

@[simp] theorem seamLink_saf (l : SeamLane) (up : Bool) (cause : Nat) (s : State) : (seamLink l up cause s).saf = s.saf := by
  simp [seamLink]

@[simp] theorem partnerEvent_saf (ended : Bool) (s : State) : (partnerEvent ended s).saf = s.saf := by simp [partnerEvent]
@[simp] theorem laneChanged_saf (before : SeamLane) (s : State) : (laneChanged before s).saf = s.saf := by simp [laneChanged]
@[simp] theorem laneHeard_saf (l : SeamLane) (s : State) : (laneHeard l s).saf = s.saf := by simp [laneHeard]
@[simp] theorem partnerLost_saf (s : State) : (partnerLost s).saf = s.saf := by simp [partnerLost]
@[simp] theorem laneDown_saf (l : SeamLane) (cause : Nat) (s : State) : (laneDown l cause s).saf = s.saf := by simp [laneDown]
@[simp] theorem activeAtStart_saf (s : State) : (activeAtStart s).saf = s.saf := by simp [activeAtStart]
@[simp] theorem resolveRole_saf (s : State) : (resolveRole s).saf = s.saf := by
  unfold resolveRole
  (repeat' split) <;> simp

@[simp] theorem mismatchEvent_saf (x : Heartbeat) (cause : Nat) (s : State) : (mismatchEvent x cause s).saf = s.saf := by
  simp [mismatchEvent]

@[simp] theorem seamTime_saf (x : Heartbeat) (s : State) : (seamTime x s).saf = s.saf := by simp [seamTime]
@[simp] theorem seenReleased_saf (x : Heartbeat) (s : State) : (seenReleased x s).saf = s.saf := by simp [seenReleased]
@[simp] theorem onPairing_saf (fresh : Bool) (x : Heartbeat) (s : State) : (onPairing fresh x s).saf = s.saf := by
  simp [onPairing]

@[simp] theorem partnerRole_saf (x : Heartbeat) (s : State) : (partnerRole x s).saf = s.saf := by simp [partnerRole]
@[simp] theorem takeHeartbeat_saf (hdr : SeamHdr) (x : Heartbeat) (s : State) : (takeHeartbeat hdr x s).saf = s.saf := by
  simp [takeHeartbeat]

@[simp] theorem laneHealed_saf (l : SeamLane) (s : State) : (laneHealed l s).saf = s.saf := by simp [laneHealed]
@[simp] theorem handoverFails_saf (a : Asked) (s : State) : (handoverFails a s).saf = s.saf := by
  unfold handoverFails
  split <;> simp

/-! ### Operations of Machine/ImageRows.lean -/

@[simp] theorem modBank_saf (k : Bank) (f : BankSt → BankSt) (s : State) : (modBank k f s).saf = s.saf := by
  unfold modBank
  split <;> simp

@[simp] theorem judgeBank_saf (k : Bank) (s : State) : (judgeBank k s).2.saf = s.saf := by
  unfold judgeBank
  split <;> simp

/-! ### Operations of Machine/MirrorRows.lean -/

@[simp] theorem seamHdr_saf (h : SeamHdr) (s : State) : (seamHdr h s).2.saf = s.saf := by simp [seamHdr]
@[simp] theorem takeEntry_saf (n : Chan) (e : MirrorEntry) (s : State) : (takeEntry n e s).saf = s.saf := rfl
@[simp] theorem mirrorRef_saf (m : SetMirror) (s : State) : (mirrorRef m s).saf = s.saf := by
  unfold mirrorRef
  (repeat' split) <;> simp

@[simp] theorem takeMirror_saf (m : SetMirror) (s : State) : (takeMirror m s).saf = s.saf := by
  simp -implicitDefEqProofs [takeMirror]

@[simp] theorem takeCells_saf (n : Chan) (l : List FlagEntry) (s : State) : (takeCells n l s).saf = s.saf := rfl
@[simp] theorem takeWires_saf (n : Chan) (l : List FlagEntry) (s : State) : (takeWires n l s).saf = s.saf := rfl
@[simp] theorem takeRetired_saf (n : Chan) (b : ChanBook) (s : State) : (takeRetired n b s).saf = s.saf := by simp [takeRetired]
@[simp] theorem takeBook_saf (s : State) (b : ChanBook) : (takeBook s b).saf = s.saf := by simp [takeBook]
@[simp] theorem takeGroup_saf (s : State) (g : GroupRecon) : (takeGroup s g).saf = s.saf := rfl
@[simp] theorem takeChannel_saf (s : State) (c : ChanRecon) : (takeChannel s c).saf = s.saf := by simp [takeChannel]
@[simp] theorem takeAssay_saf (l : List AssayRecon) (n : Chan) (s : State) : (takeAssay l n s).saf = s.saf := by
  unfold takeAssay
  split <;> simp -implicitDefEqProofs

@[simp] theorem takeLearned_saf (s : State) (x : Chan × LearnedRec) : (takeLearned s x).saf = s.saf := by simp [takeLearned]
@[simp] theorem takeImp_saf (s : State) (r : ImpRec) : (takeImp s r).saf = s.saf := rfl
@[simp] theorem judgeDelta_saf (dz : Rat) (s : State) : (judgeDelta dz s).saf = s.saf := rfl
@[simp] theorem takeReconcile_saf (x : Reconcile) (s : State) : (takeReconcile x s).saf = s.saf := by
  refine (foldl_saf id _ _ _ takeImp_saf).trans ((foldl_saf id _ _ _ takeLearned_saf).trans ?_)
  refine (forEach_saf _ _ _ (takeAssay_saf x.assays)).trans ?_
  exact (foldl_saf id _ _ _ takeChannel_saf).trans ((foldl_saf id _ _ _ takeGroup_saf).trans (judgeDelta_saf _ _))

/-! ### Operations of Machine/NodeRows.lean -/

@[simp] theorem sawGens_saf (p : Chan) (l : List Word) (s : State) : (sawGens p l s).saf = s.saf := by simp [sawGens]
@[simp] theorem reportState_saf (p : Chan) (code : Byte) (s : State) : (reportState p code s).saf = s.saf := by
  simp [reportState]

@[simp] theorem crossWire_saf (p : Chan) (x : Caps) (s : State) : (crossWire p x s).saf = s.saf := by simp [crossWire]
@[simp] theorem duplicate_saf (p q : Chan) (x : Caps) (s : State) : (duplicate p q x s).saf = s.saf := by simp [duplicate]
@[simp] theorem eraseCalib_saf (p : Chan) (id : DWord) (s : State) : (eraseCalib p id s).saf = s.saf := by simp [eraseCalib]
@[simp] theorem placeCaps_saf (p : Chan) (x : Caps) (s : State) : (placeCaps p x s).saf = s.saf := by simp [placeCaps]
@[simp] theorem capsAccepted_saf (p : Chan) (x : Caps) (s : State) : (capsAccepted p x s).saf = s.saf := by simp [capsAccepted]
@[simp] theorem exchangeFails_saf (p : Chan) (s : State) : (exchangeFails p s).saf = s.saf := by simp [exchangeFails]

/-! ### Operations of Machine/StoreRows.lean -/

@[simp] theorem storeFault_saf (permanent : Bool) (s : State) : (storeFault permanent s).saf = s.saf := by simp [storeFault]
@[simp] theorem countWrite_saf (w : StoreWrite) (s : State) : (countWrite w s).saf = s.saf := by
  unfold countWrite
  split <;> simp

@[simp] theorem checkpointEvent_saf (kind : Nat) (s : State) : (checkpointEvent kind s).saf = s.saf := by simp [checkpointEvent]
@[simp] theorem checkpointWritten_saf (kind : Nat) (s : State) : (checkpointWritten kind s).saf = s.saf := by
  simp [checkpointWritten]

@[simp] theorem learnedWritten_saf (n : Chan) (afterCycle : Bool) (s : State) : (learnedWritten n afterCycle s).saf = s.saf := by
  simp [learnedWritten]

@[simp] theorem impedanceWritten_saf (n : Chan) (s : State) : (impedanceWritten n s).saf = s.saf := rfl
@[simp] theorem stored_saf (w : StoreWrite) (s : State) : (stored w s).saf = s.saf := by
  unfold stored
  split <;> simp

@[simp] theorem unstored_saf (w : StoreWrite) (s : State) : (unstored w s).saf = s.saf := by
  unfold unstored
  split <;> simp

/-! ### Operations of Machine/Startup.lean -/

@[simp] theorem cutWrite_saf (whole : Bool) (s : State) : (cutWrite whole s).saf = s.saf := by
  unfold cutWrite
  dsimp only
  (repeat' split) <;> simp

@[simp] theorem restoreSoc_saf (s : State) : (restoreSoc s).saf = s.saf := by
  refine (foldl_saf id _ _ _ ?_).trans (foldl_saf id _ _ _ ?_) <;> exact fun _ _ => rfl

@[simp] theorem restoreLearned_saf (s : State) : (restoreLearned s).saf = s.saf := by
  refine (foldl_saf id _ _ _ ?_).trans ((foldl_saf id _ _ _ ?_).trans (foldl_saf id _ _ _ ?_))
  case refine_1 => exact fun _ _ => rfl
  all_goals
    intro u e
    dsimp only [id]
    split <;> simp

@[simp] theorem mainReset_saf (c : StartCause) (s : State) : (mainReset c s).saf = s.saf := by simp [mainReset]
@[simp] theorem imageStarts_saf (s : State) : (imageStarts s).saf = s.saf := by simp -implicitDefEqProofs [imageStarts]
@[simp] theorem boot_saf (s : State) : (boot s).saf = s.saf := by
  unfold boot
  dsimp only
  split <;> simp

@[simp] theorem closeOld_saf (s : State) : (closeOld s).saf = s.saf := by simp [closeOld]
@[simp] theorem postShutdown_saf (s : State) : (postShutdown s).saf = s.saf := by
  unfold postShutdown
  split <;> simp

@[simp] theorem postTorn_saf (s : State) : (postTorn s).saf = s.saf := by simp [postTorn]
@[simp] theorem dieEvent_saf (step : Nat) (s : State) : (dieEvent step s).saf = s.saf := by simp [dieEvent]
@[simp] theorem dieOffer_saf (s : State) : (dieOffer s).saf = s.saf := by simp [dieOffer]
@[simp] theorem abandonCheckpoint_saf (s : State) : (abandonCheckpoint s).saf = s.saf := by simp [abandonCheckpoint]

/-! ### Operations of Machine/FaultAction.lean -/

@[simp] theorem fenceStep_saf (n : Chan) (cause k : Nat) (s : State) : (fenceStep n cause k s).saf = s.saf := by
  simp [fenceStep]

@[simp] theorem retireStep_saf (n : Chan) (k : Nat) (s : State) : (retireStep n k s).saf = s.saf := by simp [retireStep]
@[simp] theorem fenceBlock_saf (cause subject : Nat) (s : State) : (fenceBlock cause subject s).saf = s.saf := by
  unfold fenceBlock
  dsimp only
  split <;> simp

@[simp] theorem freeBlock_saf (cause subject : Nat) (s : State) : (freeBlock cause subject s).saf = s.saf := by
  unfold freeBlock
  split <;> simp

@[simp] theorem l3Step_saf (cause k : Nat) (s : State) : (l3Step cause k s).saf = s.saf := by simp [l3Step]
@[simp] theorem actionStep_saf (r : FaultRec) (s : State) : (actionStep r s).saf = s.saf := by simp [actionStep]
@[simp] theorem lockstepFault_saf (pair : Nat) (s : State) : (lockstepFault pair s).saf = s.saf := by simp [lockstepFault]
@[simp] theorem releasePinned_saf (n : Nat) (s : State) : (releasePinned n s).saf = s.saf := by simp [releasePinned]

/-! ### Operations of Machine/HostPorts.lean -/

@[simp] theorem fromActive_saf (p : HPort) (f : State → State) (s : State) (h : ∀ t, (f t).saf = t.saf) :
    (fromActive p f s).saf = s.saf := by
  simp [fromActive, h]

@[simp] theorem ringFault_saf (r : Ring) (cause : Nat) (hpi mpi : Word) (s : State) :
    (ringFault r cause hpi mpi s).saf = s.saf := by
  simp [ringFault]

@[simp] theorem scanRing_saf (r : Ring) (s : State) : (scanRing r s).saf = s.saf := by
  unfold scanRing
  dsimp only
  split <;> simp

@[simp] theorem writeHpi_saf (p : HPort) (r : Ring) (v : Word) (s : State) : (writeHpi p r v s).saf = s.saf := by
  simp [writeHpi]

@[simp] theorem writeCfg_saf (p : HPort) (r : Ring) (v : Word) (s : State) : (writeCfg p r v s).saf = s.saf := by
  simp [writeCfg]

@[simp] theorem unmasked_saf (p : HPort) (old : DWord) (s : State) : (unmasked p old s).saf = s.saf := by simp [unmasked]
@[simp] theorem writeMask_saf (p : HPort) (high : Bool) (v : Word) (s : State) : (writeMask p high v s).saf = s.saf := by
  simp [writeMask]

@[simp] theorem writeMsix_saf (p : HPort) (off : Nat) (v : Word) (s : State) : (writeMsix p off v s).saf = s.saf := by
  simp [writeMsix]

@[simp] theorem writeTakeover_saf (p : HPort) (v : Word) (s : State) : (writeTakeover p v s).saf = s.saf := by
  simp [writeTakeover]

@[simp] theorem writeReg_saf (p : HPort) (off : Nat) (v : Word) (s : State) : (writeReg p off v s).saf = s.saf := by
  unfold writeReg
  split
  case h_9 =>
    split
    · simp
    · split
      · dsimp only
        split <;> simp -implicitDefEqProofs
      · simp
  all_goals simp

@[simp] theorem portReset_saf (p : HPort) (s : State) : (portReset p s).saf = s.saf := by simp [portReset]
@[simp] theorem linkEvent_saf (p : HPort) (up : Bool) (s : State) : (linkEvent p up s).saf = s.saf := by simp [linkEvent]
@[simp] theorem returnStream_saf (r : Ring) (p : Reply) (s : State) : (returnStream r p s).saf = s.saf := by simp [returnStream]

/-! ## SUPPORT. What a command leaves of the supervisor -/

/-- The command completes, and its own effect leaves the supervisor's state as it is. -/
def Spares (s : State) (o : Out) : Prop := ∃ u, o = .next (settle u) ∧ u.saf = s.saf

section
variable {s : State} {c : Prop} [Decidable c] {a b : Out}

theorem spares_doneWin {win : List Host.Cell} {u : State} (h : u.saf = s.saf) : Spares s (doneWin s win u) := ⟨_, rfl, h⟩

theorem spares_done {u : State} (h : u.saf = s.saf) : Spares s (done s u) := spares_doneWin h

theorem spares_ite (ha : Spares s a) (hb : Spares s b) : Spares s (if c then a else b) := by
  split
  · exact ha
  · exact hb

/-- A guard behind which the row has no effect. -/
theorem spares_unless (h : Spares s a) : Spares s (if c then done s s else a) := spares_ite (spares_done rfl) h

/-- A last guard. -/
theorem spares_guarded {u v : State} (hu : u.saf = s.saf) (hv : v.saf = s.saf) : Spares s (if c then done s u else done s v) :=
  spares_ite (spares_done hu) (spares_done hv)

/-- A command run on a state that has the supervisor of `s`. -/
theorem spares_congr {t : State} (e : t.saf = s.saf) (h : Spares t a) : Spares s a := by
  obtain ⟨u, hu, k⟩ := h
  exact ⟨u, hu, k.trans e⟩

end

/-- The state in the answer of a host command's own work. -/
def resState : Res → State
  | .now _ s _ => s
  | .later _ _ s _ => s
  | .wait s => s

@[simp] theorem resState_now (r : Reply) (s : State) (w : List (Nat × List Byte)) : resState (.now r s w) = s := rfl
@[simp] theorem resState_later (g : Target) (arg : DWord) (s : State) (w : List (Nat × List Byte)) :
    resState (.later g arg s w) = s := rfl
@[simp] theorem resState_wait (s : State) : resState (.wait s) = s := rfl
@[simp] theorem resState_ite (c : Prop) [Decidable c] (a b : Res) :
    resState (if c then a else b) = if c then resState a else resState b := apply_ite resState c a b

/-- A host command spares the supervisor when its own work does (03 R62 to R71). -/
theorem spares_hostCmd {h : Hdr} {op least : Nat} {g : Target} {pends : Bool} {body : State → Res} {s : State}
    (work : ∀ t, (resState (body t)).saf = t.saf) : Spares s (hostCmd h op least g pends body s) := by
  unfold hostCmd
  split
  case h_1 => exact spares_done rfl
  case h_2 idx t taken =>
    have ht : t.saf = s.saf := takeSlot_keeps taken .saf (by decide)
    have hb := (work t).trans ht
    have refused (r : Reply) : Spares s (done s (putTaken h op idx (some r) t)) := spares_done ht
    refine spares_ite (refused _) ?_
    split
    · exact refused _
    · refine spares_ite (refused _) (spares_ite (refused _) ?_)
      split
      next e => exact spares_doneWin (by simpa [e] using hb)
      next e => exact spares_done (by simpa [e] using hb)
      next e => exact spares_doneWin (by simpa [e] using hb)

theorem spares_seamSeries {h : SeamHdr} {f : State → State} (work : ∀ t, (f t).saf = t.saf) (s : State) :
    Spares s (seamSeries h f s) :=
  spares_unless (spares_guarded ((work _).trans (seamHdr_saf h s)) (seamHdr_saf h s))

/-! ### Rows of the host commands -/

@[simp] theorem chRefuse_saf (n : Chan) (st : Status) (s : State) : (resState (chRefuse n st s)).saf = s.saf := rfl

theorem chAccept_saf (h : Hdr) (op : Nat) (n : Chan) {work : State → State} (hw : ∀ t, (work t).saf = t.saf) (s : State) :
    (resState (chAccept h op n work s)).saf = s.saf :=
  hw _

theorem chGate_saf {n : Chan} {s : State} {go : Res} (hg : (resState go).saf = s.saf) : (resState (chGate n s go)).saf = s.saf := by
  simp [chGate, hg]

theorem execChConnect_spares (h : Hdr) (n : Chan) (active : Bool) (s : State) : Spares s (execChConnect h n active s) := by
  refine spares_hostCmd fun t => chGate_saf ?_
  dsimp only
  split
  · simp
  · split
    case h_2 =>
      split
      · simp
      · exact chAccept_saf _ _ _ (fun u => by simp) t
    case h_6 => simp
    all_goals exact chAccept_saf _ _ _ (fun u => by simp) t

theorem execChDisconnect_spares (h : Hdr) (n : Chan) (s : State) : Spares s (execChDisconnect h n s) := by
  refine spares_hostCmd fun t => chGate_saf ?_
  dsimp only
  split
  · exact chAccept_saf _ _ _ (fun u => by simp) t
  · simp

theorem execChDormant_spares (h : Hdr) (n : Chan) (s : State) : Spares s (execChDormant h n s) := by
  refine spares_hostCmd fun t => chGate_saf ?_
  split
  case h_3 =>
    split
    · exact chAccept_saf _ _ _ (fun u => by simp) t
    · simp
  case h_4 => simp
  all_goals exact chAccept_saf _ _ _ (fun u => by simp) t

theorem execChRetire_spares (h : Hdr) (n : Chan) (w4 : Word) (s : State) : Spares s (execChRetire h n w4 s) := by
  refine spares_hostCmd fun t => ?_
  split
  · simp
  · split
    · simp
    · exact chAccept_saf _ _ _ (fun u => by simp) t

theorem execChRestore_spares (h : Hdr) (n : Chan) (s : State) : Spares s (execChRestore h n s) := by
  refine spares_hostCmd fun t => ?_
  dsimp only
  split
  · simp
  · split
    case h_1 =>
      split
      · simp
      · exact chAccept_saf _ _ _ (fun u => by simp) t
    case h_2 =>
      split
      · exact chAccept_saf _ _ _ (fun u => by simp) t
      · simp
    case h_5 => simp
    all_goals exact chAccept_saf _ _ _ (fun u => by simp) t

/-- A standby keeps the reference before the command is refused (07 R214). -/
theorem execArmReference_spares (h : Hdr) (ref : RefDesc) (s : State) : Spares s (execArmReference h ref s) := by
  have work (t : State) : (resState (takeRef ref t)).saf = t.saf := by
    unfold takeRef
    split <;> simp
  unfold execArmReference
  exact spares_congr (by simp) (spares_hostCmd work)

theorem execLoadAll_spares (h : Hdr) (s : State) : Spares s (execLoadAll h s) := by
  refine spares_hostCmd fun t => ?_
  split
  · simp
  · split <;> simp

theorem execLoRearm_spares (h : Hdr) (mask : Word) (s : State) : Spares s (execLoRearm h mask s) := by
  refine spares_hostCmd fun t => ?_
  split
  · simp
  · exact foldl_saf Prod.snd _ _ _ fun _ _ => loRearmOne_saf _ _

theorem ackFault_saf {id : Word} {s t : State} {n : Nat} (h : ackFault id s = some (n, t)) : t.saf = s.saf := by
  unfold ackFault at h
  dsimp only at h
  split at h
  · cases h; simp
  · split at h
    · cases h
    · split at h <;> cases h <;> simp

theorem execFaultAck_spares (h : Hdr) (id : Word) (s : State) : Spares s (execFaultAck h id s) := by
  refine spares_hostCmd fun t => ?_
  split
  · simp
  next e => exact ackFault_saf e

theorem execUnknownOpcode_spares (h : Hdr) (op : Half) (s : State) : Spares s (execUnknownOpcode h op s) := by
  unfold execUnknownOpcode
  split
  · exact spares_done rfl
  next taken => exact spares_done (takeSlot_keeps taken .saf (by decide))

theorem execNodeUpdate_spares (h : Hdr) (n : Chan) (bulk : Bulk) (s : State) : Spares s (execNodeUpdate h n bulk s) := by
  refine spares_hostCmd fun t => ?_
  split <;> simp

theorem execNodeCalibrate_spares (h : Hdr) (n : Chan) (kind : Byte) (s : State) : Spares s (execNodeCalibrate h n kind s) := by
  refine spares_hostCmd fun t => ?_
  split <;> simp

theorem execImageUpdate_spares (h : Hdr) (offset : Word) (bulk : Bulk) (last : Bool) (s : State) :
    Spares s (execImageUpdate h offset bulk last s) := by
  refine spares_hostCmd fun t => ?_
  dsimp only
  (repeat' split) <;> simp

theorem execGetParam_spares (h : Hdr) (id : Half) (view : BitVec 2) (bulk : Bulk) (s : State) :
    Spares s (execGetParam h id view bulk s) := by
  refine spares_hostCmd fun t => ?_
  dsimp only
  (repeat' split) <;> simp

theorem execSetParam_spares (h : Hdr) (id len : Half) (value : List Byte) (bulk : Bulk) (s : State) :
    Spares s (execSetParam h id len value bulk s) := by
  refine spares_hostCmd fun t => ?_
  dsimp only
  (repeat' split) <;> simp

theorem execCommitConfig_spares (h : Hdr) (validateOnly : Bool) (s : State) : Spares s (execCommitConfig h validateOnly s) := by
  refine spares_hostCmd fun t => ?_
  dsimp only
  (repeat' split) <;> simp

theorem execBusRecover_spares (h : Hdr) (mask : BitVec 2) (s : State) : Spares s (execBusRecover h mask s) :=
  spares_hostCmd fun t => by simp -implicitDefEqProofs

theorem execBusSend_spares (h : Hdr) (mask : BitVec 2) (mtype : BitVec 13) (cls : BitVec 4) (len : BitVec 7) (data : List Byte)
    (bulk : Bulk) (s : State) : Spares s (execBusSend h mask mtype cls len data bulk s) :=
  spares_hostCmd fun t => by simp -implicitDefEqProofs

theorem execBusMode_spares (h : Hdr) (mask mode : BitVec 2) (s : State) : Spares s (execBusMode h mask mode s) :=
  spares_hostCmd fun t => by simp -implicitDefEqProofs

/-! ### Rows that answer by a case of the state or of an operand -/

section
variable (s : State)

theorem execSyncInterval_spares : Spares s (execSyncInterval s) := by
  refine spares_done (forEach_saf _ _ _ fun p t => (sendSync_saf p false _).trans ?_)
  split <;> simp

theorem execEdgesReceived_spares (p : Chan) (hdr : FrameHdr) (x : EdgesFrame) : Spares s (execEdgesReceived p hdr x s) := by
  have head := acceptHdr_saf p hdr true s
  refine spares_unless (spares_guarded head ?_)
  rw [servicePoll_saf, seqPoll_saf]
  exact (foldl_saf id _ _ _ fun _ _ => takeEdge_saf _ _ _ _).trans head

theorem execPpsLossTimeout_spares : Spares s (execPpsLossTimeout s) := by
  unfold execPpsLossTimeout
  (repeat' split) <;> exact spares_done (by simp)

theorem execReplyReceived_spares (p : Chan) (hdr : FrameHdr) (x : NodeReply) : Spares s (execReplyReceived p hdr x s) := by
  refine spares_unless (spares_ite (spares_done (by simp)) ?_)
  split <;> exact spares_done (by simp)

theorem execCapsReceived_spares (p : Chan) (hdr : FrameHdr) (x : Caps) : Spares s (execCapsReceived p hdr x s) := by
  unfold execCapsReceived
  dsimp only
  (repeat' split) <;> exact spares_done (by simp)

theorem execReloadPoint_spares (start : DWord) : Spares s (execReloadPoint start s) := by
  refine spares_unless ?_
  split
  · exact spares_ite (spares_done (by simp)) (spares_doneWin (by simp))
  all_goals exact spares_done (by simp)

theorem execTsConversion_spares (i : TempIn) (res : TsResult) : Spares s (execTsConversion i res s) := by
  refine spares_unless ?_
  split
  case h_1 => exact spares_guarded (by simp) (by simp)
  case h_2 =>
    dsimp only
    split
    · exact spares_done (by simp)
    · exact spares_guarded (by simp) (by simp)

theorem execLoOpenLoad_spares (o : LoadOut) (begins : Bool) (m : LoMeas) : Spares s (execLoOpenLoad o begins m s) := by
  refine spares_unless (spares_ite ?_ ?_)
  · exact spares_ite (spares_done (by simp)) (spares_ite (spares_done (by simp)) (spares_guarded (by simp) (by simp)))
  · split <;> exact spares_done (by simp)

theorem execBusTxComplete_spares (b : BusId) (k : TxKind) : Spares s (execBusTxComplete b k s) := by
  refine spares_guarded rfl ?_
  cases k <;> simp

theorem execBusTxError_spares (b : BusId) (k : TxKind) (e : BusErr) (d : Bool) : Spares s (execBusTxError b k e d s) := by
  refine spares_unless ?_
  split
  · exact spares_done rfl
  · cases k <;> exact spares_done (by simp)

theorem execHeartbeatRx_spares (lane : SeamLane) (hdr : SeamHdr) (x : Heartbeat) : Spares s (execHeartbeatRx lane hdr x s) := by
  refine spares_unless (spares_ite (spares_done (by simp)) ?_)
  split
  · exact spares_done (by simp)
  · exact spares_guarded (by simp) (by simp)

theorem execHandoverWithdraw_spares : Spares s (execHandoverWithdraw s) := by
  unfold execHandoverWithdraw
  split
  · exact spares_ite (spares_doneWin (by simp)) (spares_done (by simp))
  · exact spares_guarded (by simp) rfl

theorem execInternalFaultDetected_spares (cause subject : Half) : Spares s (execInternalFaultDetected cause subject s) := by
  refine spares_unless ?_
  split
  case h_4 => exact spares_guarded (by simp) rfl
  case h_5 => exact spares_guarded (by simp) rfl
  all_goals exact spares_done (by simp)

theorem execRegisterWrite_spares (port : HPort) (bar : Bar) (offset size : Nat) (value : DWord) :
    Spares s (execRegisterWrite port bar offset size value s) := by
  refine spares_unless ?_
  cases bar
  · exact spares_guarded (by simp) (by simp)
  · exact spares_ite (spares_done (by simp)) (spares_doneWin rfl)

theorem execStreamInterval_spares (ring : Ring) : Spares s (execStreamInterval ring s) := by
  refine spares_unless (spares_ite (spares_done (by simp)) (spares_ite (spares_doneWin (by simp)) (spares_doneWin (by simp))))

end

/-! ### Every command -/

/-- The rows of the main domain after which the supervisor's record of the switches or of its events may differ: a start reads HB-A
and HB-B again (01 R15), and the events held are handed over at READY (15 R456). -/
def startRow : Instr → Bool
  | .powerOn _ _ | .mrst | .watchdogReset | .deferredRestart | .clockRestored | .thermalRestart | .moduleReady => true
  | _ => false

/-- Every other row of the main domain spares the supervisor. The rows are sorted by the form of their answer. -/
theorem exec_spares (c : Instr) (s : State) (main : supervisorRow c = false) (goes : startRow c = false) : Spares s (exec c s) := by
  cases c with
  | siDemand | siPermit | siChatter | pulseSample | discrepancyTick | twoHandSyncTimeout | srstPressAccepted | resetStuck
  | offPulseTest | soReadbackFault | degradedExpiry | hallmarkScan | safetyInternalFault | vsafeLoss | vsafeStart => cases main
  | powerOn | mrst | watchdogReset | deferredRestart | clockRestored | thermalRestart | moduleReady => cases goes
  | hstHeartbeatWrite | hstRingHpiWrite | hstRingCfgWrite | pulseSuppressedReport | restagedReport | tripPresenceEnd | debugHalt
  | tripreqHoldEnd | loShort | loThermalLatch | loClampTurnoff | busRecoveryDone | oneShotTimeout | debugResume | tapInstruction
  | causeCountExpiry => exact spares_done (by simp)
  | blankingEnd => exact spares_done (by simp -implicitDefEqProofs)
  | clockLoss | railFault => exact spares_doneWin (by simp)
  | reserveExhausted => exact spares_unless (spares_doneWin (by simp))
  | thermalShutdown => exact spares_ite (spares_done rfl) (spares_ite (spares_done rfl) (spares_doneWin (by simp)))
  | hostPortReset port kind => cases kind <;> exact spares_done (by simp)
  | loadAllGo | hstTakeoverWrite | hstIrqPendClear | hstWriteDropsRead | hstTimeLoRead | portSettleTimeout | holdupTestDone
  | aloneWaitExpiry | powerFailWarning | powerFailHandover | powerFailWithdrawn | checkpointPeriodic | holdoverExpiry
  | oscCompensation | hostSilenceTimeout | portLightDetect | lightOnUnpopulated | toneQualified | rangingVerified
  | bringupStageOverrun | bringupRetry | exchangeTimeout | faultToneArrival | toneLost | downstreamDetect | toneHealthyReturn
  | statReceived | timingReplyAbsent | frameInvalid | frameErrorCheck | saturationReport | referenceLateReport | tripWiringFault
  | tripChatterEnd | hwFaultRequest | annealDelayExpiry | plausHoldExpiry | contactRecheck | openWireScan | restRequestRepeat
  | restWaitExpiry | restEnd | assayTimeout | impedanceSave | tsFaultTrip | dieWarnRecheck | loOverload | loThermalRelease
  | loUvRestart | loInrushEnd | loAnnealed | loAttemptReset | loStuckOn | loOnMax | tripBroadcastRx | twinStatusRx
  | busSupplyAbsent | busSupplyRestored | fwCountTick | seamLaneDown | fwSilence | nodeWitness | seamRetxTimeout
  | ringIrqHoldExpiry | bringupWaitExpiry | seamLaneLock | busRxError | serviceHoldWaitTimeout =>
    exact spares_guarded (by simp) (by simp)
  | twinStatusTimer | segmentStatusTimer => exact spares_guarded rfl (by simp -implicitDefEqProofs)
  | roleResolution | compensationLearn | hostLinkChange | characterLock | cellsBurstReceived | cellsTriggerReceived | touchReceived
  | tripInputDemand | laneSelftest | contactorOpenRetry | cellLimitTimer | estimatorUpdate | restStart | loAttemptDue | busFrameRx
  | heartbeatTx | setMirrorRx | mirrorMiss | portLightLoss =>
    exact spares_ite (spares_done (by simp)) (spares_guarded (by simp) (by simp))
  | ppsEdge | cellsReportReceived | contactorTestTimeout | loUndervoltage | dieWarning =>
    exact spares_ite (spares_done (by simp)) (spares_ite (spares_done (by simp)) (spares_guarded (by simp) (by simp)))
  | seamFrameInvalid =>
    exact spares_unless (spares_ite (spares_done rfl) (spares_guarded (by simp) (by simp)))
  | rangingComplete =>
    exact spares_unless (spares_ite (spares_done (by simp)) (spares_ite (spares_done (by simp))
      (spares_guarded (by simp) (by simp))))
  | readIdentity | setTime | hostSwitch | streamSetup | resetModule | quenchRelease | restage | setMode | assayCycleStart
  | assayCycleAbort | restGrant | touchmarkProvision | readLimits | linkRetest | thermalMode | loSet | safetyStatus | twinHandover
  | imageActivate | logRead => unfold exec; exact spares_hostCmd fun t => by simp
  | stateMirrorRx => exact spares_seamSeries (fun t => foldl_saf id _ _ _ takeBook_saf) s
  | reconcileRx => exact spares_seamSeries (takeReconcile_saf _) s
  | configRx | imageRx => unfold exec; exact spares_seamSeries (fun t => by simp) s
  | setTimeTimeout | busModeApply | cmdReplyTimeout | rangingSync | imageChunkWritten =>
    dsimp only [exec, execSetTimeTimeout, execBusModeApply, execCmdReplyTimeout, execRangingSync, execImageChunkWritten]
    split <;> exact spares_done (by simp)
  | activePortChange | recordWriteDone | prechargeTimeout | disconnectBypassTimeout | retransmitTimeout | faultActionStep
  | l2BlockRestart =>
    dsimp only [exec, execActivePortChange, execRecordWriteDone, execPrechargeTimeout, execDisconnectBypassTimeout,
      execRetransmitTimeout, execFaultActionStep, execL2BlockRestart]
    (repeat' split) <;> exact spares_done (by simp)
  | getParam => exact execGetParam_spares _ _ _ _ s
  | setParam => exact execSetParam_spares _ _ _ _ _ s
  | commitConfig => unfold exec; exact execCommitConfig_spares _ _ s
  | chConnect => exact execChConnect_spares _ _ _ s
  | chDisconnect => exact execChDisconnect_spares _ _ s
  | chDormant => exact execChDormant_spares _ _ s
  | chRetire => exact execChRetire_spares _ _ _ s
  | chRestore => exact execChRestore_spares _ _ s
  | armReference => exact execArmReference_spares _ _ s
  | loadAll => exact execLoadAll_spares _ s
  | nodeUpdate => exact execNodeUpdate_spares _ _ _ s
  | nodeCalibrate => exact execNodeCalibrate_spares _ _ _ s
  | loRearm => exact execLoRearm_spares _ _ s
  | busRecover => exact execBusRecover_spares _ _ s
  | busSend => exact execBusSend_spares _ _ _ _ _ _ _ s
  | busMode => exact execBusMode_spares _ _ _ s
  | imageUpdate => exact execImageUpdate_spares _ _ _ _ s
  | faultAck => exact execFaultAck_spares _ _ s
  | unknownOpcode => exact execUnknownOpcode_spares _ _ s
  | registerWrite => exact execRegisterWrite_spares s _ _ _ _ _
  | streamInterval => exact execStreamInterval_spares s _
  | ppsLossTimeout => exact execPpsLossTimeout_spares s
  | syncInterval => exact execSyncInterval_spares s
  | capsReceived => exact execCapsReceived_spares s _ _ _
  | edgesReceived => exact execEdgesReceived_spares s _ _ _
  | replyReceived => exact execReplyReceived_spares s _ _ _
  | reloadPoint => unfold exec; exact execReloadPoint_spares s _
  | tsConversion => exact execTsConversion_spares s _ _
  | loOpenLoad => exact execLoOpenLoad_spares s _ _ _
  | busTxComplete => exact execBusTxComplete_spares s _ _
  | busTxError => exact execBusTxError_spares s _ _ _ _
  | heartbeatRx => exact execHeartbeatRx_spares s _ _ _
  | handoverWithdraw => exact execHandoverWithdraw_spares s
  | internalFaultDetected => exact execInternalFaultDetected_spares s _ _

/-! ## SUPPORT. Starts and READY -/

/-- What the main domain cannot touch: of the supervisor's state, only the events it holds and the record of the switches may
differ, and that record not from HB-C on. -/
def SameSupervisor (s t : State) : Prop :=
  t.saf = { s.saf with held := t.saf.held, latched := t.saf.latched, present := t.saf.present } ∧
    ∀ b : Fin 5, 2 ≤ b.val → t.saf.latched[b] = s.saf.latched[b]

section
variable {s t u : State}

theorem sameSupervisor_of_saf (h : t.saf = s.saf) : SameSupervisor s t := by
  unfold SameSupervisor
  rw [h]
  exact ⟨rfl, fun _ _ => rfl⟩

theorem sameSupervisor_trans (h : SameSupervisor s t) (k : SameSupervisor t u) : SameSupervisor s u := by
  refine ⟨k.1.trans ?_, fun b hb => (k.2 b hb).trans (h.2 b hb)⟩
  rw [h.1]

theorem readHallmark_same (a b : Byte) (s : State) : SameSupervisor s (readHallmark a b s) := by
  refine ⟨rfl, fun k hk => ?_⟩
  have h0 : 0 ≠ k.val := by omega
  have h1 : 1 ≠ k.val := by omega
  simp [readHallmark, h0, h1]

theorem handOver_same (s : State) : SameSupervisor s (handOver s) := by
  have h : (handOver s).saf = { s.saf with held := [] } := forEach_saf _ _ _ fun _ _ => raise_saf _ _ _ _
  unfold SameSupervisor
  rw [h]
  exact ⟨rfl, fun _ _ => rfl⟩

theorem becomeReady_same (s : State) : SameSupervisor s (becomeReady s) := by
  unfold becomeReady
  refine sameSupervisor_trans (sameSupervisor_of_saf ?_)
    (sameSupervisor_trans (handOver_same _) (sameSupervisor_of_saf (loReady_saf _)))
  simp

theorem bootIfUp_same (s : State) : SameSupervisor s (bootIfUp s) := by
  unfold bootIfUp
  split
  · exact sameSupervisor_trans (readHallmark_same _ _ s) (sameSupervisor_of_saf (boot_saf _))
  · exact sameSupervisor_of_saf rfl

/-- An output is commanded by the function states, the switches from HB-C on, the lockouts and the output faults alone (15 R447). -/
theorem soOn_same (h : SameSupervisor s t) (o : SafetyOut) : soOn t o = soOn s o := by
  obtain ⟨hs, hl⟩ := h
  have type (k : SafetyPair) : pairType t k = pairType s k := by
    simp only [pairType, hallmark, hl 2 (by decide), hl 3 (by decide)]
  have used : pairUsed t o = pairUsed s o := by
    simp only [pairUsed, twoHand, thNamed, type, hallmark, hl 4 (by decide)]
    rfl
  unfold soOn stopsPermit eStop locked
  simp only [used, type]
  rw [hs]

end

/-- Whatever the row answers next, the supervisor is the same. -/
def Guards (s : State) (o : Out) : Prop := ∀ t, o = .next t → SameSupervisor s t

section
variable {s u : State}

theorem Spares.guards {o : Out} (h : Spares s o) : Guards s o := by
  obtain ⟨u, e, k⟩ := h
  rintro t h
  cases e.symm.trans h
  exact sameSupervisor_of_saf ((settle_saf u).trans k)

theorem guards_doneWin {win : List Host.Cell} (h : SameSupervisor s u) : Guards s (doneWin s win u) := by
  rintro t ⟨⟩
  exact sameSupervisor_trans h (sameSupervisor_of_saf (settle_saf _))

theorem guards_done (h : SameSupervisor s u) : Guards s (done s u) := guards_doneWin h

/-- A last guard before a row that may start the main domain. -/
theorem guards_guarded {c : Prop} [Decidable c] {o : Out} (h : Guards s o) : Guards s (if c then o else done s s) := by
  split
  · exact h
  · exact guards_done (sameSupervisor_of_saf rfl)

theorem resetNow_guards (c : StartCause) (s : State) : Guards s (resetNow c s) :=
  guards_doneWin (sameSupervisor_trans (sameSupervisor_of_saf (mainReset_saf c s)) (bootIfUp_same _))

/-- A reset after which the boot ROM reads the switches. -/
theorem mainReset_readHallmark_same (c : StartCause) (a b : Byte) (h : u.saf = s.saf) :
    SameSupervisor s (readHallmark a b (mainReset c u)) :=
  sameSupervisor_trans (sameSupervisor_of_saf ((mainReset_saf c u).trans h)) (readHallmark_same a b _)

theorem execPowerOn_guards (hbA hbB : Byte) (s : State) : Guards s (execPowerOn hbA hbB s) := by
  refine guards_doneWin ?_
  split
  · refine sameSupervisor_trans ?_ (sameSupervisor_of_saf (boot_saf _))
    exact mainReset_readHallmark_same _ _ _ rfl
  · exact mainReset_readHallmark_same _ _ _ rfl

end

/-- No row of the main domain touches the supervisor beyond its two records. -/
theorem exec_guards (c : Instr) (s : State) (main : supervisorRow c = false) : Guards s (exec c s) := by
  by_cases goes : startRow c = false
  · exact (exec_spares c s main goes).guards
  cases c with
  | powerOn => exact execPowerOn_guards _ _ s
  | mrst => exact resetNow_guards _ s
  | watchdogReset | deferredRestart => exact guards_guarded (resetNow_guards _ s)
  | clockRestored | thermalRestart => exact guards_guarded (guards_done (bootIfUp_same _))
  | moduleReady => exact guards_guarded (guards_done (becomeReady_same s))
  | _ => exact absurd rfl goes

/-- Settles O51: the fields named are those that `SameSupervisor` fixes, and the outputs are functions of them. -/
theorem onlyTheSupervisorMovesItsFunctions : Obligations.OnlyTheSupervisorMovesItsFunctions := by
  intro c s t main e
  have same := exec_guards c s main t e
  have ⟨fields, switches⟩ := same
  refine ⟨?_, ?_, ?_, ?_, ?_, switches, soOn_same same⟩ <;> rw [fields]

end Sys2Proof.Safety

/-! ## SUPPORT. Queue, time base and power-on state -/

namespace Sys2Proof.Safety

open Sys2Proof.Machine

/-- Settles O4: `settle` leaves the queue and the times of the state that the row hands to it, and those are the old ones. -/
theorem execKeepsQueueAndTimeBase : Obligations.ExecKeepsQueueAndTimeBase := by
  intro c s t e
  obtain ⟨u, ends, queue, tb, -⟩ := exec_completes c s
  obtain rfl : settle u = t := Host.Outcome.next.inj (ends.symm.trans e)
  exact ⟨(settle_pending u).trans queue, (congrArg TimSt.tb (settle_tim u)).trans tb⟩

/-! ### One tick (02 R28, R33; log 6) -/

theorem tick_keeps (s : State) : KeepsBut [.tim] s (tick s) := by
  intro p hp; cases p <;> first | (simp at hp; done) | exact Eq.refl _

/-- Station time counts the tick, one more where the slew has gathered a tick to add, none where it has one to withhold. -/
theorem tick_station (s : State) : (tick s).tim.station = s.tim.station ∨ (tick s).tim.station = s.tim.station + 1 ∨
    (tick s).tim.station = s.tim.station + 2 := by
  dsimp only [tick]
  (repeat' split) <;> simp

/-- Nothing slewed and nothing gathered: a tick of station time. -/
theorem tick_station_unslewed (s : State) (step : s.tim.slewStep = 0) (acc : s.tim.slewAcc = 0) :
    (tick s).tim.station = s.tim.station + 1 := by
  simp [tick, step, acc, secUnits, tUnit]

/-- Settles O2: on an empty queue `step` is `tick`. -/
theorem emptyQueueCountsTimeBase : Obligations.EmptyQueueCountsTimeBase := by
  intro s empty
  refine ⟨tick s, by simp only [step, empty], tick_keeps s, rfl, tick_station s, tick_station_unslewed s⟩

/-! ### The state after power-on (02 R39) -/

theorem reset_ring_idle : ∀ r : Ring, State.reset.rings[r].enable = false ∧ State.reset.rings[r].hpi = 0 ∧
    State.reset.rings[r].mpi = 0 := by decide

theorem reset_con (n : Chan) : State.reset.con[n] = {} := Vector.getElem_replicate _
theorem reset_port (n : Chan) : State.reset.ports[n] = {} := Vector.getElem_replicate _
theorem reset_loadOut (o : LoadOut) : State.reset.lo.out[o] = {} := Vector.getElem_replicate _

/-- Settles O54: each part of the reset state has the initial value of its fields. -/
theorem resetStateOfTheModule : Obligations.ResetStateOfTheModule := by
  refine ⟨rfl, rfl, rfl, rfl, rfl, rfl, rfl, rfl, rfl, rfl, rfl, rfl, rfl, rfl, reset_ring_idle, fun n => ?_, fun o => ?_⟩
  · rw [running, reset_con, reset_port]
    decide
  · rw [reset_loadOut]
    decide

end Sys2Proof.Safety

/-! ## SUPPORT. Frames of a changed part, and rows that change the times

`runs_of_done` asks that a row leave the times alone; a row that changes them leaves at least the time base (`runs_of_done_times`). -/

namespace Sys2Proof.Safety

open Sys2Proof.Machine

section
variable (s : State)

theorem keepsBut_tim (x : TimSt) : KeepsBut [.tim] s { s with tim := x } := by
  intro p hp; cases p <;> first | (simp at hp; done) | exact Eq.refl _

theorem keepsBut_pwr (x : PwrSt) : KeepsBut [.pwr] s { s with pwr := x } := by
  intro p hp; cases p <;> first | (simp at hp; done) | exact Eq.refl _

theorem keepsBut_ev (x : EvSt) : KeepsBut [.ev] s { s with ev := x } := by
  intro p hp; cases p <;> first | (simp at hp; done) | exact Eq.refl _

theorem keepsBut_store (x : StoreSt) : KeepsBut [.store] s { s with store := x } := by
  intro p hp; cases p <;> first | (simp at hp; done) | exact Eq.refl _

theorem keepsBut_asy (x : AsySt) : KeepsBut [.asy] s { s with asy := x } := by
  intro p hp; cases p <;> first | (simp at hp; done) | exact Eq.refl _

theorem keepsBut_twn (x : TwnSt) : KeepsBut [.twn] s { s with twn := x } := by
  intro p hp; cases p <;> first | (simp at hp; done) | exact Eq.refl _

theorem keepsBut_thm (x : ThmSt) : KeepsBut [.thm] s { s with thm := x } := by
  intro p hp; cases p <;> first | (simp at hp; done) | exact Eq.refl _

end

/-- One part less that may differ, when it does not. -/
theorem keepsBut_of_same {p : Part} {l : List Part} {s t : State} (k : KeepsBut (p :: l) s t) (same : p.Same s t) :
    KeepsBut l s t := by
  intro q hq
  by_cases h : q = p
  · exact h ▸ same
  · exact k q (by simp [h, hq])

/-- `Runs` from the state that a row hands to `done`, when it leaves the window, the queue and the time base alone. -/
theorem runs_of_done_times {c : Instr} {s u : State} {l : List Part} {P : State → Prop} (e : exec c s = done s u)
    (k : KeepsBut l s u) (apart : [Part.win, .pending].all (fun p => decide (p ∉ l)) = true) (tb : u.tim.tb = s.tim.tb) (q : P u) :
    Runs c s l P := by
  simp only [List.all_cons, List.all_nil, Bool.and_true, Bool.and_eq_true, decide_eq_true_eq] at apart
  exact ⟨u, e.trans (done_of_keeps (k .win apart.1) (k .pending apart.2) tb), k, q⟩

/-- `Runs` of a row whose last guard chooses between two states. -/
theorem runs_of_guarded {c : Instr} {s u v : State} {l : List Part} {P : State → Prop} {p : Prop} [Decidable p]
    (e : exec c s = if p then done s u else done s v) (hu : exec c s = done s u → Runs c s l P)
    (hv : exec c s = done s v → Runs c s l P) : Runs c s l P := by
  by_cases h : p
  · exact hu (e.trans (if_pos h))
  · exact hv (e.trans (if_neg h))

theorem runs_imp {c : Instr} {s : State} {l : List Part} {P Q : State → Prop} (h : Runs c s l P) (sub : ∀ u, P u → Q u) :
    Runs c s l Q := by
  obtain ⟨u, e, k, q⟩ := h
  exact ⟨u, e, k, sub u q⟩

/-- `Becomes` from the state that a row hands to `done`. -/
theorem becomes_of_done {c : Instr} {s u : State} (e : exec c s = done s u) : Becomes c s u := e

/-- `Idles` when a row hands its own state to `done`. -/
theorem idles_of_done {c : Instr} {s : State} (e : exec c s = done s s) : Idles c s := e

end Sys2Proof.Safety

/-! ## SUPPORT. Lock states of station time (02 R31 to R34) -/

namespace Sys2Proof.Safety

open Sys2Proof.Machine

/-! ### A change of the lock state -/

/-- TIME_STATE with the next SEQ of `s` waits for ring 1 in `u` (R32). -/
def TellsLock (s u : State) : Prop := ∃ e ∈ u.ev.held, e.code = 0x8106 ∧ e.seq = s.ev.seq

section
variable {s : State} {new : LockState} (seam byCmd : Bool) (changes : s.tim.lock ≠ new)
include changes

/-- A change of the lock state: the times, what the compensation notes at LOCKED (R401), and the event. -/
theorem setLock_changes : ∃ t, setLock new seam byCmd s = timeEvent s.tim.lock byCmd t ∧ KeepsBut [.thm, .tim] s t ∧
    (new ≠ .locked → t.thm = s.thm) ∧ t.tim = { s.tim with
      lock := new, seamSrc := seam, good := 0, moved := 0, lastRejected := none
      slewLeft := if new = .acquire then s.tim.slewLeft else 0
      slewStep := if new = .acquire then s.tim.slewStep else 0
      lastEdge := if new = .free || seam then none else s.tim.lastEdge
      holdoverAt := if new = .holdover then s.tim.tb else s.tim.holdoverAt } := by
  refine ⟨_, if_neg (by simp [changes]), ?_, fun unlocked => ?_, ?_⟩
  · exact keepsBut_cond (keepsBut_sub _ (keepsBut_tim s _) rfl) (keepsBut_sub _ (keepsBut_thm _ _) rfl)
  · rw [if_neg (by simp [unlocked])]
  · split <;> rfl

theorem setLock_tim : (setLock new seam byCmd s).tim = { s.tim with
    lock := new, seamSrc := seam, good := 0, moved := 0, lastRejected := none
    slewLeft := if new = .acquire then s.tim.slewLeft else 0
    slewStep := if new = .acquire then s.tim.slewStep else 0
    lastEdge := if new = .free || seam then none else s.tim.lastEdge
    holdoverAt := if new = .holdover then s.tim.tb else s.tim.holdoverAt } := by
  obtain ⟨t, e, -, -, tim⟩ := setLock_changes seam byCmd changes
  rw [e, ← tim]
  exact raise_keeps _ _ _ _ .tim (by decide)

theorem setLock_tells : TellsLock s (setLock new seam byCmd s) := by
  obtain ⟨t, e, keeps, -⟩ := setLock_changes seam byCmd changes
  obtain ⟨v, waits, seq, code, -⟩ := raise_tells 0x8106 0xFFFF _ t
  rw [e]
  exact ⟨v, waits, code, seq.trans (congrArg EvSt.seq (keeps .ev (by decide)))⟩

theorem setLock_keeps : KeepsBut [.thm, .tim, .ev] s (setLock new seam byCmd s) := by
  obtain ⟨t, e, keeps, -⟩ := setLock_changes seam byCmd changes
  rw [e]
  exact keepsBut_trans (keepsBut_sub _ keeps rfl) (keepsBut_sub _ (raise_keeps _ _ _ _) rfl)

theorem setLock_keeps_thm (unlocked : new ≠ .locked) : KeepsBut [.tim, .ev] s (setLock new seam byCmd s) := by
  obtain ⟨t, e, -, thm, -⟩ := setLock_changes seam byCmd changes
  refine keepsBut_of_same (setLock_keeps seam byCmd changes) ?_
  rw [e]
  exact (raise_keeps _ _ _ _ .thm (by decide)).trans (thm unlocked)

end

/-! ### Edges -/

/-- With no command PENDING and the module's own 1PPS as its source, a valid edge is accepted. -/
theorem execPpsEdge_accepts {s : State} {ticks : DWord} {frac : Half} (up : mainUp s = true) (none_ : s.cmd.pend = [])
    (own : s.tim.seamSrc = false) (valid : edgeValid s (arrivalOf s ticks frac) = true) :
    exec (.ppsEdge ticks frac) s = done s (edgeAccepted (arrivalOf s ticks frac) s) := by
  simp [exec, execPpsEdge, up, none_, own, valid, edgeTakes, edgeLoadsAll]

section
variable {s : State} (a : Int)

theorem edgeAccepted_unset (lock : s.tim.lock = .unset) : edgeAccepted a s = { s with tim := { s.tim with
    moved := 0, lastRejected := none, lastEdge := some a, validAt := s.tim.tb } } := by
  unfold edgeAccepted
  dsimp only
  split
  case h_1 => rfl
  all_goals next h => exact absurd (lock.symm.trans h) (by decide)

/-- FREE and HOLDOVER enter ACQUIRE (R32). -/
theorem edgeAccepted_acquires (lock : s.tim.lock = .free ∨ s.tim.lock = .holdover) : edgeAccepted a s =
    acquire a (phaseError s a) false { s with tim := { s.tim with moved := 0, lastRejected := none } } := by
  unfold edgeAccepted
  dsimp only
  split
  case h_2 | h_3 => rfl
  all_goals next h => rw [h] at lock; exact absurd lock (by decide)

/-- The fourth consecutive edge within 5 ns locks (R32). -/
theorem edgeAccepted_locks {e : Int} (lock : s.tim.lock = .acquire) (phase : phaseError s a = some e)
    (small : (e.natAbs : Int) ≤ 4 * tUnit) (good : s.tim.good = 3) :
    edgeAccepted a s = setLock .locked false false (setSlew e { s with tim := { s.tim with
      moved := 0, lastRejected := none, lastEdge := some a, validAt := s.tim.tb, phase := some (phaseLsb e) } }) := by
  unfold edgeAccepted
  dsimp only
  split
  case h_4 =>
    rw [phase, Option.getD_some]
    refine if_pos ?_
    rw [if_pos small]
    simp [setSlew, good]
  all_goals next h => exact absurd (lock.symm.trans h) (by decide)

variable (e : Option Int) (byCmd : Bool) (other : s.tim.lock ≠ .acquire)
include other

theorem acquire_keeps : KeepsBut [.tim, .ev] s (acquire a e byCmd s) := by
  have phase := keepsBut_sub [.tim, .ev] (keepsBut_tim s { s.tim with phase := e.map phaseLsb }) rfl
  have locks := setLock_keeps_thm (s := { s with tim := { s.tim with phase := e.map phaseLsb } }) false byCmd other (by decide)
  exact keepsBut_trans (keepsBut_trans phase locks) (keepsBut_sub _ (keepsBut_tim _ _) rfl)

/-- Entering ACQUIRE remembers the edge and changes neither station time nor the time base (R31 to R33). -/
theorem acquire_tim : (acquire a e byCmd s).tim.lock = .acquire ∧ (acquire a e byCmd s).tim.lastEdge = some a ∧
    (acquire a e byCmd s).tim.station = s.tim.station ∧ (acquire a e byCmd s).tim.tb = s.tim.tb := by
  simp [acquire, setSlew, setLock_tim (s := { s with tim := { s.tim with phase := e.map phaseLsb } }) false byCmd other]

theorem acquire_tells : TellsLock s (acquire a e byCmd s) :=
  setLock_tells (s := { s with tim := { s.tim with phase := e.map phaseLsb } }) false byCmd other

end

section
variable {s : State} {ticks : DWord} {frac : Half}

/-- An edge in LOCKED that is off by more than 1 µs is remembered as rejected (R31). -/
theorem ppsEdge_rejected {e : Int} (up : mainUp s = true) (own : s.tim.seamSrc = false) (lock : s.tim.lock = .locked)
    (phase : phaseError s (arrivalOf s ticks frac) = some e) (off : withinUs 1 e = false) (first : s.tim.lastRejected = none) :
    Becomes (.ppsEdge ticks frac) s { s with tim := { s.tim with moved := 1, lastRejected := some (arrivalOf s ticks frac) } } := by
  have invalid : edgeValid s (arrivalOf s ticks frac) = false := by simp [edgeValid, own, lock, phase, off]
  refine becomes_of_done ?_
  simp [exec, execPpsEdge, up, invalid, edgeOutside, own, lock, first]

variable (up : mainUp s = true) (none_ : s.cmd.pend = []) (own : s.tim.seamSrc = false)
include up none_ own

theorem ppsEdge_unset (lock : s.tim.lock = .unset) (first : s.tim.lastEdge = none) : Runs (.ppsEdge ticks frac) s [.tim] (fun u =>
    u.tim.lock = .unset ∧ u.tim.lastEdge = some (arrivalOf s ticks frac) ∧ u.tim.station = s.tim.station ∧
      u.tim.validAt = s.tim.tb) := by
  have e := execPpsEdge_accepts (ticks := ticks) (frac := frac) up none_ own (by simp [edgeValid, own, lock, validFree, first])
  rw [edgeAccepted_unset _ lock] at e
  exact runs_of_done_times e (keepsBut_tim s _) (by decide) rfl ⟨lock, rfl, rfl, rfl⟩

/-- FREE and HOLDOVER take an edge by entering ACQUIRE (R32). -/
theorem ppsEdge_acquires (lock : s.tim.lock = .free ∨ s.tim.lock = .holdover)
    (valid : edgeValid s (arrivalOf s ticks frac) = true) : Runs (.ppsEdge ticks frac) s [.tim, .ev] (fun u =>
      u.tim.lock = .acquire ∧ u.tim.lastEdge = some (arrivalOf s ticks frac) ∧ u.tim.station = s.tim.station ∧ TellsLock s u) := by
  have e := (execPpsEdge_accepts up none_ own valid).trans (congrArg (done s) (edgeAccepted_acquires _ lock))
  have other : ({ s with tim := { s.tim with moved := 0, lastRejected := none } } : State).tim.lock ≠ .acquire := by
    obtain lock | lock := lock <;> simp [lock]
  obtain ⟨acquires, edge, station, tb⟩ := acquire_tim (arrivalOf s ticks frac) (phaseError s (arrivalOf s ticks frac)) false other
  refine runs_of_done_times e ?_ (by decide) tb ⟨acquires, edge, station, acquire_tells _ _ _ other⟩
  exact keepsBut_trans (keepsBut_sub _ (keepsBut_tim s _) rfl) (acquire_keeps _ _ _ other)

theorem ppsEdge_locks {l e : Int} (lock : s.tim.lock = .acquire) (last : s.tim.lastEdge = some l)
    (second : withinUs 1 (arrivalOf s ticks frac - l - secUnits - s.tim.slewStep) = true)
    (phase : phaseError s (arrivalOf s ticks frac) = some e) (small : (e.natAbs : Int) ≤ 4 * tUnit) (good : s.tim.good = 3) :
    Runs (.ppsEdge ticks frac) s [.tim, .ev, .thm] (fun u => u.tim.lock = .locked ∧ u.tim.station = s.tim.station) := by
  have x := (execPpsEdge_accepts up none_ own (by simp [edgeValid, own, lock, last, second])).trans
    (congrArg (done s) (edgeAccepted_locks (arrivalOf s ticks frac) lock phase small good))
  generalize ht : setSlew e _ = t at x
  have same : t.tim.lock = s.tim.lock ∧ t.tim.station = s.tim.station ∧ t.tim.tb = s.tim.tb := by
    rw [← ht]
    exact ⟨rfl, rfl, rfl⟩
  have kept : KeepsBut [.tim] s t := by
    rw [← ht]
    exact keepsBut_tim s _
  have other : t.tim.lock ≠ .locked := by simp [same, lock]
  have locks := setLock_tim false false other
  refine runs_of_done_times x ?_ (by decide) ?_ ?_
  · exact keepsBut_trans (keepsBut_sub _ kept rfl) (keepsBut_sub _ (setLock_keeps _ _ other) rfl)
  · simp [locks, same]
  · simp [locks, same]

end

/-! ### Losses -/

section
variable {s : State}

theorem ppsLossTimeout_locked (up : mainUp s = true) (own : s.tim.seamSrc = false) (lock : s.tim.lock = .locked) :
    Runs .ppsLossTimeout s [.tim, .ev] (fun u => u.tim.lock = .holdover ∧ u.tim.holdoverAt = s.tim.tb ∧
      u.tim.station = s.tim.station ∧ TellsLock s u) := by
  have e : exec .ppsLossTimeout s = done s (setLock .holdover false false s) := by simp [exec, execPpsLossTimeout, up, own, lock]
  have other : s.tim.lock ≠ .holdover := by simp [lock]
  have tim := setLock_tim false false other
  refine runs_of_done_times e (setLock_keeps_thm _ _ other (by decide)) (by decide) (by rw [tim])
    ⟨?_, ?_, ?_, setLock_tells _ _ other⟩ <;> simp [tim]

/-- What the end of ACQUIRE or of the holdover limit does: FREE, with no slew and the phase unknown (R32 to R34). -/
theorem runs_free {c : Instr} (lock : s.tim.lock ≠ .free)
    (e : exec c s = done s (setLock .free false false { s with tim := { s.tim with phase := none } })) :
    Runs c s [.tim, .ev] (fun u => u.tim.lock = .free ∧ u.tim.slewStep = 0 ∧ u.tim.station = s.tim.station) := by
  have tim := setLock_tim (s := { s with tim := { s.tim with phase := none } }) false false lock
  refine runs_of_done_times e ?_ (by decide) (by rw [tim]) ⟨?_, ?_, ?_⟩
  · exact keepsBut_trans (keepsBut_sub _ (keepsBut_tim s _) rfl)
      (setLock_keeps_thm (s := { s with tim := { s.tim with phase := none } }) _ _ lock (by decide))
  all_goals simp [tim]

end

/-! ### Compensation of the root (R25, R401) -/

section
variable {s : State}

theorem oscCompensation_steers (d0 : Half) (up : mainUp s = true) : Runs (.oscCompensation d0) s [.thm, .tim] (fun u =>
    u.thm = { s.thm with die := d0.toInt :: s.thm.die.drop 1 } ∧
      u.tim = { s.tim with comp := compValue s (compBin d0.toInt) }) := by
  refine runs_of_done_times (if_neg (by simp [up])) ?_ (by decide) rfl ⟨rfl, rfl⟩
  exact keepsBut_trans (keepsBut_sub _ (keepsBut_thm s _) rfl) (keepsBut_sub _ (keepsBut_tim _ _) rfl)

theorem compensationLearn_idles (err : Half) (early : s.tim.lock ≠ .locked ∨ s.tim.tb - s.thm.lockedAt < 600 * tSec) :
    Idles (.compensationLearn err) s := by
  refine idles_of_done (if_pos ?_)
  obtain early | early := early <;> simp [early]

/-- The learned value of bin `b` moves a 64th of its distance to the error, within 0.5 ppm (R401). -/
def learnedAfter (s : State) (b : Nat) (err : Half) : Int :=
  max (-500) (min 500 (toLsb (((tabGet 0 s.thm.learned b : Int) : Rat) + ((err.toInt : Rat) - (tabGet 0 s.thm.learned b : Int)) / 64)))

theorem queueWrite_thm (w : StoreWrite) (s : State) : (queueWrite w s).thm = s.thm := queueWrite_keeps w s .thm (by decide)

theorem compensationLearn_learns (err : Half) (up : mainUp s = true) (lock : s.tim.lock = .locked)
    (long : 600 * tSec ≤ s.tim.tb - s.thm.lockedAt) : Runs (.compensationLearn err) s [.thm, .store] (fun u =>
      u.thm.learned = tabPut 0 s.thm.learned (compBin (s.thm.die.headD 0)) (learnedAfter s (compBin (s.thm.die.headD 0)) err)) := by
  refine runs_of_guarded (if_neg (by simp [up, lock, long])) (fun e => ?_) fun e => ?_
  · refine runs_of_done e ?_ (by decide) ?_
    · exact keepsBut_trans (keepsBut_sub _ (keepsBut_thm s _) rfl) (keepsBut_sub _ (queueWrite_keeps _ _) rfl)
    · rw [queueWrite_thm]
      rfl
  · exact runs_of_done e (keepsBut_sub _ (keepsBut_thm s _) rfl) (by decide) rfl

end

/-- Settles O21: edges by the lock state they meet, losses, and the two rows of the compensation. -/
theorem lockStatesOfStationTime : Obligations.LockStatesOfStationTime := by
  intro s
  refine ⟨fun ticks frac up none_ own => ⟨ppsEdge_unset up none_ own, fun lock first => ?_,
      fun l e => ppsEdge_locks up none_ own, fun e lock phase near => ?_, fun e => ppsEdge_rejected up own⟩,
    fun up own => ⟨ppsLossTimeout_locked up own, fun lock => ?_, fun lock => ?_⟩, fun up lock => ?_, fun lock => ?_,
    fun d0 => oscCompensation_steers d0, fun err => compensationLearn_idles err, fun err up lock long => ?_⟩
  · exact ppsEdge_acquires up none_ own (.inl lock) (by simp [edgeValid, own, lock, validFree, first])
  · exact runs_imp (ppsEdge_acquires up none_ own (.inr lock) (by simp [edgeValid, own, lock, phase, near]))
      fun u ⟨acquires, _, station, _⟩ => ⟨acquires, station⟩
  · exact runs_free (by simp [lock]) (by simp [exec, execPpsLossTimeout, up, own, lock])
  · refine idles_of_done ?_
    obtain lock | lock | lock := lock <;> simp [exec, execPpsLossTimeout, up, own, lock]
  · exact runs_imp (runs_free (by simp [lock]) (if_pos (by simp [up, lock]))) fun u ⟨free, _, station⟩ => ⟨free, station⟩
  · exact idles_of_done (if_neg (by simp [lock]))
  · exact runs_imp (compensationLearn_learns err up lock long) fun u learned =>
      ⟨_, learned, le_max_left _ _, max_le (by decide) (min_le_left _ _), rfl⟩

end Sys2Proof.Safety

/-! ## SUPPORT. Supply and retained store (02 R46 to R48; 17 R495, R499) -/

namespace Sys2Proof.Safety

open Sys2Proof.Machine

/-! ### Record writes -/

theorem mem_queueWrite (w : StoreWrite) (s : State) : w ∈ (queueWrite w s).store.queue := by
  unfold queueWrite
  split
  case isTrue h => exact List.contains_iff_mem.mp h
  case isFalse => exact List.mem_append_right _ (List.mem_singleton.mpr rfl)

theorem queueWrite_inFlight (w : StoreWrite) (s : State) : (queueWrite w s).store.inFlight = s.store.inFlight := by
  unfold queueWrite
  split <;> rfl

/-- The write that `settle` starts is the one that the store starts: posting and returning descriptors leave it. -/
theorem settle_store (s : State) : (settle s).store = (pumpStore s).store := by
  refine (flushReplies_keeps _ _ .store (by decide)).trans ?_
  exact (flushTaken_keeps _ _ _ .store (by decide)).trans (flushEvents_keeps _ .store (by decide))

/-- During a power-fail warning only the checkpoint and, once it has left the queue, pinned events may start (R47, R495). -/
theorem storeMay_warned {s : State} (warned : s.pwr.warn = true) {w : StoreWrite} (may : storeMay s w = true) :
    w = .checkpoint 1 ∨ ∃ e, w = .pinned e ∧ .checkpoint 1 ∉ s.store.queue := by
  cases w with
  | checkpoint k => exact .inl (by simpa [storeMay, warned] using may)
  | pinned e =>
    have none_ : ∀ q ∈ s.store.queue, q ≠ .checkpoint 1 := by simpa [storeMay, warned] using may
    exact .inr ⟨e, rfl, fun queued => none_ _ queued rfl⟩
  | _ => simp [storeMay, warned] at may

/-- The write in flight after the store has started one: the warning's checkpoint first, else one that may start. -/
theorem pumpStore_starts {s : State} (idle : s.store.inFlight = none) {w : StoreWrite}
    (starts : (pumpStore s).store.inFlight = some w) : w = .checkpoint 1 ∨ storeMay s w = true := by
  unfold pumpStore at starts
  dsimp only at starts
  split at starts
  · exact absurd (idle.symm.trans starts) (by simp)
  split at starts
  · exact .inl (Option.some.inj starts).symm
  split at starts
  next e _ _ =>
    split at starts
    next may => exact .inr (Option.some.inj starts ▸ may)
    next => exact absurd (idle.symm.trans starts) (by simp)
  next =>
    split at starts
    next found => exact .inr (Option.some.inj starts ▸ List.find?_some found)
    next => exact absurd (idle.symm.trans starts) (by simp)

/-- A write that does not bring its record to the limit is counted and no more (R499). -/
theorem countWrite_below {s : State} {w : StoreWrite} {k : Nat} (record : recordNo s w = some k)
    (below : tabGet 0 s.store.writes k + 1 < writeLimit) : countWrite w s =
      { s with store := { s.store with writes := tabPut 0 s.store.writes k (tabGet 0 s.store.writes k + 1) } } := by
  unfold countWrite
  rw [record]
  exact if_neg (by simp [not_le.mpr below])

section
variable {s : State} {w : StoreWrite} (flight : s.store.inFlight = some w)
include flight

theorem execRecordWriteDone_good : exec (.recordWriteDone true) s =
    done s (stored w (countWrite w { s with store := { s.store with inFlight := none } })) := by
  simp only [exec, execRecordWriteDone, flight]
  rfl

theorem execRecordWriteDone_bad : exec (.recordWriteDone false) s = done s (raiseFault 0x0102 0xFFFF 2 false noId
    (unstored w { s with store := { s.store with inFlight := none, fenced := true } })) := by
  simp only [exec, execRecordWriteDone, flight]
  rfl

end

section
variable {s : State}

theorem recordWriteDone_calibration {n : Chan} (flight : s.store.inFlight = some (.calibration n))
    (below : tabGet 0 s.store.writes (0x100 + n.val) + 1 < writeLimit) : Runs (.recordWriteDone true) s [.store] (fun u =>
      u.store.inFlight = none ∧ u.store.calibs = tabPut none s.store.calibs n.val s.meas[n].calib ∧
      u.store.writes = tabPut 0 s.store.writes (0x100 + n.val) (tabGet 0 s.store.writes (0x100 + n.val) + 1)) := by
  have counted := countWrite_below (s := { s with store := { s.store with inFlight := none } }) (w := .calibration n) rfl below
  have e := (execRecordWriteDone_good flight).trans (congrArg (fun t => done s (stored (.calibration n) t)) counted)
  exact runs_of_done e (keepsBut_store s _) (by decide) ⟨rfl, rfl, rfl⟩

theorem recordWriteDone_pinned {x : Event} (flight : s.store.inFlight = some (.pinned x)) :
    Runs (.recordWriteDone true) s [.store, .ev] (fun u =>
      u.ev = { s.ev with pinned := s.ev.pinned ++ [x], pinQueue := s.ev.pinQueue.erase x } ∧
      u.store = { s.store with inFlight := none }) := by
  refine runs_of_done (execRecordWriteDone_good flight) ?_ (by decide) ⟨rfl, rfl⟩
  exact keepsBut_trans (keepsBut_sub _ (keepsBut_store s _) rfl) (keepsBut_sub _ (keepsBut_ev _ _) rfl)

theorem recordWriteDone_idles (none_ : s.store.inFlight = none) (ok : Bool) : Idles (.recordWriteDone ok) s := by
  refine idles_of_done ?_
  simp only [exec, execRecordWriteDone, none_]

theorem checkpointPeriodic_queues (runs : fwRuns s = true) (on : s.pwr.mod = .ready ∨ s.pwr.mod = .safe)
    (calm : s.pwr.warn = false) : Runs .checkpointPeriodic s [.store, .asy] (fun u =>
      .checkpoint 0 ∈ u.store.queue ∧ u.store.inFlight = s.store.inFlight ∧
      (.checkpoint 0 ∉ s.store.queue → s.store.inFlight ≠ some (.checkpoint 0) → s.store.fenced = false →
        s.store.worn = false → u.asy = s.asy)) := by
  have e : exec .checkpointPeriodic s = _ := if_neg (by obtain on | on := on <;> simp [runs, on])
  dsimp only at e
  rw [if_neg (by simp [calm])] at e
  refine runs_of_done e ?_ (by decide) ⟨mem_queueWrite _ _, (queueWrite_inFlight _ _).trans ?_, fun new other open_ sound => ?_⟩
  · refine keepsBut_trans ?_ (keepsBut_sub _ (queueWrite_keeps _ _) rfl)
    exact keepsBut_ite (keepsBut_sub _ (keepsBut_asy s _) rfl) (keepsBut_refl _ _)
  · split <;> rfl
  · refine (queueWrite_keeps _ _ .asy (by decide)).trans ?_
    rw [if_neg (by simp [new, other, open_, sound, calm])]

/-! ### Supply -/

theorem forEach_nil {α : Type} (f : α → State → State) (s : State) : forEach [] f s = s := rfl

theorem notStarted_nil (none_ : ∀ n, .learned n true ∉ s.store.queue) : notStarted s = [] := by
  refine List.filterMap_eq_nil_iff.mpr fun w queued => ?_
  split
  next n => exact absurd queued (none_ n)
  next => rfl

theorem powerFailWarning_warns (v : Half) (up : mainUp s = true) (calm : s.pwr.warn = false)
    (none_ : ∀ n, .learned n true ∉ s.store.queue) : Runs (.powerFailWarning v) s [.pwr, .ev, .store] (fun u =>
      u.pwr = { s.pwr with warn := true, warnAt := s.tim.tb, warnHandedOver := false, holdupOk := false } ∧
      Tells s u 0x8104 0xFFFF [ef 28 0 v.toNat] ∧ u.store.inFlight = s.store.inFlight ∧
      ((s.pwr.mod = .ready ∨ s.pwr.mod = .safe) → .checkpoint 1 ∈ u.store.queue)) := by
  have e : exec (.powerFailWarning v) s = _ := if_neg (by simp [up, calm])
  have kept := raise_keeps 0x8104 0xFFFF [ef 28 0 v.toNat]
    { s with pwr := { s.pwr with warn := true, warnAt := s.tim.tb, warnHandedOver := false, holdupOk := false } }
  have told := raise_tells 0x8104 0xFFFF [ef 28 0 v.toNat]
    { s with pwr := { s.pwr with warn := true, warnAt := s.tim.tb, warnHandedOver := false, holdupOk := false } }
  dsimp only at e
  generalize raise 0x8104 0xFFFF _ _ = t at e kept told
  have pwr : t.pwr = _ := kept .pwr (by decide)
  have store : t.store = s.store := kept .store (by decide)
  have all : KeepsBut [.pwr, .ev, .store] s t :=
    keepsBut_trans (keepsBut_sub _ (keepsBut_pwr s _) rfl) (keepsBut_sub _ kept rfl)
  rw [notStarted_nil (s := t) (by rw [store]; exact none_), forEach_nil, pwr] at e
  by_cases on : s.pwr.mod = .ready ∨ s.pwr.mod = .safe
  · rw [if_pos (by simp [on])] at e
    refine runs_of_done e (keepsBut_trans all (keepsBut_sub _ (queueWrite_keeps _ _) rfl)) (by decide)
      ⟨(queueWrite_keeps _ _ .pwr (by decide)).trans pwr, ?_, ?_, fun _ => mem_queueWrite _ _⟩
    · obtain ⟨x, waits, r⟩ := told
      exact ⟨x, (queueWrite_keeps _ _ .ev (by decide)).symm ▸ waits, r⟩
    · exact (queueWrite_inFlight _ _).trans (congrArg StoreSt.inFlight store)
  · rw [if_neg (by simpa using on)] at e
    exact runs_of_done e all (by decide) ⟨pwr, told, congrArg StoreSt.inFlight store, fun h => absurd h on⟩

theorem powerFailWithdrawn_ends (warned : s.pwr.warn = true) : Runs .powerFailWithdrawn s [.pwr, .ev] (fun u =>
    u.pwr = { s.pwr with warn := false, holdupOk := s.pwr.holdupTested && !s.pwr.holdupFault } ∧
    Tells s u 0x8105 0xFFFF [ef 28 0 (min 0xFFFFFFFF ((s.tim.tb - s.pwr.warnAt) / tUs)), ef 32 0 (bN s.pwr.warnHandedOver)]) := by
  refine runs_of_done (if_neg (by simp [warned])) ?_ (by decide) ⟨raise_keeps _ _ _ _ .pwr (by decide), raise_tells _ _ _ _⟩
  exact keepsBut_trans (keepsBut_sub _ (keepsBut_pwr s _) rfl) (keepsBut_sub _ (raise_keeps _ _ _ _) rfl)

end

/-- Settles O20: the rows of the supply, the checkpoint and the record writes, one lemma each. -/
theorem powerFailAndRecordWrites : Obligations.PowerFailAndRecordWrites := by
  intro s
  refine ⟨powerFailWarning_warns, fun v warned => idles_of_done (if_pos (by simp [warned])),
    fun warned none_ may => becomes_of_done (if_pos (by simp [warned, none_, may])), fun no => idles_of_done (if_neg ?_),
    powerFailWithdrawn_ends, fun calm => idles_of_done (if_pos (by simp [calm])), checkpointPeriodic_queues,
    recordWriteDone_idles, fun n => recordWriteDone_calibration, fun x => recordWriteDone_pinned,
    fun w flight => becomes_of_done (execRecordWriteDone_good flight),
    fun w flight => becomes_of_done (execRecordWriteDone_bad flight), fun warned idle w starts => ?_⟩
  · obtain no | no := no <;> simp [no]
  · rw [settle_store] at starts
    exact (pumpStore_starts idle starts).elim .inl (storeMay_warned warned)

end Sys2Proof.Safety

/-! ## SUPPORT. What the module's state refuses of host commands (02 R42, R45; 03 R70; 17 R489) -/

namespace Sys2Proof.Safety

open Sys2Proof.Machine

/-! ### Taking a slot after a reference was kept (03 R70, R80) -/

/-- The state with the insertion part `x`: what keeping a reference makes of it. -/
def withIns (x : InsSt) (s : State) : State := { s with ins := x }

section
variable {x : InsSt}

theorem raise_withIns (code subject : Nat) (data : List Nat) (s : State) :
    raise code subject data (withIns x s) = withIns x (raise code subject data s) := by
  unfold raise raiseAt
  dsimp only
  rw [apply_ite (withIns x)]
  rfl

theorem activity_withIns (s : State) : activity (withIns x s) = withIns x (activity s) := by
  unfold activity
  dsimp only
  rw [apply_ite (withIns x), ← raise_withIns]
  rfl

variable {s : State} (same : x.direct = s.ins.direct)
include same

theorem refsOnly_withIns : refsOnly (withIns x s) = refsOnly s := by
  unfold refsOnly
  rw [← same]
  rfl

theorem doorbell_withIns (p : HPort) : doorbell p (withIns x s) = withIns x (doorbell p s) := by
  unfold doorbell
  rw [refsOnly_withIns same, apply_ite (withIns x), activity_withIns]
  rfl

/-- The slot that a ring gives does not depend on the references kept. -/
theorem takeSlot_withIns (r : Ring) : takeSlot r (withIns x s) = (takeSlot r s).map (Prod.map id (withIns x)) := by
  unfold takeSlot
  dsimp only
  rw [apply_ite (Option.map _), apply_ite (Option.map _), apply_ite (Option.map _)]
  refine ite_congr rfl (fun _ => rfl) fun _ => ite_congr rfl (fun _ => rfl) fun _ => ite_congr rfl (fun _ => rfl) fun _ => ?_
  have rung := doorbell_withIns (s := modRing r (fun g => { g with hpi := g.hpi + 1, tkn := g.hpi + 1, exe := g.hpi + 1 }) s) same
    s.hst.active
  exact congrArg some (congrArg (Prod.mk s.rings[r].hpi) rung)

end

/-! ### Every row of a host command is judged alike -/

/-- The row of a host command takes, admits, executes and answers it by `hostCmd`, on the state itself but for the references that
ARM_REFERENCE keeps first. -/
theorem exec_of_hostForm {c : Instr} {h : Hdr} {op least : Nat} {g : Target} {pends : Bool}
    (form : hostForm c = some (h, op, least, g, pends)) (s : State) : ∃ (body : State → Res) (x : InsSt),
      exec c s = hostCmd h op least g pends body (withIns x s) ∧ x.direct = s.ins.direct ∧ (op ≠ 0x0301 → x = s.ins) := by
  have plain : (∃ body, exec c s = hostCmd h op least g pends body s) → ∃ (body : State → Res) (x : InsSt),
      exec c s = hostCmd h op least g pends body (withIns x s) ∧ x.direct = s.ins.direct ∧ (op ≠ 0x0301 → x = s.ins) :=
    fun ⟨body, e⟩ => ⟨body, s.ins, e, rfl, fun _ => rfl⟩
  cases c with
  | armReference h ref =>
    cases form
    have either (kept : Bool) : ∃ (body : State → Res) (x : InsSt),
        hostCmd h 0x0301 52 .none false (takeRef ref) (if kept then keepRef ref s.tim.station s else s) =
          hostCmd h 0x0301 52 .none false body (withIns x s) ∧ x.direct = s.ins.direct ∧ (0x0301 ≠ 0x0301 → x = s.ins) := by
      cases kept
      · exact ⟨takeRef ref, s.ins, rfl, rfl, fun _ => rfl⟩
      · exact ⟨takeRef ref, (keepRef ref s.tim.station s).ins, rfl, rfl, fun other => absurd rfl other⟩
    exact either _
  | getParam | setParam | commitConfig | readIdentity | setTime | hostSwitch | streamSetup | resetModule | chConnect
  | chDisconnect | chDormant | chRetire | chRestore | loadAll | quenchRelease | restage | setMode | assayCycleStart
  | assayCycleAbort | restGrant | touchmarkProvision | readLimits | nodeUpdate | nodeCalibrate | linkRetest | thermalMode
  | loSet | loRearm | safetyStatus | busRecover | busSend | busMode | twinHandover | imageUpdate | imageActivate | logRead
  | faultAck =>
    cases form
    refine plain ?_
    unfold exec
    exact ⟨_, rfl⟩
  | _ => cases form

/-- A host command that the module's state refuses is answered so, and nothing else changes but the references kept. -/
theorem replies_refused {c : Instr} {h : Hdr} {op least : Nat} {g : Target} {pends : Bool} {s t : State} {idx : Word}
    (form : hostForm c = some (h, op, least, g, pends)) (slot : takeSlot h.ring s = some (idx, t))
    (ring : h.ring.val = (if op = 0x0301 then 0 else 2)) {st : Status} (refused : refusal op t = some st) :
    Replies c h op idx s t { status := st } [.ins] (fun u => op ≠ 0x0301 → u.ins = t.ins) := by
  obtain ⟨body, x, e, same, other⟩ := exec_of_hostForm form s
  have kept := takeSlot_keeps slot
  have slot' : takeSlot h.ring (withIns x s) = some (idx, withIns x t) := by rw [takeSlot_withIns same, slot]; rfl
  refine ⟨putTaken h op idx (some { status := st }) (withIns x t), ?_, rfl, rfl, rfl, ?_, fun op => ?_⟩
  · rw [e, hostCmd_refused slot' ring (st := st) refused]
    exact done_of_keeps (kept .win (by decide)) (kept .pending (by decide)) (congrArg TimSt.tb (kept .tim (by decide)))
  · intro p hp
    cases p <;> first | (simp at hp; done) | exact Eq.refl _
  · exact (other op).trans (kept .ins (by decide)).symm

/-- Settles O7: what each module state refuses, answered by `replies_refused`. -/
theorem moduleStateRefusesCommands : Obligations.ModuleStateRefusesCommands := by
  intro c h op least g pends s t idx form slot ring answered
  have answers {st : Status} (refused : refusal op t = some st) : answered st := replies_refused form slot ring refused
  refine ⟨fun booting list => answers ?_, fun fault list => answers ?_, fun safe list => answers ?_,
    fun ready standby list => answers ?_⟩
  · simpa [refusal, booting, okBooting] using list
  · simpa [refusal, fault, okImageFault] using list
  · simpa [refusal, safe, okSafe] using list
  · simpa [refusal, ready, standby, okStandby] using list

end Sys2Proof.Safety

/-! ## SUPPORT. From the image to READY and a role (02 R44 to R46; 12 R358) -/

namespace Sys2Proof.Safety

open Sys2Proof.Machine

/-! ### Ports that stay silent, and the hold-up test -/

section
variable {s : State}

theorem portSettleTimeout_places {p : Chan} (on : populated s p = true) (open_ : s.ports[p].settled = false)
    (loaded : s.pwr.configLoaded = true) : ∃ cause, (cause = 0 ↔ s.ports[p].light = false) ∧
      (cause = 1 ↔ s.ports[p].light = true ∧ s.ports[p].lock = false) ∧
      Becomes (.portSettleTimeout p) s (modPort p (fun x => { x with settled := true })
        (placeDark p (linkLossEvent p cause s.ports[p].state false s))) := by
  refine ⟨_, ?_, ?_, becomes_of_done (if_neg (by simp only [on, open_, loaded]; decide))⟩ <;>
    cases s.ports[p].light <;> cases s.ports[p].lock <;> simp

theorem portSettleTimeout_idles {p : Chan} (no : populated s p = false ∨ s.ports[p].settled = true ∨ s.pwr.configLoaded = false) :
    Idles (.portSettleTimeout p) s := by
  refine idles_of_done (if_pos ?_)
  obtain no | no | no := no <;> simp only [no, Bool.not_false, Bool.true_or, Bool.or_true]

theorem holdupTestDone_failed (time : Half) (up : mainUp s = true) (runs : s.pwr.imageRuns = true) :
    Runs (.holdupTestDone false time) s [.pwr, .ev] (fun u =>
      u.pwr = { s.pwr with holdupTested := true, holdupFault := true, holdupOk := false } ∧
      Tells s u 0x8103 0xFFFF [ef 28 0 time.toNat]) := by
  refine runs_of_done (if_neg (by simp [up, runs])) ?_ (by decide) ⟨raise_keeps _ _ _ _ .pwr (by decide), raise_tells _ _ _ _⟩
  exact keepsBut_trans (keepsBut_sub _ (keepsBut_pwr s _) rfl) (keepsBut_sub _ (raise_keeps _ _ _ _) rfl)

/-! ### READY -/

theorem portsSettled_iff : portsSettled s = true ↔ ∀ p : Chan, populated s p = true → s.ports[p].settled = true := by
  simp only [portsSettled, allChans, List.all_eq_true, List.mem_finRange, true_implies, Bool.or_eq_true, Bool.not_eq_true',
    ← Bool.not_eq_true, ← imp_iff_not_or]

/-- READY of the preferred bank says nothing of a fallback (R42, R45). -/
theorem becomeReady_preferred (preferred : s.pwr.fallback = false) : becomeReady s =
    loReady (handOver (postTorn (postShutdown (closeOld (raise 0x8101 0xFFFF
      [ef 28 0 s.pwr.cause.code, ef 29 0 (bankN s.pwr.bank), ef 29 1 0, ef 29 2 (bN s.pwr.holdupFault), ef 32 0 s.pwr.boot.toNat]
      { s with pwr := { s.pwr with mod := .ready, wasReady := true, attempts := 0 } }))))) := by
  unfold becomeReady
  dsimp only
  rw [if_neg (by simp [preferred]), preferred]
  rfl

/-- The guard of MODULE_READY is the four conditions of R45 while BOOTING. -/
theorem moduleReady_guard_iff : (s.pwr.mod == .booting && mainUp s && s.pwr.imageRuns && s.pwr.configLoaded && s.pwr.matrixOk &&
    portsSettled s) = true ↔ s.pwr.mod = .booting ∧ mainUp s = true ∧ s.pwr.imageRuns = true ∧ s.pwr.configLoaded = true ∧
      s.pwr.matrixOk = true ∧ ∀ p : Chan, populated s p = true → s.ports[p].settled = true := by
  simp only [Bool.and_eq_true, beq_iff_eq, portsSettled_iff, and_assoc]

/-! ### The role of a twin at start -/

section
variable (up : mainUp s = true) (twin : twinBit s = true) (runs : s.pwr.imageRuns = true) (settled : portsSettled s = true)
include up twin runs settled

theorem execRoleResolution_starting (role : s.twn.role = .starting) :
    exec .roleResolution s = done s (resolveRole { s with twn := { s.twn with role := .candidate } }) :=
  (if_neg (by simp [up, twin, runs, settled])).trans (if_pos (by simp [role]))

theorem execRoleResolution_later (role : s.twn.role ≠ .starting) : exec .roleResolution s = done s (resolveRole s) :=
  (if_neg (by simp [up, twin, runs, settled])).trans (if_neg (by simp [role]))

end

/-- A candidate that sees no partner stays one. -/
theorem resolveRole_alone (role : s.twn.role = .candidate) (fits : s.twn.mismatch = none) (alone : paired s = false) :
    resolveRole s = s := by
  simp [resolveRole, role, fits, alone]

section
variable {h : Heartbeat} (role : s.twn.role = .candidate) (twin : twinBit s = true) (fits : s.twn.mismatch = none)
  (partner : s.twn.partner = some h) (heard : s.twn.lost = false)
include role twin fits partner heard

/-- A partner that is ACTIVE makes a candidate the standby (R358). -/
theorem resolveRole_standby (active : h.role = 2) : resolveRole s = becomeStandby 0 s := by
  simp [resolveRole, role, fits, paired, twin, partner, heard, active]

/-- Two candidates whose ports report no epoch: the even address becomes ACTIVE, the odd one waits (R358). -/
theorem resolveRole_parity (candidate : h.role = 1) (fresh : s.twn.portEpoch = none) :
    resolveRole s = if oddAddr s then s else activeAtStart s := by
  simp [resolveRole, role, fits, paired, twin, partner, heard, candidate, fresh]

end

end

/-- Settles O19: one lemma per row above, and the guards of MODULE_READY and ALONE_WAIT_EXPIRY. -/
theorem startUpToReady : Obligations.StartUpToReady := by
  intro s
  refine ⟨fun p => portSettleTimeout_places, fun p => portSettleTimeout_idles, fun time up runs => ⟨?_, holdupTestDone_failed time up runs⟩,
    fun ready preferred => ?_, fun no => idles_of_done (if_neg (mt moduleReady_guard_iff.mp no)),
    fun ⟨up, twin, runs, settled⟩ fits => ⟨fun role alone => ?_, fun role h partner heard => ?_⟩,
    fun up role lost gone => becomes_of_done (if_pos (by simp [up, role, lost, gone])), fun no => idles_of_done (if_neg ?_)⟩
  · exact becomes_of_done ((if_neg (by simp [up, runs])).trans rfl)
  · rw [← becomeReady_preferred preferred]
    exact becomes_of_done (if_pos (moduleReady_guard_iff.mpr ready))
  · have stays := resolveRole_alone (s := { s with twn := { s.twn with role := .candidate } }) rfl fits alone
    have e := execRoleResolution_starting up twin runs (portsSettled_iff.mpr settled) role
    exact becomes_of_done (e.trans (congrArg (done s) stays))
  · have e := execRoleResolution_later up twin runs (portsSettled_iff.mpr settled) (by simp [role])
    refine ⟨fun active => ?_, fun candidate fresh even => ?_, fun candidate fresh odd => ?_⟩
    · exact becomes_of_done (e.trans (congrArg (done s) (resolveRole_standby role twin fits partner heard active)))
    · rw [resolveRole_parity role twin fits partner heard candidate fresh, if_neg (by simp [even])] at e
      exact becomes_of_done e
    · rw [resolveRole_parity role twin fits partner heard candidate fresh, if_pos odd] at e
      exact idles_of_done e
  · obtain no | no | no := no <;> simp [no]

end Sys2Proof.Safety

/-! ## SUPPORT. Resets of the main domain and the start that follows (02 R39 to R42, R47; 13 R399)

A reset makes a new state of a few parts of the old one (`mainReset`) and brings back what the retained store holds; where nothing
holds the main domain, the image starts (`boot`), which may already quench a group. `Carries` says what such a start leaves of
what the reset kept. -/

namespace Sys2Proof.Safety

open Sys2Proof.Machine

/-! ### What a start carries over -/

/-- What no operation of a start touches within the parts that it does touch: pinned events, retained records and images; and no
command comes into hand where none was. -/
structure Carries (s t : State) : Prop where
  pinned : t.ev.pinned = s.ev.pinned
  learned : t.store.learned = s.store.learned
  checkpoint : t.store.checkpoint = s.store.checkpoint
  imps : t.store.imps = s.store.imps
  imageA : t.img.a = s.img.a
  imageB : t.img.b = s.img.b
  idle : s.cmd = {} → t.cmd = {}

theorem carries_refl (s : State) : Carries s s := ⟨rfl, rfl, rfl, rfl, rfl, rfl, id⟩

theorem carries_trans {s t u : State} (h : Carries s t) (k : Carries t u) : Carries s u :=
  ⟨k.pinned.trans h.pinned, k.learned.trans h.learned, k.checkpoint.trans h.checkpoint, k.imps.trans h.imps,
    k.imageA.trans h.imageA, k.imageB.trans h.imageB, fun c => k.idle (h.idle c)⟩

/-- An operation that leaves these four parts alone. -/
theorem carries_of_keeps {l : List Part} {s t : State} (k : KeepsBut l s t)
    (apart : [Part.ev, .store, .img, .cmd].all (fun p => decide (p ∉ l)) = true) : Carries s t := by
  simp only [List.all_cons, List.all_nil, Bool.and_true, Bool.and_eq_true, decide_eq_true_eq] at apart
  obtain ⟨hev, hstore, himg, hcmd⟩ := apart
  have ev : t.ev = s.ev := k .ev hev
  have store : t.store = s.store := k .store hstore
  have img : t.img = s.img := k .img himg
  have cmd : t.cmd = s.cmd := k .cmd hcmd
  exact ⟨by rw [ev], by rw [store], by rw [store], by rw [store], by rw [img], by rw [img], cmd.trans⟩

theorem carries_ite {s t u : State} {c : Prop} [Decidable c] (h : Carries s t) (k : Carries s u) : Carries s (if c then t else u) := by
  split <;> assumption

theorem carries_cond {s t u : State} {c : Prop} [Decidable c] (h : Carries s t) (k : Carries t u) :
    Carries s (if c then u else t) :=
  carries_ite (carries_trans h k) h

theorem carries_forEach {α : Type} (xs : List α) (f : α → State → State) (s : State) (h : ∀ a t, Carries t (f a t)) :
    Carries s (forEach xs f s) := by
  unfold forEach
  induction xs generalizing s with
  | nil => exact carries_refl s
  | cons x xs ih => exact carries_trans (h x s) (ih _)

section
variable (s : State)

theorem raiseAt_carries (code level : Nat) (pin : Bool) (time : DWord) (subject : Nat) (data : List Nat) :
    Carries s (raiseAt code level pin time subject data s) := by
  unfold raiseAt
  dsimp only
  split <;> exact ⟨rfl, rfl, rfl, rfl, rfl, rfl, id⟩

theorem raise_carries (code subject : Nat) (data : List Nat) : Carries s (raise code subject data s) := raiseAt_carries _ _ _ _ _ _ _

theorem queueWrite_carries (w : StoreWrite) : Carries s (queueWrite w s) := by
  unfold queueWrite
  split <;> exact ⟨rfl, rfl, rfl, rfl, rfl, rfl, id⟩

theorem finishAll_carries (sel : Pend → Bool) (r : Pend → Reply) : Carries s (finishAll sel r s) := by
  refine ⟨rfl, rfl, rfl, rfl, rfl, rfl, fun none_ => ?_⟩
  simp [finishAll, none_]

theorem modCon_carries (n : Chan) (f : ConCh → ConCh) : Carries s (modCon n f s) := carries_of_keeps (modCon_keeps n f s) (by decide)

theorem modIns_carries (n : Chan) (f : InsCh → InsCh) : Carries s (modIns n f s) := carries_of_keeps (modIns_keeps n f s) (by decide)

theorem modCyc_carries (n : Chan) (f : CycCh → CycCh) : Carries s (modCyc n f s) := carries_of_keeps (modCyc_keeps n f s) (by decide)

theorem markDirty_carries (n : Chan) : Carries s (markDirty n s) := carries_of_keeps (markDirty_keeps n s) (by decide)

theorem abortCycle_carries (n : Chan) (reason : Nat) : Carries s (abortCycle n reason s) := by
  unfold abortCycle
  dsimp only
  split
  · exact carries_refl s
  · split
    · exact carries_trans (modCon_carries _ _ _) (modCyc_carries _ _ _)
    · exact carries_trans (carries_trans (modCon_carries _ _ _) (modCyc_carries _ _ _)) (raise_carries _ _ _ _)

theorem dropService_carries (n : Chan) (st : Status) : Carries s (dropService n st s) := by
  unfold dropService
  split
  · exact carries_refl s
  · refine carries_trans ?_ (finishAll_carries _ _ _)
    refine carries_trans ?_ (modCon_carries _ _ _)
    exact ⟨rfl, rfl, rfl, rfl, rfl, rfl, id⟩

theorem setCh_carries (n : Chan) (new : ChState) (cause : Nat) (host : Bool) : Carries s (setCh n new cause host s) := by
  unfold setCh
  dsimp only
  refine carries_ite (carries_refl s) ?_
  refine carries_trans ?_ (markDirty_carries _ _)
  refine carries_trans ?_ (raise_carries _ _ _ _)
  refine carries_cond ?_ (queueWrite_carries _ _)
  refine carries_cond ?_ (modIns_carries _ _ _)
  have left : Carries s (if s.con[n].state = .active
      then abortCycle n 1 (modCon n (fun c => { c with state := new, cause := BitVec.ofNat 8 cause }) s)
      else modCon n (fun c => { c with state := new, cause := BitVec.ofNat 8 cause }) s) :=
    carries_cond (modCon_carries _ _ _) (abortCycle_carries _ _ _)
  exact carries_ite left (carries_trans left (dropService_carries _ _ _))

theorem endSeq_carries (n : Chan) (st : Status) : Carries s (endSeq n st s) := by
  unfold endSeq
  exact carries_cond (carries_trans (modCon_carries _ _ _) (markDirty_carries _ _)) (finishAll_carries _ _ _)

theorem quenchChan_carries (n : Chan) : Carries s (quenchChan n s) := by
  have safe (c : Prop) [Decidable c] (f : InsCh → InsCh) : Carries s (if c then modIns n f s else s) :=
    carries_cond (carries_refl s) (modIns_carries _ _ _)
  unfold quenchChan
  refine carries_ite ?_ (safe _ _)
  refine carries_cond ?_ (carries_of_keeps (seqStep_keeps _ _ _) (by decide))
  refine carries_cond ?_ (endSeq_carries _ _ _)
  refine carries_trans ?_ (setCh_carries _ _ _ _ _)
  refine carries_trans ?_ (modCon_carries _ _ _)
  exact carries_cond (safe _ _) (raise_carries _ _ _ _)

theorem openL0_carries (g origin : Nat) : Carries s (openL0 g origin s) := by
  unfold openL0
  split
  · exact ⟨rfl, rfl, rfl, rfl, rfl, rfl, id⟩
  · refine carries_trans ?_ (raiseAt_carries _ _ _ _ _ _ _)
    exact ⟨rfl, rfl, rfl, rfl, rfl, rfl, id⟩

theorem latch_carries (mask : Byte) (c : QCause) : Carries s (latch mask c s) := by
  have told (q : QmSt) (code subject : Nat) (data : List Nat) : Carries s (raise code subject data { s with qm := q }) := by
    refine carries_trans ?_ (raise_carries _ _ _ _)
    exact ⟨rfl, rfl, rfl, rfl, rfl, rfl, id⟩
  unfold latch
  refine carries_ite (told _ _ _ _) ?_
  refine carries_trans ?_ (carries_forEach _ _ _ fun g t => carries_forEach _ _ _ fun n u => quenchChan_carries u n)
  refine carries_trans ?_ (carries_of_keeps (broadcastTrip_keeps _ _ _) (by decide))
  exact carries_cond (told _ _ _ _) (carries_forEach _ _ _ fun g t => openL0_carries t _ _)

theorem evalMatrix_carries : Carries s (evalMatrix s) := by
  unfold evalMatrix
  exact carries_ite (carries_refl s) (latch_carries s _ _)

end

end Sys2Proof.Safety

namespace Sys2Proof.Safety

open Sys2Proof.Machine

/-! ### What a reset makes of the state (R39) -/

theorem foldl_keeps {α : Type} {l : List Part} (xs : List α) (f : State → α → State) (s : State)
    (h : ∀ t a, KeepsBut l t (f t a)) : KeepsBut l s (xs.foldl f s) := by
  induction xs generalizing s with
  | nil => exact keepsBut_refl _ _
  | cons x xs ih => exact keepsBut_trans (h s x) (ih _)

theorem modGrp_keeps (n : Chan) (i : Nat) (f : GrpSt → GrpSt) (s : State) : KeepsBut [.asyCh] s (modGrp n i f s) := modAsy_keeps _ _ _

theorem restoreSoc_keeps (s : State) : KeepsBut [.asyCh] s (restoreSoc s) := by
  unfold restoreSoc
  refine keepsBut_trans ?_ (foldl_keeps _ _ _ fun t e => modAsy_keeps _ _ t)
  exact foldl_keeps _ _ _ fun t e => modGrp_keeps _ _ _ t

theorem loadLearned_keeps (n : Chan) (r : LearnedRec) (s : State) : KeepsBut [.cyc, .asyCh] s (loadLearned n r s) := by
  unfold loadLearned
  refine keepsBut_trans ?_ (forEach_keeps _ _ _ fun g t => keepsBut_sub _ (modGrp_keeps _ _ _ t) rfl)
  exact keepsBut_trans (keepsBut_sub _ (modCyc_keeps _ _ _) rfl) (keepsBut_sub _ (modAsy_keeps _ _ _) rfl)

/-- The parts that the retained store fills again. -/
def restoredParts : List Part := [.cyc, .asyCh, .meas, .lo]

theorem restoreLearned_keeps (s : State) : KeepsBut restoredParts s (restoreLearned s) := by
  unfold restoreLearned
  refine keepsBut_trans ?_ (foldl_keeps _ _ _ fun t e => keepsBut_sub _ (modMeas_keeps _ _ t) rfl)
  refine keepsBut_trans ?_ (foldl_keeps _ _ _ fun t e => ?_)
  · refine foldl_keeps _ _ _ fun t e => ?_
    split
    · exact keepsBut_sub _ (loadLearned_keeps _ _ t) rfl
    · exact keepsBut_refl _ _
  · split
    · exact keepsBut_sub _ (modGrp_keeps _ _ _ t) rfl
    · exact keepsBut_refl _ _

theorem loReset_keeps (powerOn : Bool) (s : State) : KeepsBut [.lo] s (loReset powerOn s) := by
  unfold loReset
  refine keepsBut_trans (t := { s with lo := _ }) ?_ (forEach_keeps _ _ _ fun o t => modLo_keeps _ _ t)
  intro p hp; cases p <;> first | (simp at hp; done) | exact Eq.refl _

theorem restored_keeps (powerOn : Bool) (r : State) :
    KeepsBut restoredParts r (loReset powerOn (restoreLearned (restoreSoc r))) := by
  refine keepsBut_trans (keepsBut_sub _ (restoreSoc_keeps r) rfl) ?_
  exact keepsBut_trans (restoreLearned_keeps _) (keepsBut_sub _ (loReset_keeps _ _) rfl)

section
variable {c : StartCause} {s : State} (idle : s.store.inFlight = none)
include idle

/-- With no record in flight a reset first ends the assay cycles, which leaves all that it reads here. -/
theorem mainReset_makes : ∃ r : State, KeepsBut restoredParts r (mainReset c s) ∧
    r.tim = (if keepsLog c then { s.tim with follow := false } else { tb := s.tim.tb }) ∧ r.pwr = pwrAfter c s ∧
    r.hst = { a := portAfter c s.hst.a, b := portAfter c s.hst.b, activityAt := s.tim.tb } ∧
    r.ev.pinned = s.ev.pinned ∧ (keepsLog c = false → r.ev.log = []) ∧
    r.cfg = { stored := s.cfg.stored, marked := s.cfg.marked, eff := startValues s, seq := s.cfg.seq } ∧
    r.store = storeAfter s.store ∧ r.img = { a := s.img.a, b := s.img.b } ∧ r.thm = thmAfter c s.thm ∧ r.saf = s.saf ∧
    r.ports = State.reset.ports ∧ r.rings = State.reset.rings ∧ r.win = [] ∧ r.cmd = State.reset.cmd ∧ r.pending = s.pending := by
  have cut : cutWrite (c = .thermal) s = s := by simp only [cutWrite, idle]
  have ends := forEach_keeps (l := [.con, .cyc, .ev]) allChans (fun n s => abortCycle n 6 s) s fun n t => abortCycle_keeps n 6 t
  have carries := carries_forEach allChans (fun n s => abortCycle n 6 s) s fun n t => abortCycle_carries t n 6
  refine ⟨_, restored_keeps _ _, ?_⟩
  rw [cut]
  generalize forEach allChans (fun n s => abortCycle n 6 s) s = t at ends carries
  have tim : t.tim = s.tim := ends .tim (by decide)
  have pwr : t.pwr = s.pwr := ends .pwr (by decide)
  have hst : t.hst = s.hst := ends .hst (by decide)
  have cfg : t.cfg = s.cfg := ends .cfg (by decide)
  have store : t.store = s.store := ends .store (by decide)
  have flt : t.flt = s.flt := ends .flt (by decide)
  have closed : toClose c t = toClose c s := by simp only [toClose, pwr, flt]
  have started : startValues t = startValues s := by simp only [startValues, cfg]
  have log (kept : keepsLog c = false) : (logAfter c t.ev).log = [] := by simp [logAfter, kept]
  have pinned : (logAfter c t.ev).pinned = t.ev.pinned := by
    unfold logAfter
    split <;> rfl
  refine ⟨?_, ?_, ?_, pinned.trans carries.pinned, log, ?_, congrArg storeAfter store, ?_, congrArg (thmAfter c) (ends .thm (by decide)),
    ends .saf (by decide), rfl, rfl, rfl, rfl, ends .pending (by decide)⟩
  · rw [← tim]
  · simp only [pwrAfter, closed, pwr]
  · rw [← hst, ← tim]
  · rw [← started, ← cfg]
  · rw [← carries.imageA, ← carries.imageB]

end

/-! ### The start (R42) -/

/-- The parts that a start may change. -/
def startParts : List Part := .pwr :: .thm :: .ports :: .hst :: quenchParts

section
variable (s : State)

/-- The image runs on a state `t` that has its marks and roles and is dark on no port, and then evaluates the matrix. -/
theorem imageStarts_evaluates : ∃ t : State, imageStarts s = evalMatrix (recomputeDeadline t) ∧
    KeepsBut [.pwr, .thm, .twn, .ports] s t ∧
    t.pwr = { s.pwr with imageRuns := true, configLoaded := true, matrixOk := true, dark := false } := by
  refine ⟨_, rfl, ?_, forEach_keeps _ _ _ (fun p t => modPort_keeps p _ t) .pwr (by decide)⟩
  refine keepsBut_trans ?_ (forEach_keeps _ _ _ fun p t => keepsBut_sub _ (modPort_keeps p _ t) rfl)
  intro p hp; cases p <;> first | (simp at hp; done) | exact Eq.refl _

theorem imageStarts_keeps : KeepsBut startParts s (imageStarts s) := by
  obtain ⟨t, e, keeps, -⟩ := imageStarts_evaluates s
  rw [e]
  refine keepsBut_trans (keepsBut_sub _ keeps rfl) ?_
  exact keepsBut_trans (keepsBut_sub _ (recomputeDeadline_keeps t) rfl) (keepsBut_sub _ (evalMatrix_keeps _) rfl)

theorem imageStarts_carries : Carries s (imageStarts s) := by
  obtain ⟨t, e, keeps, -⟩ := imageStarts_evaluates s
  rw [e]
  refine carries_trans (carries_of_keeps keeps (by decide)) ?_
  exact carries_trans (carries_of_keeps (recomputeDeadline_keeps t) (by decide)) (evalMatrix_carries _)

theorem imageStarts_pwr :
    (imageStarts s).pwr = { s.pwr with imageRuns := true, configLoaded := true, matrixOk := true, dark := false } := by
  obtain ⟨t, e, -, pwr⟩ := imageStarts_evaluates s
  rw [e]
  exact (evalMatrix_keeps _ .pwr (by decide)).trans pwr

theorem imageStarts_hst : ∃ d, (imageStarts s).hst = { s.hst with refDeadline := d } := by
  obtain ⟨t, e, keeps, -⟩ := imageStarts_evaluates s
  have hst : t.hst = s.hst := keeps .hst (by decide)
  rw [e, ← hst]
  exact ⟨_, evalMatrix_keeps _ .hst (by decide)⟩

theorem boot_keeps : KeepsBut startParts s (boot s) := by
  unfold boot
  dsimp only
  split
  · exact keepsBut_sub _ (keepsBut_trans (keepsBut_pwr s _) (keepsBut_pwr _ _)) rfl
  · refine keepsBut_trans ?_ (imageStarts_keeps _)
    exact keepsBut_sub _ (keepsBut_trans (keepsBut_pwr s _) (keepsBut_pwr _ _)) rfl

theorem boot_carries : Carries s (boot s) := by
  unfold boot
  dsimp only
  split
  · exact ⟨rfl, rfl, rfl, rfl, rfl, rfl, id⟩
  · refine carries_trans ?_ (imageStarts_carries _)
    exact ⟨rfl, rfl, rfl, rfl, rfl, rfl, id⟩

/-- A start counts itself, picks a bank and marks its progress; the rest of the supply and boot record stays (R42; 17 R494). -/
theorem boot_pwr : ∃ (m : ModState) (k : Bank) (f b r l o d : Bool) (a : Nat), (boot s).pwr = { s.pwr with
    boot := s.pwr.boot + 1, mod := m, bank := k, fallback := f, fallbackByCount := b, imageRuns := r, configLoaded := l
    matrixOk := o, dark := d, attempts := a } := by
  unfold boot
  dsimp only
  split
  · exact ⟨_, _, _, _, _, _, _, _, _, rfl⟩
  · exact ⟨_, _, _, _, _, _, _, _, _, imageStarts_pwr _⟩

theorem boot_hst : ∃ d, (boot s).hst = { s.hst with refDeadline := d } := by
  unfold boot
  dsimp only
  split
  · exact ⟨_, rfl⟩
  · exact imageStarts_hst _

end

/-! ### What the rows leave -/

/-- What a reset of cause `c` leaves of `s` in `u` (R39). -/
def KeptBy (c : StartCause) (s u : State) : Prop :=
  u.cfg.stored = s.cfg.stored ∧ u.cfg.seq = s.cfg.seq ∧ u.cfg.marked = s.cfg.marked ∧ u.cfg.staged = [] ∧
  u.ev.pinned = s.ev.pinned ∧ u.store.learned = s.store.learned ∧ u.store.checkpoint = s.store.checkpoint ∧
  u.store.imps = s.store.imps ∧ u.win = [] ∧ u.rings = State.reset.rings ∧ u.hst.active = .a ∧ u.cmd = State.reset.cmd ∧
  u.pwr.cause = c ∧ u.pwr.prefBank = s.pwr.prefBank ∧ u.img.a = s.img.a ∧ u.img.b = s.img.b ∧
  u.saf.so = s.saf.so ∧ u.saf.pair = s.saf.pair ∧ u.saf.si = s.saf.si ∧ u.saf.running = s.saf.running ∧
  u.saf.degraded = s.saf.degraded

section
variable {c : StartCause} {s t : State}

theorem mainReset_kept (idle : s.store.inFlight = none) : KeptBy c s (mainReset c s) := by
  obtain ⟨r, keeps, -, pwr, hst, pinned, -, cfg, store, img, -, saf, -, rings, win, cmd, -⟩ := mainReset_makes (c := c) idle
  have ev : (mainReset c s).ev = r.ev := keeps .ev (by decide)
  simp only [KeptBy, ev, pinned, (keeps .cfg (by decide)).trans cfg, (keeps .store (by decide)).trans store,
    (keeps .win (by decide)).trans win, (keeps .rings (by decide)).trans rings, (keeps .hst (by decide)).trans hst,
    (keeps .cmd (by decide)).trans cmd, (keeps .pwr (by decide)).trans pwr, (keeps .img (by decide)).trans img,
    (keeps .saf (by decide)).trans saf, storeAfter, pwrAfter, and_self]

/-- The start that follows keeps it. -/
theorem boot_kept (kept : KeptBy c s t) : KeptBy c s (boot t) := by
  have cfg : (boot t).cfg = t.cfg := boot_keeps t .cfg (by decide)
  have win : (boot t).win = t.win := boot_keeps t .win (by decide)
  have rings : (boot t).rings = t.rings := boot_keeps t .rings (by decide)
  have saf : (boot t).saf = t.saf := boot_keeps t .saf (by decide)
  have carries := boot_carries t
  obtain ⟨_, _, _, _, _, _, _, _, _, pwr⟩ := boot_pwr t
  obtain ⟨_, hst⟩ := boot_hst t
  unfold KeptBy at kept ⊢
  have idle : (boot t).cmd = t.cmd := by
    obtain ⟨-, -, -, -, -, -, -, -, -, -, -, cmd, -⟩ := kept
    exact (carries.idle cmd).trans cmd.symm
  rw [cfg, win, rings, saf, carries.pinned, carries.learned, carries.checkpoint, carries.imps, carries.imageA, carries.imageB, idle,
    pwr, hst]
  exact kept

theorem bootIfUp_kept (kept : KeptBy c s t) : KeptBy c s (bootIfUp t) := by
  unfold bootIfUp
  split
  · exact boot_kept kept
  · exact kept

end

section
variable {s t : State}

theorem mainUp_of_pwr (p : t.pwr.clockHeld = s.pwr.clockHeld ∧ t.pwr.thermalHeld = s.pwr.thermalHeld ∧
    t.pwr.supplyHeld = s.pwr.supplyHeld) : mainUp t = mainUp s := by
  simp only [mainUp, p]

theorem mainUp_mainReset (c : StartCause) (idle : s.store.inFlight = none) : mainUp (mainReset c s) = mainUp s := by
  obtain ⟨r, keeps, -, pwr, -⟩ := mainReset_makes (c := c) idle
  have e := (keeps .pwr (by decide)).trans pwr
  refine mainUp_of_pwr ?_
  rw [e]
  exact ⟨rfl, rfl, rfl⟩

theorem mainUp_boot (s : State) : mainUp (boot s) = mainUp s := by
  obtain ⟨_, _, _, _, _, _, _, _, _, pwr⟩ := boot_pwr s
  refine mainUp_of_pwr ?_
  rw [pwr]
  exact ⟨rfl, rfl, rfl⟩

theorem bootIfUp_boots (up : mainUp s = true) : bootIfUp s = boot (readHallmark s.saf.present[0] s.saf.present[1] s) := if_pos up

/-- A start of a main domain that nothing holds. -/
theorem bootIfUp_up (up : mainUp s = true) : mainUp (bootIfUp s) = true ∧ (bootIfUp s).pwr.boot = s.pwr.boot + 1 := by
  obtain ⟨_, _, _, _, _, _, _, _, _, pwr⟩ := boot_pwr (readHallmark s.saf.present[0] s.saf.present[1] s)
  rw [bootIfUp_boots up, mainUp_boot, pwr]
  exact ⟨up, rfl⟩

theorem bootIfUp_keeps : KeepsBut (.saf :: startParts) s (bootIfUp s) := by
  unfold bootIfUp
  split
  · refine keepsBut_trans ?_ (keepsBut_sub _ (boot_keeps _) rfl)
    intro p hp; cases p <;> first | (simp at hp; done) | (simp [startParts] at hp; done) | exact Eq.refl _
  · exact keepsBut_refl _ _

/-- A start leaves the registers of the host ports. -/
theorem bootIfUp_hosts (s : State) : (bootIfUp s).hst.a = s.hst.a ∧ (bootIfUp s).hst.b = s.hst.b := by
  unfold bootIfUp
  split
  · obtain ⟨_, hst⟩ := boot_hst (readHallmark s.saf.present[0] s.saf.present[1] s)
    rw [hst]
    exact ⟨rfl, rfl⟩
  · exact ⟨rfl, rfl⟩

/-- A row that clears the window answers the state it makes when that has an empty window, the queue and the time base. -/
theorem doneWin_cleared (w : t.win = []) (p : t.pending = s.pending) (b : t.tim.tb = s.tim.tb) : doneWin s [] t = .next (settle t) := by
  rw [doneWin_of_keeps [] p b, ← w]

/-- Station time is lost or kept by the column of R39. -/
theorem mainReset_time (c : StartCause) (idle : s.store.inFlight = none) : (mainReset c s).tim.tb = s.tim.tb ∧
    (keepsLog c = true → (mainReset c s).tim.station = s.tim.station ∧ (mainReset c s).tim.lock = s.tim.lock) ∧
    (keepsLog c = false → (mainReset c s).tim.station = 0 ∧ (mainReset c s).tim.lock = .unset) := by
  obtain ⟨r, keeps, tim, -⟩ := mainReset_makes (c := c) idle
  rw [show (mainReset c s).tim = r.tim from keeps .tim (by decide), tim]
  cases keepsLog c <;> simp

end

end Sys2Proof.Safety

namespace Sys2Proof.Safety

open Sys2Proof.Machine

/-! ### The reset rows -/

section
variable {c : StartCause} {s : State}

theorem mainReset_pending (c : StartCause) (idle : s.store.inFlight = none) : (mainReset c s).pending = s.pending := by
  obtain ⟨r, keeps, -, -, -, -, -, -, -, -, -, -, -, -, -, -, pending⟩ := mainReset_makes (c := c) idle
  exact (keeps .pending (by decide)).trans pending

theorem KeptBy.win {u : State} (kept : KeptBy c s u) : u.win = [] := by
  obtain ⟨-, -, -, -, -, -, -, -, win, -⟩ := kept
  exact win

/-- A row that resets a state `t` with the queue and time base of `s` and leaves the main domain in reset. -/
theorem doneWin_mainReset {t : State} (idle : t.store.inFlight = none) (p : t.pending = s.pending) (b : t.tim.tb = s.tim.tb) :
    doneWin s [] (mainReset c t) = .next (settle (mainReset c t)) :=
  doneWin_cleared (mainReset_kept idle).win ((mainReset_pending c idle).trans p) ((mainReset_time c idle).1.trans b)

/-- The main domain in reset: BOOTING, its ports dark (R40). -/
theorem mainReset_held (idle : s.store.inFlight = none) (down : mainUp s = false) : (mainReset c s).pwr.mod = .booting ∧
    (mainReset c s).pwr.dark = true ∧ (mainReset c s).ports = State.reset.ports ∧ mainUp (mainReset c s) = false := by
  obtain ⟨r, keeps, -, pwr, -, -, -, -, -, -, -, -, ports, -⟩ := mainReset_makes (c := c) idle
  rw [(keeps .pwr (by decide)).trans pwr]
  exact ⟨rfl, rfl, (keeps .ports (by decide)).trans ports, (mainUp_mainReset c idle).trans down⟩

/-- A row that resets the main domain and lets it start at once. -/
theorem resetNow_starts (idle : s.store.inFlight = none) (up : mainUp s = true) : ∃ u, resetNow c s = .next (settle u) ∧
    KeptBy c s u ∧ u.tim = (mainReset c s).tim ∧ u.pwr.boot = s.pwr.boot + 1 ∧
    u.hst.a = portAfter c s.hst.a ∧ u.hst.b = portAfter c s.hst.b := by
  obtain ⟨r, keeps, -, pwr, hst, -⟩ := mainReset_makes (c := c) idle
  have up' := (mainUp_mainReset c idle).trans up
  have kept := bootIfUp_kept (mainReset_kept (c := c) idle)
  have tim : (bootIfUp (mainReset c s)).tim = (mainReset c s).tim := bootIfUp_keeps .tim (by decide)
  have pending : (bootIfUp (mainReset c s)).pending = (mainReset c s).pending := bootIfUp_keeps .pending (by decide)
  have pwr : (mainReset c s).pwr = pwrAfter c s := (keeps .pwr (by decide)).trans pwr
  have hst : (mainReset c s).hst = _ := (keeps .hst (by decide)).trans hst
  refine ⟨_, doneWin_cleared kept.win (pending.trans (mainReset_pending c idle)) ?_, kept, tim, ?_, ?_⟩
  · rw [tim]
    exact (mainReset_time c idle).1
  · rw [(bootIfUp_up up').2, pwr]
    rfl
  · rw [(bootIfUp_hosts _).1, (bootIfUp_hosts _).2, hst]
    exact ⟨rfl, rfl⟩

/-- The same for the columns of R39 that keep the time. -/
theorem resetNow_keepsTime (idle : s.store.inFlight = none) (up : mainUp s = true) (keepsTime : keepsLog c = true) :
    ∃ u, resetNow c s = .next (settle u) ∧ KeptBy c s u ∧ (u.tim.station = s.tim.station ∧ u.tim.lock = s.tim.lock) ∧
      u.pwr.boot = s.pwr.boot + 1 := by
  obtain ⟨u, e, kept, tim, boot, -⟩ := resetNow_starts (c := c) idle up
  refine ⟨u, e, kept, ?_, boot⟩
  rw [tim]
  exact (mainReset_time c idle).2.1 keepsTime

theorem mainReset_log (idle : s.store.inFlight = none) (clears : keepsLog c = false) : (mainReset c s).ev.log = [] := by
  obtain ⟨r, keeps, -, -, -, -, log, -⟩ := mainReset_makes (c := c) idle
  rw [show (mainReset c s).ev = r.ev from keeps .ev (by decide)]
  exact log clears

theorem mainReset_pwr (idle : s.store.inFlight = none) : (mainReset c s).pwr = pwrAfter c s := by
  obtain ⟨r, keeps, -, pwr, -⟩ := mainReset_makes (c := c) idle
  exact (keeps .pwr (by decide)).trans pwr

theorem mainReset_thm (idle : s.store.inFlight = none) : (mainReset c s).thm = thmAfter c s.thm := by
  obtain ⟨r, keeps, -, -, -, -, -, -, -, -, thm, -⟩ := mainReset_makes (c := c) idle
  exact (keeps .thm (by decide)).trans thm

end

/-- What `KeptBy` asks of the state before the reset. -/
theorem keptBy_of_same {c : StartCause} {s t u : State} (cfg : t.cfg = s.cfg) (pinned : t.ev.pinned = s.ev.pinned)
    (store : t.store = s.store) (bank : t.pwr.prefBank = s.pwr.prefBank) (img : t.img = s.img) (saf : t.saf = s.saf)
    (kept : KeptBy c t u) : KeptBy c s u := by
  unfold KeptBy at kept ⊢
  rwa [cfg, pinned, store, bank, img, saf] at kept

/-! Reading the switches (01 R15) changes what the boot record and the supervisor hold of them. -/

section
variable (a b : Byte) (t : State)

theorem readHallmark_pwr : (readHallmark a b t).pwr = { t.pwr with hbA := a, hbB := b } := rfl

theorem readHallmark_keeps : KeepsBut [.pwr, .saf] t (readHallmark a b t) := by
  intro p hp; cases p <;> first | (simp at hp; done) | exact Eq.refl _

theorem readHallmark_kept {c : StartCause} {s : State} (kept : KeptBy c s t) : KeptBy c s (readHallmark a b t) := kept

end

section
variable {s : State} (idle : s.store.inFlight = none)
include idle

/-- POWER_ON reads the switches after the reset, and the main domain starts unless a comparator holds it (R39). -/
theorem powerOn_resets (a b : Byte) : ∃ u, exec (.powerOn a b) s = .next (settle u) ∧ KeptBy .powerOn s u ∧
    (u.tim.station = 0 ∧ u.tim.lock = .unset) ∧
    (s.pwr.thermalHeld = false → u.pwr.hbA = a ∧ u.pwr.hbB = b ∧ u.pwr.boot = s.pwr.boot + 1) := by
  obtain ⟨p, hp⟩ : ∃ p : PwrSt, p = { s.pwr with
      clockHeld := false, supplyHeld := false, thermalHeld := s.pwr.thermalHeld && s.thm.comparators ≠ 0 } := ⟨_, rfl⟩
  obtain ⟨t, ht⟩ : ∃ t : State, t = { s with pwr := p } := ⟨_, rfl⟩
  obtain ⟨r, hr⟩ : ∃ r : State, r = readHallmark a b (mainReset .powerOn t) := ⟨_, rfl⟩
  obtain ⟨u, hu⟩ : ∃ u : State, u = if mainUp r then boot r else r := ⟨_, rfl⟩
  have e : exec (.powerOn a b) s = doneWin s [] u := by rw [hu, hr, ht, hp]; rfl
  have idle' : t.store.inFlight = none := by rw [ht]; exact idle
  have reads : KeepsBut [.pwr, .saf] (mainReset .powerOn t) r := hr ▸ readHallmark_keeps _ _ _
  have starts : KeepsBut startParts r u := hu ▸ keepsBut_cond (keepsBut_refl _ _) (boot_keeps r)
  have pwr : r.pwr = { pwrAfter .powerOn t with hbA := a, hbB := b } := by rw [hr, readHallmark_pwr, mainReset_pwr idle']
  have tim : u.tim = (mainReset .powerOn t).tim := Eq.trans (starts .tim (by decide)) (reads .tim (by decide))
  have pending : u.pending = (mainReset .powerOn t).pending := Eq.trans (starts .pending (by decide)) (reads .pending (by decide))
  have kept : KeptBy .powerOn s r := by
    refine keptBy_of_same (t := t) ?_ ?_ ?_ ?_ ?_ ?_ (hr ▸ readHallmark_kept a b _ (mainReset_kept idle')) <;> rw [ht]
    rw [hp]
  have after : KeptBy .powerOn s u := by
    rw [hu]
    split
    · exact boot_kept kept
    · exact kept
  refine ⟨u, e.trans (doneWin_cleared after.win ?_ ?_), after, ?_, fun cool => ?_⟩
  · rw [pending, mainReset_pending _ idle', ht]
  · rw [tim, (mainReset_time _ idle').1, ht]
  · rw [tim]
    exact (mainReset_time _ idle').2.2 rfl
  · have up : mainUp r = true := by simp [mainUp, pwr, pwrAfter, ht, hp, cool]
    obtain ⟨_, _, _, _, _, _, _, _, _, booted⟩ := boot_pwr r
    rw [hu, if_pos up, booted, pwr, ht, hp]
    exact ⟨rfl, rfl, rfl⟩

/-- A row that holds the main domain and loses the time clears the log (R27, R39, R47). -/
theorem mainReset_holds (c : StartCause) (p : PwrSt) (bank : p.prefBank = s.pwr.prefBank) (lost : keepsLog c = false)
    (down : mainUp { s with pwr := p } = false) : ∃ u, doneWin s [] (mainReset c { s with pwr := p }) = .next (settle u) ∧
      KeptBy c s u ∧ (u.tim.station = 0 ∧ u.tim.lock = .unset) ∧
      (u.pwr.mod = .booting ∧ u.pwr.dark = true ∧ u.ports = State.reset.ports ∧ mainUp u = false) ∧ u.ev.log = [] ∧
      u.pwr.clockHeld = p.clockHeld ∧ u.pwr.supplyHeld = p.supplyHeld ∧ u.pwr.boot = p.boot := by
  have idle' : ({ s with pwr := p } : State).store.inFlight = none := idle
  refine ⟨_, doneWin_mainReset idle' rfl rfl, keptBy_of_same (t := { s with pwr := p }) rfl rfl rfl bank rfl rfl (mainReset_kept idle'),
    (mainReset_time c idle').2.2 lost, mainReset_held idle' down, mainReset_log idle' lost, ?_⟩
  rw [mainReset_pwr idle']
  exact ⟨rfl, rfl, rfl⟩

omit idle in
theorem abandonCheckpoint_keeps (s : State) : KeepsBut [.ev] s (abandonCheckpoint s) :=
  keepsBut_ite (raise_keeps _ _ _ _) (keepsBut_refl _ _)

omit idle in
theorem abandonCheckpoint_carries (s : State) : Carries s (abandonCheckpoint s) := carries_ite (raise_carries _ _ _ _) (carries_refl _)

omit idle in
theorem keepsBut_thm_pwr (s : State) (x : ThmSt) (y : PwrSt) : KeepsBut [.thm, .pwr] s { s with thm := x, pwr := y } := by
  intro p hp; cases p <;> first | (simp at hp; done) | exact Eq.refl _

/-- A thermal shutdown keeps what MRST keeps, holds the main domain and latches what it reports at READY (13 R399, R400). -/
theorem thermalShutdown_holds (comparators : BitVec 4) (k : BitVec 2) (peak : Half) (hot : comparators ≠ 0)
    (running : s.pwr.thermalHeld = false) : ∃ u, exec (.thermalShutdown comparators k peak) s = .next (settle u) ∧
      KeptBy .thermal s u ∧ (u.tim.station = s.tim.station ∧ u.tim.lock = s.tim.lock) ∧
      (u.pwr.mod = .booting ∧ u.pwr.dark = true ∧ u.ports = State.reset.ports ∧ mainUp u = false) ∧
      u.pwr.thermalHeld = true ∧ u.thm.shutdowns = s.thm.shutdowns + 1 ∧
      ∃ r, u.thm.latched = some r ∧ r.sensor = k ∧ r.peak = peak := by
  obtain ⟨a, ha⟩ : ∃ a : State, a = abandonCheckpoint { s with thm := { s.thm with comparators := comparators } } := ⟨_, rfl⟩
  have told : KeepsBut [.thm, .ev] s a := by
    rw [ha]
    exact keepsBut_trans (keepsBut_sub _ (keepsBut_thm s _) rfl) (keepsBut_sub _ (abandonCheckpoint_keeps _) rfl)
  have pinned : a.ev.pinned = s.ev.pinned := by rw [ha]; exact (abandonCheckpoint_carries _).pinned
  have thm : a.thm = { s.thm with comparators := comparators } := by rw [ha]; exact abandonCheckpoint_keeps _ .thm (by decide)
  have pwr : a.pwr = s.pwr := told .pwr (by decide)
  obtain ⟨r, times, n, rs, rp, e⟩ : ∃ (r : ShutRec) (times : List Nat) (n : Nat), r.sensor = k ∧ r.peak = peak ∧
      exec (.thermalShutdown comparators k peak) s = doneWin s [] (mainReset .thermal { a with
        thm := { a.thm with shutdowns := a.thm.shutdowns + 1, shutTimes := times, latched := some r }
        pwr := { a.pwr with thermalHeld := true, attempts := n } }) := by
    rw [ha]
    exact ⟨_, _, _, rfl, rfl, (if_neg hot).trans (if_neg (by simp [running]))⟩
  obtain ⟨t, ht⟩ : ∃ t : State, t = { a with
      thm := { a.thm with shutdowns := a.thm.shutdowns + 1, shutTimes := times, latched := some r }
      pwr := { a.pwr with thermalHeld := true, attempts := n } } := ⟨_, rfl⟩
  rw [← ht] at e
  have same : KeepsBut [.thm, .ev, .pwr] s t := by
    rw [ht]
    exact keepsBut_trans (keepsBut_sub (l := [.thm, .ev]) _ told rfl) (keepsBut_sub (l := [.thm, .pwr]) _ (keepsBut_thm_pwr _ _ _) rfl)
  have tim : t.tim = s.tim := same .tim (by decide)
  have store : t.store = s.store := same .store (by decide)
  have idle' : t.store.inFlight = none := by rw [store, idle]
  have down : mainUp t = false := by rw [ht]; simp [mainUp]
  refine ⟨_, e.trans (doneWin_mainReset idle' (same .pending (by decide)) (by rw [tim])), ?_, ?_, mainReset_held idle' down, ?_, ?_, ?_⟩
  · refine keptBy_of_same (t := t) (same .cfg (by decide)) ?_ store ?_ (same .img (by decide)) (same .saf (by decide)) (mainReset_kept idle')
    · rw [ht, pinned]
    · rw [ht, pwr]
  · rw [← tim]
    exact (mainReset_time .thermal idle').2.1 rfl
  · rw [mainReset_pwr idle', ht]
    rfl
  · rw [mainReset_thm idle', ht, thm]
    rfl
  · rw [mainReset_thm idle', ht]
    exact ⟨r, rfl, rs, rp⟩

end

/-- The clocks back, or the comparators cool: nothing holds the main domain and it starts (R27, R400). -/
theorem clockRestored_starts {s : State} (held : s.pwr.clockHeld = true) (cool : s.pwr.thermalHeld = false)
    (supply : s.pwr.supplyHeld = false) :
    ∃ u, exec .clockRestored s = .next (settle u) ∧ mainUp u = true ∧ u.pwr.boot = s.pwr.boot + 1 := by
  obtain ⟨t, ht⟩ : ∃ t : State, t = { s with pwr := { s.pwr with clockHeld := false }, tim := { tb := s.tim.tb } } := ⟨_, rfl⟩
  have e : exec .clockRestored s = done s (bootIfUp t) := by rw [ht]; exact if_pos held
  have up : mainUp t = true := by simp [ht, mainUp, cool, supply]
  have boot : t.pwr.boot = s.pwr.boot := by rw [ht]
  exact ⟨_, e, (bootIfUp_up up).1, boot ▸ (bootIfUp_up up).2⟩

theorem thermalRestart_starts {s : State} (held : s.pwr.thermalHeld = true) (clocks : s.pwr.clockHeld = false)
    (supply : s.pwr.supplyHeld = false) :
    ∃ u, exec .thermalRestart s = .next (settle u) ∧ mainUp u = true ∧ u.pwr.boot = s.pwr.boot + 1 := by
  obtain ⟨t, ht⟩ : ∃ t : State, t = { s with pwr := { s.pwr with thermalHeld := false }, thm := { s.thm with comparators := 0 } } :=
    ⟨_, rfl⟩
  have e : exec .thermalRestart s = done s (bootIfUp t) := by rw [ht]; exact if_pos held
  have up : mainUp t = true := by simp [ht, mainUp, clocks, supply]
  have boot : t.pwr.boot = s.pwr.boot := by rw [ht]
  exact ⟨_, e, (bootIfUp_up up).1, boot ▸ (bootIfUp_up up).2⟩

/-- Settles O18: each row is `mainReset` of its cause, whose record of what stays is `mainReset_kept`, and the start after it
keeps the same (`boot_kept`). -/
theorem resetsKeepWhatTheTableKeeps : Obligations.ResetsKeepWhatTheTableKeeps := by
  intro s idle
  refine ⟨powerOn_resets idle, fun up => resetNow_keepsTime idle up rfl, fun up => ?watchdog, fun up due => ?deferred,
    fun none => idles_of_done (if_neg (by simp [none])), fun _ => ?clock, ?rail, fun warn supply => ?reserve,
    fun calm => idles_of_done (if_pos (by simp [calm])), fun c k peak hot running => thermalShutdown_holds idle c k peak hot running,
    clockRestored_starts, fun runs => idles_of_done (if_neg (by simp [runs])), thermalRestart_starts,
    fun cool => idles_of_done (if_neg (by simp [cool]))⟩
  case watchdog =>
    obtain ⟨u, e, rest⟩ := resetNow_keepsTime (c := .watchdog) idle up rfl
    exact ⟨u, (if_pos up).trans e, rest⟩
  case deferred =>
    obtain ⟨u, e, keeps, tim, boot, a, b⟩ := resetNow_starts (c := .resetModule) idle up
    refine ⟨u, (if_pos ?_).trans e, keeps, ?_, boot, ?_, ?_⟩
    · simp [up, Option.isSome_iff_ne_none, due]
    · dsimp only
      rw [tim]
      exact (mainReset_time .resetModule idle).2.1 rfl
    · rw [a]
      rfl
    · rw [b]
      rfl
  case clock =>
    obtain ⟨u, e, keeps, lost, down, log, clock, -, boot⟩ := mainReset_holds idle .clockLoss { s.pwr with clockHeld := true } rfl rfl rfl
    exact ⟨u, e, keeps, lost, down, log, clock, boot⟩
  case rail =>
    obtain ⟨u, e, keeps, lost, down, log, clock, -⟩ := mainReset_holds idle .rail { s.pwr with clockHeld := true } rfl rfl rfl
    exact ⟨u, e, keeps, lost, down, log, clock⟩
  case reserve =>
    obtain ⟨u, e, keeps, lost, down, log, -, spent, -⟩ := mainReset_holds idle .powerOn { s.pwr with supplyHeld := true } rfl rfl
      (by simp [mainUp])
    exact ⟨u, (if_neg (by simp [warn, supply])).trans e, keeps, lost, down, log, spent⟩

end Sys2Proof.Safety

/-! ## SUPPORT. The form of the shared window (03 *BAR2 layout*) -/

namespace Sys2Proof.Safety

open Sys2Proof.Machine

/-- Settles O5: a tick leaves the window, and a command hands to `settle` a window that is canonical when that of its state is. -/
theorem stepKeepsWindowForm : Obligations.StepKeepsWindowForm := by
  intro s t form e
  unfold step at e
  split at e
  case h_1 =>
    obtain rfl : tick s = t := Host.Outcome.next.inj e
    exact form
  case h_2 c rest _ =>
    obtain ⟨u, ends, -, -, wf⟩ := exec_completes c { s with pending := rest }
    obtain rfl : settle u = t := Host.Outcome.next.inj (ends.symm.trans e)
    exact settle_wf u (wf form)

/-- Settles O6: the window of the reset state lists no byte. -/
theorem resetWindowForm : Obligations.ResetWindowForm := rfl

end Sys2Proof.Safety

/-! ## SUPPORT. Commands on a wrong ring, and commands for a busy target (03 R67, R68, R71) -/

namespace Sys2Proof.Safety

open Sys2Proof.Machine

theorem armReference_of_hostForm {c : Instr} {h : Hdr} {least : Nat} {g : Target} {pends : Bool}
    (form : hostForm c = some (h, 0x0301, least, g, pends)) : ∃ ref, c = .armReference h ref := by
  unfold hostForm at form
  split at form
  case h_14 h' ref =>
    cases form
    exact ⟨ref, rfl⟩
  all_goals simp at form

/-- Where ARM_REFERENCE keeps no reference, its row too runs on the state itself: on a wrong ring, or where its ring gives no
slot. -/
theorem exec_of_hostForm_unkept {c : Instr} {h : Hdr} {op least : Nat} {g : Target} {pends : Bool} {s : State}
    (form : hostForm c = some (h, op, least, g, pends))
    (away : takeSlot h.ring s = none ∨ h.ring.val ≠ (if op = 0x0301 then 0 else 2)) :
    ∃ body, exec c s = hostCmd h op least g pends body s := by
  by_cases arm : op = 0x0301
  · subst arm
    obtain ⟨ref, rfl⟩ := armReference_of_hostForm form
    cases form
    refine ⟨takeRef ref, congrArg (hostCmd h 0x0301 52 .none false (takeRef ref)) (if_neg ?_)⟩
    obtain none_ | wrong := away
    · simp [none_]
    · simp only [if_true] at wrong
      simp [wrong]
  · obtain ⟨body, x, e, -, other⟩ := exec_of_hostForm form s
    obtain rfl : x = s.ins := other arm
    exact ⟨body, e⟩

section
variable {c : Instr} {h : Hdr} {op : Nat} {s t : State} {idx : Word}

/-- A command that is refused behind its taking, with nothing done but the reply. -/
theorem replies_of_refusal (slot : takeSlot h.ring s = some (idx, t)) {r : Reply}
    (e : exec c s = done s (putTaken h op idx (some r) t)) : Replies c h op idx s t r [] (fun _ => True) := by
  have kept := takeSlot_keeps slot
  refine ⟨putTaken h op idx (some r) t, ?_, rfl, rfl, rfl, putTaken_keeps h op idx (some r) t, trivial⟩
  exact e.trans (done_of_keeps (kept .win (by decide)) (kept .pending (by decide)) (congrArg TimSt.tb (kept .tim (by decide))))

theorem execUnknownOpcode_taken {w : Half} (slot : takeSlot h.ring s = some (idx, t)) :
    exec (.unknownOpcode h w) s = done s (putTaken h w.toNat idx (some (reply .badOpcode)) t) := by
  simp only [exec, execUnknownOpcode, slot]

theorem execUnknownOpcode_none {w : Half} (none_ : takeSlot h.ring s = none) : exec (.unknownOpcode h w) s = done s s := by
  simp only [exec, execUnknownOpcode, none_]

end

/-- Settles O8: `hostCmd` judges the ring first, and UNKNOWN_OPCODE has no other answer. -/
theorem wrongRingIsBadOpcode : Obligations.WrongRingIsBadOpcode := by
  refine ⟨fun c h op least g pends s t idx form slot wrong => ?_, fun h op s t idx slot => ?_, fun h op s none_ => ?_,
    fun c h op least g pends s form none_ => ?_⟩
  · obtain ⟨body, e⟩ := exec_of_hostForm_unkept form (.inr wrong)
    exact replies_of_refusal slot (e.trans (hostCmd_wrongRing slot wrong))
  · exact replies_of_refusal slot (execUnknownOpcode_taken slot)
  · exact idles_of_done (execUnknownOpcode_none none_)
  · obtain ⟨body, e⟩ := exec_of_hostForm_unkept form (.inl none_)
    exact idles_of_done (e.trans (hostCmd_none none_))

/-- A command with the same channel, port, bus or commit as a PENDING one finds its target busy (R67). -/
theorem targetBusy_of_mem {t : State} {g : Target} {p : Pend} (mem : p ∈ t.cmd.pend)
    (same : (∃ n, g = .channel n ∧ p.target = .channel n) ∨ (∃ n, g = .port n ∧ p.target = .port n) ∨
      (∃ a b, g = .bus a ∧ p.target = .bus b ∧ a &&& b ≠ 0) ∨ (g = .commit ∧ p.target = .commit)) : targetBusy t g = true := by
  refine List.any_eq_true.mpr ⟨p, mem, ?_⟩
  obtain ⟨n, rfl, target⟩ | ⟨n, rfl, target⟩ | ⟨a, b, rfl, target, meet⟩ | ⟨rfl, target⟩ := same <;> rw [target]
  · simp
  · simp
  · simpa using meet

/-- A command that is judged up to its target and finds it, or the list of PENDING commands, taken. -/
theorem hostCmd_busy {h : Hdr} {op least : Nat} {g : Target} {pends : Bool} {body : State → Res} {s t : State} {idx : Word}
    (slot : takeSlot h.ring s = some (idx, t)) (ring : h.ring.val = (if op = 0x0301 then 0 else 2)) (admitted : refusal op t = none)
    (long : least ≤ h.length.toNat) (busy : (targetBusy t g || (pends && full t)) = true) :
    hostCmd h op least g pends body s = done s (putTaken h op idx (some (reply .busy)) t) := by
  have short : ¬ h.length.toNat < least := by omega
  simp only [hostCmd, slot, ring, admitted, short, busy, ne_eq, not_true_eq_false, if_false, if_true]

/-- ARM_REFERENCE has no target and never answers PENDING (R67). -/
theorem hostForm_armReference {c : Instr} {h : Hdr} {least : Nat} {g : Target} {pends : Bool}
    (form : hostForm c = some (h, 0x0301, least, g, pends)) : g = .none ∧ pends = false := by
  obtain ⟨ref, rfl⟩ := armReference_of_hostForm form
  cases form
  exact ⟨rfl, rfl⟩

/-- Settles O9: a target in use and a full list are what `targetBusy` and `full` say, judged after LENGTH. -/
theorem busyTargetsAnswerBusy : Obligations.BusyTargetsAnswerBusy := by
  intro c h op least g pends s t idx p form slot ring admitted long busy
  have taken : (targetBusy t g || (pends && full t)) = true := by
    obtain ⟨mem, same⟩ | ⟨later, many⟩ := busy
    · rw [targetBusy_of_mem mem same, Bool.true_or]
    · simp [later, full, many]
  obtain ⟨body, x, e, -, other⟩ := exec_of_hostForm form s
  have notArm : op ≠ 0x0301 := by
    rintro rfl
    obtain ⟨rfl, rfl⟩ := hostForm_armReference form
    simp [targetBusy] at taken
  obtain rfl : x = s.ins := other notArm
  exact replies_of_refusal slot (e.trans (hostCmd_busy slot ring admitted long taken))

end Sys2Proof.Safety

/-! ## SUPPORT. What `settle` leaves in hand (03 R66, R68, R83) -/

namespace Sys2Proof.Safety

open Sys2Proof.Machine

/-! ### Indices of the rings -/

theorem modRing_get (r q : Ring) (f : RingSt → RingSt) (s : State) :
    (modRing r f s).rings[q] = if q = r then f s.rings[q] else s.rings[q] := by
  by_cases e : q = r
  · subst e
    rw [if_pos rfl, modRing_rings, vmod_get]
  · rw [if_neg e, modRing_rings, vmod_get_ne _ _ _ _ e]

theorem signalPort_rings (p : HPort) (v : Nat) (s : State) : (signalPort p v s).rings = s.rings :=
  signalPort_keeps p v s .rings (by decide)

/-- A signal clears the moderation of its ring and leaves the other rings (R60). -/
theorem signalRing_rings (r : Ring) (s : State) :
    (signalRing r s).rings = vmod s.rings r (fun g => { g with unsignalled := 0, holdAt := none }) := by
  unfold signalRing
  dsimp only
  split <;> simp only [signalPort_rings, modRing_rings]

/-- Returning a descriptor moves MPI one on and leaves everything but the moderation. -/
theorem returned_rings (r : Ring) (s : State) : ∃ (k : Nat) (at_ : Option Nat),
    (returned r s).rings = vmod s.rings r (fun g => { g with mpi := g.mpi + 1, unsignalled := k, holdAt := at_ }) := by
  unfold returned
  dsimp only
  split
  · refine ⟨0, none, ?_⟩
    rw [signalRing_rings, modRing_rings, vmod_vmod]
  · refine ⟨s.rings[r].unsignalled + 1, if s.rings[r].holdAt.isNone then some s.tim.tb else s.rings[r].holdAt, ?_⟩
    rw [modRing_rings]
    exact vmod_congr _ _ rfl

theorem returned_hpi (r q : Ring) (s : State) : (returned r s).rings[q].hpi = s.rings[q].hpi := by
  obtain ⟨k, a, e⟩ := returned_rings r s
  rw [e]
  by_cases h : q = r
  · subst h
    rw [vmod_get]
  · rw [vmod_get_ne _ _ _ _ h]

theorem writeDesc_rings (r : Ring) (idx : Word) (op tag len : Half) (w2 : Nat) (words : List (Nat × Word)) (b : Bool) (s : State) :
    (writeDesc r idx op tag len w2 words b s).rings = s.rings := rfl

/-- A descriptor is returned when it has its reply and none of its ring is kept before it; else it is kept (R66). -/
theorem flushTaken_cons (t : Taken) (ts kept : List Taken) (s : State) : flushTaken (t :: ts) kept s =
    if t.reply.isSome && !kept.any (fun k => k.ring == t.ring) then
      flushTaken ts kept (returned t.ring (writeDesc t.ring t.idx t.op t.tag t.len (replyWord2 (t.reply.getD {}))
        (t.reply.getD {}).words false s))
    else flushTaken ts (kept ++ [t]) s := by
  rw [flushTaken]
  cases t.reply with
  | none => rfl
  | some p => cases kept.any (fun k => k.ring == t.ring) <;> rfl

theorem flushTaken_hpi (l kept : List Taken) (s : State) (q : Ring) : (flushTaken l kept s).rings[q].hpi = s.rings[q].hpi := by
  induction l generalizing kept s with
  | nil => rfl
  | cons t ts ih =>
    rw [flushTaken_cons]
    split
    · rw [ih, returned_hpi, writeDesc_rings]
    · exact ih _ _

theorem flushReplies_hpi (l : List HeldReply) (s : State) (q : Ring) : (flushReplies l s).rings[q].hpi = s.rings[q].hpi := by
  induction l generalizing s with
  | nil => rfl
  | cons h hs ih =>
    unfold flushReplies
    split
    · rw [ih, returned_hpi, writeDesc_rings]
    · rfl

theorem flushHeld_hpi (l : List Event) (s : State) (q : Ring) : (flushHeld l s).rings[q].hpi = s.rings[q].hpi := by
  induction l generalizing s with
  | nil => rfl
  | cons e es ih =>
    unfold flushHeld
    split
    · rw [ih, postEvent, returned_hpi, writeDesc_rings]
    · rfl

theorem flushEvents_hpi (s : State) (q : Ring) : (flushEvents s).rings[q].hpi = s.rings[q].hpi := by
  have dropped (n : Nat) (t : State) : (dropHeld n t).rings = t.rings := dropHeld_keeps n t .rings (by decide)
  have raised (a b : Nat) (l : List Nat) : (raise a b l s).rings = s.rings := raise_keeps a b l s .rings (by decide)
  unfold flushEvents
  dsimp only
  split <;> simp only [dropped, flushHeld_hpi, raised]

theorem settle_hpi (s : State) (q : Ring) : (settle s).rings[q].hpi = s.rings[q].hpi := by
  have pumped : (pumpStore s).rings = s.rings := pumpStore_keeps s .rings (by decide)
  unfold settle
  dsimp only
  rw [flushReplies_hpi, flushTaken_hpi, flushEvents_hpi, pumped]

/-! ### Descriptors in hand (R66) -/

/-- Every descriptor of the list that has its reply stands behind one of its ring that has none. -/
def InSlotOrder (l : List Taken) : Prop :=
  ∀ (a b : List Taken) (x : Taken), l = a ++ x :: b → x.reply.isSome = true → ∃ y ∈ a, y.ring = x.ring ∧ y.reply = none

theorem inSlotOrder_nil : InSlotOrder [] := by
  intro a b x e
  simp at e

/-- One more at the end, when it has no reply or one before it on its ring has none. -/
theorem inSlotOrder_concat {l : List Taken} {t : Taken} (h : InSlotOrder l)
    (last : t.reply.isSome = true → ∃ y ∈ l, y.ring = t.ring ∧ y.reply = none) : InSlotOrder (l ++ [t]) := by
  intro a b x e answered
  obtain rfl | ⟨b', z, rfl⟩ := b.eq_nil_or_concat
  · obtain ⟨rfl, rfl⟩ := List.append_singleton_inj.mp e
    exact last answered
  · have e' : l ++ [t] = (a ++ x :: b') ++ [z] := by simpa using e
    exact h a b' x (List.append_singleton_inj.mp e').1 answered

/-- Of those of a ring that are kept, one has no reply. -/
theorem InSlotOrder.unanswered {l : List Taken} (h : InSlotOrder l) {k : Taken} (mem : k ∈ l) :
    ∃ y ∈ l, y.ring = k.ring ∧ y.reply = none := by
  cases answer : k.reply with
  | none => exact ⟨k, mem, rfl, answer⟩
  | some p =>
    obtain ⟨a, b, rfl⟩ := List.append_of_mem mem
    obtain ⟨y, hy, ring, none_⟩ := h a b k rfl (by rw [answer]; rfl)
    exact ⟨y, List.mem_append_left _ hy, ring, none_⟩

theorem returned_cmd (r : Ring) (s : State) : (returned r s).cmd = s.cmd := returned_keeps r s .cmd (by decide)

theorem flushTaken_inSlotOrder (l kept : List Taken) (s : State) (h : InSlotOrder kept) :
    InSlotOrder (flushTaken l kept s).cmd.taken := by
  induction l generalizing kept s with
  | nil => exact h
  | cons t ts ih =>
    rw [flushTaken_cons]
    split
    case isTrue => exact ih _ _ h
    case isFalse stays =>
      refine ih _ _ (inSlotOrder_concat h fun answered => ?_)
      obtain ⟨k, mem, ring⟩ : ∃ k ∈ kept, (k.ring == t.ring) = true := by simpa [answered] using stays
      obtain ⟨y, hy, same, none_⟩ := h.unanswered mem
      exact ⟨y, hy, same.trans (eq_of_beq ring), none_⟩

theorem flushReplies_taken (l : List HeldReply) (s : State) : (flushReplies l s).cmd.taken = s.cmd.taken := by
  induction l generalizing s with
  | nil => rfl
  | cons h hs ih =>
    unfold flushReplies
    split
    · rw [ih, returned_cmd]
      rfl
    · rfl

/-! ### Final replies held (R68) -/

theorem flushReplies_full (l : List HeldReply) (s : State) (held : (flushReplies l s).cmd.held ≠ []) :
    canPost (flushReplies l s) 3 = false := by
  induction l generalizing s with
  | nil => exact absurd rfl held
  | cons h hs ih =>
    unfold flushReplies at held ⊢
    split at held
    case isTrue room =>
      rw [if_pos room]
      exact ih _ held
    case isFalse full =>
      rw [if_neg full]
      exact Bool.eq_false_iff.mpr full

/-! ### Events held (R83) -/

/-- What `dropHeld` takes away is one of the events held. -/
theorem dropHeld_gone_mem {l : List Event} (some_ : l ≠ []) :
    (l.find? (fun e => e.level == 0xF#4)).getD (l.headD default) ∈ l := by
  cases found : l.find? (fun e => e.level == 0xF#4) with
  | some e => exact List.mem_of_find?_eq_some found
  | none =>
    cases l with
    | nil => exact absurd rfl some_
    | cons x xs => exact List.mem_cons_self

/-- One round for each event held is enough to come down to 256. -/
theorem dropHeld_length (n : Nat) (s : State) (enough : s.ev.held.length ≤ 256 + n) : (dropHeld n s).ev.held.length ≤ 256 := by
  induction n generalizing s with
  | zero => exact enough
  | succ n ih =>
    unfold dropHeld
    split
    case isTrue few => exact few
    case isFalse many =>
      have some_ : s.ev.held ≠ [] := fun none_ => many (by simp [none_])
      refine ih _ ?_
      dsimp only
      rw [List.length_erase_of_mem (dropHeld_gone_mem some_)]
      omega

theorem postEvent_ev (e : Event) (s : State) : (postEvent e s).ev = s.ev := postEvent_keeps e s .ev (by decide)

theorem flushHeld_length (l : List Event) (s : State) : (flushHeld l s).ev.held.length ≤ l.length := by
  induction l generalizing s with
  | nil => exact le_refl 0
  | cons e es ih =>
    unfold flushHeld
    split
    · exact (ih _).trans (Nat.le_succ _)
    · exact le_refl _

/-- Events are only added to those held. -/
theorem raise_held (code subject : Nat) (data : List Nat) (s : State) :
    ∃ l, (raise code subject data s).ev.held = s.ev.held ++ l := by
  unfold raise raiseAt
  dsimp only
  split
  · exact ⟨_, List.append_assoc _ _ _⟩
  · exact ⟨_, rfl⟩

theorem flushEvents_length (s : State) : (flushEvents s).ev.held.length ≤ 256 := by
  unfold flushEvents
  split
  · obtain ⟨l, grown⟩ := raise_held 0x810D 0xFFFF
      [ef 28 0 s.ev.dropped.toNat, ef 32 0 s.ev.oldest.toNat, ef 36 0 s.ev.newest.toNat] s
    refine dropHeld_length _ _ ((flushHeld_length _ _).trans ?_)
    simp only [grown, List.length_append, List.length_drop]
    omega
  · refine dropHeld_length _ _ ?_
    omega

/-- Settles O10: descriptors are kept by `flushTaken`, replies by `flushReplies`, events by `dropHeld`, and HPI is the host's. -/
theorem descriptorsReturnInSlotOrder : Obligations.DescriptorsReturnInSlotOrder := by
  intro s
  have ev : (settle s).ev = (flushEvents (pumpStore s)).ev := by
    unfold settle
    exact Eq.trans (flushReplies_keeps _ _ .ev (by decide)) (flushTaken_keeps _ _ _ .ev (by decide))
  refine ⟨?_, fun held => ?_, ?_, fun r => settle_hpi s r⟩
  · unfold settle
    rw [flushReplies_taken]
    exact flushTaken_inSlotOrder _ _ _ inSlotOrder_nil
  · exact flushReplies_full _ _ held
  · rw [ev]
    exact flushEvents_length _

end Sys2Proof.Safety

/-! ## SUPPORT. Commands about configuration, identity, time, the active port and a restart (03 R42, R54, R73, R87; 02 R29) -/

namespace Sys2Proof.Safety

open Sys2Proof.Machine

/-! ### Frames of a changed part -/

section
variable (s : State)

theorem keepsBut_hst (x : HstSt) : KeepsBut [.hst] s { s with hst := x } := by
  intro p hp; cases p <;> first | (simp at hp; done) | exact Eq.refl _

theorem keepsBut_cfg (x : CfgSt) : KeepsBut [.cfg] s { s with cfg := x } := by
  intro p hp; cases p <;> first | (simp at hp; done) | exact Eq.refl _

theorem keepsBut_ins (x : InsSt) : KeepsBut [.ins] s { s with ins := x } := by
  intro p hp; cases p <;> first | (simp at hp; done) | exact Eq.refl _

theorem later1_keeps (h : Hdr) (op : Nat) (r : Reply) : KeepsBut [.cmd] s (later1 h op r s) := by
  intro p hp; cases p <;> first | (simp at hp; done) | exact Eq.refl _

end

/-- What an event is told against is the SEQ of the state before. -/
theorem tells_of_ev {s t u : State} {code subject : Nat} {data : List Nat} (same : t.ev = s.ev) (told : Tells t u code subject data) :
    Tells s u code subject data := by
  rwa [Tells, same] at told

section
variable {h : Hdr} {op least : Nat} {g : Target} {pends : Bool} {body : State → Res} {s t : State} {idx : Word}

/-- `Replies` from a body that answers `r` and changes nothing. -/
theorem replies_unchanged {c : Instr} {r : Reply} (a : Admits h op least g pends s idx t)
    (e : exec c s = hostCmd h op least g pends body s) (b : body t = .now r t []) : Replies c h op idx s t r [] (fun _ => True) :=
  replies_of a e b rfl rfl rfl rfl (keepsBut_refl _ _) trivial

/-- `Replies` from a body that answers `r` and changes parts apart from the window, the queue, the times and the commands. -/
theorem replies_keeps {c : Instr} {r : Reply} {l : List Part} {P : State → Prop} {u : State} (a : Admits h op least g pends s idx t)
    (e : exec c s = hostCmd h op least g pends body s) (b : body t = .now r u []) (k : KeepsBut l t u)
    (apart : [Part.win, .pending, .tim, .cmd].all (fun p => decide (p ∉ l)) = true) (q : P (putTaken h op idx (some r) u)) :
    Replies c h op idx s t r l P := by
  simp only [List.all_cons, List.all_nil, Bool.and_true, Bool.and_eq_true, decide_eq_true_eq] at apart
  obtain ⟨hwin, hpending, htim, hcmd⟩ := apart
  exact replies_of a e b (k .win hwin) (k .pending hpending) (congrArg TimSt.tb (k .tim htim)) (k .cmd hcmd)
    (keepsBut_mono k fun _ => List.mem_cons_of_mem _) q

/-- The same for a descriptor that waits in place. -/
theorem stays_keeps {c : Instr} {l : List Part} {P : State → Prop} {u : State} (a : Admits h op least g pends s idx t)
    (e : exec c s = hostCmd h op least g pends body s) (b : body t = .wait u) (k : KeepsBut l t u)
    (apart : [Part.win, .pending, .tim, .cmd].all (fun p => decide (p ∉ l)) = true) (q : P (putTaken h op idx none u)) :
    Stays c h op idx s t l P := by
  simp only [List.all_cons, List.all_nil, Bool.and_true, Bool.and_eq_true, decide_eq_true_eq] at apart
  obtain ⟨hwin, hpending, htim, hcmd⟩ := apart
  exact stays_of a e b (k .win hwin) (k .pending hpending) (congrArg TimSt.tb (k .tim htim)) (k .cmd hcmd)
    (keepsBut_mono k fun _ => List.mem_cons_of_mem _) q

/-- `Finishes` from a body whose only work is the final reply. -/
theorem finishes_later1 {c : Instr} {r : Reply} (a : Admits h op least g pends s idx t)
    (e : exec c s = hostCmd h op least g pends body s) (b : body t = .now (reply .pending) (later1 h op r t) []) :
    Finishes c h op idx s t r [] (fun _ => True) :=
  finishes_of a e b rfl rfl rfl rfl rfl rfl (later1_keeps _ _ _ _) trivial

end

/-! ### COMMIT_CONFIG (R87) -/

/-- The record that the staged set makes, with the next HST_CONFIG_SEQ (R87). -/
def nextRecord (t : State) : CfgRecord :=
  { values := resulting t, marked := (idsAt .nextCommit).filter (fun k => differs t.cfg.stored (resulting t) k)
    seq := t.cfg.seq + 1, taken := t.cfg.staged }

section
variable {h : Hdr} {s t : State} {idx : Word} (a : Admits h 0x0103 4 .commit true s idx t) (warn : t.pwr.warn = false)
  (reserve : t.pwr.holdupFault = false) (fenced : t.store.fenced = false) (worn : t.store.worn = false)
include a warn reserve fenced worn

theorem commitConfig_fails (validateOnly : Bool) {c : Check} (fault : commitFault t = some c) :
    Finishes (.commitConfig h validateOnly) h 0x0103 idx s t (replyWords c.status [(3, c.id), (5, c.item)]) [] (fun _ => True) := by
  refine finishes_later1 a rfl ?_
  simp only [warn, reserve, fenced, worn, fault]
  rfl

theorem commitConfig_validates (sound : commitFault t = none) : Finishes (.commitConfig h true) h 0x0103 idx s t
    (okWords [(4, t.cfg.seq.toNat)]) [] (fun _ => True) := by
  refine finishes_later1 a rfl ?_
  simp only [warn, reserve, fenced, worn, sound]
  rfl

theorem commitConfig_writes (sound : commitFault t = none) :
    Pends (.commitConfig h false) h 0x0103 idx s t (pendOf h 0x0103 .commit t.tim.tb 0) [.cfg, .store] (fun u =>
      (∃ r, u.cfg = { t.cfg with next := some r } ∧ r.values = resulting t ∧ r.seq = t.cfg.seq + 1 ∧ r.taken = t.cfg.staged) ∧
      .config ∈ u.store.queue ∧ u.store.inFlight = t.store.inFlight) := by
  obtain ⟨v, hv⟩ : ∃ v : State, v = { t with cfg := { t.cfg with next := some (nextRecord t) } } := ⟨_, rfl⟩
  have staged : KeepsBut [.cfg] t v := hv ▸ keepsBut_cfg _ _
  have queued := queueWrite_keeps .config v
  have kept : KeepsBut [.cfg, .store] t (queueWrite .config v) :=
    keepsBut_trans (keepsBut_sub _ staged rfl) (keepsBut_sub _ queued rfl)
  refine pends_of a rfl (u := queueWrite .config v) ?_ (kept .win (by decide)) (kept .pending (by decide))
    (congrArg TimSt.tb (kept .tim (by decide))) (kept .cmd (by decide)) (keepsBut_sub _ kept rfl)
    ⟨⟨nextRecord t, ?_, rfl, rfl, rfl⟩, mem_queueWrite _ _, ?_⟩
  · simp only [warn, reserve, fenced, worn, sound, hv]
    rfl
  · exact Eq.trans (queued .cfg (by decide)) (by rw [hv])
  · exact (queueWrite_inFlight _ _).trans (by rw [hv])

end

/-- What READ_IDENTITY answers in words 3 to 10 (18 R523). -/
def identityWords (t : State) : List (Nat × Nat) :=
  [(3, bN Config.variantAC), (4, Config.serialNumber.toNat), (5, Config.hardwareRevision.toNat), (6, t.img.a.version.toNat),
    (7, t.img.b.version.toNat), (8, bN (t.pwr.bank == .b)), (9, (readReg t t.hst.active 0x0004).toNat), (10, interfaceRev)]

theorem readIdentity_answers {h : Hdr} {s t : State} {idx : Word} (a : Admits h 0x0104 0 .none false s idx t) :
    Replies (.readIdentity h) h 0x0104 idx s t (okWords (identityWords t)) [] (fun _ => True) :=
  replies_unchanged (body := fun x => .now (okWords (identityWords x)) x) a rfl rfl

/-! ### SET_TIME (02 R29, R30) -/

theorem setTime_pends {h : Hdr} {x : DWord} {s t : State} {idx : Word} (a : Admits h 0x0105 8 .none true s idx t)
    (may : t.tim.lock = .unset ∨ activeChans t = [] ∨ wouldChange t x = false) :
    Pends (.setTime h x) h 0x0105 idx s t (pendOf h 0x0105 .none t.tim.tb x) [] (fun _ => True) := by
  refine pends_of a rfl (u := t) (if_neg ?_) rfl rfl rfl rfl (keepsBut_refl _ _) trivial
  obtain h | h | h := may <;> simp [h]

theorem setTime_refused {h : Hdr} {x : DWord} {s t : State} {idx : Word} (a : Admits h 0x0105 8 .none true s idx t)
    (set : t.tim.lock ≠ .unset) (active : activeChans t ≠ []) (steps : wouldChange t x = true) :
    Replies (.setTime h x) h 0x0105 idx s t { status := .wrongState } [] (fun _ => True) :=
  replies_unchanged a rfl (if_pos (by simp [set, active, steps]))

/-- The PENDING commands like `p` all end, each with its reply; one at least when `p` is among them. -/
theorem finishAll_like {p : Pend} {r : Reply} {s : State} (mem : p ∈ s.cmd.pend) :
    ∃ k ≥ 1, (finishAll (· == p) (fun _ => r) s).cmd.held = s.cmd.held ++ List.replicate k { op := p.op, tag := p.tag, reply := r } := by
  refine ⟨s.cmd.pend.count p, List.count_pos_iff.mpr mem, ?_⟩
  dsimp only [finishAll]
  rw [List.filter_beq, List.map_replicate]

theorem setTimeTimeout_ends {s : State} {p : Pend} (pending : pendOp s 0x0105 = some p) : Runs .setTimeTimeout s [.cmd] (fun u =>
    u.cmd.pend = s.cmd.pend.filter (fun q => !(q == p)) ∧ u.cmd.taken = s.cmd.taken ∧
    ∃ k ≥ 1, u.cmd.held = s.cmd.held ++ List.replicate k { op := p.op, tag := p.tag, reply := { status := .timeout } }) := by
  have e : exec .setTimeTimeout s = done s (finishAll (· == p) (fun _ => reply .timeout) s) := by
    simp only [exec, execSetTimeTimeout, pending]
  exact runs_of_done e (finishAll_keeps _ _ _) (by decide) ⟨rfl, rfl, finishAll_like (List.mem_of_find?_eq_some pending)⟩

/-! ### The active port (R54, R56) -/

theorem hostSwitch_asks {h : Hdr} {s t : State} {idx : Word} (a : Admits h 0x0106 0 .none false s idx t)
    (up : (portRegs t (otherPort t.hst.active)).link = true) : Replies (.hostSwitch h) h 0x0106 idx s t { status := .ok } [.hst]
      (fun u => u.hst = { t.hst with change := some { port := otherPort t.hst.active, cause := 0 } }) :=
  replies_keeps a rfl (if_pos up) (keepsBut_hst _ _) (by decide) rfl

theorem hostSwitch_refused {h : Hdr} {s t : State} {idx : Word} (a : Admits h 0x0106 0 .none false s idx t)
    (down : (portRegs t (otherPort t.hst.active)).link = false) :
    Replies (.hostSwitch h) h 0x0106 idx s t { status := .wrongState } [] (fun _ => True) :=
  replies_unchanged a rfl (if_neg (by simp [down]))

theorem activePortChange_moves {s : State} {c : PortChange} (waits : s.hst.change = some c) (other : c.port ≠ s.hst.active) :
    Runs .activePortChange s [.hst, .ev] (fun u => u.hst = { s.hst with active := c.port, change := none } ∧
      Tells s u 0x8109 (portCode c.port) [ef 28 0 (portCode c.port), ef 28 1 c.cause]) := by
  obtain ⟨v, hv⟩ : ∃ v : State, v = { s with hst := { s.hst with active := c.port, change := none } } := ⟨_, rfl⟩
  have e : exec .activePortChange s =
      done s (raise 0x8109 (portCode c.port) [ef 28 0 (portCode c.port), ef 28 1 c.cause] v) := by
    simp only [exec, execActivePortChange, waits, if_neg other, hv]
  have moved : KeepsBut [.hst] s v := hv ▸ keepsBut_hst _ _
  have told := raise_keeps 0x8109 (portCode c.port) [ef 28 0 (portCode c.port), ef 28 1 c.cause] v
  refine runs_of_done e (keepsBut_trans (keepsBut_sub _ moved rfl) (keepsBut_sub _ told rfl)) (by decide) ⟨?_, ?_⟩
  · exact (told .hst (by decide)).trans (by rw [hv])
  · exact tells_of_ev (moved .ev (by decide)) (raise_tells _ _ _ v)

/-! ### RESET_MODULE (R73; 02 R41, R42) -/

section
variable {h : Hdr} {s t : State} {idx : Word} (a : Admits h 0x0110 4 .none false s idx t)
include a

theorem resetModule_restarts {force : Bool} (alone : mayOffer t = false)
    (calm : isMaster t = false ∨ activeChans t = [] ∨ force = true) :
    Replies (.resetModule h force) h 0x0110 idx s t { status := .ok } [.pwr]
      (fun u => u.pwr = { t.pwr with restart := some .resetModule }) := by
  refine replies_keeps a rfl ((if_neg (by simp [alone])).trans (if_neg ?_)) (keepsBut_pwr _ _) (by decide) rfl
  obtain h | h | h := calm <;> simp [h]

theorem resetModule_offers {force : Bool} (master : isMaster t = true) (none_ : t.twn.open_ = none) (may : mayOffer t = true) :
    Stays (.resetModule h force) h 0x0110 idx s t [.twn] (fun u => u.twn = { t.twn with open_ := some (.reset force) }) :=
  stays_keeps a rfl (if_pos (by simp [master, none_, may])) (keepsBut_twn _ _) (by decide) rfl

theorem resetModule_refused (master : isMaster t = true) (alone : mayOffer t = false) (active : activeChans t ≠ []) :
    Replies (.resetModule h false) h 0x0110 idx s t { status := .wrongState } [] (fun _ => True) :=
  replies_unchanged a rfl ((if_neg (by simp [alone])).trans (if_pos (by simp [master, active])))

end

/-- Settles O13: one lemma per answer of each command. -/
theorem commitAndTimeCommands : Obligations.CommitAndTimeCommands := by
  refine ⟨fun h validateOnly s t idx a warn reserve fenced worn => ⟨fun c fault => ?_, fun sound only => ?_, fun sound whole => ?_⟩,
    fun h s t idx a => readIdentity_answers a, fun h x s t idx a => ⟨setTime_pends a, setTime_refused a⟩,
    fun s p pending => setTimeTimeout_ends pending, fun h s t idx a => ⟨hostSwitch_asks a, hostSwitch_refused a⟩,
    fun s c waits other => activePortChange_moves waits other, fun h force s t idx a => resetModule_restarts a,
    fun h force s t idx a => resetModule_offers a, fun h s t idx a => resetModule_refused a⟩
  · exact commitConfig_fails a warn reserve fenced worn validateOnly fault
  · exact only ▸ commitConfig_validates a warn reserve fenced worn sound
  · exact whole ▸ commitConfig_writes a warn reserve fenced worn sound

end Sys2Proof.Safety

/-! ## SUPPORT. Numbers in the shared window (03 *BAR2 layout*) -/

namespace Sys2Proof.Safety

open Sys2Proof.Machine

theorem length_leBytes (n v : Nat) : (leBytes n v).length = n := by
  induction n generalizing v with
  | zero => rfl
  | succ n ih => exact congrArg (· + 1) (ih _)

theorem ofLe_leBytes (n v : Nat) : ofLe (leBytes n v) = v % 256 ^ n := by
  induction n generalizing v with
  | zero => exact (Nat.mod_one v).symm
  | succ n ih =>
    have parts := Nat.mod_mul (x := v) (a := 256) (b := 256 ^ n)
    rw [← Nat.pow_succ'] at parts
    rw [leBytes, ofLe, ih, BitVec.toNat_ofNat]
    exact parts.symm

theorem length_memRead (m : List Host.Cell) (a n : Nat) : (memRead m a n).length = n := by
  induction n generalizing a with
  | zero => rfl
  | succ n ih => exact congrArg (· + 1) (ih _)

theorem getElem?_memRead (m : List Host.Cell) (a n k : Nat) :
    (memRead m a n)[k]? = if k < n then some (memByte m (a + k)) else none := by
  induction n generalizing a k with
  | zero => rfl
  | succ n ih =>
    cases k with
    | zero => rfl
    | succ k =>
      rw [memRead, List.getElem?_cons_succ, ih, Nat.add_right_comm a 1 k]
      simp only [Nat.add_lt_add_iff_right, Nat.add_assoc]

/-- Two reads of as many bytes are the same when each byte is. -/
theorem memRead_congr {m m' : List Host.Cell} {a n : Nat} (h : ∀ k, k < n → memByte m (a + k) = memByte m' (a + k)) :
    memRead m a n = memRead m' a n := by
  refine List.ext_getElem? fun k => ?_
  rw [getElem?_memRead, getElem?_memRead]
  exact ite_congr rfl (fun lt => congrArg some (h k lt)) fun _ => rfl

section
variable {m : List Host.Cell} (wf : Memory.wf m = true)
include wf

/-- What was written is read. -/
theorem memRead_memWrite (a : Nat) (b : List Byte) : memRead (memWrite m a b) a b.length = b := by
  refine List.ext_getElem? fun k => ?_
  rw [getElem?_memRead]
  split
  case isTrue lt =>
    rw [memByte_memWrite m a (a + k) b wf, if_pos ⟨by omega, by omega⟩, Nat.add_sub_cancel_left, List.getElem?_eq_getElem lt,
      List.getD_eq_getElem _ _ lt]
  case isFalse ge => exact (List.getElem?_eq_none (by omega)).symm

/-- A read that a write does not meet. -/
theorem memRead_memWrite_apart (a n : Nat) {a' : Nat} {b : List Byte} (apart : a + n ≤ a' ∨ a' + b.length ≤ a) :
    memRead (memWrite m a' b) a n = memRead m a n :=
  memRead_congr fun k lt => memByte_memWrite_ne m a' (a + k) b wf (by omega)

/-- A number that was written is read, as far as its bytes hold it. -/
theorem memNum_memWrite (a n v : Nat) : memNum (memWrite m a (leBytes n v)) a n = v % 256 ^ n := by
  have read := memRead_memWrite wf a (leBytes n v)
  rw [length_leBytes] at read
  rw [memNum, read, ofLe_leBytes]

end

end Sys2Proof.Safety

/-! ## SUPPORT. Writes of the host ports (03 R52, R55, R58, R84) -/

namespace Sys2Proof.Safety

open Sys2Proof.Machine

/-! ### Host activity (R84, R85) -/

section
variable (s : State)

theorem activity_hst : (activity s).hst = { s.hst with activityAt := s.tim.tb, silent := false } := by
  unfold activity
  dsimp only
  split
  · exact raise_keeps _ _ _ _ .hst (by decide)
  · rfl

theorem activity_qm : (activity s).qm = { s.qm with fwSilence := false } := by
  unfold activity
  dsimp only
  split
  · exact raise_keeps _ _ _ _ .qm (by decide)
  · rfl

/-- Activity outside silence says nothing. -/
theorem activity_ev (heard : s.hst.silent = false) : (activity s).ev = s.ev := by
  unfold activity
  dsimp only
  rw [if_neg (by simp [heard])]

end

/-! ### Window writes (R52) -/

/-- `Runs` of a row that writes the window alone. -/
theorem runs_of_write {c : Instr} {s : State} {win : List Host.Cell} {P : State → Prop} (e : exec c s = doneWin s win s)
    (q : P { s with win := win }) : Runs c s [.win] P := by
  refine ⟨{ s with win := win }, e, ?_, q⟩
  intro p hp; cases p <;> first | (simp at hp; done) | exact Eq.refl _

/-- The host may write these bytes: the duty area, or the rings and the bulk pool. -/
theorem winWritable_iff (offset size : Nat) : winWritable offset size = true ↔
    (0x1000 ≤ offset ∧ offset + size ≤ 0x1400 ∨ 0x10000 ≤ offset ∧ offset + size ≤ 0x04000000) := by
  simp only [winWritable, Bool.or_eq_true, Bool.and_eq_true, decide_eq_true_eq]
  exact Iff.rfl

section
variable {p : HPort} {s : State} (open_ : portFenced s p = false)
include open_

theorem registerWrite_window (offset size : Nat) (v : DWord) (wf : WindowForm s) (active : p = s.hst.active) (some_ : 1 ≤ size)
    (most : size ≤ 8) (within : 0x1000 ≤ offset ∧ offset + size ≤ 0x1400 ∨ 0x10000 ≤ offset ∧ offset + size ≤ 0x04000000) :
    Runs (.registerWrite p .bar2 offset size v) s [.win] (fun u => memNum u.win offset size = v.toNat % 256 ^ size ∧
      ∀ k, k < offset ∨ offset + size ≤ k → memByte u.win k = memByte s.win k) := by
  refine runs_of_write ((if_neg (by simp [open_])).trans (if_neg ?_)) ⟨memNum_memWrite wf offset size v.toNat, fun k out => ?_⟩
  · have zero : size ≠ 0 := by omega
    simp [active, zero, most, (winWritable_iff offset size).mpr within]
  · exact memByte_memWrite_ne s.win offset k _ wf (by rwa [length_leBytes])

theorem registerWrite_discarded (offset size : Nat) (v : DWord) (bad : p ≠ s.hst.active ∨ size = 0 ∨ 8 < size ∨
    ¬(0x1000 ≤ offset ∧ offset + size ≤ 0x1400 ∨ 0x10000 ≤ offset ∧ offset + size ≤ 0x04000000)) :
    exec (.registerWrite p .bar2 offset size v) s = done s (dropWrite p s) := by
  refine (if_neg (by simp [open_])).trans (if_pos ?_)
  rw [← winWritable_iff, Bool.not_eq_true] at bad
  simpa [or_assoc] using bad

theorem registerWrite_unaligned (offset size : Nat) (v : DWord) (bad : size ≠ 4 ∨ offset % 4 ≠ 0) :
    exec (.registerWrite p .bar0 offset size v) s = done s (dropWrite p s) :=
  (if_neg (by simp [open_])).trans (if_pos (by simpa using bad))

theorem registerWrite_aligned (offset : Nat) (v : DWord) (four : offset % 4 = 0) :
    exec (.registerWrite p .bar0 offset 4 v) s = done s (writeReg p offset (v.truncate 32) s) :=
  (if_neg (by simp [open_])).trans (if_neg (by simp [four]))

/-! ### HST_HEARTBEAT and HST_TAKEOVER (R55, R84) -/

theorem fromActive_active (f : State → State) (active : p = s.hst.active) : fromActive p f s = f s :=
  if_pos (by simp [active ▸ open_, active])

omit open_ in
theorem fromActive_observing (f : State → State) (observing : p ≠ s.hst.active) : fromActive p f s = dropWrite p s :=
  if_neg (by simp [observing])

theorem heartbeat_ends_silence (active : p = s.hst.active) (counts : refsOnly s = false) :
    Runs (.hstHeartbeatWrite p) s [.hst, .qm, .ev] (fun u => u.hst.activityAt = s.tim.tb ∧ u.hst.silent = false ∧
      u.qm = { s.qm with fwSilence := false } ∧ (s.hst.silent = false → u.ev = s.ev)) := by
  have e : exec (.hstHeartbeatWrite p) s = done s (activity s) :=
    congrArg (done s) ((fromActive_active open_ _ active).trans (if_pos (by simp [active, counts])))
  refine runs_of_done e (activity_keeps s) (by decide) ⟨?_, ?_, activity_qm s, activity_ev s⟩
  · rw [activity_hst]
  · rw [activity_hst]

theorem takeover_asks (v : Word) (observing : p ≠ s.hst.active) (key : v.toNat % 65536 = 0x5A3C)
    (may : (portRegs s s.hst.active).link = false ∨ s.hst.silent = true ∨ v.getLsbD 16 = true) :
    Runs (.hstTakeoverWrite p v) s [.hst] (fun u => ∃ cause, u.hst = { s.hst with change := some { port := p, cause := cause } }) := by
  obtain ⟨cause, e⟩ : ∃ cause, writeTakeover p v s = { s with hst := { s.hst with change := some { port := p, cause := cause } } } := by
    unfold writeTakeover
    dsimp only
    rw [if_neg (by simp [observing, key])]
    by_cases link : (portRegs s s.hst.active).link = true
    · rw [if_neg (by simp [link])]
      by_cases silent : s.hst.silent = true
      · exact ⟨2, if_pos silent⟩
      · have force : v.getLsbD 16 = true := by simpa [link, silent] using may
        exact ⟨3, (if_neg silent).trans (if_pos force)⟩
    · exact ⟨1, if_pos (by simpa using link)⟩
  exact runs_of_done ((if_neg (by simp [open_])).trans (congrArg (done s) e)) (keepsBut_hst _ _) (by decide) ⟨cause, rfl⟩

theorem takeover_ignored (v : Word) (no : p = s.hst.active ∨ v.toNat % 65536 ≠ 0x5A3C ∨
    ((portRegs s s.hst.active).link = true ∧ s.hst.silent = false ∧ v.getLsbD 16 = false)) : Idles (.hstTakeoverWrite p v) s := by
  have e : writeTakeover p v s = s := by
    unfold writeTakeover
    obtain active | key | ⟨link, heard, unforced⟩ := no
    · exact if_pos (by simp [active])
    · exact if_pos (by simp [key])
    · dsimp only
      simp only [link, heard, unforced, Bool.not_true, Bool.false_eq_true, if_false, ite_self]
  exact idles_of_done ((if_neg (by simp [open_])).trans (congrArg (done s) e))

/-! ### INS_LOAD_ALL (R58) -/

theorem loadAllGo_active (v : Word) (active : p = s.hst.active) : exec (.loadAllGo p v) s = done s (loadGo v s) :=
  if_neg (by simp [active ▸ open_, active])

end

theorem loadAllGo_observing {p : HPort} {s : State} (v : Word) (observing : p ≠ s.hst.active) :
    exec (.loadAllGo p v) s = done s (dropWrite p s) :=
  if_pos (by simp [observing])

theorem loadGo_clear {v : Word} (clear : v.getLsbD 0 = false) (s : State) : loadGo v s = s :=
  if_pos (by rw [clear]; rfl)

/-- Settles O15: each write is stored, or is the dropped write of its port, or has the effect of its register. -/
theorem writesOfThePorts : Obligations.WritesOfThePorts := by
  intro p s open_ dropped
  refine ⟨registerWrite_window open_, fun offset size v bad => runs_modHp (registerWrite_discarded open_ offset size v bad) rfl,
    fun offset size v bad => runs_modHp (registerWrite_unaligned open_ offset size v bad) rfl,
    fun v => runs_modHp (registerWrite_aligned open_ 0x0010 v rfl) rfl, heartbeat_ends_silence open_,
    fun observing => runs_modHp (congrArg (done s) (fromActive_observing _ observing)) rfl, takeover_asks open_, takeover_ignored open_,
    fun v observing => runs_modHp (loadAllGo_observing v observing) rfl, fun v active clear => ?_⟩
  exact idles_of_done ((loadAllGo_active open_ v active).trans (congrArg (done s) (loadGo_clear clear s)))

end Sys2Proof.Safety

/-! ## SUPPORT. Ring registers, streams and the interrupt hold (03 R60 to R65, R74) -/

namespace Sys2Proof.Safety

open Sys2Proof.Machine

/-! ### The registers of one port -/

section
variable (p : HPort) (f : PortRegs → PortRegs) (s : State)

theorem portRegs_modHp : portRegs (modHp p f s) p = f (portRegs s p) := by cases p <;> rfl

theorem portRegs_modHp_other : portRegs (modHp p f s) (otherPort p) = portRegs s (otherPort p) := by cases p <;> rfl

theorem modHp_active : (modHp p f s).hst.active = s.hst.active := by cases p <;> rfl

theorem modHp_change : (modHp p f s).hst.change = s.hst.change := by cases p <;> rfl

end

theorem otherPort_otherPort (p : HPort) : otherPort (otherPort p) = p := by cases p <;> rfl

/-- Sending a vector leaves HST_IRQ_PEND. -/
theorem sendVector_irqPend (p : HPort) (v : Nat) (s : State) : (portRegs (sendVector p v s) p).irqPend = (portRegs s p).irqPend := by
  rw [sendVector, portRegs_modHp, apply_ite PortRegs.irqPend, ite_self]

section
variable (p : HPort) (v : Nat) (s : State)

theorem signalPort_irqPend : (portRegs (signalPort p v s) p).irqPend = (portRegs s p).irqPend ||| (1#64 <<< v) := by
  unfold signalPort
  dsimp only
  split
  · rw [portRegs_modHp]
  · rw [sendVector_irqPend, portRegs_modHp]

theorem signalPort_other : portRegs (signalPort p v s) (otherPort p) = portRegs s (otherPort p) := by
  unfold signalPort
  dsimp only
  split
  · rw [portRegs_modHp_other]
  · rw [sendVector, portRegs_modHp_other, portRegs_modHp_other]

theorem signalPort_active : (signalPort p v s).hst.active = s.hst.active := by
  unfold signalPort
  dsimp only
  split
  · rw [modHp_active]
  · rw [sendVector, modHp_active, modHp_active]

end

/-- A signal sets the pending bit of its ring on the active port (R60). -/
theorem signalRing_irqPend (r : Ring) (s : State) : (portRegs (signalRing r s) s.hst.active).irqPend =
    (portRegs s s.hst.active).irqPend ||| (1#64 <<< r.val) := by
  obtain ⟨v, hv⟩ : ∃ v : State, v = modRing r (fun g => { g with unsignalled := 0, holdAt := none }) s := ⟨_, rfl⟩
  have hst : v.hst = s.hst := by rw [hv]; rfl
  have regs (q : HPort) : portRegs v q = portRegs s q := by rw [hv]; cases q <;> rfl
  unfold signalRing
  dsimp only
  rw [← hv, signalPort_active, hst]
  split
  · have other := signalPort_other (otherPort s.hst.active) r.val (signalPort s.hst.active r.val v)
    rw [otherPort_otherPort] at other
    rw [other, signalPort_irqPend, regs]
  · rw [signalPort_irqPend, regs]

theorem ringIrqHoldExpiry_signals {r : Ring} {s : State} (time : s.rings[r].irq.toNat / 65536 % 4096 ≠ 0)
    (some_ : s.rings[r].unsignalled ≠ 0) (held : s.rings[r].holdAt ≠ none) :
    Runs (.ringIrqHoldExpiry r) s [.rings, .hst] (fun u =>
      u.rings = vmod s.rings r (fun g => { g with unsignalled := 0, holdAt := none }) ∧
      (portRegs u s.hst.active).irqPend = (portRegs s s.hst.active).irqPend ||| (1#64 <<< r.val)) := by
  refine runs_of_done (if_pos ?_) (signalRing_keeps r s) (by decide) ⟨signalRing_rings r s, signalRing_irqPend r s⟩
  simp only [time, some_, ne_eq, not_false_eq_true, decide_true, Bool.true_and, Option.isSome_iff_ne_none]
  exact held

/-! ### HST_RING_CFG (R60, R61) -/

/-- A change of a ring is what it makes of the ring that stands there. -/
theorem modRing_congr {r : Ring} {f g : RingSt → RingSt} {s : State} (h : f s.rings[r] = g s.rings[r]) :
    modRing r f s = modRing r g s :=
  congrArg (fun x => { s with rings := x }) (vmod_congr s.rings r h)

theorem toNat_sizeField (v : Word) : (v.truncate 4 : BitVec 4).toNat = v.toNat % 16 := BitVec.toNat_setWidth ..

theorem writeCfg_discards {p : HPort} {r : Ring} {v : Word} {s : State}
    (bad : v.toNat % 16 ≠ s.rings[r].sizeLog2.toNat ∧ s.rings[r].enable = true ∨ v.toNat % 16 < 4 ∨ 12 < v.toNat % 16) :
    writeCfg p r v s = dropWrite p s := by
  refine if_pos ?_
  simp only [toNat_sizeField, ne_eq, BitVec.toNat_eq, Bool.or_eq_true, Bool.and_eq_true, decide_eq_true_eq, or_assoc]
  exact bad

/-- A ring set to ENABLE begins anew: its indices at zero, and what had been taken on it forgotten (R61). -/
theorem writeCfg_enables {p : HPort} {r : Ring} {v : Word} {s : State} (small : 4 ≤ v.toNat % 16) (large : v.toNat % 16 ≤ 12)
    (on : v.getLsbD 5 = true) (off : s.rings[r].enable = false) (sound : s.rings[r].fault = false) :
    writeCfg p r v s = { modRing r (fun g => { g with
        sizeLog2 := v.truncate 4, enable := true, cfgRsv := (v >>> 7).truncate 25, fault := false
        hpi := 0, mpi := 0, tkn := 0, exe := 0, unsignalled := 0, holdAt := none }) s with
      cmd := { s.cmd with taken := s.cmd.taken.filter (fun t => t.ring ≠ r) } } := by
  have fits : ¬ (((v.truncate 4 : BitVec 4) ≠ s.rings[r].sizeLog2 && s.rings[r].enable) || (v.truncate 4 : BitVec 4).toNat < 4 ||
      (v.truncate 4 : BitVec 4).toNat > 12) = true := by
    simp only [toNat_sizeField, off, Bool.and_false, Bool.false_or, Bool.or_eq_true, decide_eq_true_eq]
    omega
  unfold writeCfg
  dsimp only
  rw [if_neg fits]
  simp only [on, off, sound, Bool.and_false, Bool.not_false, Bool.and_true, Bool.false_eq_true, if_true, if_false, modRing, vmod_vmod]
  congr 1
  exact vmod_congr _ _ (by simp only [sound])

theorem hstRingCfgWrite_enables {p : HPort} {r : Ring} {v : Word} {s : State} (open_ : portFenced s p = false)
    (active : p = s.hst.active) (small : 4 ≤ v.toNat % 16) (large : v.toNat % 16 ≤ 12) (on : v.getLsbD 5 = true)
    (off : s.rings[r].enable = false) (sound : s.rings[r].fault = false) :
    Runs (.hstRingCfgWrite p r v) s [.rings, .cmd] (fun u => u.cmd.pend = s.cmd.pend ∧ u.cmd.held = s.cmd.held ∧
      (∀ q : Ring, q ≠ r → u.rings[q] = s.rings[q]) ∧ u.rings[r].enable = true ∧ u.rings[r].hpi = 0 ∧ u.rings[r].mpi = 0 ∧
      u.rings[r].sizeLog2.toNat = v.toNat % 16 ∧ u.rings[r].dir = s.rings[r].dir) := by
  refine runs_of_done (congrArg (done s) ((fromActive_active open_ _ active).trans (writeCfg_enables small large on off sound)))
    ?_ (by decide) ⟨rfl, rfl, fun q other => ?_, ?_⟩
  · intro q hq; cases q <;> first | (simp at hq; done) | exact Eq.refl _
  · exact vmod_get_ne _ _ _ _ other
  · rw [modRing_rings, vmod_get]
    exact ⟨rfl, rfl, rfl, toNat_sizeField v, rfl⟩

/-- A write that only the active port may make (R52). -/
theorem fromActive_drops {p : HPort} {s : State} (f : State → State) (bad : p ≠ s.hst.active ∨ portFenced s p = true) :
    fromActive p f s = dropWrite p s := by
  refine if_neg ?_
  obtain observing | fenced := bad
  · simp [observing]
  · simp [fenced]

/-! ### HST_RING_HPI (R62, R63) -/

theorem firstUnowned_none {s : State} {r : Ring} {i : Word} {n : Nat}
    (owned : ∀ k < n, bitOf (memNum s.win (slotOff r s.rings[r] (i + BitVec.ofNat 32 k)) 4) 31 = true) :
    firstUnowned s r i n = none := by
  induction n generalizing i with
  | zero => rfl
  | succ n ih =>
    have first := owned 0 (Nat.succ_pos n)
    rw [show i + BitVec.ofNat 32 0 = i from BitVec.add_zero i] at first
    rw [firstUnowned, if_pos first]
    refine ih fun k lt => ?_
    have next := owned (k + 1) (Nat.succ_lt_succ lt)
    rwa [show i + BitVec.ofNat 32 (k + 1) = i + 1 + BitVec.ofNat 32 k by rw [Nat.add_comm, BitVec.ofNat_add, BitVec.add_assoc]; rfl]
      at next

section
variable {p : HPort} {r : Ring} {v : Word} {s : State} (on : s.rings[r].enable = true) (sound : s.rings[r].fault = false)
include on sound

/-- New descriptors that all read OWN = 1 are taken at once (R62). -/
theorem writeHpi_takes (forward : (v - s.rings[r].hpi).toNat < 2 ^ 31)
    (fits : (v - s.rings[r].mpi).toNat ≤ 2 ^ s.rings[r].sizeLog2.toNat)
    (owned : ∀ k < (v - s.rings[r].tkn).toNat,
      bitOf (memNum s.win (slotOff r s.rings[r] (s.rings[r].tkn + BitVec.ofNat 32 k)) 4) 31 = true) :
    writeHpi p r v s = modRing r (fun g => { g with hpi := v, tkn := v }) (doorbell p s) := by
  have rung := doorbell_keeps p s
  have rings : (doorbell p s).rings = s.rings := rung .rings (by decide)
  have win : (doorbell p s).win = s.win := rung .win (by decide)
  obtain ⟨d, hd⟩ : ∃ d, d = doorbell p s := ⟨_, rfl⟩
  rw [← hd] at rings win ⊢
  have entry : (modRing r (fun g => { g with hpi := v }) d).rings[r] = { s.rings[r] with hpi := v } := by
    rw [modRing_rings, vmod_get, rings]
  have none_ : firstUnowned (modRing r (fun g => { g with hpi := v }) d) r s.rings[r].tkn (min 4096 (v - s.rings[r].tkn).toNat) =
      none := by
    refine firstUnowned_none fun k lt => ?_
    rw [entry, modRing_win, win]
    exact owned k (by omega)
  unfold writeHpi
  dsimp only
  rw [← hd, rings, if_neg (by simp [-Fin.getElem_fin, on]), if_neg (by simp only [Bool.or_eq_true, decide_eq_true_eq]; omega), if_neg (by simp [-Fin.getElem_fin, sound])]
  unfold scanRing
  dsimp only
  rw [entry]
  dsimp only
  rw [none_]
  simp only [modRing, vmod_vmod]

/-- A value that moves backward or reaches beyond the ring's size stops it (R63). -/
theorem writeHpi_stops (bad : 2 ^ 31 ≤ (v - s.rings[r].hpi).toNat ∨ 2 ^ s.rings[r].sizeLog2.toNat < (v - s.rings[r].mpi).toNat) :
    writeHpi p r v s = ringFault r (if 2 ^ 31 ≤ (v - s.rings[r].hpi).toNat then 1 else 0) v
      (if s.rings[r].dir then s.rings[r].mpi else s.rings[r].tkn) (doorbell p s) := by
  have rings : (doorbell p s).rings = s.rings := doorbell_keeps p s .rings (by decide)
  unfold writeHpi
  dsimp only
  rw [rings, if_neg (by simp [-Fin.getElem_fin, on]), if_pos (by simpa using bad), if_neg (by simp [-Fin.getElem_fin, sound])]
  simp only [ge_iff_le, decide_eq_true_eq]

variable (open_ : portFenced s p = false) (active : p = s.hst.active) (heard : s.hst.silent = false)
include open_ active

theorem hstRingHpiWrite_takes (forward : (v - s.rings[r].hpi).toNat < 2 ^ 31)
    (fits : (v - s.rings[r].mpi).toNat ≤ 2 ^ s.rings[r].sizeLog2.toNat)
    (owned : ∀ k < (v - s.rings[r].tkn).toNat,
      bitOf (memNum s.win (slotOff r s.rings[r] (s.rings[r].tkn + BitVec.ofNat 32 k)) 4) 31 = true) (ev : (doorbell p s).ev = s.ev) :
    Runs (.hstRingHpiWrite p r v) s [.rings, .hst, .qm] (fun u =>
      u.rings = vmod s.rings r (fun g => { g with hpi := v, tkn := v })) := by
  have rung := doorbell_keeps p s
  refine runs_of_done (congrArg (done s) ((fromActive_active open_ _ active).trans (writeHpi_takes on sound forward fits owned)))
    (keepsBut_trans ?_ (keepsBut_sub _ (modRing_keeps _ _ _) rfl)) (by decide) ?_
  · exact keepsBut_of_same (p := .ev) (keepsBut_sub _ rung rfl) ev
  · rw [modRing_rings, rung .rings (by decide)]

theorem hstRingHpiWrite_stops (bad : 2 ^ 31 ≤ (v - s.rings[r].hpi).toNat ∨ 2 ^ s.rings[r].sizeLog2.toNat < (v - s.rings[r].mpi).toNat)
    (ev : (doorbell p s).ev = s.ev) : Runs (.hstRingHpiWrite p r v) s [.rings, .hst, .qm, .ev] (fun u =>
      u.rings = vmod s.rings r (fun g => { g with fault := true }) ∧ ∃ cause stop,
        (cause = 1 ↔ 2 ^ 31 ≤ (v - s.rings[r].hpi).toNat) ∧
        Tells s u 0x810C r.val [ef 28 0 r.val, ef 29 0 cause, ef 32 0 v.toNat, ef 36 0 stop]) := by
  have rung := doorbell_keeps p s
  obtain ⟨stop, e⟩ : ∃ stop : Word, writeHpi p r v s =
      ringFault r (if 2 ^ 31 ≤ (v - s.rings[r].hpi).toNat then 1 else 0) v stop (doorbell p s) := ⟨_, writeHpi_stops on sound bad⟩
  obtain ⟨cause, hcause⟩ : ∃ cause : Nat, cause = if 2 ^ 31 ≤ (v - s.rings[r].hpi).toNat then 1 else 0 := ⟨_, rfl⟩
  rw [← hcause] at e
  obtain ⟨d, hd⟩ : ∃ d, d = modRing r (fun g => { g with fault := true }) (doorbell p s) := ⟨_, rfl⟩
  have marked : KeepsBut [.rings] (doorbell p s) d := hd ▸ modRing_keeps _ _ _
  have told := raise_keeps 0x810C r.val [ef 28 0 r.val, ef 29 0 cause, ef 32 0 v.toNat, ef 36 0 stop.toNat] d
  have stops : writeHpi p r v s = raise 0x810C r.val [ef 28 0 r.val, ef 29 0 cause, ef 32 0 v.toNat, ef 36 0 stop.toNat] d := by
    rw [e, hd]
    rfl
  refine runs_of_done (congrArg (done s) ((fromActive_active open_ _ active).trans stops))
    (keepsBut_trans (keepsBut_trans (keepsBut_sub _ rung rfl) (keepsBut_sub _ marked rfl)) (keepsBut_sub _ told rfl)) (by decide)
    ⟨?_, cause, stop.toNat, ?_, ?_⟩
  · rw [told .rings (by decide), hd, modRing_rings, rung .rings (by decide)]
  · rw [hcause]
    exact ⟨fun one => by_contra fun forward => absurd ((if_neg forward).symm.trans one) Nat.zero_ne_one, fun back => if_pos back⟩
  · exact tells_of_ev ((marked .ev (by decide)).trans ev) (raise_tells _ _ _ d)

end

/-- Outside silence a doorbell says nothing (R84). -/
theorem doorbell_ev (p : HPort) {s : State} (heard : s.hst.silent = false) : (doorbell p s).ev = s.ev := by
  unfold doorbell
  split
  · exact activity_ev s heard
  · rfl

/-! ### STREAM_SETUP (R60, R74) -/

section
variable {h : Hdr} {r : Ring} {kind : Byte} {mask : DWord} {interval : Half} {s t : State} {idx : Word}
  (a : Admits h 0x0107 20 .none false s idx t)
include a

theorem streamSetup_stores (bulk : 4 ≤ r.val) (known : kind.toNat ≤ 6) (range : kind ≠ 0 → 1 ≤ interval.toNat ∧ interval.toNat ≤ 60000)
    (tenths : kind = 3 → interval.toNat % 100 = 0) (off : t.rings[r].enable = false) :
    Replies (.streamSetup h r kind mask interval) h 0x0107 idx s t { status := .ok } [.rings] (fun u =>
      (∀ q : Ring, q ≠ r → u.rings[q] = t.rings[q]) ∧ u.rings[r].kind = kind ∧ u.rings[r].mask = mask ∧
      u.rings[r].interval = interval ∧ u.rings[r].dir = decide (kind ≠ 0) ∧ u.rings[r].hpi = t.rings[r].hpi ∧
      u.rings[r].mpi = t.rings[r].mpi) := by
  obtain ⟨v, hv⟩ : ∃ v : State, v = modRing r (fun g => { g with
    kind := kind, mask := mask, interval := interval, dir := kind ≠ 0, seq := 0, edges := [], frames := [] }) t := ⟨_, rfl⟩
  refine replies_keeps (u := v) a rfl ?_ (hv ▸ modRing_keeps _ _ _) (by decide) ?_
  · have inRange : ¬ (kind ≠ 0 && (interval.toNat < 1 || interval.toNat > 60000)) = true := by
      simp only [Bool.and_eq_true, Bool.or_eq_true, decide_eq_true_eq, not_and]
      intro on
      have := range on
      omega
    have whole : ¬ (kind = 3 && interval.toNat % 100 ≠ 0) = true := by simpa using tenths
    have idle : ¬ t.rings[r].enable = true := by rw [off]; exact Bool.false_ne_true
    rw [hv]
    exact (if_neg (not_lt.mpr bulk)).trans ((if_neg (not_lt.mpr known)).trans ((if_neg inRange).trans ((if_neg whole).trans
      (if_neg idle))))
  · refine ⟨fun q other => ?_, ?_⟩
    · exact hv ▸ vmod_get_ne t.rings r q _ other
    · have entry : v.rings[r] = { t.rings[r] with
          kind := kind, mask := mask, interval := interval, dir := kind ≠ 0, seq := 0, edges := [], frames := [] } := by
        rw [hv, modRing_rings, vmod_get]
      show v.rings[r].kind = kind ∧ v.rings[r].mask = mask ∧ v.rings[r].interval = interval ∧ v.rings[r].dir = decide (kind ≠ 0) ∧
        v.rings[r].hpi = t.rings[r].hpi ∧ v.rings[r].mpi = t.rings[r].mpi
      rw [entry]
      exact ⟨rfl, rfl, rfl, rfl, rfl, rfl⟩

theorem streamSetup_noStream (fixed : r.val < 4) :
    Replies (.streamSetup h r kind mask interval) h 0x0107 idx s t { status := .outOfRange, detail := 3 } [] (fun _ => True) :=
  replies_unchanged a rfl (if_pos fixed)

theorem streamSetup_noKind (bulk : 4 ≤ r.val) (unknown : 6 < kind.toNat) :
    Replies (.streamSetup h r kind mask interval) h 0x0107 idx s t { status := .badParam, detail := 4 } [] (fun _ => True) :=
  replies_unchanged a rfl ((if_neg (not_lt.mpr bulk)).trans (if_pos unknown))

end

/-! ### STREAM_INTERVAL (R64, R74) -/

/-- An interval ends with `k` entries carried: SEQ goes one on (R64). -/
def streamNext (r : Ring) (k : Nat) (s : State) : State :=
  modRing r (fun g => { g with seq := g.seq + 1, edges := g.edges.drop k, frames := g.frames.drop k }) s

theorem streamInterval_idles {r : Ring} {s : State} (no : s.rings[r].kind = 0 ∨ s.rings[r].enable = false) :
    Idles (.streamInterval r) s := by
  refine idles_of_done (if_pos ?_)
  obtain off | off := no
  · simp [-Fin.getElem_fin, off]
  · simp [-Fin.getElem_fin, off]

section
variable {r : Ring} {s : State} (kind : s.rings[r].kind ≠ 0) (dir : s.rings[r].dir = true)
include kind dir

theorem streamInterval_drops (on : s.rings[r].enable = true) (none_ : canPost s r = false) :
    exec (.streamInterval r) s = done s (streamNext r (s.rings[r].edges.length + s.rings[r].frames.length) s) :=
  (if_neg (by simpa [-Fin.getElem_fin, dir, on] using kind)).trans (if_pos (by simp [none_]))

theorem streamInterval_fills (may : canPost s r = true) (owned : bulkOk s (streamBuffer s r) 0 = true) :
    ∃ (k : Nat) (win : List Host.Cell), exec (.streamInterval r) s =
      let t := returnStream r (reply .ok) { streamNext r k s with win := win }
      doneWin s t.win t := by
  have on : s.rings[r].enable = true := by
    simp only [canPost, Bool.and_eq_true] at may
    exact may.1.1
  exact ⟨_, _, (if_neg (by simpa [-Fin.getElem_fin, dir, on] using kind)).trans
    ((if_neg (by simp [may])).trans (if_neg (by simp [owned])))⟩

theorem streamInterval_returns (may : canPost s r = true) (owned : bulkOk s (streamBuffer s r) 0 = true) :
    Runs (.streamInterval r) s [.rings, .hst, .win] (fun u =>
      u.rings[r].mpi = s.rings[r].mpi + 1 ∧ u.rings[r].seq = s.rings[r].seq + 1 ∧ ∀ q : Ring, q ≠ r → u.rings[q] = s.rings[q]) := by
  obtain ⟨k, win, e⟩ := streamInterval_fills kind dir may owned
  obtain ⟨v, hv⟩ : ∃ v : State, v = { streamNext r k s with win := win } := ⟨_, rfl⟩
  have next : KeepsBut [.rings, .win] s v := by
    rw [hv]
    intro q hq; cases q <;> first | (simp at hq; done) | exact Eq.refl _
  have back : KeepsBut [.rings, .hst, .win] v (returnStream r (reply .ok) v) :=
    keepsBut_trans (keepsBut_sub _ (writeDesc_keeps _ _ _ _ _ _ _ _ _) rfl) (keepsBut_sub _ (returned_keeps _ _) rfl)
  have kept : KeepsBut [.rings, .hst, .win] s (returnStream r (reply .ok) v) := keepsBut_trans (keepsBut_sub _ next rfl) back
  rw [← hv] at e
  refine ⟨_, e.trans (doneWin_of_keeps _ (kept .pending (by decide)) (congrArg TimSt.tb (kept .tim (by decide)))), kept, ?_⟩
  obtain ⟨n, at_, rings⟩ : ∃ (n : Nat) (at_ : Option Nat), (returnStream r (reply .ok) v).rings =
      vmod v.rings r (fun g => { g with mpi := g.mpi + 1, unsignalled := n, holdAt := at_ }) := returned_rings r _
  have rings' : v.rings = vmod s.rings r (fun g => { g with seq := g.seq + 1, edges := g.edges.drop k, frames := g.frames.drop k }) := by
    rw [hv]; rfl
  dsimp only
  rw [rings, rings', vmod_vmod, vmod_get]
  exact ⟨rfl, rfl, fun q other => vmod_get_ne _ _ _ _ other⟩

end

/-- Settles O16: the two registers by the value written, streams by what their ring holds, and the hold by `signalRing`. -/
theorem ringRegistersAndStreams : Obligations.RingRegistersAndStreams := by
  refine ⟨fun p r v s open_ active => ⟨fun bad => ?_, hstRingCfgWrite_enables open_ active⟩, fun p r v s bad => ⟨?_, ?_⟩,
    fun p r v s open_ active on sound heard => ⟨fun forward fits owned => ?_, fun bad => ?_⟩,
    fun h r kind mask interval s t idx a => ⟨streamSetup_stores a, fun fixed => ⟨_, streamSetup_noStream a fixed⟩,
      fun bulk unknown => ⟨_, streamSetup_noKind a bulk unknown⟩⟩,
    fun r s kind on dir none_ => ?_, fun r s may kind dir owned => streamInterval_returns kind dir may owned,
    fun r s no => streamInterval_idles no, fun r s time some_ held => ringIrqHoldExpiry_signals time some_ held⟩
  · exact becomes_of_done (congrArg (done s) ((fromActive_active open_ _ active).trans (writeCfg_discards bad)))
  · exact becomes_of_done (congrArg (done s) (fromActive_drops _ bad))
  · exact becomes_of_done (congrArg (done s) (fromActive_drops _ bad))
  · exact hstRingHpiWrite_takes on sound open_ active forward fits owned (doorbell_ev p heard)
  · exact hstRingHpiWrite_stops on sound open_ active bad (doorbell_ev p heard)
  · refine becomes_of_done ((streamInterval_drops kind dir on none_).trans (congrArg (done s) ?_))
    exact modRing_congr rfl

end Sys2Proof.Safety

/-! ## SUPPORT. Port resets, links and host silence (03 R50, R51, R85; 08 R254) -/

namespace Sys2Proof.Safety

open Sys2Proof.Machine

/-! ### Events after events -/

theorem raise_grows (code subject : Nat) (data : List Nat) (s : State) : s.ev.held <+: (raise code subject data s).ev.held := by
  obtain ⟨l, e⟩ := raise_held code subject data s
  exact ⟨l, e.symm⟩

/-- An event takes one SEQ, and PINNED_LOG_FULL may take the one behind it (R82; 17 R496). -/
theorem raise_seq (code subject : Nat) (data : List Nat) (s : State) :
    (raise code subject data s).ev.seq = s.ev.seq + 1 ∨ (raise code subject data s).ev.seq = s.ev.seq + 2 := by
  unfold raise raiseAt
  dsimp only
  split
  · exact .inr (BitVec.add_assoc s.ev.seq 1 1)
  · exact .inl rfl

/-- What was told stays told while more events come to wait. -/
theorem tells_of_grows {s t u : State} {code subject : Nat} {data : List Nat} (more : t.ev.held <+: u.ev.held)
    (told : Tells s t code subject data) : Tells s u code subject data := by
  obtain ⟨e, mem, is⟩ := told
  exact ⟨e, more.subset mem, is⟩

/-! ### Registers of a port -/

theorem modHp_modHp (p : HPort) (f g : PortRegs → PortRegs) (s : State) : modHp p g (modHp p f s) = modHp p (fun r => g (f r)) s := by
  cases p <;> rfl

theorem modHp_id (p : HPort) (s : State) : modHp p (fun r => r) s = s := by cases p <;> rfl

theorem portRegs_congr {s t : State} (same : t.hst = s.hst) (p : HPort) : portRegs t p = portRegs s p := by
  cases p <;> simp only [portRegs, same]

/-- Vectors that are sent or kept pending change nothing else of their port's registers (R51; log 9). -/
theorem sendVectors_eq (p : HPort) (l : List Nat) (s : State) : ∃ (sent : List Nat) (pba : DWord),
    forEach l (sendVector p) s = modHp p (fun r => { r with sent := sent, pba := pba }) s := by
  induction l generalizing s with
  | nil =>
    refine ⟨(portRegs s p).sent, (portRegs s p).pba, (modHp_id p s).symm.trans ?_⟩
    exact modHp_congr rfl
  | cons v vs ih =>
    obtain ⟨a, b, one⟩ : ∃ (a : List Nat) (b : DWord), sendVector p v s = modHp p (fun r => { r with sent := a, pba := b }) s := by
      refine ⟨_, _, modHp_congr (g := fun r => { r with
        sent := if (portRegs s p).vecMask.getLsbD v then (portRegs s p).sent else (v :: (portRegs s p).sent).take 64
        pba := if (portRegs s p).vecMask.getLsbD v then (portRegs s p).pba ||| (1#64 <<< v) else (portRegs s p).pba }) ?_⟩
      split <;> rfl
    obtain ⟨a', b', rest⟩ := ih (sendVector p v s)
    refine ⟨a', b', rest.trans ?_⟩
    rw [one, modHp_modHp]

theorem unmasked_eq (p : HPort) (old : DWord) (s : State) : ∃ (sent : List Nat) (pba : DWord),
    unmasked p old s = modHp p (fun r => { r with sent := sent, pba := pba }) s := by
  unfold unmasked
  dsimp only
  split
  · refine ⟨(portRegs s p).sent, (portRegs s p).pba, (modHp_id p s).symm.trans ?_⟩
    exact modHp_congr rfl
  · exact sendVectors_eq p _ s

/-! ### Links (R50) -/

/-- A link event, where the image runs to say it. -/
def linkSaid (p : HPort) (up : Bool) (s : State) : State := if s.pwr.imageRuns then linkEvent p up s else s

theorem linkSaid_keeps (p : HPort) (up : Bool) (s : State) : KeepsBut [.ev] s (linkSaid p up s) :=
  keepsBut_ite (raise_keeps _ _ _ _) (keepsBut_refl _ _)

theorem linkSaid_tells (p : HPort) (up : Bool) (f : PortRegs → PortRegs) {s : State} (runs : s.pwr.imageRuns = true) :
    Tells s (linkSaid p up (modHp p f s)) 0x810A (portCode p)
      [ef 28 0 (portCode p), ef 28 1 (bN up), ef 28 2 (bN (s.hst.active == p))] := by
  have kept := modHp_keeps p f s
  have runs' : (modHp p f s).pwr.imageRuns = true := by rw [show (modHp p f s).pwr = s.pwr from kept .pwr (by decide), runs]
  rw [linkSaid, if_pos runs', ← modHp_active p f s]
  exact tells_of_ev (kept .ev (by decide)) (raise_tells _ _ _ _)

/-- What a link that goes down leaves of its port's registers: the reset of R51, and no link. -/
def regsDown (tb : Nat) (r : PortRegs) : PortRegs :=
  { link := false, width := 0, speed := 0, downAt := tb, sent := r.sent, readValue := r.readValue }

theorem hostLinkChange_down {p : HPort} (w : BitVec 3) (v : BitVec 2) {s : State} (up : (portRegs s p).link = true) :
    exec (.hostLinkChange p false w v) s = done s (linkSaid p false (modHp p (regsDown s.tim.tb) s)) := by
  have e : modHp p (fun r => { r with link := false, width := 0, speed := 0, downAt := s.tim.tb }) (portReset p s) =
      modHp p (regsDown s.tim.tb) s := modHp_modHp _ _ _ _
  have runs : (modHp p (regsDown s.tim.tb) s).pwr = s.pwr := modHp_keeps _ _ _ .pwr (by decide)
  simp only [exec, execHostLinkChange, Bool.false_eq_true, if_false, up, Bool.not_true]
  rw [e, linkSaid, runs]

theorem link_goes_down {p : HPort} (w : BitVec 3) (v : BitVec 2) {s : State} (up : (portRegs s p).link = true) :
    Runs (.hostLinkChange p false w v) s [.hst, .ev] (fun u =>
      (portRegs u p).link = false ∧ (portRegs u p).width = 0 ∧ (portRegs u p).speed = 0 ∧ (portRegs u p).irqPend = 0 ∧
      (portRegs u p).irqMask = 0xFFFF_FFFF_FFFF_FFFF ∧ portRegs u (otherPort p) = portRegs s (otherPort p) ∧
      u.hst.active = s.hst.active ∧
      (s.pwr.imageRuns = true → Tells s u 0x810A (portCode p) [ef 28 0 (portCode p), ef 28 1 0, ef 28 2 (bN (s.hst.active == p))])) := by
  have said := linkSaid_keeps p false (modHp p (regsDown s.tim.tb) s)
  have hst : (linkSaid p false (modHp p (regsDown s.tim.tb) s)).hst = (modHp p (regsDown s.tim.tb) s).hst := said .hst (by decide)
  refine runs_of_done (hostLinkChange_down w v up) (keepsBut_trans (keepsBut_sub _ (modHp_keeps _ _ _) rfl) (keepsBut_sub _ said rfl))
    (by decide) ?_
  rw [portRegs_congr hst, portRegs_congr hst, portRegs_modHp, portRegs_modHp_other, hst, modHp_active]
  exact ⟨rfl, rfl, rfl, rfl, rfl, rfl, rfl, fun runs => linkSaid_tells p false _ runs⟩

/-- HOST_LINK_DEGRADED, where it applies (R50). -/
def degradedSaid (p : HPort) (w : BitVec 3) (v : BitVec 2) (s : State) : State :=
  if s.pwr.imageRuns && (w.toNat < 4 || v.toNat < 3) then
    raise 0x810B (portCode p) [ef 28 0 (portCode p), ef 29 0 w.toNat, ef 30 0 v.toNat] s
  else s

theorem degradedSaid_keeps (p : HPort) (w : BitVec 3) (v : BitVec 2) (s : State) : KeepsBut [.ev] s (degradedSaid p w v s) :=
  keepsBut_ite (raise_keeps _ _ _ _) (keepsBut_refl _ _)

theorem degradedSaid_grows (p : HPort) (w : BitVec 3) (v : BitVec 2) (s : State) : s.ev.held <+: (degradedSaid p w v s).ev.held := by
  unfold degradedSaid
  split
  · exact raise_grows _ _ _ s
  · exact List.prefix_rfl

/-- What a link that comes up sets of its port's registers. -/
def regsUp (w : BitVec 3) (v : BitVec 2) (r : PortRegs) : PortRegs := { r with link := true, width := w, speed := v }

theorem hostLinkChange_up (p : HPort) (w : BitVec 3) (v : BitVec 2) (s : State) : exec (.hostLinkChange p true w v) s =
    done s (unmasked p 0xFFFF_FFFF_FFFF_FFFF (degradedSaid p w v (linkSaid p true (modHp p (regsUp w v) s)))) := by
  have pwr : (modHp p (regsUp w v) s).pwr = s.pwr := modHp_keeps _ _ _ .pwr (by decide)
  have pwr' : (linkSaid p true (modHp p (regsUp w v) s)).pwr = s.pwr := (linkSaid_keeps _ _ _ .pwr (by decide)).trans pwr
  simp only [exec, execHostLinkChange, if_true]
  rw [degradedSaid, pwr', linkSaid, pwr]
  rfl

theorem link_comes_up (p : HPort) (w : BitVec 3) (v : BitVec 2) (s : State) :
    Runs (.hostLinkChange p true w v) s [.hst, .ev] (fun u =>
      (portRegs u p).link = true ∧ (portRegs u p).width = w ∧ (portRegs u p).speed = v ∧
      (portRegs u p).irqPend = (portRegs s p).irqPend ∧ portRegs u (otherPort p) = portRegs s (otherPort p) ∧
      u.hst.active = s.hst.active ∧
      (s.pwr.imageRuns = true → Tells s u 0x810A (portCode p) [ef 28 0 (portCode p), ef 28 1 1, ef 28 2 (bN (s.hst.active == p))]) ∧
      (s.pwr.imageRuns = true → (w.toNat < 4 ∨ v.toNat < 3) → ∃ e ∈ u.ev.held, e.code = 0x810B ∧
        (e.seq = s.ev.seq + 1 ∨ e.seq = s.ev.seq + 2) ∧ e.subject = BitVec.ofNat 16 (portCode p))) := by
  obtain ⟨a, ha⟩ : ∃ a : State, a = modHp p (regsUp w v) s := ⟨_, rfl⟩
  obtain ⟨b, hb⟩ : ∃ b : State, b = linkSaid p true a := ⟨_, rfl⟩
  obtain ⟨c, hc⟩ : ∃ c : State, c = degradedSaid p w v b := ⟨_, rfl⟩
  obtain ⟨sent, pba, hu⟩ := unmasked_eq p 0xFFFF_FFFF_FFFF_FFFF c
  have e := hostLinkChange_up p w v s
  rw [← ha, ← hb, ← hc, hu] at e
  have ka : KeepsBut [.hst] s a := ha ▸ modHp_keeps _ _ _
  have kb : KeepsBut [.ev] a b := hb ▸ linkSaid_keeps _ _ _
  have kc : KeepsBut [.ev] b c := hc ▸ degradedSaid_keeps _ _ _ _
  have ku := modHp_keeps p (fun r => { r with sent := sent, pba := pba }) c
  have hst : c.hst = a.hst := Eq.trans (kc .hst (by decide)) (kb .hst (by decide))
  have grows : b.ev.held <+: (modHp p (fun r => { r with sent := sent, pba := pba }) c).ev.held := by
    rw [show (modHp p (fun r => { r with sent := sent, pba := pba }) c).ev = c.ev from ku .ev (by decide), hc]
    exact degradedSaid_grows p w v b
  have active : a.hst.active = s.hst.active := by rw [ha, modHp_active]
  have regs : portRegs c p = regsUp w v (portRegs s p) := by rw [portRegs_congr hst, ha, portRegs_modHp]
  have other : portRegs c (otherPort p) = portRegs s (otherPort p) := by rw [portRegs_congr hst, ha, portRegs_modHp_other]
  refine runs_of_done e (keepsBut_trans (keepsBut_sub _ ka rfl) (keepsBut_trans (keepsBut_sub _ kb rfl)
    (keepsBut_trans (keepsBut_sub _ kc rfl) (keepsBut_sub _ ku rfl)))) (by decide) ?_
  rw [portRegs_modHp, portRegs_modHp_other, modHp_active, regs, other, hst, active]
  refine ⟨rfl, rfl, rfl, rfl, rfl, rfl, fun runs => tells_of_grows grows ?_, fun runs narrow => ?_⟩
  · rw [hb, ha]
    exact linkSaid_tells p true _ runs
  · have pwr : a.pwr = s.pwr := ka .pwr (by decide)
    have said : b = linkEvent p true a := by rw [hb, linkSaid, pwr, if_pos runs]
    have told : Tells b c 0x810B (portCode p) [ef 28 0 (portCode p), ef 29 0 w.toNat, ef 30 0 v.toNat] := by
      rw [hc, degradedSaid, show b.pwr = s.pwr from Eq.trans (kb .pwr (by decide)) pwr, if_pos (by simpa [runs] using narrow)]
      exact raise_tells _ _ _ b
    obtain ⟨x, mem, seq, code, subject, -⟩ := told
    have ev : (modHp p (fun r => { r with sent := sent, pba := pba }) c).ev = c.ev := ku .ev (by decide)
    refine ⟨x, by rwa [ev], code, ?_, subject⟩
    rw [seq, said, ← show a.ev = s.ev from ka .ev (by decide)]
    exact raise_seq _ _ _ a

/-! ### A quench only adds events (08 R244, R254) -/

/-- What a quench leaves: the events that wait, and the request of host silence. -/
structure Quenches (s t : State) : Prop where
  held : s.ev.held <+: t.ev.held
  silence : t.qm.fwSilence = s.qm.fwSilence

theorem quenches_refl (s : State) : Quenches s s := ⟨List.prefix_rfl, rfl⟩

theorem quenches_trans {s t u : State} (h : Quenches s t) (k : Quenches t u) : Quenches s u :=
  ⟨h.held.trans k.held, k.silence.trans h.silence⟩

theorem quenches_of_keeps {l : List Part} {s t : State} (k : KeepsBut l s t)
    (apart : [Part.ev, .qm].all (fun p => decide (p ∉ l)) = true) : Quenches s t := by
  simp only [List.all_cons, List.all_nil, Bool.and_true, Bool.and_eq_true, decide_eq_true_eq] at apart
  have ev : t.ev = s.ev := k .ev apart.1
  have qm : t.qm = s.qm := k .qm apart.2
  exact ⟨by rw [ev], by rw [qm]⟩

theorem quenches_ite {s t u : State} {c : Prop} [Decidable c] (h : Quenches s t) (k : Quenches s u) : Quenches s (if c then t else u) := by
  split <;> assumption

theorem quenches_cond {s t u : State} {c : Prop} [Decidable c] (h : Quenches s t) (k : Quenches t u) :
    Quenches s (if c then u else t) :=
  quenches_ite (quenches_trans h k) h

theorem quenches_forEach {α : Type} (xs : List α) (f : α → State → State) (s : State) (h : ∀ a t, Quenches t (f a t)) :
    Quenches s (forEach xs f s) := by
  unfold forEach
  induction xs generalizing s with
  | nil => exact quenches_refl s
  | cons x xs ih => exact quenches_trans (h x s) (ih _)

section
variable (s : State)

theorem raiseAt_quenches (code level : Nat) (pin : Bool) (time : DWord) (subject : Nat) (data : List Nat) :
    Quenches s (raiseAt code level pin time subject data s) := by
  unfold raiseAt
  dsimp only
  split
  · exact ⟨(List.prefix_append _ _).trans (List.prefix_append _ _), rfl⟩
  · exact ⟨List.prefix_append _ _, rfl⟩

theorem raise_quenches (code subject : Nat) (data : List Nat) : Quenches s (raise code subject data s) := raiseAt_quenches _ _ _ _ _ _ _

theorem modCon_quenches (n : Chan) (f : ConCh → ConCh) : Quenches s (modCon n f s) := quenches_of_keeps (modCon_keeps n f s) (by decide)

theorem modIns_quenches (n : Chan) (f : InsCh → InsCh) : Quenches s (modIns n f s) := quenches_of_keeps (modIns_keeps n f s) (by decide)

theorem abortCycle_quenches (n : Chan) (reason : Nat) : Quenches s (abortCycle n reason s) := by
  unfold abortCycle
  dsimp only
  have off (f : ConCh → ConCh) (g : CycCh → CycCh) : Quenches s (modCyc n g (modCon n f s)) :=
    quenches_trans (modCon_quenches s n f) (quenches_of_keeps (modCyc_keeps n g _) (by decide))
  split
  · exact quenches_refl s
  · split
    · exact off _ _
    · exact quenches_trans (off _ _) (raise_quenches _ _ _ _)

theorem setCh_quenches (n : Chan) (new : ChState) (cause : Nat) (host : Bool) : Quenches s (setCh n new cause host s) := by
  unfold setCh
  dsimp only
  refine quenches_ite (quenches_refl s) ?_
  refine quenches_trans ?_ (quenches_of_keeps (markDirty_keeps _ _) (by decide))
  refine quenches_trans ?_ (raise_quenches _ _ _ _)
  refine quenches_cond ?_ (quenches_of_keeps (queueWrite_keeps _ _) (by decide))
  refine quenches_cond ?_ (modIns_quenches _ _ _)
  have left : Quenches s (if s.con[n].state = .active
      then abortCycle n 1 (modCon n (fun c => { c with state := new, cause := BitVec.ofNat 8 cause }) s)
      else modCon n (fun c => { c with state := new, cause := BitVec.ofNat 8 cause }) s) :=
    quenches_cond (modCon_quenches _ _ _) (abortCycle_quenches _ _ _)
  exact quenches_ite left (quenches_trans left (quenches_of_keeps (dropService_keeps _ _ _) (by decide)))

theorem quenchChan_quenches (n : Chan) : Quenches s (quenchChan n s) := by
  have safe (c : Prop) [Decidable c] (f : InsCh → InsCh) : Quenches s (if c then modIns n f s else s) :=
    quenches_cond (quenches_refl s) (modIns_quenches _ _ _)
  unfold quenchChan
  refine quenches_ite ?_ (safe _ _)
  refine quenches_cond ?_ (quenches_of_keeps (seqStep_keeps _ _ _) (by decide))
  refine quenches_cond ?_ (quenches_of_keeps (endSeq_keeps _ _ _) (by decide))
  refine quenches_trans ?_ (setCh_quenches _ _ _ _ _)
  refine quenches_trans ?_ (modCon_quenches _ _ _)
  exact quenches_cond (safe _ _) (raise_quenches _ _ _ _)

theorem openL0_quenches (g origin : Nat) : Quenches s (openL0 g origin s) := by
  unfold openL0
  split
  · exact ⟨List.prefix_rfl, rfl⟩
  · refine quenches_trans ?_ (raiseAt_quenches _ _ _ _ _ _ _)
    exact ⟨List.prefix_rfl, rfl⟩

theorem latch_quenches (mask : Byte) (c : QCause) : Quenches s (latch mask c s) := by
  unfold latch
  dsimp only
  obtain ⟨t, ht⟩ : ∃ t : State, t = { s with qm := { s.qm with
    latched := s.qm.latched ||| mask
    quenches := s.qm.quenches + BitVec.ofNat 32 (finsOf 8 (fun g => mask.getLsbD g.val)).length
    causes := (finsOf 8 (fun g => mask.getLsbD g.val)).foldl (fun v g => vmod v g (fun _ => c)) s.qm.causes } } := ⟨_, rfl⟩
  have latched : Quenches s t := ht ▸ ⟨List.prefix_rfl, rfl⟩
  rw [← ht]
  have told (subject : Nat) (data : List Nat) : Quenches s (raise 0x8301 subject data t) := quenches_trans latched (raise_quenches _ _ _ _)
  refine quenches_ite (told _ _) ?_
  refine quenches_trans ?_ (quenches_forEach _ _ _ fun g t => quenches_forEach _ _ _ fun n u => quenchChan_quenches u n)
  refine quenches_trans ?_ (quenches_of_keeps (broadcastTrip_keeps _ _ _) (by decide))
  exact quenches_cond (told _ _) (quenches_forEach _ _ _ fun g t => openL0_quenches t _ _)

theorem evalMatrix_quenches : Quenches s (evalMatrix s) := by
  unfold evalMatrix
  exact quenches_ite (quenches_refl s) (latch_quenches _ _ _)

end

/-! ### Host silence (R85; 08 R254) -/

/-- Silence declared: SILENT, counted, and HOST_SILENCE. -/
def silenced (byLink : Bool) (s : State) : State :=
  raise 0x8108 0xFFFF [ef 28 1 (bN byLink)]
    { s with hst := { s.hst with silent := true, silentByLink := byLink, declared := s.hst.declared + 1, silentAt := s.tim.tb } }

section
variable {byLink : Bool} {s : State}

theorem silenced_keeps : KeepsBut [.hst, .ev] s (silenced byLink s) :=
  keepsBut_trans (keepsBut_sub _ (keepsBut_hst _ _) rfl) (keepsBut_sub _ (raise_keeps _ _ _ _) rfl)

theorem silenced_hst : (silenced byLink s).hst =
    { s.hst with silent := true, silentByLink := byLink, declared := s.hst.declared + 1, silentAt := s.tim.tb } :=
  raise_keeps _ _ _ _ .hst (by decide)

theorem silenced_tells : Tells s (silenced byLink s) 0x8108 0xFFFF [ef 28 1 (bN byLink)] := tells_of_ev rfl (raise_tells _ _ _ _)

theorem hostSilenceTimeout_idles (silent : s.hst.silent = true) : Idles (.hostSilenceTimeout byLink) s :=
  idles_of_done (if_pos (by simp [silent]))

variable (heard : s.hst.silent = false) (runs : s.pwr.imageRuns = true)
  (down : byLink = true → (portRegs s s.hst.active).link = false)
include heard runs down

theorem hostSilenceTimeout_declares : exec (.hostSilenceTimeout byLink) s = done s (if pNat s Prm.insSilenceAction = 1 then
    evalMatrix { silenced byLink s with qm := { (silenced byLink s).qm with fwSilence := true } } else silenced byLink s) := by
  refine if_neg ?_
  cases byLink
  · simp [heard, runs]
  · simp [heard, runs, down rfl]

theorem silence_announces (quiet : pNat s Prm.insSilenceAction ≠ 1) : Runs (.hostSilenceTimeout byLink) s [.hst, .ev] (fun u =>
    u.hst = { s.hst with silent := true, silentByLink := byLink, declared := s.hst.declared + 1, silentAt := s.tim.tb } ∧
    Tells s u 0x8108 0xFFFF [ef 28 1 (bN byLink)]) :=
  runs_of_done ((hostSilenceTimeout_declares heard runs down).trans (congrArg (done s) (if_neg quiet))) silenced_keeps (by decide)
    ⟨silenced_hst, silenced_tells⟩

theorem silence_quenches (quench : pNat s Prm.insSilenceAction = 1) : ∃ u, exec (.hostSilenceTimeout byLink) s = .next (settle u) ∧
    u.qm.fwSilence = true ∧ u.hst.silent = true ∧ u.hst.declared = s.hst.declared + 1 ∧
    Tells s u 0x8108 0xFFFF [ef 28 1 (bN byLink)] := by
  obtain ⟨v, hv⟩ : ∃ v : State, v = { silenced byLink s with qm := { (silenced byLink s).qm with fwSilence := true } } := ⟨_, rfl⟩
  have e := (hostSilenceTimeout_declares heard runs down).trans (congrArg (done s) (if_pos quench))
  rw [← hv] at e
  have asked : KeepsBut [.qm] (silenced byLink s) v := by
    rw [hv]
    intro p hp; cases p <;> first | (simp at hp; done) | exact Eq.refl _
  have evaluated := evalMatrix_keeps v
  have kept : KeepsBut (.hst :: quenchParts) s (evalMatrix v) :=
    keepsBut_trans (keepsBut_sub _ silenced_keeps rfl) (keepsBut_trans (keepsBut_sub _ asked rfl) (keepsBut_sub _ evaluated rfl))
  have adds := evalMatrix_quenches v
  have hst : (evalMatrix v).hst = (silenced byLink s).hst := Eq.trans (evaluated .hst (by decide)) (asked .hst (by decide))
  refine ⟨evalMatrix v, e.trans (done_of_keeps (kept .win (by decide)) (kept .pending (by decide))
    (congrArg TimSt.tb (kept .tim (by decide)))), adds.silence.trans (by rw [hv]), ?_, ?_, ?_⟩
  · rw [hst, silenced_hst]
  · rw [hst, silenced_hst]
  · refine tells_of_grows adds.held ?_
    rw [hv]
    exact silenced_tells

end

/-- Settles O17: one port's registers alone change, and silence is declared by `silenced`. -/
theorem hostLinksAndSilence : Obligations.HostLinksAndSilence := by
  refine ⟨fun p k s => ?_, fun p w v s up => link_goes_down w v up, fun p w v s down => ?_, link_comes_up,
    fun byLink s heard runs down quiet => silence_announces heard runs down quiet,
    fun byLink s heard runs down quench => silence_quenches heard runs down quench,
    fun byLink s silent => hostSilenceTimeout_idles silent⟩
  · cases k <;> exact becomes_of_done rfl
  · refine idles_of_done ?_
    simp only [exec, execHostLinkChange, Bool.false_eq_true, if_false, down, Bool.not_false, if_true]

end Sys2Proof.Safety

/-! ## SUPPORT. GET_PARAM and SET_PARAM (03 R86, R88) -/

namespace Sys2Proof.Safety

open Sys2Proof.Machine

/-! ### Values of a view -/

theorem sealedValue_none {id : Nat} (unsealed : sealedId id = false) (s : State) : sealedValue s id = none := by
  simp only [sealedId, Bool.or_eq_false_iff, decide_eq_false_iff_not, Bool.and_eq_false_iff] at unsealed
  obtain ⟨⟨address, twin⟩, hall⟩ := unsealed
  have object : id ≠ 0x8000 := by omega
  rw [sealedValue, if_neg address, if_neg twin, if_neg object]

/-- `v` is what a view shows of a parameter, `staged` when it is a staged change (R88). -/
def Shows (t : State) (id : Nat) (view : BitVec 2) (v : List Byte) (staged : Bool) : Prop :=
  view = 0 ∧ v = valueIn t.cfg.eff id ∧ staged = false ∨
  view = 1 ∧ v = tabGet [] t.cfg.staged id ∧ v ≠ [] ∧ staged = true ∨
  view = 1 ∧ tabGet [] t.cfg.staged id = [] ∧ v = valueIn t.cfg.stored id ∧ staged = false ∨
  view = 2 ∧ v = valueIn t.cfg.stored id ∧ staged = false

section
variable {t : State} {id : Nat} {view : BitVec 2} {v : List Byte} {staged : Bool} (shows_ : Shows t id view v staged)
include shows_

theorem viewValue_of_shows : viewValue t id view.toNat = (v, staged) := by
  have one : (1 : BitVec 2).toNat = 1 := rfl
  obtain ⟨rfl, rfl, rfl⟩ | ⟨rfl, rfl, some_, rfl⟩ | ⟨rfl, none_, rfl, rfl⟩ | ⟨rfl, rfl, rfl⟩ := shows_
  · rfl
  · obtain ⟨x, xs, e⟩ := List.exists_cons_of_ne_nil some_
    simp only [viewValue, one, e]
  · simp only [viewValue, one, none_]
  · rfl

theorem view_of_shows : view ≠ 3 := by
  obtain ⟨rfl, -⟩ | ⟨rfl, -⟩ | ⟨rfl, -⟩ | ⟨rfl, -⟩ := shows_ <;> decide

end

theorem paramValue_view {row : PRow} {id : Nat} (known : paramRow id = some row) (unsealed : sealedId id = false) (s : State)
    (view : Nat) : paramValue s id view = some (viewValue s id view) := by
  simp only [paramValue, sealedValue_none unsealed, known]

/-! ### GET_PARAM -/

/-- The reply that carries a value, or its length where a buffer carries it. -/
def valueReply (v : List Byte) (staged : Bool) (words : List (Nat × Nat)) : Reply :=
  { okWords ((4, v.length) :: words) with detail := if staged then 1 else 0 }

section
variable {h : Hdr} {id : Half} {view : BitVec 2} {bulk : Bulk} {s t : State} {idx : Word} {row : PRow} {v : List Byte} {staged : Bool}
  (a : Admits h 0x0101 4 .none false s idx t) (known : paramRow id.toNat = some row) (unsealed : sealedId id.toNat = false)
  (parameter : id ≠ 0x8100) (shows_ : Shows t id.toNat view v staged)
include a known unsealed parameter shows_

omit a in
/-- The body of GET_PARAM on the state it is taken in: a short value in the words, a long one in the buffer. -/
theorem execGetParam_value : ∃ body, exec (.getParam h id view bulk) s = hostCmd h 0x0101 4 .none false body s ∧
    body t = if v.length ≤ 32 then .now (valueReply v staged (valueWords v)) t
      else if !hasBulk h then .now (reply .badParam (min 15 (3 + h.length.toNat / 4))) t
      else if !bulkOk t bulk v.length then .now (reply .badParam 13) t
      else .now (valueReply v staged []) t (bulkFill bulk 0 t.tim.station v) := by
  have found : paramValue t id.toNat view.toNat = some (v, staged) := by
    rw [paramValue_view known unsealed, viewValue_of_shows shows_]
  refine ⟨_, rfl, (if_neg (view_of_shows shows_)).trans ((if_neg (by simpa using fun same => absurd same parameter)).trans ?_)⟩
  dsimp only
  rw [found]
  cases staged <;> rfl

theorem getParam_words (short : v.length ≤ 32) : Replies (.getParam h id view bulk) h 0x0101 idx s t
    (valueReply v staged (valueWords v)) [] (fun _ => True) := by
  obtain ⟨body, e, b⟩ := execGetParam_value (h := h) (bulk := bulk) (s := s) known unsealed parameter shows_
  exact replies_unchanged a e (b.trans (if_pos short))

theorem getParam_bulk (long : 32 < v.length) (words : 48 ≤ h.length.toNat) (owned : bulkOk t bulk v.length = true)
    {P : State → Prop} (q : ∀ u : State, u.win = writeAll t.win (bulkFill bulk 0 t.tim.station v) → P u) :
    Replies (.getParam h id view bulk) h 0x0101 idx s t (valueReply v staged []) [.win] P := by
  obtain ⟨body, e, b⟩ := execGetParam_value (h := h) (bulk := bulk) (s := s) known unsealed parameter shows_
  obtain ⟨w, hw⟩ : ∃ w, w = bulkFill bulk 0 t.tim.station v := ⟨_, rfl⟩
  have answer : body t = .now (valueReply v staged []) t w := by
    rw [hw, b, if_neg (not_le.mpr long), if_neg (by simpa [hasBulk] using words), if_neg (by simp [owned])]
  have kept : KeepsBut [.cmd, .win] t t := keepsBut_refl _ _
  rw [← hw] at q
  exact replies_of_writes a e answer rfl rfl rfl kept (q _ rfl)

end

/-! ### A filled buffer (R64, R65) -/

section
variable {t : State} {bulk : Bulk} {v : List Byte} (owned : bulkOk t bulk v.length = true)
include owned

/-- A buffer that is owned lies in the pool and holds header and payload. -/
theorem bulkOk_size : 16 + v.length ≤ bulk.length.toNat ∧ bulk.offset.toNat + bulk.length.toNat ≤ winSize := by
  simp only [bulkOk, Bool.and_eq_true, decide_eq_true_eq] at owned
  obtain ⟨⟨⟨⟨-, inside⟩, -⟩, fits⟩, -⟩ := owned
  exact ⟨fits, inside⟩

/-- A filled buffer: its payload, OWN clear in its header, and nothing else of the window changed. -/
theorem bulkFill_fills (wf : WindowForm t) (seq : Word) (time : DWord) {win : List Host.Cell}
    (hwin : win = writeAll t.win (bulkFill bulk seq time v)) :
    memRead win (bulk.offset.toNat + 16) v.length = v ∧ bitOf (memNum win bulk.offset.toNat 4) 31 = false ∧
      ∀ k, k < bulk.offset.toNat ∨ bulk.offset.toNat + 16 + v.length ≤ k → memByte win k = memByte t.win k := by
  obtain ⟨fits, inside⟩ := bulkOk_size owned
  have small : v.length < 2 ^ 31 := by
    simp only [winSize] at inside
    omega
  obtain ⟨o, ho⟩ : ∃ o, o = bulk.offset.toNat := ⟨_, rfl⟩
  obtain ⟨m1, h1⟩ : ∃ m, m = memWrite t.win (o + 16) v := ⟨_, rfl⟩
  obtain ⟨m2, h2⟩ : ∃ m, m = memWrite m1 (o + 8) (leBytes 8 time.toNat) := ⟨_, rfl⟩
  obtain ⟨m3, h3⟩ : ∃ m, m = memWrite m2 (o + 4) (leBytes 4 seq.toNat) := ⟨_, rfl⟩
  have w1 : Memory.wf m1 = true := h1 ▸ memWrite_wf _ _ _ wf
  have w2 : Memory.wf m2 = true := h2 ▸ memWrite_wf _ _ _ w1
  have w3 : Memory.wf m3 = true := h3 ▸ memWrite_wf _ _ _ w2
  have e : win = memWrite m3 o (leBytes 4 v.length) := by
    rw [hwin, h3, h2, h1, ho]
    simp only [bulkFill, writeAll, List.foldl_cons, List.foldl_nil]
  rw [← ho, e]
  refine ⟨?_, ?_, fun k out => ?_⟩
  · rw [memRead_memWrite_apart w3 _ _ (.inr (by rw [length_leBytes]; omega)), h3,
      memRead_memWrite_apart w2 _ _ (.inr (by rw [length_leBytes]; omega)), h2,
      memRead_memWrite_apart w1 _ _ (.inr (by rw [length_leBytes])), h1, memRead_memWrite wf]
  · rw [memNum_memWrite w3, Nat.mod_eq_of_lt (by omega)]
    exact Nat.testBit_lt_two_pow small
  · rw [memByte_memWrite_ne m3 o k _ w3 (by rw [length_leBytes]; omega), h3,
      memByte_memWrite_ne m2 (o + 4) k _ w2 (by rw [length_leBytes]; omega), h2,
      memByte_memWrite_ne m1 (o + 8) k _ w1 (by rw [length_leBytes]; omega), h1, memByte_memWrite_ne t.win (o + 16) k v wf (by omega)]

end

/-! ### SET_PARAM -/

section
variable {h : Hdr} {id len : Half} {value : List Byte} {bulk : Bulk} {s t : State} {idx : Word}
  (a : Admits h 0x0102 8 .none false s idx t)
include a

theorem setParam_sealed (sealed_ : sealedId id.toNat = true) :
    Replies (.setParam h id len value bulk) h 0x0102 idx s t { status := .sealed } [] (fun _ => True) :=
  replies_unchanged a rfl (if_pos sealed_)

theorem setParam_unknown (unsealed : sealedId id.toNat = false) (unknown : paramRow id.toNat = none) :
    Replies (.setParam h id len value bulk) h 0x0102 idx s t { status := .badParam, detail := 3 } [] (fun _ => True) := by
  refine replies_unchanged a rfl ((if_neg (by simp [unsealed])).trans ?_)
  dsimp only
  rw [unknown]
  rfl

/-- A value in the descriptor that meets its row is staged, and no other (R86). -/
theorem setParam_stages {row : PRow} (unsealed : sealedId id.toNat = false) (known : paramRow id.toNat = some row)
    (size : len.toNat = row.size) (short : len.toNat ≤ 32) (long : 8 + len.toNat ≤ h.length.toNat) (whole : value.length = len.toNat)
    (meets : checkValue row value = .ok) (room : tabGet [] t.cfg.staged id.toNat ≠ [] ∨ t.cfg.staged.length < 256) :
    Replies (.setParam h id len value bulk) h 0x0102 idx s t { status := .ok } [.cfg]
      (fun u => u.cfg = { t.cfg with staged := tabPut [] t.cfg.staged id.toNat value }) := by
  have inWords : decide (32 < len.toNat) = false := by simpa using short
  have given : (value ++ List.replicate len.toNat 0).take len.toNat = value := by rw [← whole, List.take_left]
  have free : ¬ (decide (tabGet [] t.cfg.staged id.toNat = []) && decide (t.cfg.staged.length ≥ 256)) = true := by
    simp only [Bool.and_eq_true, decide_eq_true_eq, not_and, not_le]
    exact room.resolve_left ∘ not_not.mpr
  refine replies_keeps a rfl ((if_neg (by simp [unsealed])).trans ?_) (keepsBut_cfg _ { t.cfg with
    staged := tabPut [] t.cfg.staged id.toNat value }) (by decide) rfl
  dsimp only
  rw [known]
  dsimp only
  rw [inWords, if_neg (not_not.mpr size), if_neg (by simpa using long), if_neg (by simp)]
  simp only [Bool.false_eq_true, if_false, given, meets]
  rw [if_neg free]
  rfl

end

/-- Settles O12: what a view shows, where its value is carried, and what is staged. -/
theorem parameterReadsAndWrites : Obligations.ParameterReadsAndWrites := by
  refine ⟨fun h id view bulk s t idx row v staged a known unsealed parameter shows_ => ⟨fun short => ?_, fun long words owned wf => ?_⟩,
    fun h id len value bulk s t idx a => ⟨setParam_sealed a, setParam_unknown a, fun row => setParam_stages a⟩⟩
  · exact getParam_words a known unsealed parameter shows_ short
  · exact getParam_bulk a known unsealed parameter shows_ long words owned fun u hwin => bulkFill_fills owned wf 0 t.tim.station hwin

end Sys2Proof.Safety

/-! ## SUPPORT. References, load-all requests, modes and restages of the host (03 R57, R58, R70, R75 to R80; 07 R217; 08 R232) -/

namespace Sys2Proof.Safety

open Sys2Proof.Machine

/-! ### ARM_REFERENCE -/

/-- What the module's state refuses rests on its state and its role alone. -/
theorem refusal_congr {s t : State} (pwr : t.pwr = s.pwr) (twn : t.twn = s.twn) (op : Nat) : refusal op t = refusal op s := by
  unfold refusal isMaster
  rw [pwr, twn]

/-- The answer to a reference that is taken: the generation it enters, flags, applied voltage and channels (R76). -/
def refReply (r : RefDesc) (next : Nat) (s : State) : Reply :=
  let late := decide (r.period.toNat < next)
  let first := if late then next else r.period.toNat
  let x := setFor s first ((first - next) / max 1 (tctl s)) (max 1 (pNat s Prm.insHorizon))
  okWords [(3, (nextGen s).toNat), (4, bN x.saturated + 2 * bN late + 4 * bN x.clamped), (5, wrapI 32 x.vapplied),
    (6, (activeChans s).length)]

/-- The state that has taken a reference: host activity, and a late one counted (R80, R84). -/
def refTaken (r : RefDesc) (next : Nat) (s : State) : State :=
  let t := activity (keepRef r s.tim.station s)
  if decide (r.period.toNat < next) then countLate r t else t

theorem takeRef_accepts {ref : RefDesc} {s : State} (ok : refRefused s ref = none) : takeRef ref s =
    .now (refReply ref (nextStart s) (activity (keepRef ref s.tim.station s))) (refTaken ref (nextStart s) s) [] := by
  simp only [takeRef, ok]
  rfl

theorem takeRef_refuses {ref : RefDesc} {s : State} {r : Reply} (bad : refRefused s ref = some r) : takeRef ref s = .now r s [] := by
  simp only [takeRef, bad]

theorem keepRef_keeps (r : RefDesc) (at_ : DWord) (s : State) : KeepsBut [.ins] s (keepRef r at_ s) := keepsBut_ins _ _

theorem refTaken_keeps (r : RefDesc) (next : Nat) (s : State) : KeepsBut [.hst, .qm, .ev, .ins] s (refTaken r next s) := by
  have kept := keepsBut_trans (keepsBut_sub [.hst, .qm, .ev, .ins] (keepRef_keeps r s.tim.station s) rfl)
    (keepsBut_sub _ (activity_keeps _) rfl)
  exact keepsBut_cond kept (keepsBut_sub _ (keepsBut_hst _ _) rfl)

theorem refTaken_ins (r : RefDesc) (next : Nat) (s : State) : (refTaken r next s).ins = (keepRef r s.tim.station s).ins := by
  have acted : (activity (keepRef r s.tim.station s)).ins = (keepRef r s.tim.station s).ins := activity_keeps _ .ins (by decide)
  unfold refTaken
  dsimp only
  split
  · exact acted
  · exact acted

/-- A reference that is kept is the newest. -/
theorem mem_keepRef (r : RefDesc) (at_ : DWord) (s : State) : (r, at_) ∈ (keepRef r at_ s).ins.refs := by
  rw [keepRef, List.take_succ_cons]
  exact List.mem_cons_self

/-- It is the only one of its period (R78). -/
theorem keepRef_unique {r : RefDesc} {at_ : DWord} {s : State} {x : RefDesc × DWord} (mem : x ∈ (keepRef r at_ s).ins.refs)
    (same : x.1.period = r.period) : x = (r, at_) := by
  obtain rfl | older := List.mem_cons.mp (List.mem_of_mem_take mem)
  · rfl
  · have other := (List.mem_filter.mp older).2
    simp [same] at other

section
variable {s : State} {ref : RefDesc} (few : ref.npred.toNat ≤ 7)
include few

theorem refRefused_grid (off : ref.period.toNat % tctl s ≠ 0) : refRefused s ref = some (reply .badParam 3) :=
  (if_neg (not_lt.mpr few)).trans (if_pos (by simp [off]))

variable (grid : tctl s ≠ 0) (on : ref.period.toNat % tctl s = 0)
include grid on

theorem refRefused_past (past : ref.period.toNat ≤ s.tim.station.toNat) : refRefused s ref = some (reply .timeout) :=
  (if_neg (not_lt.mpr few)).trans ((if_neg (by simp [grid, on])).trans (if_pos past))

theorem refRefused_far (ahead : s.tim.station.toNat < ref.period.toNat)
    (far : max 1 (pNat s Prm.insHorizon) * tctl s < ref.period.toNat - s.tim.station.toNat) :
    refRefused s ref = some (reply .outOfRange 3) :=
  (if_neg (not_lt.mpr few)).trans ((if_neg (by simp [grid, on])).trans ((if_neg (not_le.mpr ahead)).trans (if_pos far)))

theorem refRefused_none (ahead : s.tim.station.toNat < ref.period.toNat)
    (near : ref.period.toNat - s.tim.station.toNat ≤ max 1 (pNat s Prm.insHorizon) * tctl s) : refRefused s ref = none :=
  (if_neg (not_lt.mpr few)).trans ((if_neg (by simp [grid, on])).trans ((if_neg (not_le.mpr ahead)).trans (if_neg (not_lt.mpr near))))

end

section
variable {h : Hdr} {s t : State} {idx : Word} {ref : RefDesc} (a : Admits h 0x0301 52 .none false s idx t)
include a

/-- A module that admits ARM_REFERENCE is no standby: its row runs on the state itself. -/
theorem execArmReference_admitted : exec (.armReference h ref) s = hostCmd h 0x0301 52 .none false (takeRef ref) s := by
  have ⟨slot, _, admitted, _⟩ := a
  have kept := takeSlot_keeps slot
  have open_ : refusal 0x0301 s = none := by rw [← refusal_congr (kept .pwr (by decide)) (kept .twn (by decide)), admitted]
  exact congrArg (hostCmd h 0x0301 52 .none false (takeRef ref)) (if_neg (by simp [open_]))

theorem armReference_refused {r : Reply} (bad : refRefused t ref = some r) :
    Replies (.armReference h ref) h 0x0301 idx s t r [] (fun _ => True) :=
  replies_unchanged a (execArmReference_admitted a) (takeRef_refuses bad)

theorem armReference_kept (ok : refRefused t ref = none) :
    ∃ r, r.status = .ok ∧ Replies (.armReference h ref) h 0x0301 idx s t r [.hst, .qm, .ev, .ins] (fun u =>
      (ref, t.tim.station) ∈ u.ins.refs ∧ (∀ x ∈ u.ins.refs, x.1.period = ref.period → x = (ref, t.tim.station)) ∧
      u.ins = { t.ins with refs := u.ins.refs }) := by
  have ins := refTaken_ins ref (nextStart t) t
  refine ⟨_, rfl, replies_keeps a (execArmReference_admitted a) (takeRef_accepts ok) (refTaken_keeps _ _ _) (by decide) ?_⟩
  show (ref, t.tim.station) ∈ (refTaken ref (nextStart t) t).ins.refs ∧
    (∀ x ∈ (refTaken ref (nextStart t) t).ins.refs, x.1.period = ref.period → x = (ref, t.tim.station)) ∧
    (refTaken ref (nextStart t) t).ins = { t.ins with refs := (refTaken ref (nextStart t) t).ins.refs }
  rw [ins]
  exact ⟨mem_keepRef _ _ _, fun x mem same => keepRef_unique mem same, rfl⟩

end

/-- A standby keeps the reference and answers NOT_ACTIVE (R70, R80). -/
theorem armReference_standby {h : Hdr} {s t : State} {idx : Word} {ref : RefDesc} (ring : h.ring = 0)
    (slot : takeSlot 0 s = some (idx, t)) (standby : refusal 0x0301 s = some .notActive) (ok : refRefused s ref = none)
    (long : 52 ≤ h.length.toNat) : ∃ u, exec (.armReference h ref) s = .next (settle u) ∧
      u.cmd.taken = s.cmd.taken ++ [slotOf h 0x0301 idx (some { status := .notActive })] ∧
      (ref, s.tim.station) ∈ u.ins.refs ∧ KeepsBut [.cmd, .rings, .hst, .qm, .ev, .ins] s u := by
  rw [← ring] at slot
  have kept := takeSlot_keeps slot
  obtain ⟨x, hx⟩ : ∃ x, x = (keepRef ref s.tim.station s).ins := ⟨_, rfl⟩
  have e : exec (.armReference h ref) s = hostCmd h 0x0301 52 .none false (takeRef ref) (withIns x s) := by
    rw [hx]
    exact congrArg (hostCmd h 0x0301 52 .none false (takeRef ref)) (if_pos (by simp [standby, ring ▸ slot, ok, long, ring]))
  have slot' : takeSlot h.ring (withIns x s) = some (idx, withIns x t) := by
    rw [takeSlot_withIns (hx ▸ rfl), slot]
    rfl
  have refused : refusal 0x0301 (withIns x t) = some .notActive := by
    rw [← standby]
    exact refusal_congr (kept .pwr (by decide)) (kept .twn (by decide)) _
  have ends : KeepsBut [.cmd, .rings, .hst, .qm, .ev, .ins] s (putTaken h 0x0301 idx (some (reply .notActive)) (withIns x t)) :=
    keepsBut_trans (keepsBut_trans (keepsBut_sub _ kept rfl) (keepsBut_sub _ (keepsBut_ins t x) rfl))
      (keepsBut_sub _ (putTaken_keeps _ _ _ _ _) rfl)
  refine ⟨putTaken h 0x0301 idx (some (reply .notActive)) (withIns x t), ?_, ?_, ?_, ends⟩
  · rw [e, hostCmd_refused slot' (by rw [ring]; rfl) refused]
    exact done_of_keeps (ends .win (by decide)) (ends .pending (by decide)) (congrArg TimSt.tb (ends .tim (by decide)))
  · show t.cmd.taken ++ _ = _
    rw [show t.cmd = s.cmd from kept .cmd (by decide)]
    rfl
  · show (ref, s.tim.station) ∈ x.refs
    rw [hx]
    exact mem_keepRef _ _ _

/-! ### Load-all requests (R57, R58) -/

/-- A request that finds no snapshot waiting: its own is taken. -/
theorem takeLoad_first {byOpcode : Bool} {s : State} (none_ : s.ins.snapshot = none) : takeLoad byOpcode s = { s with
    ins := { s.ins with snapshot := some (allChans.map (dutyEntry s)), snapByOpcode := byOpcode }
    hst := { s.hst with loadRejected := false } } := by
  simp only [takeLoad, none_]
  rfl

theorem keepsBut_ins_hst (s : State) (x : InsSt) (y : HstSt) : KeepsBut [.ins, .hst] s { s with ins := x, hst := y } := by
  intro p hp; cases p <;> first | (simp at hp; done) | exact Eq.refl _

section
variable {h : Hdr} {s t : State} {idx : Word} (a : Admits h 0x0302 0 .none false s idx t)
include a

theorem loadAll_segmentMode (segment : t.ins.direct = false) : Replies (.loadAll h) h 0x0302 idx s t { status := .wrongState } [.hst]
    (fun u => u.hst = { t.hst with loadRejected := true }) :=
  replies_keeps a rfl (if_pos (by simp [segment])) (keepsBut_hst _ _) (by decide) rfl

theorem loadAll_invalid (direct : t.ins.direct = true) {n : Chan} (bad : badEntry t = some n) :
    Replies (.loadAll h) h 0x0302 idx s t (replyWords .badParam [(6, n.val)]) [.hst]
      (fun u => u.hst = { t.hst with loadRejected := true }) := by
  refine replies_keeps (u := rejectLoad t) a rfl ((if_neg (by simp [direct])).trans ?_) (keepsBut_hst _ _) (by decide) rfl
  rw [bad]

theorem loadAll_waits (direct : t.ins.direct = true) (good : badEntry t = none) (none_ : t.ins.snapshot = none) :
    Stays (.loadAll h) h 0x0302 idx s t [.ins, .hst] (fun u =>
      u.ins = { t.ins with snapshot := some (allChans.map (dutyEntry t)), snapByOpcode := true } ∧
      u.hst = { t.hst with loadRejected := false }) := by
  refine stays_keeps a rfl ((if_neg (by simp [direct])).trans ?_) (keepsBut_ins_hst t
    { t.ins with snapshot := some (allChans.map (dutyEntry t)), snapByOpcode := true } { t.hst with loadRejected := false })
    (by decide) ⟨rfl, rfl⟩
  dsimp only
  rw [good, ← takeLoad_first none_]

end

section
variable {p : HPort} {v : Word} {s : State} (open_ : portFenced s p = false) (active : p = s.hst.active) (go : v.getLsbD 0 = true)
include open_ active go

theorem loadAllGo_rejected (bad : s.ins.direct = false ∨ staging s = false ∨ (badEntry s).isSome = true) :
    Runs (.loadAllGo p v) s [.hst] (fun u => u.hst = { s.hst with loadRejected := true }) := by
  have e : loadGo v s = rejectLoad s := by
    refine (if_neg (by rw [go]; decide)).trans (if_pos ?_)
    obtain h | h | h := bad <;> simp [h]
  exact runs_of_done ((loadAllGo_active open_ v active).trans (congrArg (done s) e)) (keepsBut_hst _ _) (by decide) rfl

variable (direct : s.ins.direct = true) (master : staging s = true) (good : badEntry s = none)
include direct master good

theorem loadAllGo_taken : exec (.loadAllGo p v) s = done s (takeLoad false s) := by
  refine (loadAllGo_active open_ v active).trans (congrArg (done s) ((if_neg (by rw [go]; decide)).trans (if_neg ?_)))
  simp [direct, master, good]

theorem loadAllGo_first (none_ : s.ins.snapshot = none) : Runs (.loadAllGo p v) s [.ins, .hst] (fun u =>
    u.ins = { s.ins with snapshot := some (allChans.map (dutyEntry s)), snapByOpcode := false } ∧
    u.hst = { s.hst with loadRejected := false }) :=
  runs_of_done ((loadAllGo_taken open_ active go direct master good).trans (congrArg (done s) (takeLoad_first none_)))
    (keepsBut_ins_hst _ _ _) (by decide) ⟨rfl, rfl⟩

/-- A request over the snapshot of a waiting LOAD_ALL ends that one with WRONG_STATE (R58). -/
theorem loadAllGo_supersedes (some_ : s.ins.snapshot.isSome = true) (byOpcode : s.ins.snapByOpcode = true) :
    Runs (.loadAllGo p v) s [.ins, .hst, .cmd] (fun u => u.hst.loadSuperseded = s.hst.loadSuperseded + 1 ∧
      u.cmd = (completeTaken 0x0302 { status := .wrongState, detail := 1 } s).cmd ∧ u.ins.snapByOpcode = false) := by
  obtain ⟨w, hw⟩ : ∃ w, w = completeTaken 0x0302 (reply .wrongState 1) s := ⟨_, rfl⟩
  have ended : KeepsBut [.cmd] s w := hw ▸ completeTaken_keeps _ _ _
  have e : takeLoad false s = { w with
      ins := { w.ins with snapshot := some (allChans.map (dutyEntry w)), snapByOpcode := false }
      hst := { w.hst with loadRejected := false, loadSuperseded := w.hst.loadSuperseded + 1 } } := by
    rw [hw]
    simp only [takeLoad, some_, byOpcode, Bool.and_self, if_true]
  refine runs_of_done ((loadAllGo_taken open_ active go direct master good).trans (congrArg (done s) e))
    (keepsBut_trans (keepsBut_sub _ ended rfl) (keepsBut_sub _ (keepsBut_ins_hst _ _ _) rfl)) (by decide) ⟨?_, ?_, rfl⟩
  · show w.hst.loadSuperseded + 1 = _
    rw [show w.hst = s.hst from ended .hst (by decide)]
  · rw [hw]
    rfl

end

theorem setMode_waits {h : Hdr} {direct : Bool} {s t : State} {idx : Word} (a : Admits h 0x0305 4 .none false s idx t) :
    Stays (.setMode h direct) h 0x0305 idx s t [.ins] (fun u => u.ins = { t.ins with modeReq := some direct }) :=
  stays_keeps (body := fun t => .wait { t with ins := { t.ins with modeReq := some direct } }) a rfl rfl (keepsBut_ins _ _)
    (by decide) rfl

/-! ### RESTAGE (08 R231 to R233) -/

theorem restageFor_merges {s : State} (master : staging s = true) (merges : mergesNow s = true) :
    restageFor 0 s = (nextGen s, sayRestaged 0 1 (nextGen s) s) := by
  have now_ : restageNow s = (nextGen s, s) := if_pos (by simp [merges])
  refine (if_neg (by simp [master])).trans ?_
  rw [now_]
  rfl

theorem execRestage_eq (h : Hdr) (s : State) : exec (.restage h) s = hostCmd h 0x0304 0 .none false
    (fun t => .now (okWords [(3, (restageFor 0 t).1.toNat)]) (restageFor 0 t).2) s := rfl

theorem restage_merges {h : Hdr} {s t : State} {idx : Word} (a : Admits h 0x0304 0 .none false s idx t) (master : staging t = true)
    (merges : mergesNow t = true) : Replies (.restage h) h 0x0304 idx s t (okWords [(3, (nextGen t).toNat)]) [.ev]
      (fun u => Tells t u 0x8305 0xFFFF [ef 28 0 0, ef 30 0 1, ef 32 0 (nextGen t).toNat]) := by
  refine replies_keeps (u := sayRestaged 0 1 (nextGen t) t) a (execRestage_eq h s) ?_ (raise_keeps _ _ _ _) (by decide) (raise_tells _ _ _ t)
  rw [restageFor_merges master merges]

/-- Settles O25: each command by what it finds of the reference, the duty area, the snapshot and the reload point. -/
theorem referencesLoadsAndModes : Obligations.ReferencesLoadsAndModes := by
  intro h s t idx
  refine ⟨fun ref a few grid => ⟨fun off => ?_, fun on past => ?_, fun on ahead far => ?_, fun on ahead near => ?_⟩,
    fun ref ring slot standby ok long => armReference_standby ring slot standby ok long,
    fun a => ⟨loadAll_segmentMode a, fun direct n bad => loadAll_invalid a direct bad, loadAll_waits a⟩,
    fun p v open_ active go => ⟨loadAllGo_rejected open_ active go, loadAllGo_first open_ active go, loadAllGo_supersedes open_ active go⟩,
    fun direct a => setMode_waits a,
    fun a => ⟨answersWith_of a (execRestage_eq h s) rfl, restage_merges a⟩⟩
  · exact armReference_refused a (refRefused_grid few off)
  · exact armReference_refused a (refRefused_past few grid on past)
  · exact armReference_refused a (refRefused_far few grid on ahead far)
  · exact armReference_kept a (refRefused_none few grid on ahead near)

end Sys2Proof.Safety

/-! ## SUPPORT. The active port and its waiting change (03 R53, R56)

One frame per operation that a row calls, as for the supervisor's state above: the operation may write the host ports' other fields
(counters, interrupt registers, activity) and leaves these two. HOST_SWITCH, HST_TAKEOVER, ACTIVE_PORT_CHANGE and a reset of the
main domain alone do not. -/

namespace Sys2Proof.Machine

/-- The active port and the change of it that waits. -/
def HstSt.ask (h : HstSt) : HPort × Option PortChange := (h.active, h.change)

end Sys2Proof.Machine

namespace Sys2Proof.Safety

open Sys2Proof.Machine

/-- What a write of other fields of the ports' state leaves. -/
@[simp] theorem ask_mk (a b : PortRegs) (p : HPort) (k : Option PortChange) (x y : Bool) (d : Half) (u v : Nat) (l w : Word)
    (j : Bool) (q : Byte) (g r : Word) (t : DWord) : HstSt.ask ⟨a, b, p, k, x, y, d, u, v, l, w, j, q, g, t, r⟩ = (p, k) := rfl

@[simp] theorem pair_ask (h : HstSt) : (h.active, h.change) = h.ask := rfl

theorem ask_of_keeps {l : List Part} {s t : State} (k : KeepsBut l s t) (out : Part.hst ∉ l) : t.hst.ask = s.hst.ask :=
  congrArg HstSt.ask (k .hst out)

@[simp] theorem ask_ite (c : Prop) [Decidable c] (s t : State) :
    (if c then s else t).hst.ask = if c then s.hst.ask else t.hst.ask :=
  apply_ite (fun x : State => x.hst.ask) c s t

@[simp] theorem snd_ask_ite {α : Type} (c : Prop) [Decidable c] (s t : α × State) :
    (if c then s else t).2.hst.ask = if c then s.2.hst.ask else t.2.hst.ask :=
  apply_ite (fun x : α × State => x.2.hst.ask) c s t

/-- A fold leaves them when each step does; `view` finds the state in what the fold carries. -/
theorem foldl_ask {α β : Type} (view : β → State) (xs : List α) (f : β → α → β) (b : β)
    (h : ∀ b x, (view (f b x)).hst.ask = (view b).hst.ask) : (view (xs.foldl f b)).hst.ask = (view b).hst.ask := by
  induction xs generalizing b with
  | nil => rfl
  | cons x xs ih => exact (ih (f b x)).trans (h b x)

@[simp] theorem forEach_ask {α : Type} (xs : List α) (f : α → State → State) (s : State)
    (h : ∀ a t, (f a t).hst.ask = t.hst.ask) : (forEach xs f s).hst.ask = s.hst.ask :=
  foldl_ask id xs (fun s a => f a s) s fun t a => h a t

@[simp] theorem modHp_ask (p : HPort) (f : PortRegs → PortRegs) (s : State) : (modHp p f s).hst.ask = s.hst.ask := by
  cases p <;> rfl

/-! ### Operations of Machine/Ops.lean -/

@[simp] theorem drawWord_ask (s : State) : (drawWord s).2.hst.ask = s.hst.ask := rfl
@[simp] theorem drawBool_ask (s : State) : (drawBool s).2.hst.ask = s.hst.ask := rfl
@[simp] theorem raiseAt_ask (code level : Nat) (pin : Bool) (time : DWord) (subject : Nat) (data : List Nat) (s : State) :
    (raiseAt code level pin time subject data s).hst.ask = s.hst.ask :=
  ask_of_keeps (raiseAt_keeps code level pin time subject data s) (by decide)

@[simp] theorem raise_ask (code subject : Nat) (data : List Nat) (s : State) : (raise code subject data s).hst.ask = s.hst.ask :=
  ask_of_keeps (raise_keeps code subject data s) (by decide)

@[simp] theorem sendVector_ask (p : HPort) (v : Nat) (s : State) : (sendVector p v s).hst.ask = s.hst.ask := modHp_ask _ _ _
@[simp] theorem signalPort_ask (p : HPort) (v : Nat) (s : State) : (signalPort p v s).hst.ask = s.hst.ask := by simp [signalPort]


@[simp] theorem signalRing_ask (r : Ring) (s : State) : (signalRing r s).hst.ask = s.hst.ask := by simp [signalRing]
@[simp] theorem returned_ask (r : Ring) (s : State) : (returned r s).hst.ask = s.hst.ask := by simp [returned]
@[simp] theorem writeDesc_ask (r : Ring) (idx : Word) (op tag len : Half) (w2 : Nat) (words : List (Nat × Word)) (full : Bool)
    (s : State) :
    (writeDesc r idx op tag len w2 words full s).hst.ask = s.hst.ask :=
  ask_of_keeps (writeDesc_keeps r idx op tag len w2 words full s) (by decide)

@[simp] theorem queueWrite_ask (w : StoreWrite) (s : State) : (queueWrite w s).hst.ask = s.hst.ask :=
  ask_of_keeps (queueWrite_keeps w s) (by decide)

@[simp] theorem seamFrames_ask (l : SeamLane) (n : Nat) (s : State) : (seamFrames l n s).hst.ask = s.hst.ask :=
  ask_of_keeps (seamFrames_keeps l n s) (by decide)

@[simp] theorem seamBoth_ask (s : State) : (seamBoth s).hst.ask = s.hst.ask := ask_of_keeps (seamBoth_keeps s) (by decide)
@[simp] theorem sendSeam_ask (o : SeamOut) (s : State) : (sendSeam o s).hst.ask = s.hst.ask :=
  ask_of_keeps (sendSeam_keeps o s) (by decide)
@[simp] theorem seamAgain_ask (ack : Half) (s : State) : (seamAgain ack s).hst.ask = s.hst.ask :=
  ask_of_keeps (seamAgain_keeps ack s) (by decide)

/-! ### Operations of Machine/Faults.lean -/

@[simp] theorem modFault_ask (id : Word) (f : FaultRec → FaultRec) (s : State) : (modFault id f s).hst.ask = s.hst.ask :=
  ask_of_keeps (modFault_keeps id f s) (by decide)

@[simp] theorem raiseFault_ask (cause subject level : Nat) (permanent : Bool) (origin : Nat) (s : State) :
    (raiseFault cause subject level permanent origin s).hst.ask = s.hst.ask :=
  ask_of_keeps (raiseFault_keeps cause subject level permanent origin s) (by decide)

@[simp] theorem nextCurrent_ask (s : State) : (nextCurrent s).hst.ask = s.hst.ask := ask_of_keeps (nextCurrent_keeps s) (by decide)
@[simp] theorem closeFault_ask (r : FaultRec) (how : Nat) (s : State) : (closeFault r how s).hst.ask = s.hst.ask :=
  ask_of_keeps (closeFault_keeps r how s) (by decide)

@[simp] theorem endFault_ask (cause subject : Nat) (s : State) : (endFault cause subject s).hst.ask = s.hst.ask :=
  ask_of_keeps (endFault_keeps cause subject s) (by decide)

@[simp] theorem endL1_ask (cause subject : Nat) (s : State) : (endL1 cause subject s).hst.ask = s.hst.ask :=
  ask_of_keeps (endL1_keeps cause subject s) (by decide)

@[simp] theorem openL0_ask (g : Nat) (origin : Nat) (s : State) : (openL0 g origin s).hst.ask = s.hst.ask :=
  ask_of_keeps (openL0_keeps g origin s) (by decide)

/-! ### Operations of Machine/Link.lean -/

@[simp] theorem nodeService_ask (p : Chan) (cause value : Nat) (s : State) : (nodeService p cause value s).hst.ask = s.hst.ask := by
  simp [nodeService]

@[simp] theorem sendBody_ask (p : Chan) (b : DownBody) (s : State) : (sendBody p b s).hst.ask = s.hst.ask :=
  ask_of_keeps (sendBody_keeps p b s) (by decide)

@[simp] theorem sendCmd_ask (p : Chan) (code : Nat) (args : List Byte) (purpose : CmdPurpose) (s : State) :
    (sendCmd p code args purpose s).hst.ask = s.hst.ask :=
  ask_of_keeps (sendCmd_keeps p code args purpose s) (by decide)

@[simp] theorem streamReset_ask (p : Chan) (atExchange : Bool) (s : State) : (streamReset p atExchange s).hst.ask = s.hst.ask :=
  ask_of_keeps (streamReset_keeps p atExchange s) (by decide)

@[simp] theorem streamResumed_ask (p : Chan) (s : State) : (streamResumed p s).hst.ask = s.hst.ask := rfl
@[simp] theorem recomputeDeadline_ask (s : State) : (recomputeDeadline s).hst.ask = s.hst.ask := rfl

/-! ### Operations of Machine/Staging.lean -/

@[simp] theorem formHorizon_ask (closing : Bool) (first h : Nat) (s : State) :
    (formHorizon closing first h s).hst.ask = s.hst.ask :=
  ask_of_keeps (formHorizon_keeps closing first h s) (by decide)

@[simp] theorem formGeneration_ask (closing : Bool) (first : Nat) (s : State) :
    (formGeneration closing first s).hst.ask = s.hst.ask := by
  simp [formGeneration]

@[simp] theorem closeTo_ask (k start : Nat) (s : State) : (closeTo k start s).hst.ask = s.hst.ask := by
  induction k generalizing s with
  | zero => rfl
  | succ k ih =>
    unfold closeTo
    split <;> simp [ih]

@[simp] theorem sayRestaged_ask (cause count : Nat) (gen : Word) (s : State) :
    (sayRestaged cause count gen s).hst.ask = s.hst.ask := by
  simp [sayRestaged]

@[simp] theorem restageFor_ask (cause : Nat) (s : State) : (restageFor cause s).2.hst.ask = s.hst.ask :=
  ask_of_keeps (restageFor_keeps cause s) (by decide)

@[simp] theorem restage_ask (cause : Nat) (s : State) : (restage cause s).hst.ask = s.hst.ask := by simp [restage]
@[simp] theorem sendAbort_ask (p : Chan) (action : Byte) (s : State) : (sendAbort p action s).hst.ask = s.hst.ask :=
  ask_of_keeps (sendAbort_keeps p action s) (by decide)

/-! ### Operations of Machine/Operands.lean -/

@[simp] theorem activity_ask (s : State) : (activity s).hst.ask = s.hst.ask := by
  unfold activity
  dsimp only
  split <;> simp
@[simp] theorem doorbell_ask (p : HPort) (s : State) : (doorbell p s).hst.ask = s.hst.ask := by simp [doorbell]
@[simp] theorem finishAll_ask (sel : Pend → Bool) (r : Pend → Reply) (s : State) : (finishAll sel r s).hst.ask = s.hst.ask :=
  ask_of_keeps (finishAll_keeps sel r s) (by decide)

@[simp] theorem finishOp_ask (op : Nat) (r : Reply) (s : State) : (finishOp op r s).hst.ask = s.hst.ask := rfl
@[simp] theorem completeTaken_ask (op : Nat) (r : Reply) (s : State) : (completeTaken op r s).hst.ask = s.hst.ask :=
  ask_of_keeps (completeTaken_keeps op r s) (by decide)

@[simp] theorem putTaken_ask (h : Hdr) (op : Nat) (idx : Word) (r : Option Reply) (s : State) :
    (putTaken h op idx r s).hst.ask = s.hst.ask :=
  ask_of_keeps (putTaken_keeps h op idx r s) (by decide)

@[simp] theorem later1_ask (h : Hdr) (op : Nat) (r : Reply) (s : State) : (later1 h op r s).hst.ask = s.hst.ask := rfl

/-! ### Operations of Machine/CellView.lean -/

@[simp] theorem modCell_ask (n : Chan) (i : Nat) (f : CellSt → CellSt) (s : State) : (modCell n i f s).hst.ask = s.hst.ask := rfl
@[simp] theorem modTemp_ask (n : Chan) (i : Nat) (f : TempSt → TempSt) (s : State) : (modTemp n i f s).hst.ask = s.hst.ask := rfl

/-! ### Operations of Machine/Connection.lean -/

@[simp] theorem addCount_ask (n : Chan) (cause : Nat) (s : State) : (addCount n cause s).hst.ask = s.hst.ask := rfl
@[simp] theorem chEvent_ask (code : Nat) (n : Chan) (old new cause : Nat) (host ended : Bool) (count : Nat) (s : State) :
    (chEvent code n old new cause host ended count s).hst.ask = s.hst.ask :=
  ask_of_keeps (chEvent_keeps code n old new cause host ended count s) (by decide)

@[simp] theorem markDirty_ask (n : Chan) (s : State) : (markDirty n s).hst.ask = s.hst.ask :=
  ask_of_keeps (markDirty_keeps n s) (by decide)
@[simp] theorem abortCycle_ask (n : Chan) (reason : Nat) (s : State) : (abortCycle n reason s).hst.ask = s.hst.ask :=
  ask_of_keeps (abortCycle_keeps n reason s) (by decide)

@[simp] theorem dropService_ask (n : Chan) (st : Status) (s : State) : (dropService n st s).hst.ask = s.hst.ask :=
  ask_of_keeps (dropService_keeps n st s) (by decide)

@[simp] theorem setCh_ask (n : Chan) (new : ChState) (cause : Nat) (host : Bool) (s : State) :
    (setCh n new cause host s).hst.ask = s.hst.ask :=
  ask_of_keeps (setCh_keeps n new cause host s) (by decide)

@[simp] theorem clearHolds_ask (n : Chan) (s : State) : (clearHolds n s).hst.ask = s.hst.ask := rfl
@[simp] theorem endSeq_ask (n : Chan) (st : Status) (s : State) : (endSeq n st s).hst.ask = s.hst.ask :=
  ask_of_keeps (endSeq_keeps n st s) (by decide)

@[simp] theorem protect_ask (n : Chan) (cause : Nat) (atOnce : Bool) (s : State) : (protect n cause atOnce s).hst.ask = s.hst.ask :=
  ask_of_keeps (protect_keeps n cause atOnce s) (by decide)

@[simp] theorem seqStep_ask (n : Chan) (st : ConStep) (s : State) : (seqStep n st s).hst.ask = s.hst.ask :=
  ask_of_keeps (seqStep_keeps n st s) (by decide)

@[simp] theorem sendPrecharge_ask (n : Chan) (close : Bool) (p : CmdPurpose) (s : State) :
    (sendPrecharge n close p s).hst.ask = s.hst.ask :=
  rfl

@[simp] theorem sendContactor_ask (n : Chan) (close : Bool) (s : State) : (sendContactor n close s).hst.ask = s.hst.ask := rfl
@[simp] theorem weldEvent_ask (n : Chan) (kind : Nat) (s : State) : (weldEvent n kind s).hst.ask = s.hst.ask := by simp [weldEvent]
@[simp] theorem prechargeEvent_ask (n : Chan) (reason elapsed : Nat) (s : State) :
    (prechargeEvent n reason elapsed s).hst.ask = s.hst.ask := by
  simp [prechargeEvent]

@[simp] theorem countDecision_ask (n : Chan) (c : Nat) (s : State) : (countDecision n c s).2.hst.ask = s.hst.ask :=
  ask_of_keeps (countDecision_keeps n c s) (by decide)

@[simp] theorem abandon_ask (n : Chan) (st : Status) (s : State) : (abandon n st s).hst.ask = s.hst.ask :=
  ask_of_keeps (abandon_keeps n st s) (by decide)

@[simp] theorem retireNow_ask (n : Chan) (s : State) : (retireNow n s).hst.ask = s.hst.ask := by simp [retireNow]
@[simp] theorem startSeq_ask (n : Chan) (kind : SeqKind) (step : ConStep) (host : Bool) (cause : Nat) (s : State) :
    (startSeq n kind step host cause s).hst.ask = s.hst.ask :=
  ask_of_keeps (startSeq_keeps n kind step host cause s) (by decide)

@[simp] theorem startDisc_ask (n : Chan) (kind : SeqKind) (host : Bool) (cause : Nat) (atOnce : Bool) (s : State) :
    (startDisc n kind host cause atOnce s).hst.ask = s.hst.ask :=
  ask_of_keeps (startDisc_keeps n kind host cause atOnce s) (by decide)

@[simp] theorem retireBegin_ask (n : Chan) (cause : Nat) (byCount host : Bool) (s : State) :
    (retireBegin n cause byCount host s).hst.ask = s.hst.ask := by
  simp [retireBegin]

@[simp] theorem decideDisconnect_ask (n : Chan) (cause : Nat) (atOnce : Bool) (s : State) :
    (decideDisconnect n cause atOnce s).hst.ask = s.hst.ask :=
  ask_of_keeps (decideDisconnect_keeps n cause atOnce s) (by decide)

@[simp] theorem causeOn_ask (n : Chan) (c : Nat) (s : State) : (causeOn n c s).hst.ask = s.hst.ask :=
  ask_of_keeps (causeOn_keeps n c s) (by decide)

@[simp] theorem causeOnAt_ask (n : Chan) (c detail : Nat) (s : State) : (causeOnAt n c detail s).hst.ask = s.hst.ask := by
  simp [causeOnAt]

@[simp] theorem causeOff_ask (n : Chan) (c : Nat) (s : State) : (causeOff n c s).hst.ask = s.hst.ask :=
  ask_of_keeps (causeOff_keeps n c s) (by decide)

@[simp] theorem placeByStat_ask (n : Chan) (cause : Nat) (host : Bool) (s : State) :
    (placeByStat n cause host s).hst.ask = s.hst.ask := by
  unfold placeByStat
  split <;> simp

@[simp] theorem anneal_ask (n : Chan) (host : Bool) (s : State) : (anneal n host s).hst.ask = s.hst.ask := by
  unfold anneal
  split <;> simp

@[simp] theorem fenceHold_ask (n : Chan) (cause : Nat) (s : State) : (fenceHold n cause s).hst.ask = s.hst.ask := by
  simp [fenceHold]
@[simp] theorem fenceDone_ask (n : Chan) (cause : Nat) (s : State) : (fenceDone n cause s).hst.ask = s.hst.ask := by
  simp [fenceDone]
@[simp] theorem prechargeFail_ask (n : Chan) (reason elapsed : Nat) (s : State) :
    (prechargeFail n reason elapsed s).hst.ask = s.hst.ask := by
  simp [prechargeFail]

@[simp] theorem welded_ask (n : Chan) (kind : Nat) (s : State) : (welded n kind s).hst.ask = s.hst.ask := by
  unfold welded
  dsimp only
  split <;> simp

@[simp] theorem contactBad_ask (n : Chan) (kind : Nat) (s : State) : (contactBad n kind s).hst.ask = s.hst.ask := by
  simp [contactBad]
@[simp] theorem openFailed_ask (n : Chan) (s : State) : (openFailed n s).hst.ask = s.hst.ask := by
  unfold openFailed
  split <;> simp

@[simp] theorem discEnd_ask (n : Chan) (s : State) : (discEnd n s).hst.ask = s.hst.ask := by
  unfold discEnd
  (repeat' split) <;> simp

@[simp] theorem closedPassed_ask (n : Chan) (s : State) : (closedPassed n s).hst.ask = s.hst.ask := by simp [closedPassed]
@[simp] theorem seqAdvance_ask (n : Chan) (report : Option Int) (s : State) : (seqAdvance n report s).hst.ask = s.hst.ask := by
  unfold seqAdvance
  (repeat' split) <;> simp

@[simp] theorem seqPoll_ask (n : Chan) (report : Option Int) (s : State) : (seqPoll n report s).hst.ask = s.hst.ask := by
  simp [seqPoll]
@[simp] theorem seqReply_ask (n : Chan) (result : Option Nat) (s : State) : (seqReply n result s).hst.ask = s.hst.ask := by
  unfold seqReply
  split
  case h_1 => rfl
  dsimp only
  split
  case h_3 =>
    split
    · simp
    · split
      · split <;> simp
      · simp
  all_goals simp

@[simp] theorem tripEvent_ask (ended : Bool) (by_ : Byte) (packI : Int) (s : State) :
    (tripEvent ended by_ packI s).hst.ask = s.hst.ask := by
  simp [tripEvent]

@[simp] theorem assertTrip_ask (by_ : Byte) (packI : Int) (s : State) : (assertTrip by_ packI s).hst.ask = s.hst.ask := by
  simp [assertTrip]

@[simp] theorem endTrip_ask (s : State) : (endTrip s).hst.ask = s.hst.ask := by simp [endTrip]
@[simp] theorem releaseTrip_ask (s : State) : (releaseTrip s).hst.ask = s.hst.ask := by simp [releaseTrip]
@[simp] theorem checkA1_ask (n : Chan) (w : Int) (s : State) : (checkA1 n w s).hst.ask = s.hst.ask := by simp [checkA1]

/-! ### Operations of Machine/Quench.lean -/

@[simp] theorem quenchChan_ask (n : Chan) (s : State) : (quenchChan n s).hst.ask = s.hst.ask :=
  ask_of_keeps (quenchChan_keeps n s) (by decide)
@[simp] theorem latch_ask (mask : Byte) (c : QCause) (s : State) : (latch mask c s).hst.ask = s.hst.ask :=
  ask_of_keeps (latch_keeps mask c s) (by decide)

@[simp] theorem evalMatrix_ask (s : State) : (evalMatrix s).hst.ask = s.hst.ask := ask_of_keeps (evalMatrix_keeps s) (by decide)
@[simp] theorem busTrip_ask (mask : Byte) (s : State) : (busTrip mask s).2.hst.ask = s.hst.ask := by simp [busTrip]
@[simp] theorem releaseChan_ask (n : Chan) (s : State) : (releaseChan n s).hst.ask = s.hst.ask := by
  unfold releaseChan
  (repeat' split) <;> simp

@[simp] theorem releaseGroups_ask (mask : Byte) (s : State) : (releaseGroups mask s).2.hst.ask = s.hst.ask := by
  unfold releaseGroups
  dsimp only
  rw [forEach_ask _ _ _ fun g u => by simp, ask_ite, raise_ask, ite_self]
  refine forEach_ask _ _ _ fun g u => ?_
  split <;> simp

@[simp] theorem hwFault_ask (cause : Nat) (subject : Nat) (s : State) : (hwFault cause subject s).hst.ask = s.hst.ask := by
  simp [hwFault]

@[simp] theorem tripFaultEvent_ask (i : TripIn) (kind : Nat) (ended : Bool) (s : State) :
    (tripFaultEvent i kind ended s).hst.ask = s.hst.ask := by
  simp [tripFaultEvent]

/-! ### Operations of Machine/Decisions.lean -/

@[simp] theorem judgeCells_ask (n : Chan) (s : State) : (judgeCells n s).hst.ask = s.hst.ask := by
  unfold judgeCells
  split <;> simp

@[simp] theorem judgeTemps_ask (n : Chan) (s : State) : (judgeTemps n s).hst.ask = s.hst.ask := by
  unfold judgeTemps
  split <;> simp

@[simp] theorem judgePlaus_ask (n : Chan) (s : State) : (judgePlaus n s).hst.ask = s.hst.ask := by simp [judgePlaus]
@[simp] theorem judgeWires_ask (n : Chan) (s : State) : (judgeWires n s).hst.ask = s.hst.ask := by
  unfold judgeWires
  split <;> simp

@[simp] theorem judgeAuth_ask (n : Chan) (s : State) : (judgeAuth n s).hst.ask = s.hst.ask := by simp [judgeAuth]
@[simp] theorem wireTone_ask (n : Chan) (s : State) : (wireTone n s).hst.ask = s.hst.ask := by simp [wireTone]
@[simp] theorem desat_ask (n : Chan) (s : State) : (desat n s).hst.ask = s.hst.ask := by simp [desat]
@[simp] theorem toneCauses_ask (n : Chan) (c : Byte) (s : State) : (toneCauses n c s).hst.ask = s.hst.ask := by simp [toneCauses]
@[simp] theorem uncount_ask (n : Chan) (cause : Nat) (s : State) : (uncount n cause s).hst.ask = s.hst.ask := rfl
@[simp] theorem layToWire_ask (n : Chan) (s : State) : (layToWire n s).hst.ask = s.hst.ask := by
  unfold layToWire
  split <;> simp

@[simp] theorem toneHealed_ask (n : Chan) (s : State) : (toneHealed n s).hst.ask = s.hst.ask := by simp [toneHealed]
@[simp] theorem judgeContact_ask (n : Chan) (s : State) : (judgeContact n s).hst.ask = s.hst.ask := by simp [judgeContact]
@[simp] theorem judgeAll_ask (n : Chan) (s : State) : (judgeAll n s).hst.ask = s.hst.ask := by simp [judgeAll]

/-! ### Operations of Machine/Frames.lean -/

@[simp] theorem acceptHdr_ask (p : Chan) (h : FrameHdr) (reliable : Bool) (s : State) :
    (acceptHdr p h reliable s).2.hst.ask = s.hst.ask := by
  unfold acceptHdr
  dsimp only
  (repeat' split) <;> simp

@[simp] theorem sendSetup_ask (n : Chan) (k : Nat) (p : CmdPurpose) (s : State) : (sendSetup n k p s).hst.ask = s.hst.ask := by
  simp [sendSetup]

@[simp] theorem sendSetups_ask (n : Chan) (s : State) : (sendSetups n s).hst.ask = s.hst.ask := by simp [sendSetups]

/-! ### Operations of Machine/CellModel.lean -/

@[simp] theorem modGrp_ask (n : Chan) (i : Nat) (f : GrpSt → GrpSt) (s : State) : (modGrp n i f s).hst.ask = s.hst.ask := rfl

/-! ### Operations of Machine/Learned.lean -/

@[simp] theorem loadLearned_ask (n : Chan) (r : LearnedRec) (s : State) : (loadLearned n r s).hst.ask = s.hst.ask := by
  simp -implicitDefEqProofs [loadLearned]

@[simp] theorem loadImp_ask (n : Chan) (i : Nat) (r : ImpRec) (s : State) : (loadImp n i r s).hst.ask = s.hst.ask := rfl
@[simp] theorem loadNominal_ask (n : Chan) (s : State) : (loadNominal n s).hst.ask = s.hst.ask := by
  simp -implicitDefEqProofs [loadNominal]

@[simp] theorem newPackSoc_ask (n : Chan) (s : State) : (newPackSoc n s).hst.ask = s.hst.ask := by
  simp -implicitDefEqProofs [newPackSoc]

@[simp] theorem writeLearned_ask (n : Chan) (s : State) : (writeLearned n s).hst.ask = s.hst.ask := by simp [writeLearned]
@[simp] theorem unverifiedEvent_ask (n : Chan) (cause : Nat) (ended : Bool) (s : State) :
    (unverifiedEvent n cause ended s).hst.ask = s.hst.ask := by
  simp [unverifiedEvent]

@[simp] theorem setUnverified_ask (n : Chan) (s : State) : (setUnverified n s).hst.ask = s.hst.ask := by
  simp -implicitDefEqProofs [setUnverified]

@[simp] theorem unverifiedFor_ask (n : Chan) (cause : Nat) (s : State) : (unverifiedFor n cause s).hst.ask = s.hst.ask := by
  simp [unverifiedFor]

@[simp] theorem clearUnverified_ask (n : Chan) (s : State) : (clearUnverified n s).hst.ask = s.hst.ask := by
  simp -implicitDefEqProofs [clearUnverified]

@[simp] theorem checkVerified_ask (n : Chan) (s : State) : (checkVerified n s).hst.ask = s.hst.ask := by simp [checkVerified]
@[simp] theorem packChanged_ask (n : Chan) (loaded : Bool) (old new : DWord) (s : State) :
    (packChanged n loaded old new s).hst.ask = s.hst.ask := by
  simp [packChanged]

@[simp] theorem authFailEvent_ask (n : Chan) (cause : Nat) (pack : DWord) (s : State) :
    (authFailEvent n cause pack s).hst.ask = s.hst.ask := by
  simp [authFailEvent]

@[simp] theorem wake_ask (n : Chan) (now : DWord) (s : State) : (wake n now s).hst.ask = s.hst.ask := by
  simp -implicitDefEqProofs [wake]

/-! ### Operations of Machine/Touchmark.lean -/

@[simp] theorem touchSend_ask (n : Chan) (s : State) : (touchSend n s).hst.ask = s.hst.ask := by
  unfold touchSend
  (repeat' split) <;> simp

@[simp] theorem setTouch_ask (n : Chan) (t : TouchSt) (s : State) : (setTouch n t s).hst.ask = s.hst.ask := by simp [setTouch]
@[simp] theorem endTouch_ask (n : Chan) (s : State) : (endTouch n s).hst.ask = s.hst.ask := rfl
@[simp] theorem startIdent_ask (n : Chan) (job : TouchJob) (changed : Bool) (s : State) :
    (startIdent n job changed s).hst.ask = s.hst.ask := by
  simp [startIdent]

@[simp] theorem cycleDoneEvent_ask (n : Chan) (stored tm : Bool) (s : State) :
    (cycleDoneEvent n stored tm s).hst.ask = s.hst.ask := by
  unfold cycleDoneEvent
  split <;> simp

@[simp] theorem startHistory_ask (n : Chan) (s : State) : (startHistory n s).hst.ask = s.hst.ask := by simp [startHistory]
@[simp] theorem historyEnd_ask (n : Chan) (ok : Bool) (s : State) : (historyEnd n ok s).hst.ask = s.hst.ask := by simp [historyEnd]
@[simp] theorem historyWrite_ask (n : Chan) (t : TouchSt) (s : State) : (historyWrite n t s).hst.ask = s.hst.ask := by
  simp [historyWrite]

@[simp] theorem provEnd_ask (n : Chan) (r : Reply) (s : State) : (provEnd n r s).hst.ask = s.hst.ask := rfl
@[simp] theorem authLost_ask (n : Chan) (cause : Nat) (s : State) : (authLost n cause s).hst.ask = s.hst.ask := by simp [authLost]
@[simp] theorem authFail_ask (n : Chan) (cause : Nat) (s : State) : (authFail n cause s).hst.ask = s.hst.ask := by simp [authFail]
@[simp] theorem noAuth_ask (n : Chan) (cause : Nat) (changed : Bool) (s : State) :
    (noAuth n cause changed s).hst.ask = s.hst.ask := by
  simp [noAuth]

@[simp] theorem authDone_ask (n : Chan) (t : TouchSt) (s : State) : (authDone n t s).hst.ask = s.hst.ask := by
  simp -implicitDefEqProofs [authDone]

@[simp] theorem authSlots_ask (n : Chan) (t : TouchSt) (s : State) : (authSlots n t s).hst.ask = s.hst.ask := by
  unfold authSlots
  dsimp only
  split <;> simp

@[simp] theorem authImps_ask (n : Chan) (t : TouchSt) (s : State) : (authImps n t s).hst.ask = s.hst.ask := by
  refine (endTouch_ask _ _).trans (forEach_ask _ _ _ fun i u => ?_)
  split <;> simp

@[simp] theorem identRead_ask (n : Chan) (t : TouchSt) (s : State) : (identRead n t s).hst.ask = s.hst.ask := by
  unfold identRead
  dsimp only
  (repeat' split) <;> simp

@[simp] theorem touchRead_ask (n : Chan) (ok : Bool) (data : List Byte) (s : State) :
    (touchRead n ok data s).hst.ask = s.hst.ask := by
  unfold touchRead
  dsimp only
  (repeat' split) <;> simp

@[simp] theorem touchWritten_ask (n : Chan) (ok : Bool) (s : State) : (touchWritten n ok s).hst.ask = s.hst.ask := by
  unfold touchWritten
  split <;> simp

@[simp] theorem touchSigned_ask (n : Chan) (ok : Bool) (data : List Byte) (s : State) :
    (touchSigned n ok data s).hst.ask = s.hst.ask := by
  unfold touchSigned
  split <;> simp

@[simp] theorem packExchange_ask (n : Chan) (c : Caps) (changed : Bool) (s : State) :
    (packExchange n c changed s).hst.ask = s.hst.ask := by
  simp [packExchange]

/-! ### Operations of Machine/Anchor.lean -/

@[simp] theorem advanceFilters_ask (n : Chan) (i secs : Rat) (s : State) : (advanceFilters n i secs s).hst.ask = s.hst.ask := by
  simp -implicitDefEqProofs [advanceFilters]

@[simp] theorem gapBegin_ask (n : Chan) (t : DWord) (s : State) : (gapBegin n t s).hst.ask = s.hst.ask := by
  simp -implicitDefEqProofs [gapBegin]

@[simp] theorem gapReport_ask (n : Chan) (wStart : Int) (wEnd : DWord) (packI : Int) (s : State) :
    (gapReport n wStart wEnd packI s).hst.ask = s.hst.ask := by
  unfold gapReport
  split <;> simp

@[simp] theorem adopt_ask (n : Chan) (k : Nat) (z u : Rat) (s : State) : (adopt n k z u s).hst.ask = s.hst.ask := rfl
@[simp] theorem anchorGroup_ask (n : Chan) (g : GapSt) (t : DWord) (k : Nat) (s : State) :
    (anchorGroup n g t k s).hst.ask = s.hst.ask := by
  unfold anchorGroup
  (repeat' split) <;> simp

@[simp] theorem takeAnchor_ask (n : Chan) (t : DWord) (s : State) : (takeAnchor n t s).hst.ask = s.hst.ask := by
  unfold takeAnchor
  split <;> simp

@[simp] theorem gapEnd_ask (n : Chan) (t : DWord) (s : State) : (gapEnd n t s).hst.ask = s.hst.ask := by simp [gapEnd]
@[simp] theorem gapDrop_ask (n : Chan) (s : State) : (gapDrop n s).hst.ask = s.hst.ask := rfl
@[simp] theorem relaxBegin_ask (n : Chan) (s : State) : (relaxBegin n s).hst.ask = s.hst.ask := by
  unfold relaxBegin
  split <;> simp

@[simp] theorem relaxReport_ask (n : Chan) (wStart : Int) (wEnd : DWord) (packI : Int) (s : State) :
    (relaxReport n wStart wEnd packI s).hst.ask = s.hst.ask := by
  unfold relaxReport
  dsimp only
  (repeat' split) <;> simp

@[simp] theorem slowFit_ask (n : Chan) (r : RelaxSt) (lasted : Rat) (k : Nat) (s : State) :
    (slowFit n r lasted k s).hst.ask = s.hst.ask := by
  unfold slowFit
  split <;> simp

@[simp] theorem relaxEnd_ask (n : Chan) (t : DWord) (s : State) : (relaxEnd n t s).hst.ask = s.hst.ask := by
  unfold relaxEnd
  split <;> simp

@[simp] theorem gapClose_ask (n : Chan) (t : DWord) (s : State) : (gapClose n t s).hst.ask = s.hst.ask := by simp [gapClose]

/-! ### Operations of Machine/Burst.lean -/

@[simp] theorem burstGroup_ask (n : Chan) (t : BurstTimes) (e : EdgeSeen) (k : Nat) (x : BurstSample) (s : State) :
    (burstGroup n t e k x s).2.hst.ask = s.hst.ask := by
  unfold burstGroup
  split <;> simp

@[simp] theorem burstPair_ask (n : Chan) (t : BurstTimes) (e : EdgeSeen) (samples : List BurstSample) (s : State) :
    (burstPair n t e samples s).hst.ask = s.hst.ask := by
  unfold burstPair
  dsimp only
  (repeat' split) <;> simp

@[simp] theorem burstDone_ask (n : Chan) (b : BurstSt) (e : EdgeSeen) (s : State) : (burstDone n b e s).hst.ask = s.hst.ask := by
  unfold burstDone
  dsimp only
  split
  · simp
  · rw [modCyc_hst, burstPair_ask]
    exact foldl_ask Prod.snd _ _ _ fun _ _ => burstGroup_ask _ _ _ _ _ _

@[simp] theorem burstMatch_ask (n : Chan) (s : State) : (burstMatch n s).hst.ask = s.hst.ask := by
  unfold burstMatch
  (repeat' split) <;> simp

@[simp] theorem burstSegment_ask (n : Chan) (x : CellsBurst) (s : State) : (burstSegment n x s).hst.ask = s.hst.ask := by
  unfold burstSegment
  dsimp only
  split <;> simp

@[simp] theorem driftEvent_ask (n : Chan) (k kind : Nat) (ended : Bool) (b : Nat) (s : State) :
    (driftEvent n k kind ended b s).hst.ask = s.hst.ask := by
  simp [driftEvent]

@[simp] theorem driftKind_ask (n : Chan) (k kind b : Nat) (met : Bool) (s : State) :
    (driftKind n k kind b met s).hst.ask = s.hst.ask := by
  simp [driftKind]

@[simp] theorem takeBaseline_ask (n : Chan) (k : Nat) (s : State) : (takeBaseline n k s).hst.ask = s.hst.ask := by
  simp [takeBaseline]
@[simp] theorem driftCheck_ask (n : Chan) (k b : Nat) (s : State) : (driftCheck n k b s).hst.ask = s.hst.ask := by
  unfold driftCheck
  dsimp only
  (repeat' split) <;> simp

@[simp] theorem fitBin_ask (n : Chan) (k b : Nat) (s : State) : (fitBin n k b s).hst.ask = s.hst.ask := by simp [fitBin]
@[simp] theorem fitChannel_ask (n : Chan) (s : State) : (fitChannel n s).hst.ask = s.hst.ask := by simp [fitChannel]

/-! ### Operations of Machine/Measure.lean -/

@[simp] theorem updateCell_ask (n : Chan) (x : CellsReport) (mask : BitVec 256) (i : Nat) (v : Half) (s : State) :
    (updateCell n x mask i v s).hst.ask = s.hst.ask := by
  unfold updateCell
  (repeat' split) <;> simp

@[simp] theorem markStale_ask (n : Chan) (s : State) : (markStale n s).hst.ask = s.hst.ask := by simp [markStale]
@[simp] theorem updateTemp_ask (n : Chan) (t : Nat) (v : Half) (s : State) : (updateTemp n t v s).hst.ask = s.hst.ask := rfl
@[simp] theorem keepTemp_ask (n : Chan) (t : Nat) (v : Half) (s : State) : (keepTemp n t v s).hst.ask = s.hst.ask := by
  simp [keepTemp]
@[simp] theorem plausEvent_ask (n : Chan) (cell : Nat) (sum ended : Bool) (main other : Nat) (s : State) :
    (plausEvent n cell sum ended main other s).hst.ask = s.hst.ask := by
  simp [plausEvent]

@[simp] theorem startWireTest_ask (n : Chan) (k : Nat) (s : State) : (startWireTest n k s).hst.ask = s.hst.ask := by
  simp [startWireTest]

@[simp] theorem nextSuspect_ask (n : Chan) (s : State) : (nextSuspect n s).hst.ask = s.hst.ask := by
  unfold nextSuspect
  split <;> simp

@[simp] theorem suspectWire_ask (n : Chan) (k : Nat) (s : State) : (suspectWire n k s).hst.ask = s.hst.ask := by simp [suspectWire]
@[simp] theorem endSuspect_ask (n : Chan) (k : Nat) (s : State) : (endSuspect n k s).hst.ask = s.hst.ask := by simp [endSuspect]
@[simp] theorem latchPlaus_ask (n : Chan) (i : Nat) (main other : Nat) (s : State) :
    (latchPlaus n i main other s).hst.ask = s.hst.ask := by
  simp [latchPlaus]

@[simp] theorem confirmOpen_ask (n : Chan) (w : Suspect) (checked cellFault : Bool) (s : State) :
    (confirmOpen n w checked cellFault s).hst.ask = s.hst.ask := by
  simp [confirmOpen]

@[simp] theorem classifyWires_ask (n : Chan) (s : State) : (classifyWires n s).hst.ask = s.hst.ask := by simp [classifyWires]
@[simp] theorem wireTested_ask (n : Chan) (k : Nat) (d : Option (Half × Half)) (s : State) :
    (wireTested n k d s).hst.ask = s.hst.ask := by
  unfold wireTested
  dsimp only
  (repeat' split) <;> simp

@[simp] theorem stackSum_ask (n : Chan) (s : State) : (stackSum n s).hst.ask = s.hst.ask := by
  unfold stackSum
  dsimp only
  (repeat' split) <;> simp

@[simp] theorem deviations_ask (n : Chan) (s : State) : (deviations n s).hst.ask = s.hst.ask := by simp [deviations]
@[simp] theorem countCell_ask (n : Chan) (x : TouchFrame) (cmp : List (Option Int)) (i : Nat) (s : State) :
    (countCell n x cmp i s).hst.ask = s.hst.ask := by
  unfold countCell
  dsimp only
  (repeat' split) <;> simp

@[simp] theorem touchCompare_ask (n : Chan) (x : TouchFrame) (s : State) : (touchCompare n x s).hst.ask = s.hst.ask := by
  simp [touchCompare]

@[simp] theorem takeReport_ask (n : Chan) (x : CellsReport) (s : State) : (takeReport n x s).hst.ask = s.hst.ask := by
  unfold takeReport
  split <;> simp

/-! ### Operations of Machine/Service.lean -/

@[simp] theorem putService_ask (n : Chan) (v : ServiceSt) (s : State) : (putService n v s).hst.ask = s.hst.ask := rfl
@[simp] theorem servicePoll_ask (n : Chan) (s : State) : (servicePoll n s).hst.ask = s.hst.ask := by
  unfold servicePoll
  split <;> simp

@[simp] theorem takeHold_ask (n : Chan) (s : State) : (takeHold n s).hst.ask = s.hst.ask := by
  unfold takeHold
  split <;> simp

@[simp] theorem nextHold_ask (s : State) : (nextHold s).hst.ask = s.hst.ask := by
  unfold nextHold
  split <;> simp

@[simp] theorem startService_ask (n : Chan) (v : ServiceSt) (s : State) : (startService n v s).hst.ask = s.hst.ask := by
  simp [startService]

@[simp] theorem endService_ask (n : Chan) (st : Status) (s : State) : (endService n st s).hst.ask = s.hst.ask := by
  simp [endService]
@[simp] theorem serviceRelease_ask (n : Chan) (s : State) : (serviceRelease n s).hst.ask = s.hst.ask := by
  unfold serviceRelease
  split <;> simp

@[simp] theorem serviceDone_ask (n : Chan) (v : ServiceSt) (s : State) : (serviceDone n v s).hst.ask = s.hst.ask := by
  simp [serviceDone]

@[simp] theorem nextChunk_ask (n : Chan) (v : ServiceSt) (s : State) : (nextChunk n v s).hst.ask = s.hst.ask := by simp [nextChunk]
@[simp] theorem reExchange_ask (n : Chan) (s : State) : (reExchange n s).hst.ask = s.hst.ask := rfl
@[simp] theorem serviceReply_ask (n : Chan) (result : Option Nat) (data : List Byte) (s : State) :
    (serviceReply n result data s).hst.ask = s.hst.ask := by
  unfold serviceReply
  (repeat' split) <;> simp

@[simp] theorem serviceCaps_ask (n : Chan) (image : Word) (s : State) : (serviceCaps n image s).hst.ask = s.hst.ask := by
  unfold serviceCaps
  split <;> simp

@[simp] theorem serviceSetup_ask (n : Chan) (s : State) : (serviceSetup n s).hst.ask = s.hst.ask := by
  unfold serviceSetup
  split <;> simp

@[simp] theorem bleedTaken_ask (n : Chan) (args : List Byte) (s : State) : (bleedTaken n args s).hst.ask = s.hst.ask := by
  simp [bleedTaken]

@[simp] theorem setupReply_ask (n : Chan) (k : Nat) (ok : Bool) (args : List Byte) (s : State) :
    (setupReply n k ok args s).hst.ask = s.hst.ask := by
  simp [setupReply]

@[simp] theorem cmdDone_ask (p : Chan) (c : NodeCmd) (result : Option Nat) (data : List Byte) (s : State) :
    (cmdDone p c result data s).hst.ask = s.hst.ask := by
  unfold cmdDone
  split <;> simp

@[simp] theorem failCmds_ask (p : Chan) (s : State) : (failCmds p s).hst.ask = s.hst.ask := by simp [failCmds]

/-! ### Operations of Machine/PortRows.lean -/

@[simp] theorem readPower_ask (p : Chan) (s : State) : (readPower p s).hst.ask = s.hst.ask := rfl
@[simp] theorem readTk_ask (p : Chan) (s : State) : (readTk p s).hst.ask = s.hst.ask := rfl
@[simp] theorem retestFailed_ask (p : Chan) (s : State) : (retestFailed p s).hst.ask = s.hst.ask := rfl
@[simp] theorem leaveRunning_ask (p : Chan) (new : LinkState) (s : State) : (leaveRunning p new s).hst.ask = s.hst.ask := by
  simp [leaveRunning]

@[simp] theorem bringupFails_ask (p : Chan) (new : LinkState) (s : State) : (bringupFails p new s).hst.ask = s.hst.ask := rfl
@[simp] theorem settlePort_ask (p : Chan) (s : State) : (settlePort p s).hst.ask = s.hst.ask := rfl
@[simp] theorem placeFenced_ask (n : Chan) (cause : Nat) (s : State) : (placeFenced n cause s).hst.ask = s.hst.ask := by
  simp [placeFenced]

@[simp] theorem placeDark_ask (n : Chan) (s : State) : (placeDark n s).hst.ask = s.hst.ask := by simp [placeDark]
@[simp] theorem placeStart_ask (n : Chan) (s : State) : (placeStart n s).hst.ask = s.hst.ask := by
  unfold placeStart
  (repeat' split) <;> simp

@[simp] theorem settleRefused_ask (n : Chan) (s : State) : (settleRefused n s).hst.ask = s.hst.ask := by simp [settleRefused]
@[simp] theorem unpartner_ask (p : Chan) (cause : Nat) (s : State) : (unpartner p cause s).hst.ask = s.hst.ask := by
  simp [unpartner]
@[simp] theorem sendSync_ask (p : Chan) (step : Bool) (s : State) : (sendSync p step s).hst.ask = s.hst.ask := rfl
@[simp] theorem setDelay_ask (p : Chan) (d round : Rat) (s : State) : (setDelay p d round s).2.hst.ask = s.hst.ask := by
  simp [setDelay]
@[simp] theorem delayEvent_ask (p : Chan) (old new : Rat) (moved : Bool) (s : State) :
    (delayEvent p old new moved s).hst.ask = s.hst.ask := by
  simp [delayEvent]

@[simp] theorem trackDelay_ask (p : Chan) (down : Rat) (s : State) : (trackDelay p down s).hst.ask = s.hst.ask := by
  unfold trackDelay
  split <;> simp

@[simp] theorem retestTake_ask (p : Chan) (down : Rat) (s : State) : (retestTake p down s).hst.ask = s.hst.ask := by
  unfold retestTake
  split <;> simp

@[simp] theorem timingReply_ask (p : Chan) (x : Stat) (t4 : Stamp) (s : State) : (timingReply p x t4 s).hst.ask = s.hst.ask := by
  unfold timingReply
  dsimp only
  (repeat' split) <;> simp

@[simp] theorem refuse_ask (p : Chan) (cause value : Nat) (s : State) : (refuse p cause value s).hst.ask = s.hst.ask := by
  simp [refuse]
@[simp] theorem faultToneEvent_ask (p : Chan) (cause : Byte) (wasArmed : Bool) (s : State) :
    (faultToneEvent p cause wasArmed s).hst.ask = s.hst.ask := by
  simp [faultToneEvent]

@[simp] theorem linkLossEvent_ask (p : Chan) (cause : Nat) (st : LinkState) (wasArmed : Bool) (s : State) :
    (linkLossEvent p cause st wasArmed s).hst.ask = s.hst.ask := by
  simp [linkLossEvent]

/-! ### Operations of Machine/EdgeRows.lean -/

@[simp] theorem breakContinuity_ask (n : Chan) (s : State) : (breakContinuity n s).hst.ask = s.hst.ask := by
  unfold breakContinuity
  dsimp only
  split <;> simp -implicitDefEqProofs

@[simp] theorem countCharge_ask (n : Chan) (r : EdgeRec) (s : State) : (countCharge n r s).hst.ask = s.hst.ask := by
  unfold countCharge
  dsimp only
  split <;> simp

@[simp] theorem edgeStream_ask (n : Chan) (x : ExecRec) (s : State) : (edgeStream n x s).hst.ask = s.hst.ask := by
  simp -implicitDefEqProofs [edgeStream]

@[simp] theorem edgeGap_ask (n : Chan) (time stop : DWord) (st : Option OutState) (s : State) :
    (edgeGap n time stop st s).hst.ask = s.hst.ask := by
  unfold edgeGap
  split <;> simp

@[simp] theorem edgeEngine_ask (n : Chan) (r : EdgeRec) (stop : DWord) (stale : Bool) (s : State) :
    (edgeEngine n r stop stale s).hst.ask = s.hst.ask :=
  rfl

@[simp] theorem takeEdge_ask (n : Chan) (base : DWord) (s : State) (r : EdgeRec) : (takeEdge n base s r).hst.ask = s.hst.ask := by
  simp [takeEdge]

@[simp] theorem reportAssay_ask (n : Chan) (x : CellsReport) (wStart : Int) (s : State) :
    (reportAssay n x wStart s).hst.ask = s.hst.ask := by
  simp [reportAssay]

/-! ### Operations of Machine/Crucible.lean -/

@[simp] theorem setRate_ask (n : Chan) (t : Nat) (s : State) : (setRate n t s).hst.ask = s.hst.ask := by
  unfold setRate
  dsimp only
  (repeat' split) <;> simp

@[simp] theorem rorEvent_ask (n : Chan) (kind t : Nat) (ended : Bool) (s : State) :
    (rorEvent n kind t ended s).hst.ask = s.hst.ask := by
  simp [rorEvent]

@[simp] theorem rateOfRise_ask (n : Chan) (s : State) : (rateOfRise n s).hst.ask = s.hst.ask := by
  unfold rateOfRise
  dsimp only
  (repeat' split) <;> simp

@[simp] theorem fastMode_ask (n : Chan) (s : State) : (fastMode n s).hst.ask = s.hst.ask := by simp [fastMode]
@[simp] theorem tsSteps_ask (fresh : Bool) (s : State) : (tsSteps fresh s).hst.ask = s.hst.ask := by
  refine forEach_ask _ _ _ fun i u => ?_
  split
  · rfl
  · split <;> rfl

@[simp] theorem throttleEvent_ask (subject chan step source factor sensor : Nat) (temp : Int) (s : State) :
    (throttleEvent subject chan step source factor sensor temp s).hst.ask = s.hst.ask := by
  simp [throttleEvent]

@[simp] theorem throttle_ask (fresh : Bool) (n : Chan) (s : State) : (throttle fresh n s).hst.ask = s.hst.ask := by
  unfold throttle
  dsimp only
  (repeat' split) <;> simp

@[simp] theorem crucibleUpdate_ask (s : State) : (crucibleUpdate s).hst.ask = s.hst.ask := by simp [crucibleUpdate]
@[simp] theorem sensorFaultEvent_ask (i : TempIn) (kind : Nat) (ended trip : Bool) (s : State) :
    (sensorFaultEvent i kind ended trip s).hst.ask = s.hst.ask := by
  simp [sensorFaultEvent]

@[simp] theorem tsTake_ask (i : TempIn) (t : Int) (s : State) : (tsTake i t s).hst.ask = s.hst.ask := rfl

/-! ### Operations of Machine/Estimator.lean -/

@[simp] theorem advanceGroup_ask (n : Chan) (d : Int) (id_ : Rat) (i : Nat) (s : State) :
    (advanceGroup n d id_ i s).hst.ask = s.hst.ask :=
  rfl

@[simp] theorem advanceChan_ask (n : Chan) (s : State) : (advanceChan n s).2.hst.ask = s.hst.ask := by
  simp -implicitDefEqProofs [advanceChan]

@[simp] theorem advanceAll_ask (l : List Chan) (s : State) : (advanceAll l s).2.hst.ask = s.hst.ask := by
  induction l generalizing s with
  | nil => rfl
  | cons n ns ih => exact (ih _).trans (advanceChan_ask n s)

@[simp] theorem advanceSegment_ask (l : List (Chan × (Rat × Rat) × (Rat × Rat))) (s : State) :
    (advanceSegment l s).hst.ask = s.hst.ask := by
  unfold advanceSegment
  dsimp only
  split <;> rfl

/-! ### Operations of Machine/Limits.lean -/

@[simp] theorem limitsUpdate_ask (n : Chan) (s : State) : (limitsUpdate n s).hst.ask = s.hst.ask := by
  unfold limitsUpdate
  dsimp only
  split <;> simp

@[simp] theorem deratedEvent_ask (n : Chan) (cause : Nat) (ended : Bool) (factor : Rat) (s : State) :
    (deratedEvent n cause ended factor s).hst.ask = s.hst.ask := by
  simp [deratedEvent]

@[simp] theorem deratedEvents_ask (n : Chan) (s : State) : (deratedEvents n s).hst.ask = s.hst.ask := by simp [deratedEvents]
@[simp] theorem segmentLimits_ask (s : State) : (segmentLimits s).hst.ask = s.hst.ask := rfl
@[simp] theorem restEvent_ask (n : Chan) (ended again : Bool) (s : State) : (restEvent n ended again s).hst.ask = s.hst.ask := by
  simp [restEvent]

@[simp] theorem restRequests_ask (n : Chan) (s : State) : (restRequests n s).hst.ask = s.hst.ask := by
  unfold restRequests
  dsimp only
  split <;> simp

@[simp] theorem finishRest_ask (n : Chan) (s : State) : (finishRest n s).hst.ask = s.hst.ask := by
  simp -implicitDefEqProofs [finishRest]

@[simp] theorem restEarly_ask (n : Chan) (s : State) : (restEarly n s).hst.ask = s.hst.ask := by
  unfold restEarly
  split <;> simp

@[simp] theorem bypassGap_ask (n : Chan) (s : State) : (bypassGap n s).hst.ask = s.hst.ask := by
  unfold bypassGap
  split
  · rfl
  · split <;> simp -implicitDefEqProofs

@[simp] theorem ownGap_ask (s : State) : (ownGap s).hst.ask = s.hst.ask := by
  unfold ownGap
  (repeat' split) <;> simp

@[simp] theorem bleedUpdate_ask (n : Chan) (s : State) : (bleedUpdate n s).hst.ask = s.hst.ask := by simp [bleedUpdate]
@[simp] theorem countCycles_ask (n : Chan) (s : State) : (countCycles n s).hst.ask = s.hst.ask := by simp [countCycles]
@[simp] theorem notStored_ask (n : Chan) (reason : Nat) (s : State) : (notStored n reason s).hst.ask = s.hst.ask := by
  simp [notStored]
@[simp] theorem restAnchors_ask (n : Chan) (top : Bool) (miss : Rat) (s : State) :
    (restAnchors n top miss s).hst.ask = s.hst.ask := by
  simp -implicitDefEqProofs [restAnchors]

@[simp] theorem cyclePhase_ask (n : Chan) (p : Nat) (s : State) : (cyclePhase n p s).hst.ask = s.hst.ask := rfl
@[simp] theorem learnGroup_ask (n : Chan) (dq : Rat) (k : Nat) (s : State) : (learnGroup n dq k s).2.hst.ask = s.hst.ask := by
  simp [learnGroup]

@[simp] theorem writeBack_ask (n : Chan) (s : State) : (writeBack n s).hst.ask = s.hst.ask := by simp [writeBack]
@[simp] theorem cycleLearn_ask (n : Chan) (s : State) : (cycleLearn n s).hst.ask = s.hst.ask := by
  unfold cycleLearn
  simp only [cyclePhase_ask, writeBack_ask, checkVerified_ask, modCyc_hst]
  exact foldl_ask Prod.snd _ _ _ fun _ _ => learnGroup_ask _ _ _ _

@[simp] theorem cycleUpdate_ask (n : Chan) (s : State) : (cycleUpdate n s).hst.ask = s.hst.ask := by
  unfold cycleUpdate
  dsimp only
  (repeat' split) <;> simp

/-! ### Operations of Machine/AssayRows.lean -/

@[simp] theorem provPoll_ask (n : Chan) (s : State) : (provPoll n s).hst.ask = s.hst.ask := by simp [provPoll]
@[simp] theorem masterUpdate_ask (n : Chan) (s : State) : (masterUpdate n s).hst.ask = s.hst.ask := by simp [masterUpdate]
@[simp] theorem estimate_ask (s : State) : (estimate s).hst.ask = s.hst.ask := by simp [estimate]
@[simp] theorem restBegin_ask (n : Chan) (s : State) : (restBegin n s).hst.ask = s.hst.ask := rfl

/-! ### Operations of Machine/TimeBase.lean -/

@[simp] theorem timeEvent_ask (old : LockState) (byCmd : Bool) (s : State) : (timeEvent old byCmd s).hst.ask = s.hst.ask := by
  simp [timeEvent]

@[simp] theorem setLock_ask (new : LockState) (seam byCmd : Bool) (s : State) : (setLock new seam byCmd s).hst.ask = s.hst.ask := by
  simp [setLock]

@[simp] theorem setSlew_ask (e : Int) (s : State) : (setSlew e s).hst.ask = s.hst.ask := rfl
@[simp] theorem acquire_ask (a : Int) (e : Option Int) (byCmd : Bool) (s : State) : (acquire a e byCmd s).hst.ask = s.hst.ask := by
  simp [acquire]

@[simp] theorem loopStep_ask (e : Int) (s : State) : (loopStep e s).hst.ask = s.hst.ask := rfl
@[simp] theorem edgeOutside_ask (a : Int) (s : State) : (edgeOutside a s).hst.ask = s.hst.ask := by simp [edgeOutside]
@[simp] theorem edgeAccepted_ask (a : Int) (s : State) : (edgeAccepted a s).hst.ask = s.hst.ask := by
  unfold edgeAccepted
  dsimp only
  split <;> simp

@[simp] theorem edgeLoads_ask (a : Int) (p : Pend) (s : State) : (edgeLoads a p s).2.hst.ask = s.hst.ask := by
  unfold edgeLoads
  dsimp only
  (repeat' split) <;> simp

@[simp] theorem edgeLoadsAll_ask (a : Int) (due : List Pend) (s : State) : (edgeLoadsAll a due s).2.hst.ask = s.hst.ask :=
  foldl_ask (fun x : Bool × Int × State => x.2.2) _ _ _ fun _ _ => edgeLoads_ask _ _ _

@[simp] theorem edgeTakes_ask (a : Int) (due : List Pend) (s : State) : (edgeTakes a due s).hst.ask = s.hst.ask := by
  simp [edgeTakes]
@[simp] theorem edgeOnSeam_ask (a : Int) (due : List Pend) (s : State) : (edgeOnSeam a due s).hst.ask = s.hst.ask := by
  simp [edgeOnSeam]

/-! ### Operations of Machine/Twin.lean -/

@[simp] theorem seamAck_ask (ack : Half) (s : State) : (seamAck ack s).hst.ask = s.hst.ask := by simp [seamAck]
@[simp] theorem seamGoBack_ask (ack : Half) (s : State) : (seamGoBack ack s).hst.ask = s.hst.ask := by simp [seamGoBack]
@[simp] theorem seamCommon_ask (h : SeamHdr) (s : State) : (seamCommon h s).hst.ask = s.hst.ask := by simp [seamCommon]
@[simp] theorem seamPlain_ask (h : SeamHdr) (s : State) : (seamPlain h s).hst.ask = s.hst.ask := by simp [seamPlain]
@[simp] theorem roleEvent_ask (old new cause : Nat) (hitless : Bool) (gen : Word) (from_ : DWord) (s : State) :
    (roleEvent old new cause hitless gen from_ s).hst.ask = s.hst.ask := by
  simp [roleEvent]

@[simp] theorem judgeRole_ask (s : State) : (judgeRole s).hst.ask = s.hst.ask := by
  unfold judgeRole
  split <;> simp

@[simp] theorem seamEnds_ask (s : State) : (seamEnds s).hst.ask = s.hst.ask := by simp [seamEnds]
@[simp] theorem becomeMaster_ask (cause : Nat) (epoch : Word) (s : State) : (becomeMaster cause epoch s).hst.ask = s.hst.ask := by
  simp [becomeMaster]

@[simp] theorem dropTrip_ask (s : State) : (dropTrip s).hst.ask = s.hst.ask := by simp [dropTrip]
@[simp] theorem dropFrames_ask (p : Chan) (s : State) : (dropFrames p s).hst.ask = s.hst.ask := rfl
@[simp] theorem becomeStandby_ask (cause : Nat) (s : State) : (becomeStandby cause s).hst.ask = s.hst.ask := by
  simp -implicitDefEqProofs [becomeStandby]

@[simp] theorem sawEpoch_ask (e : Word) (s : State) : (sawEpoch e s).hst.ask = s.hst.ask := by
  unfold sawEpoch
  dsimp only
  split <;> simp

@[simp] theorem sendTakeovers_ask (gen : Word) (from_ : DWord) (s : State) : (sendTakeovers gen from_ s).hst.ask = s.hst.ask := by
  simp -implicitDefEqProofs [sendTakeovers]

@[simp] theorem replaceChan_ask (n : Chan) (s : State) : (replaceChan n s).hst.ask = s.hst.ask := by
  unfold replaceChan
  dsimp only
  (repeat' split) <;> simp

@[simp] theorem masterSteps_ask (s : State) : (masterSteps s).hst.ask = s.hst.ask := by simp [masterSteps]
@[simp] theorem takeover_ask (cause : Nat) (s : State) : (takeover cause s).hst.ask = s.hst.ask := by simp [takeover]
@[simp] theorem receiveArm_ask (o : Offer) (s : State) : (receiveArm o s).hst.ask = s.hst.ask := by simp [receiveArm]
@[simp] theorem openHandover_ask (a : Asked) (s : State) : (openHandover a s).hst.ask = s.hst.ask := rfl
@[simp] theorem restartSoon_ask (r : Restart) (s : State) : (restartSoon r s).hst.ask = s.hst.ask := rfl
@[simp] theorem preferBank_ask (k : Bank) (s : State) : (preferBank k s).hst.ask = s.hst.ask := rfl
@[simp] theorem handedOver_ask (s : State) : (handedOver s).hst.ask = s.hst.ask := by
  unfold handedOver
  (repeat' split) <;> simp

/-! ### Operations of Machine/BusRows.lean -/

@[simp] theorem passiveEvent_ask (b : BusId) (ended : Bool) (s : State) : (passiveEvent b ended s).hst.ask = s.hst.ask := by
  simp [passiveEvent]

@[simp] theorem busOffEvent_ask (b : BusId) (ended supply : Bool) (s : State) :
    (busOffEvent b ended supply s).hst.ask = s.hst.ask := by
  simp [busOffEvent]

@[simp] theorem clashEvent_ask (b : BusId) (own ended : Bool) (ident : BitVec 29) (s : State) :
    (clashEvent b own ended ident s).hst.ask = s.hst.ask := by
  simp [clashEvent]

@[simp] theorem aloneEvent_ask (b : BusId) (ended : Bool) (count : Nat) (s : State) :
    (aloneEvent b ended count s).hst.ask = s.hst.ask := by
  simp [aloneEvent]

@[simp] theorem tripBroadcastEvent_ask (b : BusId) (received : Bool) (buses zone source groups causes count hit : Nat) (s : State) :
    (tripBroadcastEvent b received buses zone source groups causes count hit s).hst.ask = s.hst.ask := by
  simp [tripBroadcastEvent]

@[simp] theorem sendsDone_ask (s : State) : (sendsDone s).hst.ask = s.hst.ask := rfl
@[simp] theorem oneShotEnds_ask (b : BusId) (code : Nat) (f : OneShot) (s : State) :
    (oneShotEnds b code f s).hst.ask = s.hst.ask := by
  simp [oneShotEnds]

@[simp] theorem endFifo_ask (b : BusId) (code : Nat) (s : State) : (endFifo b code s).hst.ask = s.hst.ask := by simp [endFifo]
@[simp] theorem endFirst_ask (b : BusId) (code : Nat) (s : State) : (endFirst b code s).hst.ask = s.hst.ask := by
  unfold endFirst
  split <;> simp

@[simp] theorem queueOneShot_ask (b : BusId) (f : OneShot) (s : State) : (queueOneShot b f s).hst.ask = s.hst.ask := rfl
@[simp] theorem busReturns_ask (b : BusId) (s : State) : (busReturns b s).hst.ask = s.hst.ask := rfl
@[simp] theorem busJudge_ask (b : BusId) (s : State) : (busJudge b s).hst.ask = s.hst.ask := by simp [busJudge]
@[simp] theorem busRejoins_ask (b : BusId) (supply : Bool) (s : State) : (busRejoins b supply s).hst.ask = s.hst.ask := by
  simp [busRejoins]

@[simp] theorem declareClash_ask (b : BusId) (own : Bool) (ident : BitVec 29) (s : State) :
    (declareClash b own ident s).hst.ask = s.hst.ask := by
  simp [declareClash]

@[simp] theorem clearClash_ask (s : State) : (clearClash s).hst.ask = s.hst.ask := by simp -implicitDefEqProofs [clearClash]
@[simp] theorem recoversDone_ask (s : State) : (recoversDone s).hst.ask = s.hst.ask := rfl
@[simp] theorem tripSent_ask (b : BusId) (s : State) : (tripSent b s).hst.ask = s.hst.ask := by
  unfold tripSent
  split <;> simp

@[simp] theorem tecRaise_ask (e : BusErr) (dataPhase : Bool) (x : BusOne) (s : State) :
    (tecRaise e dataPhase x s).2.hst.ask = s.hst.ask := by
  unfold tecRaise
  split <;> simp

@[simp] theorem recvAfter_ask (b : BusId) (s : State) : (recvAfter b s).hst.ask = s.hst.ask := by simp [recvAfter]
@[simp] theorem busTakes_ask (b : BusId) (ident : BitVec 29) (s : State) : (busTakes b ident s).hst.ask = s.hst.ask := by
  simp [busTakes]

@[simp] theorem busRecord_ask (b : BusId) (f : BusFrame) (s : State) : (busRecord b f s).hst.ask = s.hst.ask := by
  simp -implicitDefEqProofs [busRecord]

@[simp] theorem takeTrip_ask (b : BusId) (f : BusFrame) (s : State) : (takeTrip b f s).hst.ask = s.hst.ask := by simp [takeTrip]
@[simp] theorem takeStatus_ask (b : BusId) (f : BusFrame) (s : State) : (takeStatus b f s).hst.ask = s.hst.ask := by
  simp [takeStatus]
@[simp] theorem takeFrame_ask (b : BusId) (f : BusFrame) (s : State) : (takeFrame b f s).hst.ask = s.hst.ask := by
  unfold takeFrame
  split <;> simp

@[simp] theorem busEnableChanged_ask (old : Nat) (s : State) : (busEnableChanged old s).hst.ask = s.hst.ask := by
  simp [busEnableChanged]

/-! ### Operations of Machine/EngineRows.lean -/

@[simp] theorem dropWrite_ask (p : HPort) (s : State) : (dropWrite p s).hst.ask = s.hst.ask := by simp [dropWrite]
@[simp] theorem rejectLoad_ask (s : State) : (rejectLoad s).hst.ask = s.hst.ask := rfl
@[simp] theorem takeLoad_ask (byOpcode : Bool) (s : State) : (takeLoad byOpcode s).hst.ask = s.hst.ask := by simp [takeLoad]
@[simp] theorem loadGo_ask (v : Word) (s : State) : (loadGo v s).hst.ask = s.hst.ask := by simp [loadGo]
@[simp] theorem keepRef_ask (r : RefDesc) (at_ : DWord) (s : State) : (keepRef r at_ s).hst.ask = s.hst.ask := rfl
@[simp] theorem countLate_ask (r : RefDesc) (s : State) : (countLate r s).hst.ask = s.hst.ask := rfl
@[simp] theorem reloadCarriers_ask (start : Nat) (old : Nat) (s : State) : (reloadCarriers start old s).hst.ask = s.hst.ask := by
  simp -implicitDefEqProofs [reloadCarriers]

@[simp] theorem reloadParams_ask (start : Nat) (s : State) : (reloadParams start s).hst.ask = s.hst.ask := by simp [reloadParams]
@[simp] theorem applyMode_ask (s : State) : (applyMode s).hst.ask = s.hst.ask := by
  unfold applyMode
  split <;> simp

@[simp] theorem applyLoad_ask (start : Nat) (s : State) : (applyLoad start s).hst.ask = s.hst.ask := by
  unfold applyLoad
  split <;> simp

@[simp] theorem gapHold_ask (start : Nat) (n : Chan) (s : State) : (gapHold start n s).hst.ask = s.hst.ask := by simp [gapHold]
@[simp] theorem enterActive_ask (n : Chan) (s : State) : (enterActive n s).hst.ask = s.hst.ask := by
  unfold enterActive
  (repeat' split) <;> simp

@[simp] theorem missTriggers_ask (n : Chan) (s : State) : (missTriggers n s).hst.ask = s.hst.ask := rfl
@[simp] theorem staleCheck_ask (n : Chan) (s : State) : (staleCheck n s).hst.ask = s.hst.ask := by simp [staleCheck]
@[simp] theorem makeOffer_ask (start : Nat) (s : State) : (makeOffer start s).hst.ask = s.hst.ask := by simp [makeOffer]
@[simp] theorem reloadTurn_ask (start : Nat) (s : State) : (reloadTurn start s).hst.ask = s.hst.ask := by simp [reloadTurn]
@[simp] theorem reloadForm_ask (start : Nat) (s : State) : (reloadForm start s).hst.ask = s.hst.ask := by
  unfold reloadForm
  dsimp only
  split <;> simp

/-! ### Operations of Machine/QuenchRows.lean -/

@[simp] theorem demandBegins_ask (i : TripIn) (s : State) : (demandBegins i s).hst.ask = s.hst.ask := by simp [demandBegins]
@[simp] theorem demandEnds_ask (i : TripIn) (s : State) : (demandEnds i s).hst.ask = s.hst.ask := by simp [demandEnds]
@[simp] theorem enterSafe_ask (s : State) : (enterSafe s).hst.ask = s.hst.ask := by simp [enterSafe]
@[simp] theorem selftestEvent_ask (lane kind : Nat) (vector : Half) (s : State) :
    (selftestEvent lane kind vector s).hst.ask = s.hst.ask := by
  simp [selftestEvent]

@[simp] theorem twoLanes_ask (origin : Nat) (s : State) : (twoLanes origin s).hst.ask = s.hst.ask := by simp [twoLanes]

/-! ### Operations of Machine/Commit.lean -/

@[simp] theorem populationChanged_ask (old : Nat) (s : State) : (populationChanged old s).hst.ask = s.hst.ask := by
  simp [populationChanged]

@[simp] theorem countsChanged_ask (n : Chan) (s : State) : (countsChanged n s).hst.ask = s.hst.ask := by simp [countsChanged]
@[simp] theorem tsChanged_ask (old : Tab (List Byte)) (i : TempIn) (s : State) : (tsChanged old i s).hst.ask = s.hst.ask := by
  simp [tsChanged]

@[simp] theorem polarityChanged_ask (old : Nat) (s : State) : (polarityChanged old s).hst.ask = s.hst.ask := by
  simp [polarityChanged]
@[simp] theorem configEffects_ask (old : Tab (List Byte)) (carrier : Bool) (s : State) :
    (configEffects old carrier s).hst.ask = s.hst.ask := by
  simp -implicitDefEqProofs [configEffects]

@[simp] theorem configWritten_ask (s : State) : (configWritten s).hst.ask = s.hst.ask := by
  unfold configWritten
  split <;> simp

@[simp] theorem configLost_ask (s : State) : (configLost s).hst.ask = s.hst.ask := rfl

/-! ### Operations of Machine/ConnectionRows.lean -/

@[simp] theorem chDone_ask (n : Chan) (st : Status) (s : State) : (chDone n st s).hst.ask = s.hst.ask := rfl
@[simp] theorem recheckChan_ask (n : Chan) (s : State) : (recheckChan n s).hst.ask = s.hst.ask := by
  unfold recheckChan
  dsimp only
  (repeat' split) <;> simp

/-! ### Operations of Machine/LoadOut.lean -/

@[simp] theorem loEvent_ask (code level : Nat) (o : LoadOut) (ended offState : Bool) (kind : Nat) (s : State) :
    (loEvent code level o ended offState kind s).hst.ask = s.hst.ask := by
  simp [loEvent]

@[simp] theorem loMeasure_ask (o : LoadOut) (m : LoMeas) (s : State) : (loMeasure o m s).hst.ask = s.hst.ask := rfl
@[simp] theorem uvEvent_ask (g : Fin 4) (ended : Bool) (s : State) : (uvEvent g ended s).hst.ask = s.hst.ask := by simp [uvEvent]
@[simp] theorem uvDone_ask (o : LoadOut) (s : State) : (uvDone o s).hst.ask = s.hst.ask := by simp [uvDone]
@[simp] theorem loStart_ask (o : LoadOut) (s : State) : (loStart o s).hst.ask = s.hst.ask := by simp [loStart]
@[simp] theorem loNextQueued_ask (g : Fin 4) (s : State) : (loNextQueued g s).hst.ask = s.hst.ask := by
  unfold loNextQueued
  (repeat' split) <;> simp

@[simp] theorem loTurnOn_ask (o : LoadOut) (inrush attempt : Bool) (s : State) :
    (loTurnOn o inrush attempt s).hst.ask = s.hst.ask := by
  simp [loTurnOn]

@[simp] theorem loAuto_ask (o : LoadOut) (attempt : Bool) (s : State) : (loAuto o attempt s).hst.ask = s.hst.ask := by simp [loAuto]
@[simp] theorem loOff_ask (o : LoadOut) (st : LoState) (s : State) : (loOff o st s).hst.ask = s.hst.ask := by simp [loOff]
@[simp] theorem loRetire_ask (o : LoadOut) (kind : Nat) (s : State) : (loRetire o kind s).hst.ask = s.hst.ask := by simp [loRetire]
@[simp] theorem loFault_ask (o : LoadOut) (kind : Nat) (m : LoMeas) (s : State) : (loFault o kind m s).hst.ask = s.hst.ask := by
  simp [loFault]

@[simp] theorem loTrip_ask (o : LoadOut) (kind : Nat) (m : LoMeas) (s : State) : (loTrip o kind m s).hst.ask = s.hst.ask := by
  simp [loTrip]

@[simp] theorem loResume_ask (o : LoadOut) (s : State) : (loResume o s).hst.ask = s.hst.ask := by
  unfold loResume
  dsimp only
  (repeat' split) <;> simp

@[simp] theorem loCutGroup_ask (g : Fin 4) (s : State) : (loCutGroup g s).hst.ask = s.hst.ask := by simp [loCutGroup]
@[simp] theorem loStuck_ask (o : LoadOut) (s : State) : (loStuck o s).hst.ask = s.hst.ask := by simp [loStuck]
@[simp] theorem loSelfTest_ask (o : LoadOut) (s : State) : (loSelfTest o s).2.hst.ask = s.hst.ask := rfl
@[simp] theorem loTested_ask (o : LoadOut) (outcome : Nat) (s : State) : (loTested o outcome s).hst.ask = s.hst.ask := by
  unfold loTested
  split <;> simp

@[simp] theorem loResetOne_ask (powerOn : Bool) (o : LoadOut) (s : State) : (loResetOne powerOn o s).hst.ask = s.hst.ask := rfl
@[simp] theorem loReset_ask (powerOn : Bool) (s : State) : (loReset powerOn s).hst.ask = s.hst.ask := by
  simp -implicitDefEqProofs [loReset]

@[simp] theorem loReadyOne_ask (o : LoadOut) (s : State) : (loReadyOne o s).hst.ask = s.hst.ask := by simp [loReadyOne]
@[simp] theorem loReady_ask (s : State) : (loReady s).hst.ask = s.hst.ask := by simp [loReady]
@[simp] theorem loSetOne_ask (o : LoadOut) (on inrush : Bool) (s : State) : (loSetOne o on inrush s).2.hst.ask = s.hst.ask := by
  unfold loSetOne
  dsimp only
  (repeat' split) <;> simp

@[simp] theorem loSetAll_ask (sel st inr : Word) (s : State) : (loSetAll sel st inr s).2.hst.ask = s.hst.ask :=
  foldl_ask Prod.snd _ _ _ fun _ _ => loSetOne_ask _ _ _ _

@[simp] theorem loUncut_ask (g : Fin 4) (s : State) : (loUncut g s).hst.ask = s.hst.ask := by simp [loUncut]
@[simp] theorem loRearmOne_ask (o : LoadOut) (s : State) : (loRearmOne o s).2.hst.ask = s.hst.ask := by simp [loRearmOne]

/-! ### Operations of Machine/TwinRows.lean -/

@[simp] theorem seamLink_ask (l : SeamLane) (up : Bool) (cause : Nat) (s : State) :
    (seamLink l up cause s).hst.ask = s.hst.ask := by
  simp [seamLink]

@[simp] theorem partnerEvent_ask (ended : Bool) (s : State) : (partnerEvent ended s).hst.ask = s.hst.ask := by simp [partnerEvent]
@[simp] theorem laneChanged_ask (before : SeamLane) (s : State) : (laneChanged before s).hst.ask = s.hst.ask := by
  simp [laneChanged]
@[simp] theorem laneHeard_ask (l : SeamLane) (s : State) : (laneHeard l s).hst.ask = s.hst.ask := by simp [laneHeard]
@[simp] theorem partnerLost_ask (s : State) : (partnerLost s).hst.ask = s.hst.ask := by simp [partnerLost]
@[simp] theorem laneDown_ask (l : SeamLane) (cause : Nat) (s : State) : (laneDown l cause s).hst.ask = s.hst.ask := by
  simp [laneDown]
@[simp] theorem activeAtStart_ask (s : State) : (activeAtStart s).hst.ask = s.hst.ask := by simp [activeAtStart]
@[simp] theorem resolveRole_ask (s : State) : (resolveRole s).hst.ask = s.hst.ask := by
  unfold resolveRole
  (repeat' split) <;> simp

@[simp] theorem mismatchEvent_ask (x : Heartbeat) (cause : Nat) (s : State) : (mismatchEvent x cause s).hst.ask = s.hst.ask := by
  simp [mismatchEvent]

@[simp] theorem seamTime_ask (x : Heartbeat) (s : State) : (seamTime x s).hst.ask = s.hst.ask := by simp [seamTime]
@[simp] theorem seenReleased_ask (x : Heartbeat) (s : State) : (seenReleased x s).hst.ask = s.hst.ask := by simp [seenReleased]
@[simp] theorem onPairing_ask (fresh : Bool) (x : Heartbeat) (s : State) : (onPairing fresh x s).hst.ask = s.hst.ask := by
  simp [onPairing]

@[simp] theorem partnerRole_ask (x : Heartbeat) (s : State) : (partnerRole x s).hst.ask = s.hst.ask := by simp [partnerRole]
@[simp] theorem takeHeartbeat_ask (hdr : SeamHdr) (x : Heartbeat) (s : State) : (takeHeartbeat hdr x s).hst.ask = s.hst.ask := by
  simp [takeHeartbeat]

@[simp] theorem laneHealed_ask (l : SeamLane) (s : State) : (laneHealed l s).hst.ask = s.hst.ask := by simp [laneHealed]
@[simp] theorem handoverFails_ask (a : Asked) (s : State) : (handoverFails a s).hst.ask = s.hst.ask := by
  unfold handoverFails
  split <;> simp

/-! ### Operations of Machine/ImageRows.lean -/

@[simp] theorem modBank_ask (k : Bank) (f : BankSt → BankSt) (s : State) : (modBank k f s).hst.ask = s.hst.ask := by
  unfold modBank
  split <;> simp

@[simp] theorem judgeBank_ask (k : Bank) (s : State) : (judgeBank k s).2.hst.ask = s.hst.ask := by
  unfold judgeBank
  split <;> simp

/-! ### Operations of Machine/MirrorRows.lean -/

@[simp] theorem seamHdr_ask (h : SeamHdr) (s : State) : (seamHdr h s).2.hst.ask = s.hst.ask := by simp [seamHdr]
@[simp] theorem takeEntry_ask (n : Chan) (e : MirrorEntry) (s : State) : (takeEntry n e s).hst.ask = s.hst.ask := rfl
@[simp] theorem mirrorRef_ask (m : SetMirror) (s : State) : (mirrorRef m s).hst.ask = s.hst.ask := by
  unfold mirrorRef
  (repeat' split) <;> simp

@[simp] theorem takeMirror_ask (m : SetMirror) (s : State) : (takeMirror m s).hst.ask = s.hst.ask := by
  simp -implicitDefEqProofs [takeMirror]

@[simp] theorem takeCells_ask (n : Chan) (l : List FlagEntry) (s : State) : (takeCells n l s).hst.ask = s.hst.ask := rfl
@[simp] theorem takeWires_ask (n : Chan) (l : List FlagEntry) (s : State) : (takeWires n l s).hst.ask = s.hst.ask := rfl
@[simp] theorem takeRetired_ask (n : Chan) (b : ChanBook) (s : State) : (takeRetired n b s).hst.ask = s.hst.ask := by
  simp [takeRetired]
@[simp] theorem takeBook_ask (s : State) (b : ChanBook) : (takeBook s b).hst.ask = s.hst.ask := by simp [takeBook]
@[simp] theorem takeGroup_ask (s : State) (g : GroupRecon) : (takeGroup s g).hst.ask = s.hst.ask := rfl
@[simp] theorem takeChannel_ask (s : State) (c : ChanRecon) : (takeChannel s c).hst.ask = s.hst.ask := by simp [takeChannel]
@[simp] theorem takeAssay_ask (l : List AssayRecon) (n : Chan) (s : State) : (takeAssay l n s).hst.ask = s.hst.ask := by
  unfold takeAssay
  split <;> simp -implicitDefEqProofs

@[simp] theorem takeLearned_ask (s : State) (x : Chan × LearnedRec) : (takeLearned s x).hst.ask = s.hst.ask := by
  simp [takeLearned]
@[simp] theorem takeImp_ask (s : State) (r : ImpRec) : (takeImp s r).hst.ask = s.hst.ask := rfl
@[simp] theorem judgeDelta_ask (dz : Rat) (s : State) : (judgeDelta dz s).hst.ask = s.hst.ask := rfl
@[simp] theorem takeReconcile_ask (x : Reconcile) (s : State) : (takeReconcile x s).hst.ask = s.hst.ask := by
  refine (foldl_ask id _ _ _ takeImp_ask).trans ((foldl_ask id _ _ _ takeLearned_ask).trans ?_)
  refine (forEach_ask _ _ _ (takeAssay_ask x.assays)).trans ?_
  exact (foldl_ask id _ _ _ takeChannel_ask).trans ((foldl_ask id _ _ _ takeGroup_ask).trans (judgeDelta_ask _ _))

/-! ### Operations of Machine/NodeRows.lean -/

@[simp] theorem sawGens_ask (p : Chan) (l : List Word) (s : State) : (sawGens p l s).hst.ask = s.hst.ask := by simp [sawGens]
@[simp] theorem reportState_ask (p : Chan) (code : Byte) (s : State) : (reportState p code s).hst.ask = s.hst.ask := by
  simp [reportState]

@[simp] theorem crossWire_ask (p : Chan) (x : Caps) (s : State) : (crossWire p x s).hst.ask = s.hst.ask := by simp [crossWire]
@[simp] theorem duplicate_ask (p q : Chan) (x : Caps) (s : State) : (duplicate p q x s).hst.ask = s.hst.ask := by simp [duplicate]
@[simp] theorem eraseCalib_ask (p : Chan) (id : DWord) (s : State) : (eraseCalib p id s).hst.ask = s.hst.ask := by simp [eraseCalib]
@[simp] theorem placeCaps_ask (p : Chan) (x : Caps) (s : State) : (placeCaps p x s).hst.ask = s.hst.ask := by simp [placeCaps]
@[simp] theorem capsAccepted_ask (p : Chan) (x : Caps) (s : State) : (capsAccepted p x s).hst.ask = s.hst.ask := by
  simp [capsAccepted]
@[simp] theorem exchangeFails_ask (p : Chan) (s : State) : (exchangeFails p s).hst.ask = s.hst.ask := by simp [exchangeFails]

/-! ### Operations of Machine/StoreRows.lean -/

@[simp] theorem storeFault_ask (permanent : Bool) (s : State) : (storeFault permanent s).hst.ask = s.hst.ask := by simp [storeFault]
@[simp] theorem countWrite_ask (w : StoreWrite) (s : State) : (countWrite w s).hst.ask = s.hst.ask := by
  unfold countWrite
  split <;> simp

@[simp] theorem checkpointEvent_ask (kind : Nat) (s : State) : (checkpointEvent kind s).hst.ask = s.hst.ask := by
  simp [checkpointEvent]
@[simp] theorem checkpointWritten_ask (kind : Nat) (s : State) : (checkpointWritten kind s).hst.ask = s.hst.ask := by
  simp [checkpointWritten]

@[simp] theorem learnedWritten_ask (n : Chan) (afterCycle : Bool) (s : State) :
    (learnedWritten n afterCycle s).hst.ask = s.hst.ask := by
  simp [learnedWritten]

@[simp] theorem impedanceWritten_ask (n : Chan) (s : State) : (impedanceWritten n s).hst.ask = s.hst.ask := rfl
@[simp] theorem stored_ask (w : StoreWrite) (s : State) : (stored w s).hst.ask = s.hst.ask := by
  unfold stored
  split <;> simp

@[simp] theorem unstored_ask (w : StoreWrite) (s : State) : (unstored w s).hst.ask = s.hst.ask := by
  unfold unstored
  split <;> simp

/-! ### Operations of Machine/Startup.lean -/

@[simp] theorem cutWrite_ask (whole : Bool) (s : State) : (cutWrite whole s).hst.ask = s.hst.ask := by
  unfold cutWrite
  dsimp only
  (repeat' split) <;> simp

@[simp] theorem restoreSoc_ask (s : State) : (restoreSoc s).hst.ask = s.hst.ask := by
  refine (foldl_ask id _ _ _ ?_).trans (foldl_ask id _ _ _ ?_) <;> exact fun _ _ => rfl

@[simp] theorem restoreLearned_ask (s : State) : (restoreLearned s).hst.ask = s.hst.ask := by
  refine (foldl_ask id _ _ _ ?_).trans ((foldl_ask id _ _ _ ?_).trans (foldl_ask id _ _ _ ?_))
  case refine_1 => exact fun _ _ => rfl
  all_goals
    intro u e
    dsimp only [id]
    split <;> simp

theorem mainReset_ask (c : StartCause) (s : State) : (mainReset c s).hst.ask = (.a, none) := by simp [mainReset]
@[simp] theorem imageStarts_ask (s : State) : (imageStarts s).hst.ask = s.hst.ask := by simp -implicitDefEqProofs [imageStarts]
@[simp] theorem boot_ask (s : State) : (boot s).hst.ask = s.hst.ask := by
  unfold boot
  dsimp only
  split <;> simp

@[simp] theorem closeOld_ask (s : State) : (closeOld s).hst.ask = s.hst.ask := by simp [closeOld]
@[simp] theorem postShutdown_ask (s : State) : (postShutdown s).hst.ask = s.hst.ask := by
  unfold postShutdown
  split <;> simp

@[simp] theorem postTorn_ask (s : State) : (postTorn s).hst.ask = s.hst.ask := by simp [postTorn]
@[simp] theorem dieEvent_ask (step : Nat) (s : State) : (dieEvent step s).hst.ask = s.hst.ask := by simp [dieEvent]
@[simp] theorem dieOffer_ask (s : State) : (dieOffer s).hst.ask = s.hst.ask := by simp [dieOffer]
@[simp] theorem abandonCheckpoint_ask (s : State) : (abandonCheckpoint s).hst.ask = s.hst.ask := by simp [abandonCheckpoint]

/-! ### Operations of Machine/FaultAction.lean -/

@[simp] theorem fenceStep_ask (n : Chan) (cause k : Nat) (s : State) : (fenceStep n cause k s).hst.ask = s.hst.ask := by
  simp [fenceStep]

@[simp] theorem retireStep_ask (n : Chan) (k : Nat) (s : State) : (retireStep n k s).hst.ask = s.hst.ask := by simp [retireStep]
@[simp] theorem fenceBlock_ask (cause subject : Nat) (s : State) : (fenceBlock cause subject s).hst.ask = s.hst.ask := by
  unfold fenceBlock
  dsimp only
  split <;> simp

@[simp] theorem freeBlock_ask (cause subject : Nat) (s : State) : (freeBlock cause subject s).hst.ask = s.hst.ask := by
  unfold freeBlock
  split <;> simp

@[simp] theorem l3Step_ask (cause k : Nat) (s : State) : (l3Step cause k s).hst.ask = s.hst.ask := by simp [l3Step]
@[simp] theorem actionStep_ask (r : FaultRec) (s : State) : (actionStep r s).hst.ask = s.hst.ask := by simp [actionStep]
@[simp] theorem lockstepFault_ask (pair : Nat) (s : State) : (lockstepFault pair s).hst.ask = s.hst.ask := by simp [lockstepFault]
@[simp] theorem releasePinned_ask (n : Nat) (s : State) : (releasePinned n s).hst.ask = s.hst.ask := by simp [releasePinned]

/-! ### Operations of Machine/HostPorts.lean -/

@[simp] theorem fromActive_ask (p : HPort) (f : State → State) (s : State) (h : ∀ t, (f t).hst.ask = t.hst.ask) :
    (fromActive p f s).hst.ask = s.hst.ask := by
  simp [fromActive, h]

@[simp] theorem ringFault_ask (r : Ring) (cause : Nat) (hpi mpi : Word) (s : State) :
    (ringFault r cause hpi mpi s).hst.ask = s.hst.ask := by
  simp [ringFault]

@[simp] theorem scanRing_ask (r : Ring) (s : State) : (scanRing r s).hst.ask = s.hst.ask := by
  unfold scanRing
  dsimp only
  split <;> simp

@[simp] theorem writeHpi_ask (p : HPort) (r : Ring) (v : Word) (s : State) : (writeHpi p r v s).hst.ask = s.hst.ask := by
  simp [writeHpi]

@[simp] theorem writeCfg_ask (p : HPort) (r : Ring) (v : Word) (s : State) : (writeCfg p r v s).hst.ask = s.hst.ask := by
  simp [writeCfg]

@[simp] theorem unmasked_ask (p : HPort) (old : DWord) (s : State) : (unmasked p old s).hst.ask = s.hst.ask := by simp [unmasked]
@[simp] theorem writeMask_ask (p : HPort) (high : Bool) (v : Word) (s : State) : (writeMask p high v s).hst.ask = s.hst.ask := by
  simp [writeMask]

@[simp] theorem writeMsix_ask (p : HPort) (off : Nat) (v : Word) (s : State) : (writeMsix p off v s).hst.ask = s.hst.ask := by
  simp [writeMsix]

theorem writeReg_ask (p : HPort) {off : Nat} (v : Word) (s : State) (other : off ≠ 0x0018) :
    (writeReg p off v s).hst.ask = s.hst.ask := by
  unfold writeReg
  split
  case h_3 => exact absurd rfl other
  case h_9 =>
    split
    · simp
    · split
      · dsimp only
        split <;> simp -implicitDefEqProofs
      · simp
  all_goals simp

@[simp] theorem portReset_ask (p : HPort) (s : State) : (portReset p s).hst.ask = s.hst.ask := by simp [portReset]
@[simp] theorem linkEvent_ask (p : HPort) (up : Bool) (s : State) : (linkEvent p up s).hst.ask = s.hst.ask := by simp [linkEvent]
@[simp] theorem returnStream_ask (r : Ring) (p : Reply) (s : State) : (returnStream r p s).hst.ask = s.hst.ask := by
  simp [returnStream]

/-! ### Taking, admitting and settling -/

theorem takeSlot_ask {r : Ring} {s t : State} {idx : Word} (h : takeSlot r s = some (idx, t)) : t.hst.ask = s.hst.ask := by
  unfold takeSlot at h
  dsimp only at h
  split at h
  · cases h
  · split at h
    · cases h
      simp
    · split at h
      · cases h
      · cases h
        simp

theorem flushTaken_ask (l kept : List Taken) (s : State) : (flushTaken l kept s).hst.ask = s.hst.ask := by
  induction l generalizing kept s with
  | nil => rfl
  | cons x xs ih =>
    unfold flushTaken
    split
    · split <;> simp [ih]
    · exact ih _ _

theorem flushReplies_ask (l : List HeldReply) (s : State) : (flushReplies l s).hst.ask = s.hst.ask := by
  induction l generalizing s with
  | nil => rfl
  | cons x xs ih =>
    unfold flushReplies
    split
    · simp [ih]
    · rfl

theorem flushHeld_ask (l : List Event) (s : State) : (flushHeld l s).hst.ask = s.hst.ask := by
  induction l generalizing s with
  | nil => rfl
  | cons e es ih =>
    unfold flushHeld
    split
    · simp [ih, postEvent]
    · rfl

theorem flushEvents_ask (s : State) : (flushEvents s).hst.ask = s.hst.ask := by
  have drops (n : Nat) (u : State) : (dropHeld n u).hst.ask = u.hst.ask := ask_of_keeps (dropHeld_keeps n u) (by decide)
  unfold flushEvents
  dsimp only
  split <;> simp [drops, flushHeld_ask]

@[simp] theorem settle_ask (s : State) : (settle s).hst.ask = s.hst.ask := by
  have pumps : (pumpStore s).hst.ask = s.hst.ask := ask_of_keeps (pumpStore_keeps s) (by decide)
  simp [settle, flushReplies_ask, flushTaken_ask, flushEvents_ask, pumps]

/-! ### Operations of Machine/SafetyRows.lean -/

@[simp] theorem modSi_ask (i : SafetyIn) (f : SiSt → SiSt) (s : State) : (modSi i f s).hst.ask = s.hst.ask := rfl
@[simp] theorem modPair_ask (k : SafetyPair) (f : PairSt → PairSt) (s : State) : (modPair k f s).hst.ask = s.hst.ask := rfl
@[simp] theorem modSo_ask (o : SafetyOut) (f : SoSt → SoSt) (s : State) : (modSo o f s).hst.ask = s.hst.ask := rfl
@[simp] theorem safeEvent_ask (code subject : Nat) (data : List Nat) (s : State) :
    (safeEvent code subject data s).hst.ask = s.hst.ask := by
  unfold safeEvent
  split <;> simp

@[simp] theorem handOver_ask (s : State) : (handOver s).hst.ask = s.hst.ask := forEach_ask _ _ _ fun _ _ => raise_ask _ _ _ _
@[simp] theorem demandEvent_ask (k : SafetyPair) (ended : Bool) (s : State) : (demandEvent k ended s).hst.ask = s.hst.ask :=
  safeEvent_ask _ _ _ _

@[simp] theorem discEvent_ask (k : SafetyPair) (ended : Bool) (s : State) : (discEvent k ended s).hst.ask = s.hst.ask :=
  safeEvent_ask _ _ _ _

@[simp] theorem soEvent_ask (o : SafetyOut) (kind : Nat) (ended : Bool) (s : State) :
    (soEvent o kind ended s).hst.ask = s.hst.ask :=
  safeEvent_ask _ _ _ _

@[simp] theorem degEvent_ask (d : DegSt) (ended expired : Bool) (s : State) : (degEvent d ended expired s).hst.ask = s.hst.ask :=
  safeEvent_ask _ _ _ _

@[simp] theorem hallEvent_ask (b : Fin 5) (restored : Bool) (s : State) : (hallEvent b restored s).hst.ask = s.hst.ask :=
  safeEvent_ask _ _ _ _

@[simp] theorem setFn_ask (k : SafetyPair) (new : FnState) (s : State) : (setFn k new s).hst.ask = s.hst.ask := by
  unfold setFn
  dsimp only
  (repeat' split) <;> simp

@[simp] theorem holdHands_ask (k : SafetyPair) (s : State) : (holdHands k s).hst.ask = s.hst.ask := by simp [holdHands]
@[simp] theorem evalHands_ask (k : SafetyPair) (s : State) : (evalHands k s).hst.ask = s.hst.ask := by
  unfold evalHands
  dsimp only
  (repeat' split) <;> simp

@[simp] theorem evalPair_ask (k : SafetyPair) (s : State) : (evalPair k s).hst.ask = s.hst.ask := by
  unfold evalPair
  dsimp only
  split <;> simp

@[simp] theorem evalFn_ask (k : SafetyPair) (s : State) : (evalFn k s).hst.ask = s.hst.ask := by
  unfold evalFn
  (repeat' split) <;> simp

@[simp] theorem safeSettle_ask (s : State) : (safeSettle s).hst.ask = s.hst.ask := by simp [safeSettle]
@[simp] theorem setInput_ask (i : SafetyIn) (permit : Bool) (s : State) : (setInput i permit s).hst.ask = s.hst.ask := by
  unfold setInput
  dsimp only
  split
  · rfl
  · rw [evalFn_ask, ask_ite]
    exact ite_self _

@[simp] theorem degrade_ask (switch : Bool) (index : Nat) (s : State) : (degrade switch index s).hst.ask = s.hst.ask := by
  unfold degrade
  (repeat' split) <;> simp

@[simp] theorem degradeSeen_ask (switch : Bool) (index : Nat) (present : Bool) (s : State) :
    (degradeSeen switch index present s).hst.ask = s.hst.ask := rfl

@[simp] theorem pulseFault_ask (k : SafetyPair) (s : State) : (pulseFault k s).hst.ask = s.hst.ask := by simp [pulseFault]
@[simp] theorem pulseInput_ask (i : SafetyIn) (high : Bool) (s : State) : (pulseInput i high s).hst.ask = s.hst.ask := by
  simp [pulseInput]

@[simp] theorem discTick_ask (k : SafetyPair) (s : State) : (discTick k s).hst.ask = s.hst.ask := by simp [discTick]
@[simp] theorem resetFn_ask (start : Nat) (k : SafetyPair) (s : State) : (resetFn start k s).hst.ask = s.hst.ask := by
  unfold resetFn
  (repeat' split) <;> simp

@[simp] theorem resetOut_ask (start : Nat) (o : SafetyOut) (s : State) : (resetOut start o s).hst.ask = s.hst.ask := by
  simp [resetOut]

@[simp] theorem resetDegraded_ask (start : Nat) (s : State) : (resetDegraded start s).hst.ask = s.hst.ask := by
  unfold resetDegraded
  dsimp only
  (repeat' split) <;> simp

/-! ### Starts and READY -/

@[simp] theorem bootIfUp_ask (s : State) : (bootIfUp s).hst.ask = s.hst.ask := by
  unfold bootIfUp
  split
  · exact boot_ask _
  · rfl

@[simp] theorem becomeReady_ask (s : State) : (becomeReady s).hst.ask = s.hst.ask := by simp [becomeReady]

/-! ## SUPPORT. What a command leaves of the active port -/

/-- The command completes, and its own effect leaves the active port and its waiting change as `Q` says. -/
def EndsIn (Q : HPort × Option PortChange → Prop) (o : Out) : Prop := ∃ u, o = .next (settle u) ∧ Q u.hst.ask

/-- Both are as before. -/
abbrev KeepsPort (s : State) (o : Out) : Prop := EndsIn (· = s.hst.ask) o

section
variable {s : State} {Q R : HPort × Option PortChange → Prop} {c : Prop} [Decidable c] {a b : Out}

theorem EndsIn.imp (h : EndsIn Q a) (i : ∀ x, Q x → R x) : EndsIn R a := by
  obtain ⟨u, e, q⟩ := h
  exact ⟨u, e, i _ q⟩

theorem endsIn_doneWin {win : List Host.Cell} {u : State} (h : Q u.hst.ask) : EndsIn Q (doneWin s win u) := ⟨_, rfl, h⟩

theorem endsIn_done {u : State} (h : Q u.hst.ask) : EndsIn Q (done s u) := endsIn_doneWin h

theorem endsIn_ite (ha : EndsIn Q a) (hb : EndsIn Q b) : EndsIn Q (if c then a else b) := by
  split
  · exact ha
  · exact hb

/-- A guard behind which the row has no effect. -/
theorem endsIn_unless (base : Q s.hst.ask) (h : EndsIn Q a) : EndsIn Q (if c then done s s else a) :=
  endsIn_ite (endsIn_done base) h

theorem keepsPort_unless (h : KeepsPort s a) : KeepsPort s (if c then done s s else a) := endsIn_unless rfl h

/-- A last guard. -/
theorem endsIn_guarded {u v : State} (hu : Q u.hst.ask) (hv : Q v.hst.ask) : EndsIn Q (if c then done s u else done s v) :=
  endsIn_ite (endsIn_done hu) (endsIn_done hv)

/-- A command run on a state with the active port and the change of `s`. -/
theorem keepsPort_congr {t : State} (e : t.hst.ask = s.hst.ask) (h : KeepsPort t a) : KeepsPort s a := h.imp fun _ k => k.trans e

end

/-- A host command ends as its own work does, or as it began when it is refused (03 R62 to R71). -/
theorem endsIn_hostCmd {Q : HPort × Option PortChange → Prop} {h : Hdr} {op least : Nat} {g : Target} {pends : Bool}
    {body : State → Res} {s : State} (base : Q s.hst.ask)
    (work : ∀ t, t.hst.ask = s.hst.ask → Q (resState (body t)).hst.ask) : EndsIn Q (hostCmd h op least g pends body s) := by
  unfold hostCmd
  split
  case h_1 => exact endsIn_done base
  case h_2 idx t taken =>
    have ht : t.hst.ask = s.hst.ask := takeSlot_ask taken
    have hb := work t ht
    have refused (r : Reply) : EndsIn Q (done s (putTaken h op idx (some r) t)) :=
      endsIn_done (((putTaken_ask _ _ _ _ _).trans ht).symm ▸ base)
    refine endsIn_ite (refused _) ?_
    split
    · exact refused _
    · refine endsIn_ite (refused _) (endsIn_ite (refused _) ?_)
      split
      next e => exact endsIn_doneWin (by simpa [e] using hb)
      next e => exact endsIn_done (by simpa [e] using hb)
      next e => exact endsIn_doneWin (by simpa [e] using hb)

theorem keepsPort_hostCmd {h : Hdr} {op least : Nat} {g : Target} {pends : Bool} {body : State → Res} {s : State}
    (work : ∀ t, (resState (body t)).hst.ask = t.hst.ask) : KeepsPort s (hostCmd h op least g pends body s) :=
  endsIn_hostCmd rfl fun t ht => (work t).trans ht

theorem keepsPort_safeRow {s : State} {f : State → State} (work : ∀ t, (f t).hst.ask = t.hst.ask) : KeepsPort s (safeRow s f) :=
  endsIn_guarded ((safeSettle_ask _).trans (work s)) rfl

theorem keepsPort_seamSeries {h : SeamHdr} {f : State → State} (work : ∀ t, (f t).hst.ask = t.hst.ask) (s : State) :
    KeepsPort s (seamSeries h f s) :=
  keepsPort_unless (endsIn_guarded ((work _).trans (seamHdr_ask h s)) (seamHdr_ask h s))

/-! ### Rows of the host commands -/

@[simp] theorem chRefuse_ask (n : Chan) (st : Status) (s : State) : (resState (chRefuse n st s)).hst.ask = s.hst.ask := rfl

theorem chAccept_ask (h : Hdr) (op : Nat) (n : Chan) {work : State → State} (hw : ∀ t, (work t).hst.ask = t.hst.ask)
    (s : State) :
    (resState (chAccept h op n work s)).hst.ask = s.hst.ask :=
  hw _

theorem chGate_ask {n : Chan} {s : State} {go : Res} (hg : (resState go).hst.ask = s.hst.ask) :
    (resState (chGate n s go)).hst.ask = s.hst.ask := by
  simp [chGate, hg]

theorem execChConnect_keepsPort (h : Hdr) (n : Chan) (active : Bool) (s : State) : KeepsPort s (execChConnect h n active s) := by
  refine keepsPort_hostCmd fun t => chGate_ask ?_
  dsimp only
  split
  · simp
  · split
    case h_2 =>
      split
      · simp
      · exact chAccept_ask _ _ _ (fun u => by simp) t
    case h_6 => simp
    all_goals exact chAccept_ask _ _ _ (fun u => by simp) t

theorem execChDisconnect_keepsPort (h : Hdr) (n : Chan) (s : State) : KeepsPort s (execChDisconnect h n s) := by
  refine keepsPort_hostCmd fun t => chGate_ask ?_
  dsimp only
  split
  · exact chAccept_ask _ _ _ (fun u => by simp) t
  · simp

theorem execChDormant_keepsPort (h : Hdr) (n : Chan) (s : State) : KeepsPort s (execChDormant h n s) := by
  refine keepsPort_hostCmd fun t => chGate_ask ?_
  split
  case h_3 =>
    split
    · exact chAccept_ask _ _ _ (fun u => by simp) t
    · simp
  case h_4 => simp
  all_goals exact chAccept_ask _ _ _ (fun u => by simp) t

theorem execChRetire_keepsPort (h : Hdr) (n : Chan) (w4 : Word) (s : State) : KeepsPort s (execChRetire h n w4 s) := by
  refine keepsPort_hostCmd fun t => ?_
  split
  · simp
  · split
    · simp
    · exact chAccept_ask _ _ _ (fun u => by simp) t

theorem execChRestore_keepsPort (h : Hdr) (n : Chan) (s : State) : KeepsPort s (execChRestore h n s) := by
  refine keepsPort_hostCmd fun t => ?_
  dsimp only
  split
  · simp
  · split
    case h_1 =>
      split
      · simp
      · exact chAccept_ask _ _ _ (fun u => by simp) t
    case h_2 =>
      split
      · exact chAccept_ask _ _ _ (fun u => by simp) t
      · simp
    case h_5 => simp
    all_goals exact chAccept_ask _ _ _ (fun u => by simp) t

/-- A standby keeps the reference before the command is refused (07 R214). -/
theorem execArmReference_keepsPort (h : Hdr) (ref : RefDesc) (s : State) : KeepsPort s (execArmReference h ref s) := by
  have work (t : State) : (resState (takeRef ref t)).hst.ask = t.hst.ask := by
    unfold takeRef
    split <;> simp
  unfold execArmReference
  exact keepsPort_congr (by simp) (keepsPort_hostCmd work)

theorem execLoadAll_keepsPort (h : Hdr) (s : State) : KeepsPort s (execLoadAll h s) := by
  refine keepsPort_hostCmd fun t => ?_
  split
  · simp
  · split <;> simp

theorem execLoRearm_keepsPort (h : Hdr) (mask : Word) (s : State) : KeepsPort s (execLoRearm h mask s) := by
  refine keepsPort_hostCmd fun t => ?_
  split
  · simp
  · exact foldl_ask Prod.snd _ _ _ fun _ _ => loRearmOne_ask _ _

theorem ackFault_ask {id : Word} {s t : State} {n : Nat} (h : ackFault id s = some (n, t)) : t.hst.ask = s.hst.ask := by
  unfold ackFault at h
  dsimp only at h
  split at h
  · cases h; simp
  · split at h
    · cases h
    · split at h <;> cases h <;> simp

theorem execFaultAck_keepsPort (h : Hdr) (id : Word) (s : State) : KeepsPort s (execFaultAck h id s) := by
  refine keepsPort_hostCmd fun t => ?_
  split
  · simp
  next e => exact ackFault_ask e

theorem execUnknownOpcode_keepsPort (h : Hdr) (op : Half) (s : State) : KeepsPort s (execUnknownOpcode h op s) := by
  unfold execUnknownOpcode
  split
  · exact endsIn_done rfl
  next taken => exact endsIn_done ((putTaken_ask _ _ _ _ _).trans (takeSlot_ask taken))

theorem execNodeUpdate_keepsPort (h : Hdr) (n : Chan) (bulk : Bulk) (s : State) : KeepsPort s (execNodeUpdate h n bulk s) := by
  refine keepsPort_hostCmd fun t => ?_
  split <;> simp

theorem execNodeCalibrate_keepsPort (h : Hdr) (n : Chan) (kind : Byte) (s : State) :
    KeepsPort s (execNodeCalibrate h n kind s) := by
  refine keepsPort_hostCmd fun t => ?_
  split <;> simp

theorem execImageUpdate_keepsPort (h : Hdr) (offset : Word) (bulk : Bulk) (last : Bool) (s : State) :
    KeepsPort s (execImageUpdate h offset bulk last s) := by
  refine keepsPort_hostCmd fun t => ?_
  dsimp only
  (repeat' split) <;> simp

theorem execGetParam_keepsPort (h : Hdr) (id : Half) (view : BitVec 2) (bulk : Bulk) (s : State) :
    KeepsPort s (execGetParam h id view bulk s) := by
  refine keepsPort_hostCmd fun t => ?_
  dsimp only
  (repeat' split) <;> simp

theorem execSetParam_keepsPort (h : Hdr) (id len : Half) (value : List Byte) (bulk : Bulk) (s : State) :
    KeepsPort s (execSetParam h id len value bulk s) := by
  refine keepsPort_hostCmd fun t => ?_
  dsimp only
  (repeat' split) <;> simp

theorem execCommitConfig_keepsPort (h : Hdr) (validateOnly : Bool) (s : State) :
    KeepsPort s (execCommitConfig h validateOnly s) := by
  refine keepsPort_hostCmd fun t => ?_
  dsimp only
  (repeat' split) <;> simp

theorem execBusRecover_keepsPort (h : Hdr) (mask : BitVec 2) (s : State) : KeepsPort s (execBusRecover h mask s) :=
  keepsPort_hostCmd fun t => by simp -implicitDefEqProofs

theorem execBusSend_keepsPort (h : Hdr) (mask : BitVec 2) (mtype : BitVec 13) (cls : BitVec 4) (len : BitVec 7) (data : List Byte)
    (bulk : Bulk) (s : State) : KeepsPort s (execBusSend h mask mtype cls len data bulk s) :=
  keepsPort_hostCmd fun t => by simp -implicitDefEqProofs

theorem execBusMode_keepsPort (h : Hdr) (mask mode : BitVec 2) (s : State) : KeepsPort s (execBusMode h mask mode s) :=
  keepsPort_hostCmd fun t => by simp -implicitDefEqProofs

/-! ### Rows that answer by a case of the state or of an operand -/

section
variable (s : State)

theorem execSyncInterval_keepsPort : KeepsPort s (execSyncInterval s) := by
  refine endsIn_done (forEach_ask _ _ _ fun p t => (sendSync_ask p false _).trans ?_)
  split <;> simp

theorem execEdgesReceived_keepsPort (p : Chan) (hdr : FrameHdr) (x : EdgesFrame) : KeepsPort s (execEdgesReceived p hdr x s) := by
  have head := acceptHdr_ask p hdr true s
  refine keepsPort_unless (endsIn_guarded head ?_)
  rw [servicePoll_ask, seqPoll_ask]
  exact (foldl_ask id _ _ _ fun _ _ => takeEdge_ask _ _ _ _).trans head

theorem execPpsLossTimeout_keepsPort : KeepsPort s (execPpsLossTimeout s) := by
  unfold execPpsLossTimeout
  (repeat' split) <;> exact endsIn_done (by simp)

theorem execReplyReceived_keepsPort (p : Chan) (hdr : FrameHdr) (x : NodeReply) : KeepsPort s (execReplyReceived p hdr x s) := by
  refine keepsPort_unless (endsIn_ite (endsIn_done (by simp)) ?_)
  split <;> exact endsIn_done (by simp)

theorem execCapsReceived_keepsPort (p : Chan) (hdr : FrameHdr) (x : Caps) : KeepsPort s (execCapsReceived p hdr x s) := by
  unfold execCapsReceived
  dsimp only
  (repeat' split) <;> exact endsIn_done (by simp)

theorem execReloadPoint_keepsPort (start : DWord) : KeepsPort s (execReloadPoint start s) := by
  refine keepsPort_unless ?_
  split
  · exact endsIn_ite (endsIn_done (by simp)) (endsIn_doneWin (by simp))
  all_goals exact endsIn_done (by simp)

theorem execTsConversion_keepsPort (i : TempIn) (res : TsResult) : KeepsPort s (execTsConversion i res s) := by
  refine keepsPort_unless ?_
  split
  case h_1 => exact endsIn_guarded (by simp) (by simp)
  case h_2 =>
    dsimp only
    split
    · exact endsIn_done (by simp)
    · exact endsIn_guarded (by simp) (by simp)

theorem execLoOpenLoad_keepsPort (o : LoadOut) (begins : Bool) (m : LoMeas) : KeepsPort s (execLoOpenLoad o begins m s) := by
  refine keepsPort_unless (endsIn_ite ?_ ?_)
  · exact endsIn_ite (endsIn_done (by simp)) (endsIn_ite (endsIn_done (by simp)) (endsIn_guarded (by simp) (by simp)))
  · split <;> exact endsIn_done (by simp)

theorem execBusTxComplete_keepsPort (b : BusId) (k : TxKind) : KeepsPort s (execBusTxComplete b k s) := by
  refine endsIn_guarded rfl ?_
  cases k <;> simp

theorem execBusTxError_keepsPort (b : BusId) (k : TxKind) (e : BusErr) (d : Bool) : KeepsPort s (execBusTxError b k e d s) := by
  refine keepsPort_unless ?_
  split
  · exact endsIn_done rfl
  · cases k <;> exact endsIn_done (by simp)

theorem execHeartbeatRx_keepsPort (lane : SeamLane) (hdr : SeamHdr) (x : Heartbeat) :
    KeepsPort s (execHeartbeatRx lane hdr x s) := by
  refine keepsPort_unless (endsIn_ite (endsIn_done (by simp)) ?_)
  split
  · exact endsIn_done (by simp)
  · exact endsIn_guarded (by simp) (by simp)

theorem execHandoverWithdraw_keepsPort : KeepsPort s (execHandoverWithdraw s) := by
  unfold execHandoverWithdraw
  split
  · exact endsIn_ite (endsIn_doneWin (by simp)) (endsIn_done (by simp))
  · exact endsIn_guarded (by simp) rfl

theorem execInternalFaultDetected_keepsPort (cause subject : Half) : KeepsPort s (execInternalFaultDetected cause subject s) := by
  refine keepsPort_unless ?_
  split
  case h_4 => exact endsIn_guarded (by simp) rfl
  case h_5 => exact endsIn_guarded (by simp) rfl
  all_goals exact endsIn_done (by simp)

theorem execStreamInterval_keepsPort (ring : Ring) : KeepsPort s (execStreamInterval ring s) := by
  refine keepsPort_unless (endsIn_ite (endsIn_done (by simp)) (endsIn_ite (endsIn_doneWin (by simp)) (endsIn_doneWin (by simp))))

end

/-! ### Every command -/

theorem supervisor_keepsPort (c : Instr) (s : State) (sup : supervisorRow c = true) : KeepsPort s (exec c s) := by
  cases c with
  | siDemand | siPermit | siChatter | pulseSample | discrepancyTick | twoHandSyncTimeout | resetStuck | offPulseTest
  | soReadbackFault | hallmarkScan | safetyInternalFault =>
    unfold exec; exact keepsPort_safeRow fun t => by simp
  | srstPressAccepted => unfold exec; exact keepsPort_unless (keepsPort_safeRow fun t => by simp)
  | degradedExpiry => unfold exec; exact keepsPort_safeRow fun t => by split <;> simp
  | vsafeLoss | vsafeStart => unfold exec; exact keepsPort_unless (endsIn_done (by simp))
  | _ => cases sup

/-- Every row that neither resets the main domain nor is for the active port leaves both. -/
theorem exec_keepsPort (c : Instr) (s : State) (noReset : resetRow c = false) (noSwitch : switchRow c = false)
    (noMove : c ≠ .activePortChange) : KeepsPort s (exec c s) := by
  cases c with
  | powerOn | mrst | watchdogReset | deferredRestart | clockLoss | railFault | reserveExhausted | thermalShutdown => cases noReset
  | hostSwitch | hstTakeoverWrite | registerWrite => cases noSwitch
  | activePortChange => exact absurd rfl noMove
  | siDemand | siPermit | siChatter | pulseSample | discrepancyTick | twoHandSyncTimeout | srstPressAccepted | resetStuck
  | offPulseTest | soReadbackFault | degradedExpiry | hallmarkScan | safetyInternalFault | vsafeLoss | vsafeStart =>
    exact supervisor_keepsPort _ s rfl
  | clockRestored | thermalRestart | moduleReady => exact endsIn_guarded (by simp) rfl
  | hstHeartbeatWrite | hstRingHpiWrite | hstRingCfgWrite | pulseSuppressedReport | restagedReport | tripPresenceEnd | debugHalt
  | tripreqHoldEnd | loShort | loThermalLatch | loClampTurnoff | busRecoveryDone | oneShotTimeout | debugResume | tapInstruction
  | causeCountExpiry => exact endsIn_done (by simp)
  | blankingEnd => exact endsIn_done (by simp -implicitDefEqProofs)
  | hostPortReset port kind => cases kind <;> exact endsIn_done (by simp)
  | loadAllGo | hstIrqPendClear | hstWriteDropsRead | hstTimeLoRead | portSettleTimeout | holdupTestDone
  | aloneWaitExpiry | powerFailWarning | powerFailHandover | powerFailWithdrawn | checkpointPeriodic | holdoverExpiry
  | oscCompensation | hostSilenceTimeout | portLightDetect | lightOnUnpopulated | toneQualified | rangingVerified
  | bringupStageOverrun | bringupRetry | exchangeTimeout | faultToneArrival | toneLost | downstreamDetect | toneHealthyReturn
  | statReceived | timingReplyAbsent | frameInvalid | frameErrorCheck | saturationReport | referenceLateReport | tripWiringFault
  | tripChatterEnd | hwFaultRequest | annealDelayExpiry | plausHoldExpiry | contactRecheck | openWireScan | restRequestRepeat
  | restWaitExpiry | restEnd | assayTimeout | impedanceSave | tsFaultTrip | dieWarnRecheck | loOverload | loThermalRelease
  | loUvRestart | loInrushEnd | loAnnealed | loAttemptReset | loStuckOn | loOnMax | tripBroadcastRx | twinStatusRx
  | busSupplyAbsent | busSupplyRestored | fwCountTick | seamLaneDown | fwSilence | nodeWitness | seamRetxTimeout
  | ringIrqHoldExpiry | bringupWaitExpiry | seamLaneLock | busRxError | serviceHoldWaitTimeout =>
    exact endsIn_guarded (by simp) (by simp)
  | twinStatusTimer | segmentStatusTimer => exact endsIn_guarded rfl (by simp -implicitDefEqProofs)
  | roleResolution | compensationLearn | hostLinkChange | characterLock | cellsBurstReceived | cellsTriggerReceived | touchReceived
  | tripInputDemand | laneSelftest | contactorOpenRetry | cellLimitTimer | estimatorUpdate | restStart | loAttemptDue | busFrameRx
  | heartbeatTx | setMirrorRx | mirrorMiss | portLightLoss =>
    exact endsIn_ite (endsIn_done (by simp)) (endsIn_guarded (by simp) (by simp))
  | ppsEdge | cellsReportReceived | contactorTestTimeout | loUndervoltage | dieWarning =>
    exact endsIn_ite (endsIn_done (by simp)) (endsIn_ite (endsIn_done (by simp)) (endsIn_guarded (by simp) (by simp)))
  | seamFrameInvalid =>
    exact keepsPort_unless (endsIn_ite (endsIn_done rfl) (endsIn_guarded (by simp) (by simp)))
  | rangingComplete =>
    exact keepsPort_unless (endsIn_ite (endsIn_done (by simp)) (endsIn_ite (endsIn_done (by simp))
      (endsIn_guarded (by simp) (by simp))))
  | readIdentity | setTime | streamSetup | resetModule | quenchRelease | restage | setMode | assayCycleStart
  | assayCycleAbort | restGrant | touchmarkProvision | readLimits | linkRetest | thermalMode | loSet | safetyStatus | twinHandover
  | imageActivate | logRead => unfold exec; exact keepsPort_hostCmd fun t => by simp
  | stateMirrorRx => exact keepsPort_seamSeries (fun t => foldl_ask id _ _ _ takeBook_ask) s
  | reconcileRx => exact keepsPort_seamSeries (takeReconcile_ask _) s
  | configRx | imageRx => unfold exec; exact keepsPort_seamSeries (fun t => by simp) s
  | setTimeTimeout | busModeApply | cmdReplyTimeout | rangingSync | imageChunkWritten =>
    dsimp only [exec, execSetTimeTimeout, execBusModeApply, execCmdReplyTimeout, execRangingSync, execImageChunkWritten]
    split <;> exact endsIn_done (by simp)
  | recordWriteDone | prechargeTimeout | disconnectBypassTimeout | retransmitTimeout | faultActionStep
  | l2BlockRestart =>
    dsimp only [exec, execRecordWriteDone, execPrechargeTimeout, execDisconnectBypassTimeout,
      execRetransmitTimeout, execFaultActionStep, execL2BlockRestart]
    (repeat' split) <;> exact endsIn_done (by simp)
  | getParam => exact execGetParam_keepsPort _ _ _ _ s
  | setParam => exact execSetParam_keepsPort _ _ _ _ _ s
  | commitConfig => unfold exec; exact execCommitConfig_keepsPort _ _ s
  | chConnect => exact execChConnect_keepsPort _ _ _ s
  | chDisconnect => exact execChDisconnect_keepsPort _ _ s
  | chDormant => exact execChDormant_keepsPort _ _ s
  | chRetire => exact execChRetire_keepsPort _ _ _ s
  | chRestore => exact execChRestore_keepsPort _ _ s
  | armReference => exact execArmReference_keepsPort _ _ s
  | loadAll => exact execLoadAll_keepsPort _ s
  | nodeUpdate => exact execNodeUpdate_keepsPort _ _ _ s
  | nodeCalibrate => exact execNodeCalibrate_keepsPort _ _ _ s
  | loRearm => exact execLoRearm_keepsPort _ _ s
  | busRecover => exact execBusRecover_keepsPort _ _ s
  | busSend => exact execBusSend_keepsPort _ _ _ _ _ _ _ s
  | busMode => exact execBusMode_keepsPort _ _ _ s
  | imageUpdate => exact execImageUpdate_keepsPort _ _ _ _ s
  | faultAck => exact execFaultAck_keepsPort _ _ s
  | unknownOpcode => exact execUnknownOpcode_keepsPort _ _ s
  | streamInterval => exact execStreamInterval_keepsPort s _
  | ppsLossTimeout => exact execPpsLossTimeout_keepsPort s
  | syncInterval => exact execSyncInterval_keepsPort s
  | capsReceived => exact execCapsReceived_keepsPort s _ _ _
  | edgesReceived => exact execEdgesReceived_keepsPort s _ _ _
  | replyReceived => exact execReplyReceived_keepsPort s _ _ _
  | reloadPoint => unfold exec; exact execReloadPoint_keepsPort s _
  | tsConversion => exact execTsConversion_keepsPort s _ _
  | loOpenLoad => exact execLoOpenLoad_keepsPort s _ _ _
  | busTxComplete => exact execBusTxComplete_keepsPort s _ _
  | busTxError => exact execBusTxError_keepsPort s _ _ _ _
  | heartbeatRx => exact execHeartbeatRx_keepsPort s _ _ _
  | handoverWithdraw => exact execHandoverWithdraw_keepsPort s
  | internalFaultDetected => exact execInternalFaultDetected_keepsPort s _ _
end Sys2Proof.Safety

/-! ## SUPPORT. Who moves the active port, and who asks for it (03 R53, R55, R56) -/

namespace Sys2Proof.Safety

open Sys2Proof.Machine

/-- As before a reset, or HOST-A active with no change asked for. -/
def StartsAtA (s : State) (x : HPort × Option PortChange) : Prop := x = s.hst.ask ∨ x = (.a, none)

/-- The change that waited is made, if there was one. -/
def Moves (s : State) (x : HPort × Option PortChange) : Prop :=
  x = s.hst.ask ∨ ∃ k, s.hst.change = some k ∧ x = (k.port, none)

/-- Nothing new is asked, or a change to the port that is not active and that meets `P`. -/
def Asks (s : State) (P : PortChange → Prop) (x : HPort × Option PortChange) : Prop :=
  x = s.hst.ask ∨ ∃ k, x = (s.hst.active, some k) ∧ k.port ≠ s.hst.active ∧ P k

/-- A register write on port `p`. -/
def WrittenAt (c : Instr) (p : HPort) : Prop :=
  (∃ v, c = .hstTakeoverWrite p v) ∨ ∃ bar off n v, c = .registerWrite p bar off n v

variable (s : State)

/-! ### Resets (02 R39) -/

theorem resetNow_startsAtA (c : StartCause) : EndsIn (StartsAtA s) (resetNow c s) :=
  endsIn_doneWin (.inr ((bootIfUp_ask _).trans (mainReset_ask c s)))

theorem exec_startsAtA (c : Instr) (reset : resetRow c = true) : EndsIn (StartsAtA s) (exec c s) := by
  have stays : StartsAtA s s.hst.ask := .inl rfl
  have resets (k : StartCause) (u : State) : StartsAtA s (mainReset k u).hst.ask := .inr (mainReset_ask k u)
  cases c with
  | powerOn =>
    have read (a b : Byte) (u : State) : (readHallmark a b u).hst.ask = u.hst.ask := rfl
    refine endsIn_doneWin (.inr ?_)
    dsimp only
    split
    · rw [boot_ask, read, mainReset_ask]
    · rw [read, mainReset_ask]
  | mrst => exact resetNow_startsAtA s _
  | watchdogReset | deferredRestart => unfold exec; exact endsIn_ite (resetNow_startsAtA s _) (endsIn_done stays)
  | clockLoss | railFault => unfold exec; exact endsIn_doneWin (resets _ _)
  | reserveExhausted => unfold exec; exact endsIn_unless stays (endsIn_doneWin (resets _ _))
  | thermalShutdown =>
    unfold exec
    exact endsIn_ite (endsIn_done stays) (endsIn_ite (endsIn_done stays) (endsIn_doneWin (resets _ _)))
  | _ => cases reset

/-! ### The change and the requests -/

theorem execActivePortChange_moves : EndsIn (Moves s) (execActivePortChange s) := by
  unfold execActivePortChange
  split
  · exact endsIn_done (.inl rfl)
  next k waits => exact endsIn_ite (endsIn_done (.inr ⟨k, waits, rfl⟩)) (endsIn_done (.inr ⟨k, waits, by simp⟩))

theorem otherPort_ne (p : HPort) : otherPort p ≠ p := by cases p <;> decide

/-- The port that is active once the descriptor is taken is the one of `s`. -/
theorem execHostSwitch_asks (h : Hdr) : EndsIn (Asks s fun _ => True) (execHostSwitch h s) := by
  refine endsIn_hostCmd (.inl rfl) fun t ht => ?_
  have active : t.hst.active = s.hst.active := congrArg Prod.fst ht
  dsimp only
  split
  · exact .inr ⟨_, congrArg (·, _) active, active ▸ otherPort_ne _, trivial⟩
  · exact .inl ht

theorem writeTakeover_asks (p : HPort) (v : Word) : Asks s (p = ·.port) (writeTakeover p v s).hst.ask := by
  unfold writeTakeover
  split
  · exact .inl rfl
  next other =>
    dsimp only
    have ne : p ≠ s.hst.active := fun e => other (by simp [e])
    have asks (cause : Nat) : Asks s (p = ·.port) (s.hst.active, some { port := p, cause := cause }) := .inr ⟨_, rfl, ne, rfl⟩
    split
    · exact asks 1
    · split
      · exact asks 2
      · split
        · exact asks 3
        · exact .inl rfl

/-- Of the registers only HST_TAKEOVER asks. -/
theorem execRegisterWrite_asks (p : HPort) (bar : Bar) (off size : Nat) (v : DWord) :
    EndsIn (Asks s (p = ·.port)) (execRegisterWrite p bar off size v s) := by
  have stays : Asks s (p = ·.port) s.hst.ask := .inl rfl
  have drops : EndsIn (Asks s (p = ·.port)) (done s (dropWrite p s)) := endsIn_done (.inl (dropWrite_ask p s))
  refine endsIn_unless stays ?_
  cases bar
  · refine endsIn_ite drops (endsIn_done ?_)
    by_cases takeover : off = 0x0018
    · subst takeover
      exact writeTakeover_asks s p _
    · exact .inl (writeReg_ask p _ s takeover)
  · exact endsIn_ite drops (endsIn_doneWin stays)

theorem exec_asks (c : Instr) (switch : switchRow c = true) :
    EndsIn (Asks s fun k => ∀ p, WrittenAt c p → p = k.port) (exec c s) := by
  have written {q : HPort} (h : ∀ p, WrittenAt c p → p = q) (x : HPort × Option PortChange) (a : Asks s (q = ·.port) x) :
      Asks s (fun k => ∀ p, WrittenAt c p → p = k.port) x :=
    a.imp_right fun ⟨k, e, ne, q⟩ => ⟨k, e, ne, fun p w => (h p w).trans q⟩
  cases c with
  | hostSwitch h =>
    refine (execHostSwitch_asks s h).imp fun x a => a.imp_right fun ⟨k, e, ne, _⟩ => ⟨k, e, ne, fun p w => ?_⟩
    rcases w with ⟨_, w⟩ | ⟨_, _, _, _, w⟩ <;> cases w
  | hstTakeoverWrite q v =>
    refine EndsIn.imp (endsIn_unless (.inl rfl) (endsIn_done (writeTakeover_asks s q v))) (written fun p w => ?_)
    rcases w with ⟨_, w⟩ | ⟨_, _, _, _, w⟩ <;> cases w
    rfl
  | registerWrite q bar off n v =>
    refine (execRegisterWrite_asks s q bar off n v).imp (written fun p w => ?_)
    rcases w with ⟨_, w⟩ | ⟨_, _, _, _, w⟩ <;> cases w
    rfl
  | _ => cases switch

theorem active_of_ask {t : State} {p : HPort} {k : Option PortChange} (h : t.hst.ask = (p, k)) : t.hst.active = p :=
  congrArg Prod.fst h

theorem change_of_ask {t : State} {p : HPort} {k : Option PortChange} (h : t.hst.ask = (p, k)) : t.hst.change = k :=
  congrArg Prod.snd h

/-- What the four kinds of row leave, read in the next state. -/
theorem ask_of_exec {Q : HPort × Option PortChange → Prop} {c : Instr} {s t : State} (e : exec c s = .next t)
    (h : EndsIn Q (exec c s)) : Q t.hst.ask := by
  obtain ⟨u, e', q⟩ := h
  cases e.symm.trans e'
  exact (settle_ask u).symm ▸ q

/-- Settles O53: a row resets, makes the change that waits, may ask for one, or leaves the active port and its change alone. -/
theorem activePortChangesOnlyWhenAsked : Obligations.ActivePortChangesOnlyWhenAsked := by
  intro c s t e
  have same (h : t.hst.ask = s.hst.ask) : t.hst.active = s.hst.active ∧ t.hst.change = s.hst.change :=
    ⟨active_of_ask h, change_of_ask h⟩
  have notNew {k : PortChange} (h : t.hst.ask = s.hst.ask) (new : t.hst.change = some k) : s.hst.change = some k :=
    (same h).2.symm.trans new
  by_cases reset : resetRow c = true
  · have h := ask_of_exec e (exec_startsAtA s c reset)
    refine ⟨fun _ => h.imp same fun a => ⟨active_of_ask a, change_of_ask a⟩, fun no => absurd reset (by simp [no]), ?_,
      fun k new old => ?_⟩
    · rintro rfl
      cases reset
    · obtain h | h := h
      · exact absurd (notNew h new) old
      · cases (change_of_ask h).symm.trans new
  refine ⟨fun yes => absurd yes reset, ?_⟩
  by_cases move : c = .activePortChange
  · subst move
    have h := ask_of_exec e (execActivePortChange_moves s)
    refine ⟨fun _ other => absurd rfl other, fun _ moved => ?_, fun k new old => ?_⟩
    · obtain h | ⟨k, waits, h⟩ := h
      · exact absurd (same h).1 moved
      · exact ⟨k, waits, active_of_ask h⟩
    · obtain h | ⟨_, _, h⟩ := h
      · exact absurd (notNew h new) old
      · cases (change_of_ask h).symm.trans new
  by_cases switch : switchRow c = true
  · have h := ask_of_exec e (exec_asks s c switch)
    refine ⟨fun _ _ => ?_, fun is => absurd is move, fun k new old => ?_⟩
    · obtain h | ⟨_, h, _⟩ := h <;> exact active_of_ask h
    · obtain h | ⟨_, h, other, written⟩ := h
      · exact absurd (notNew h new) old
      · cases (change_of_ask h).symm.trans new
        exact ⟨switch, other, written⟩
  · have h : t.hst.ask = s.hst.ask := ask_of_exec (Q := (· = s.hst.ask)) e
      (exec_keepsPort c s (Bool.eq_false_of_not_eq_true reset) (Bool.eq_false_of_not_eq_true switch) move)
    exact ⟨fun _ _ => (same h).1, fun is => absurd is move, fun k new old => absurd (notNew h new) old⟩

end Sys2Proof.Safety

/-! ## SUPPORT. Timers of the frame layer, SYNC and LINK_RETEST (04 R113 to R121; 05 R128 to R157) -/

namespace Sys2Proof.Safety
open Sys2Proof.Machine

section
variable (p : Chan) (s : State)

theorem nodeService_tells (cause value : Nat) :
    Tells s (nodeService p cause value s) 0x8508 p.val [ef 28 0 cause, ef 32 0 (value % 2 ^ 32)] := raise_tells _ _ _ _

theorem nodeService_keeps (cause value : Nat) : KeepsBut [.ev] s (nodeService p cause value s) := raise_keeps _ _ _ _

/-! ### SYNC and ranging (04 R116, R118, R121) -/

/-- A port that has not measured its delay keeps none of an asymmetry that changed: it only sends its SYNC (R118, R124). -/
theorem syncInterval_unmeasured (one : runningPorts s = [p]) (new : s.ports[p].delay = none ∨ s.ports[p].round = none) :
    exec .syncInterval s = done s (sendSync p false s) := by
  simp only [exec, execSyncInterval, one, forEach, List.foldl_cons, List.foldl_nil]
  obtain none_ | none_ := new <;> simp only [none_]
  cases s.ports[p].round <;> rfl

theorem syncInterval_sends (one : runningPorts s = [p]) (new : s.ports[p].delay = none ∨ s.ports[p].round = none) :
    Runs .syncInterval s [.ports, .txns, .free] (fun u =>
      u.ports[p].syncs = s.ports[p].syncs + 1 ∧ u.txns[p].seqTx = s.txns[p].seqTx + 1 ∧
      ∀ q : Chan, q ≠ p → u.ports[q] = s.ports[q] ∧ u.txns[q] = s.txns[q]) := by
  obtain ⟨l, sent⟩ := sendSync_ports p s false
  refine runs_of_done (syncInterval_unmeasured p s one new) (sendSync_keeps _ _ _) (by decide) ?_
  simp only [sent, sendSync_txns, vmod_get, true_and]
  exact fun q h => ⟨vmod_get_ne _ _ _ _ h, vmod_get_ne _ _ _ _ h⟩

theorem syncInterval_idles (none_ : runningPorts s = []) : Idles .syncInterval s :=
  idles_of_done (by simp only [exec, execSyncInterval, none_, forEach_nil])

theorem running_iff : running s p = true ↔ s.ports[p].state = .running := beq_iff_eq

theorem timingReplyAbsent_tells (run : s.ports[p].state = .running) :
    Runs (.timingReplyAbsent p) s [.ev] (fun u => Tells s u 0x8508 p.val [ef 28 0 3, ef 32 0 0]) :=
  runs_of_done (if_pos ((running_iff p s).mpr run)) (nodeService_keeps p s 3 0) (by decide) (nodeService_tells p s 3 0)

theorem timingReplyAbsent_idles (stopped : s.ports[p].state ≠ .running) : Idles (.timingReplyAbsent p) s :=
  idles_of_done (if_neg (mt (running_iff p s).mp stopped))

/-! ### Frames that are invalid, or not acknowledged (05 R128, R133) -/

theorem frameInvalid_counts (receives : receiving s p = true) : Runs (.frameInvalid p) s [.txns] (fun u =>
    u.txns = vmod s.txns p (fun x => { x with framesBad := x.framesBad + 1 })) :=
  runs_of_done (if_pos receives) (modTxn_keeps _ _ _) (by decide) rfl

theorem frameInvalid_idles (deaf : receiving s p = false) : Idles (.frameInvalid p) s :=
  idles_of_done (if_neg (Bool.eq_false_iff.mp deaf))

theorem retransmitTimeout_idles (no : s.txns[p].unacked = [] ∨ s.txns[p].sreset = true) : Idles (.retransmitTimeout p) s := by
  refine idles_of_done ?_
  simp only [exec, execRetransmitTimeout]
  split
  · rfl
  next some_ => exact if_pos (no.resolve_left fun e => List.cons_ne_nil _ _ (some_.symm.trans e))

section
variable {f : DownFrame} {l : List DownFrame} (waits : s.txns[p].unacked = f :: l) (old : s.txns[p].sreset = false)
include waits old

/-- What a time-out does to frames that wait for their acknowledgement: again, or a new stream behind the eighth time (R133). -/
theorem execRetransmitTimeout_waiting : exec (.retransmitTimeout p) s =
    if s.txns[p].tries + 1 > 8 then done s (streamReset p false s)
    else done s (modTxn p (fun x => { retransmit (f.rcnt - 1) x with tries := x.tries + 1, oldestAt := s.tim.tb }) s) := by
  simp only [exec, execRetransmitTimeout, waits, old, Bool.false_eq_true, if_false]

theorem retransmitTimeout_again (few : s.txns[p].tries < 8) : Runs (.retransmitTimeout p) s [.txns] (fun u =>
    u.txns[p].tries = s.txns[p].tries + 1 ∧ u.txns[p].oldestAt = s.tim.tb ∧ u.txns[p].unacked = f :: l ∧
    u.txns[p].retxSent = s.txns[p].retxSent + BitVec.ofNat 32 ((f :: l).filter (fun x => newer8 x.rcnt (f.rcnt - 1))).length ∧
    ∀ q : Chan, q ≠ p → u.txns[q] = s.txns[q]) := by
  refine runs_of_done ((execRetransmitTimeout_waiting p s waits old).trans (if_neg (by omega))) (modTxn_keeps _ _ _) (by decide) ?_
  simp only [modTxn_txns, vmod_get, retransmit, waits, true_and]
  exact fun q h => vmod_get_ne _ _ _ _ h

theorem retransmitTimeout_resets (many : 8 ≤ s.txns[p].tries) : Runs (.retransmitTimeout p) s [.txns, .ev] (fun u =>
    u.txns[p].sreset = true ∧ u.txns[p].unacked = [] ∧ u.txns[p].rcntTx = 0 ∧
    u.txns[p].streamResets = s.txns[p].streamResets + 1 ∧ Tells s u 0x8508 p.val [ef 28 0 4, ef 32 0 0]) := by
  refine runs_of_done ((execRetransmitTimeout_waiting p s waits old).trans (if_pos (by omega))) (streamReset_keeps _ _ _)
    (by decide) ?_
  have txns (t : State) : (nodeService p 4 0 t).txns = t.txns := nodeService_keeps p t 4 0 .txns (by decide)
  simp only [streamReset, Bool.false_eq_true, if_false, txns, modTxn_txns, vmod_get, true_and]
  exact tells_of_ev rfl (nodeService_tells p _ 4 0)

end

/-! ### CMDs without a REPLY (05 R149) -/

theorem cmdReplyTimeout_idles (id : Half) (none_ : ∀ c ∈ s.txns[p].cmds, c.id ≠ id) : Idles (.cmdReplyTimeout p id) s := by
  have absent : s.txns[p].cmds.find? (fun c => c.id == id) = none := by simpa [List.find?_eq_none] using none_
  exact idles_of_done (by simp only [exec, execCmdReplyTimeout, absent])

section
variable {id : Half} {c : NodeCmd} (open_ : s.txns[p].cmds.find? (fun x => x.id == id) = some c)
include open_

theorem execCmdReplyTimeout_open : exec (.cmdReplyTimeout p id) s =
    done s (cmdDone p c none [] (modTxn p (fun x => { x with cmds := x.cmds.filter (fun y => y.id ≠ id) }) s)) := by
  simp only [exec, execCmdReplyTimeout, open_]

theorem cmdReplyTimeout_protect (protects : c.purpose = .protect) : Runs (.cmdReplyTimeout p id) s [.txns] (fun u =>
    u.txns = vmod s.txns p (fun x => { x with cmds := x.cmds.filter (fun y => y.id ≠ id) })) := by
  have e := execCmdReplyTimeout_open p s open_
  simp only [cmdDone, protects] at e
  exact runs_of_done e (modTxn_keeps _ _ _) (by decide) rfl

end

/-! ### The frame error check (05 R157) -/

/-- Frames that were invalid since the last check. -/
def newBadFrames (s : State) (p : Chan) : Nat := (s.txns[p].framesBad - s.txns[p].badAtCheck).toNat

/-- NODE_SERVICE 5 of the port was said within the last 60 s. -/
def errorsSaid (s : State) (p : Chan) : Bool :=
  match s.txns[p].badSaidAt with
  | some a => decide (s.tim.tb - a < 60 * tSec)
  | none => false

/-- A minute's count begins anew. -/
def minuteChecked (p : Chan) (s : State) : State := modTxn p (fun x => { x with badAtCheck := x.framesBad }) s

theorem execFrameErrorCheck_eq : exec (.frameErrorCheck p) s =
    if running s p && newBadFrames s p > 100 && !errorsSaid s p then
      done s (nodeService p 5 (newBadFrames s p) (modTxn p (fun x => { x with badSaidAt := some s.tim.tb }) (minuteChecked p s)))
    else done s (minuteChecked p s) := rfl

theorem frameErrorCheck_silent (quiet : s.ports[p].state ≠ .running ∨ newBadFrames s p ≤ 100 ∨ errorsSaid s p = true) :
    Runs (.frameErrorCheck p) s [.txns] (fun u => u.txns = vmod s.txns p (fun x => { x with badAtCheck := x.framesBad })) := by
  refine runs_of_done ((execFrameErrorCheck_eq p s).trans (if_neg ?_)) (modTxn_keeps _ _ _) (by decide) rfl
  simp only [Bool.and_eq_true, decide_eq_true_eq, Bool.not_eq_true', running_iff]
  rintro ⟨⟨run, many⟩, unsaid⟩
  obtain h | h | h := quiet
  · exact h run
  · omega
  · simp [h] at unsaid

theorem frameErrorCheck_tells (run : s.ports[p].state = .running) (many : 100 < newBadFrames s p)
    (never : s.txns[p].badSaidAt = none) : Runs (.frameErrorCheck p) s [.txns, .ev] (fun u =>
      u.txns = vmod s.txns p (fun x => { x with badAtCheck := x.framesBad, badSaidAt := some s.tim.tb }) ∧
      Tells s u 0x8508 p.val [ef 28 0 5, ef 32 0 (newBadFrames s p % 2 ^ 32)]) := by
  refine runs_of_done ((execFrameErrorCheck_eq p s).trans (if_pos ?_)) ?_ (by decide) ⟨?_, tells_of_ev rfl (nodeService_tells p _ 5 _)⟩
  · simpa only [Bool.and_eq_true, decide_eq_true_eq, Bool.not_eq_true', running_iff, errorsSaid, never, and_true] using ⟨run, many⟩
  · refine keepsBut_trans ?_ (keepsBut_sub _ (nodeService_keeps _ _ _ _) rfl)
    exact keepsBut_sub _ (keepsBut_trans (modTxn_keeps _ _ _) (modTxn_keeps _ _ _)) rfl
  · rw [nodeService_keeps p _ 5 _ .txns (by decide)]
    simp only [minuteChecked, modTxn_txns, vmod_vmod]

end

/-! ### LINK_RETEST (04 R116) -/

section
variable {h : Hdr} {p : Chan} {s t : State} {idx : Word} (a : Admits h 0x0503 4 (.port p) true s idx t)
include a

theorem linkRetest_pends (run : t.ports[p].state = .running) :
    Pends (.linkRetest h p) h 0x0503 idx s t (pendOf h 0x0503 (.port p) t.tim.tb 0) [.ports]
      (fun u => u.ports = vmod t.ports p (fun x => { x with retest := some [] })) :=
  pends_of a rfl (if_pos ((running_iff p t).mpr run)) rfl rfl rfl rfl (keepsBut_sub _ (modPort_keeps _ _ _) rfl) rfl

/-- A port that is not RUNNING answers with the delay it has in word 3. -/
theorem linkRetest_refused {w : Nat} (stopped : t.ports[p].state ≠ .running)
    (delay : (t.ports[p].delay.map (units 4)).getD 0xFFFFFFFF = w) :
    Replies (.linkRetest h p) h 0x0503 idx s t (replyWords .wrongState [(3, w)]) [] (fun _ => True) := by
  refine replies_unchanged a rfl ((if_neg (mt (running_iff p t).mp stopped)).trans ?_)
  subst delay
  cases t.ports[p].delay <;> rfl

end

/-- Settles O32: each timer by the state of its port, its unacknowledged frames or its CMDs. -/
theorem frameTimersAndSync : Obligations.FrameTimersAndSync := by
  intro p s
  refine ⟨syncInterval_idles s, syncInterval_sends p s, timingReplyAbsent_tells p s, timingReplyAbsent_idles p s,
    fun h t idx a => ⟨linkRetest_pends a, fun off none_ => linkRetest_refused a off ?_, fun off d some_ => linkRetest_refused a off ?_⟩,
    frameInvalid_counts p s, frameInvalid_idles p s, retransmitTimeout_idles p s,
    fun f l waits old => ⟨retransmitTimeout_again p s waits old, retransmitTimeout_resets p s waits old⟩,
    cmdReplyTimeout_idles p s,
    fun id c open_ => ⟨becomes_of_done (execCmdReplyTimeout_open p s open_), cmdReplyTimeout_protect p s open_⟩,
    fun quiet => frameErrorCheck_silent p s (quiet.imp_right .inl), frameErrorCheck_tells p s,
    fun at_ said recent => frameErrorCheck_silent p s (.inr (.inr ?_))⟩
  · rw [none_, Option.map_none, Option.getD_none]
  · rw [some_, Option.map_some, Option.getD_some]
  · simpa only [errorsSaid, said, decide_eq_true_eq] using recent

end Sys2Proof.Safety

/-! ## SUPPORT. Operations that touch neither ports nor the matrix and only add events -/

namespace Sys2Proof.Safety
open Sys2Proof.Machine

/-- The ports and the quench matrix are as before, and the events that waited still wait. -/
structure Reports (s t : State) : Prop where
  ports : t.ports = s.ports
  qm : t.qm = s.qm
  held : s.ev.held <+: t.ev.held

theorem reports_refl (s : State) : Reports s s := ⟨rfl, rfl, List.prefix_rfl⟩

theorem reports_trans {s t u : State} (h : Reports s t) (k : Reports t u) : Reports s u :=
  ⟨k.ports.trans h.ports, k.qm.trans h.qm, h.held.trans k.held⟩

/-- An operation whose frame leaves ports, matrix and events alone. -/
theorem reports_of_keeps {l : List Part} {s t : State} (k : KeepsBut l s t)
    (apart : [Part.ports, .qm, .ev].all (fun p => decide (p ∉ l)) = true) : Reports s t := by
  simp only [List.all_cons, List.all_nil, Bool.and_true, Bool.and_eq_true, decide_eq_true_eq] at apart
  obtain ⟨hports, hqm, hev⟩ := apart
  have ev : t.ev = s.ev := k .ev hev
  exact ⟨k .ports hports, k .qm hqm, by rw [ev]⟩

/-- An operation whose frame leaves ports and matrix alone and that only adds events. -/
theorem reports_of_held {l : List Part} {s t : State} (k : KeepsBut l s t)
    (apart : [Part.ports, .qm].all (fun p => decide (p ∉ l)) = true) (held : s.ev.held <+: t.ev.held) : Reports s t := by
  simp only [List.all_cons, List.all_nil, Bool.and_true, Bool.and_eq_true, decide_eq_true_eq] at apart
  exact ⟨k .ports apart.1, k .qm apart.2, held⟩

theorem reports_ite {s t u : State} {c : Prop} [Decidable c] (h : Reports s t) (k : Reports s u) : Reports s (if c then t else u) := by
  split <;> assumption

theorem reports_cond {s t u : State} {c : Prop} [Decidable c] (h : Reports s t) (k : Reports t u) :
    Reports s (if c then u else t) :=
  reports_ite (reports_trans h k) h

/-- Where the rest of an operation is not done. -/
theorem reports_unless {s t u : State} {c : Prop} [Decidable c] (h : Reports s t) (k : Reports t u) :
    Reports s (if c then t else u) :=
  reports_ite h (reports_trans h k)

theorem reports_forEach {α : Type} (xs : List α) (f : α → State → State) (s : State) (h : ∀ a t, Reports t (f a t)) :
    Reports s (forEach xs f s) := by
  unfold forEach
  induction xs generalizing s with
  | nil => exact reports_refl s
  | cons x xs ih => exact reports_trans (h x s) (ih _)

section
variable (n : Chan) (s : State)

/-! ### Events and faults (03 R82; 17 R484 to R491) -/

theorem raiseAt_reports (code level : Nat) (pin : Bool) (time : DWord) (subject : Nat) (data : List Nat) :
    Reports s (raiseAt code level pin time subject data s) :=
  reports_of_held (raiseAt_keeps _ _ _ _ _ _ _) (by decide) (raiseAt_quenches ..).held

theorem raise_reports (code subject : Nat) (data : List Nat) : Reports s (raise code subject data s) := raiseAt_reports ..

theorem withFlt_reports (x : FltSt) : Reports s { s with flt := x } := ⟨rfl, rfl, List.prefix_rfl⟩

theorem modFault_reports (id : Word) (f : FaultRec → FaultRec) : Reports s (modFault id f s) := withFlt_reports ..

theorem openFault_reports (cause subject level : Nat) (permanent : Bool) (origin : Nat) :
    Reports s (openFault cause subject level permanent origin s) := by
  unfold openFault
  dsimp only
  refine reports_trans (reports_trans ?_ (withFlt_reports _ _)) (raiseAt_reports ..)
  split
  · exact reports_cond (reports_refl s) (modFault_reports ..)
  · exact reports_refl s

theorem declareStorm_reports : Reports s (declareStorm s) :=
  reports_ite (reports_refl s) (reports_trans (reports_trans (withFlt_reports _ _) (raiseAt_reports ..)) (openFault_reports ..))

theorem raiseFault_reports (cause subject level : Nat) (permanent : Bool) (origin : Nat) :
    Reports s (raiseFault cause subject level permanent origin s) := by
  unfold raiseFault
  split
  · exact reports_trans (modFault_reports ..) (withFlt_reports _ _)
  · refine reports_ite (reports_trans (declareStorm_reports s) ?_) (openFault_reports ..)
    exact reports_ite (openFault_reports ..) (withFlt_reports _ _)

theorem nextCurrent_reports : Reports s (nextCurrent s) := reports_of_keeps (nextCurrent_keeps s) (by decide)

theorem closeFault_reports (r : FaultRec) (how : Nat) : Reports s (closeFault r how s) :=
  reports_trans (reports_cond (withFlt_reports _ _) (nextCurrent_reports _)) (raiseAt_reports ..)

theorem endFault_reports (cause subject : Nat) : Reports s (endFault cause subject s) := by
  unfold endFault
  split
  · exact reports_refl s
  · refine reports_ite (reports_refl s) (reports_ite (closeFault_reports ..) (reports_ite (closeFault_reports ..) ?_))
    exact reports_ite (reports_trans (modFault_reports ..) (nextCurrent_reports _))
      (reports_trans (modFault_reports ..) (withFlt_reports _ _))

theorem endL1_reports (cause subject : Nat) : Reports s (endL1 cause subject s) := by
  unfold endL1
  split
  · exact reports_refl s
  · exact closeFault_reports ..

/-! ### One entry of a part, commands and frames -/

theorem modCon_reports (f : ConCh → ConCh) : Reports s (modCon n f s) := reports_of_keeps (modCon_keeps n f s) (by decide)

theorem modCyc_reports (f : CycCh → CycCh) : Reports s (modCyc n f s) := reports_of_keeps (modCyc_keeps n f s) (by decide)

theorem modMeas_reports (f : MeasSt → MeasSt) : Reports s (modMeas n f s) := reports_of_keeps (modMeas_keeps n f s) (by decide)

theorem modAsy_reports (f : AsyCh → AsyCh) : Reports s (modAsy n f s) := reports_of_keeps (modAsy_keeps n f s) (by decide)

theorem modTxn_reports (f : TxnSt → TxnSt) : Reports s (modTxn n f s) := reports_of_keeps (modTxn_keeps n f s) (by decide)

theorem markDirty_reports : Reports s (markDirty n s) := reports_of_keeps (markDirty_keeps n s) (by decide)

theorem finishAll_reports (sel : Pend → Bool) (r : Pend → Reply) : Reports s (finishAll sel r s) :=
  reports_of_keeps (finishAll_keeps sel r s) (by decide)

theorem queueWrite_reports (w : StoreWrite) : Reports s (queueWrite w s) := reports_of_keeps (queueWrite_keeps w s) (by decide)

theorem sendCmd_reports (code : Nat) (args : List Byte) (q : CmdPurpose) : Reports s (sendCmd n code args q s) :=
  reports_of_keeps (sendCmd_keeps n code args q s) (by decide)

/-! ### Restages (08 R231 to R233) -/

theorem restageNow_reports : Reports s (restageNow s).2 := by
  unfold restageNow
  split
  · exact reports_refl s
  · exact reports_trans (reports_of_keeps (formHorizon_keeps _ _ _ _) (by decide)) ⟨rfl, rfl, List.prefix_rfl⟩

theorem restage_reports (cause : Nat) : Reports s (restage cause s) := by
  unfold restage restageFor
  split
  · exact reports_refl s
  · dsimp only
    split
    · exact reports_trans (restageNow_reports s) ⟨rfl, rfl, List.prefix_rfl⟩
    · exact reports_trans (restageNow_reports s) ⟨rfl, rfl, List.prefix_rfl⟩
    · exact reports_trans (restageNow_reports s) (raise_reports ..)

/-! ### Events of a channel (11 R328 to R333) -/

theorem chEvent_reports (code old new cause : Nat) (host ended : Bool) (count : Nat) :
    Reports s (chEvent code n old new cause host ended count s) := raise_reports ..

theorem weldEvent_reports (kind : Nat) : Reports s (weldEvent n kind s) := raise_reports ..

theorem prechargeEvent_reports (reason elapsed : Nat) : Reports s (prechargeEvent n reason elapsed s) := raise_reports ..

/-! ### States and sequences of a channel (11 R328 to R336) -/

theorem abortCycle_reports (reason : Nat) : Reports s (abortCycle n reason s) :=
  reports_of_held (abortCycle_keeps n reason s) (by decide) (abortCycle_quenches s n reason).held

theorem dropService_reports (st : Status) : Reports s (dropService n st s) := reports_of_keeps (dropService_keeps n st s) (by decide)

theorem setCh_reports (new : ChState) (cause : Nat) (host : Bool) : Reports s (setCh n new cause host s) :=
  reports_of_held (setCh_keeps n new cause host s) (by decide) (setCh_quenches s n new cause host).held

theorem endSeq_reports (st : Status) : Reports s (endSeq n st s) := reports_of_keeps (endSeq_keeps n st s) (by decide)

theorem seqStep_reports (st : ConStep) : Reports s (seqStep n st s) := reports_of_keeps (seqStep_keeps n st s) (by decide)

theorem clearHolds_reports : Reports s (clearHolds n s) := modCon_reports ..

theorem startSeq_reports (kind : SeqKind) (st : ConStep) (host : Bool) (cause : Nat) :
    Reports s (startSeq n kind st host cause s) :=
  reports_trans (abortCycle_reports ..) (reports_trans (modCon_reports ..) (markDirty_reports ..))

theorem protect_reports (cause : Nat) (atOnce : Bool) : Reports s (protect n cause atOnce s) := by
  unfold protect
  dsimp only
  refine reports_unless ?_ (reports_trans (chEvent_reports ..) (reports_trans (restage_reports ..) (markDirty_reports ..)))
  refine reports_cond ?_ (reports_of_keeps (sendAbort_keeps _ _ _) (by decide))
  exact reports_cond (modCon_reports ..) (setCh_reports ..)

theorem unprotect_reports (cause : Nat) : Reports s (unprotect n cause s) := by
  refine reports_ite ?_ (reports_refl s)
  refine reports_trans (reports_trans ?_ (restage_reports ..)) (markDirty_reports ..)
  exact reports_trans (modCon_reports ..) (chEvent_reports ..)

theorem countDecision_reports (c : Nat) : Reports s (countDecision n c s).2 := reports_of_keeps (countDecision_keeps n c s) (by decide)

theorem abandon_reports (st : Status) : Reports s (abandon n st s) := by
  unfold abandon
  split
  · exact reports_refl s
  · exact reports_trans (reports_cond (reports_refl s) (prechargeEvent_reports ..)) (endSeq_reports ..)

theorem startDisc_reports (kind : SeqKind) (host : Bool) (cause : Nat) (atOnce : Bool) :
    Reports s (startDisc n kind host cause atOnce s) :=
  reports_trans (reports_ite (modCon_reports ..) (protect_reports ..)) (startSeq_reports ..)

/-! ### Module decisions (11 R340 to R346) -/

/-- A decision that retires by its count, or else does `t` (R344). -/
theorem retireByCount_reports {t : State} (c : Nat) (f : ConCh → ConCh) (h : Reports (countDecision n c s).2 t) :
    Reports s (if (countDecision n c s).1 then
      raiseFault 0x0281 n.val 1 true (lastSeq (modCon n f (countDecision n c s).2)).toNat (modCon n f (countDecision n c s).2)
      else t) := by
  refine reports_ite ?_ (reports_trans (countDecision_reports ..) h)
  exact reports_trans (countDecision_reports ..) (reports_trans (modCon_reports ..) (raiseFault_reports ..))

theorem decideFence_reports (c : Nat) : Reports s (decideFence n c s) :=
  retireByCount_reports n s c _ (reports_trans (modCon_reports ..) (raiseFault_reports ..))

theorem decideRetire_reports (c : Nat) : Reports s (decideRetire n c s) := by
  refine reports_trans (reports_trans ?_ (modCon_reports ..)) (raiseFault_reports ..)
  exact reports_cond (reports_refl s) (modCon_reports ..)

theorem decideDisconnect_reports (c : Nat) (atOnce : Bool) : Reports s (decideDisconnect n c atOnce s) :=
  reports_ite (reports_refl s) (retireByCount_reports n s c _ (reports_trans (abandon_reports ..) (startDisc_reports ..)))

theorem decideHold_reports (c : Nat) (atOnce : Bool) : Reports s (decideHold n c atOnce s) := by
  refine reports_ite (reports_refl s) (reports_trans ?_ (protect_reports ..))
  exact reports_cond (reports_refl s) (abandon_reports ..)

theorem actOn_reports (c : Nat) : Reports s (actOn n c s) := by
  have retire (k : Nat) : Reports s (if strength s n ≥ 4 then s else decideRetire n k s) :=
    reports_ite (reports_refl s) (decideRetire_reports ..)
  have fence (k : Nat) : Reports s (if strength s n ≥ 3 then s else decideFence n k s) :=
    reports_ite (reports_refl s) (decideFence_reports ..)
  unfold actOn
  split
  case h_1 | h_2 | h_3 | h_8 => exact decideDisconnect_reports ..
  case h_4 | h_5 => exact retire _
  case h_6 | h_7 => exact decideHold_reports ..
  case h_9 =>
    split
    · exact decideHold_reports ..
    · exact decideDisconnect_reports ..
    · exact reports_refl s
  case h_10 | h_11 | h_12 | h_13 | h_14 | h_15 => exact fence _
  case h_16 => exact reports_refl s

theorem causeOn_reports (c : Nat) : Reports s (causeOn n c s) :=
  reports_ite (reports_refl s) (reports_trans (reports_trans (modCon_reports ..) (markDirty_reports ..)) (actOn_reports ..))

theorem causeOnAt_reports (c detail : Nat) : Reports s (causeOnAt n c detail s) :=
  reports_ite (reports_refl s) (reports_trans (modCon_reports ..) (causeOn_reports ..))

theorem causeOff_reports (c : Nat) : Reports s (causeOff n c s) := by
  refine reports_ite (reports_refl s) (reports_trans ?_ (unprotect_reports ..))
  refine reports_cond (reports_trans ?_ (endFault_reports ..)) (modCon_reports ..)
  exact reports_trans (modCon_reports ..) (markDirty_reports ..)

/-! ### Causes of a fault tone (11 R340, R341, R344) -/

theorem judgeWires_reports : Reports s (judgeWires n s) := by
  unfold judgeWires
  split
  · exact causeOff_reports ..
  · exact causeOnAt_reports ..

theorem judgeAuth_reports : Reports s (judgeAuth n s) :=
  reports_ite (causeOff_reports ..) (reports_cond (reports_refl s) (causeOn_reports ..))

theorem desat_reports : Reports s (desat n s) := by
  refine reports_cond (modCon_reports ..) (reports_trans ?_ (markDirty_reports ..))
  refine reports_trans (reports_trans ?_ (modCon_reports ..)) (raiseFault_reports ..)
  exact reports_unless (reports_refl _) (reports_trans (modCon_reports ..) (modCon_reports ..))

theorem toneCauses_reports (c : Byte) : Reports s (toneCauses n c s) := by
  unfold toneCauses
  refine reports_ite (reports_refl s) ?_
  dsimp only
  refine reports_cond (reports_cond (reports_cond (reports_cond (reports_cond (reports_cond (reports_refl s) ?wire) ?_) ?_) ?_) ?_) ?_
  case wire =>
    exact reports_trans (modMeas_reports ..) (reports_trans (judgeWires_reports ..) (decideDisconnect_reports ..))
  case refine_3 => exact desat_reports ..
  all_goals exact causeOn_reports ..

/-! ### A sequence whose CMD fails (11 R332 to R337) -/

theorem retireNow_reports : Reports s (retireNow n s) := by
  unfold retireNow
  dsimp only
  refine reports_trans (reports_trans (reports_trans ?_ (chEvent_reports ..)) (queueWrite_reports ..)) (endSeq_reports ..)
  exact reports_trans (reports_trans (clearHolds_reports ..) (modCon_reports ..)) (setCh_reports ..)

theorem prechargeFail_reports (reason elapsed : Nat) : Reports s (prechargeFail n reason elapsed s) := by
  unfold prechargeFail
  dsimp only
  refine reports_trans (reports_trans (reports_trans ?_ (clearHolds_reports ..)) (setCh_reports ..)) (endSeq_reports ..)
  generalize ht : (if reason = 2 then prechargeEvent n reason elapsed s
    else sendPrecharge n false .protect (prechargeEvent n reason elapsed s)) = t
  refine reports_trans ?_ (retireByCount_reports n t 13 _ (reports_refl _))
  exact ht ▸ reports_unless (prechargeEvent_reports ..) (sendCmd_reports ..)

theorem contactBad_reports (kind : Nat) : Reports s (contactBad n kind s) :=
  reports_trans (reports_trans (weldEvent_reports ..) (abandon_reports ..)) (causeOn_reports ..)

theorem discEnd_reports : Reports s (discEnd n s) := by
  unfold discEnd
  split
  · exact reports_refl s
  next q _ =>
    have opened (cause : Nat) (host : Bool) : Reports s (setCh n .disconnected cause host (clearHolds n s)) :=
      reports_trans (clearHolds_reports ..) (setCh_reports ..)
    split
    · exact retireNow_reports ..
    · exact reports_trans (opened _ _) (reports_trans (sendCmd_reports ..) (seqStep_reports ..))
    · refine reports_trans ?_ (endSeq_reports ..)
      refine reports_trans (reports_trans ?_ (clearHolds_reports ..)) (setCh_reports ..)
      refine reports_trans (reports_trans ?_ (endL1_reports ..)) (queueWrite_reports ..)
      exact reports_trans (reports_trans (modCon_reports ..) (endL1_reports ..)) (endL1_reports ..)
    · exact reports_trans (reports_unless (opened _ _) (chEvent_reports ..)) (endSeq_reports ..)

/-- A CMD of the sequence that has no REPLY. -/
theorem seqReply_reports : Reports s (seqReply n none s) := by
  unfold seqReply
  split
  · exact reports_refl s
  next q _ =>
    simp only [reduceCtorEq, decide_false, Bool.not_false, if_false, if_true]
    split
    · exact prechargeFail_reports ..
    · exact contactBad_reports ..
    · exact reports_trans (setCh_reports ..) (endSeq_reports ..)
    · exact contactBad_reports ..
    · exact discEnd_reports ..
    · exact endSeq_reports ..
    · exact reports_refl s

/-! ### A wire test that fails (06 R185, R188) -/

theorem startWireTest_reports (k : Nat) : Reports s (startWireTest n k s) :=
  reports_ite (reports_refl s) (reports_trans (modMeas_reports ..) (sendCmd_reports ..))

theorem nextSuspect_reports : Reports s (nextSuspect n s) := by
  unfold nextSuspect
  split
  · exact startWireTest_reports ..
  · exact reports_refl s

theorem endSuspect_reports (k : Nat) : Reports s (endSuspect n k s) :=
  reports_trans (reports_trans (modMeas_reports ..) (modAsy_reports ..)) (nextSuspect_reports ..)

/-- A test without a REPLY is inconclusive: it is repeated, or the suspicion of its wire ends. -/
theorem wireTested_reports (k : Nat) : Reports s (wireTested n k none s) := by
  unfold wireTested
  dsimp only
  refine reports_ite (reports_trans (modMeas_reports ..) (sendCmd_reports ..)) ?_
  refine reports_trans (modMeas_reports n s (fun m => { m with testing := none, testTries := 0 })) ?_
  split
  · exact endSuspect_reports ..
  · exact nextSuspect_reports ..

/-! ### A touchmark exchange whose CMD fails (10 R319 to R323) -/

theorem endTouch_reports : Reports s (endTouch n s) := modCyc_reports ..

theorem provEnd_reports (r : Reply) : Reports s (provEnd n r s) := reports_trans (modCyc_reports ..) (finishAll_reports ..)

theorem cycleDoneEvent_reports (stored tm : Bool) : Reports s (cycleDoneEvent n stored tm s) := by
  unfold cycleDoneEvent
  split
  · exact reports_refl s
  · exact reports_trans (modCyc_reports ..) (raise_reports ..)

theorem historyEnd_reports (ok : Bool) : Reports s (historyEnd n ok s) :=
  reports_trans (reports_trans (modCyc_reports ..) (endTouch_reports ..)) (cycleDoneEvent_reports ..)

/-- A change of some groups of a channel. -/
theorem modGrps_reports (l : List Nat) (f : Nat → GrpSt → GrpSt) : Reports s (forEach l (fun i s => modGrp n i (f i) s) s) :=
  reports_forEach _ _ _ fun _ _ => modAsy_reports ..

theorem setUnverified_reports : Reports s (setUnverified n s) := by
  refine reports_unless ?_ (queueWrite_reports ..)
  exact reports_trans (modCyc_reports ..) (modGrps_reports ..)

theorem unverifiedEvent_reports (cause : Nat) (ended : Bool) : Reports s (unverifiedEvent n cause ended s) :=
  reports_trans (modCyc_reports ..) (raise_reports ..)

theorem unverifiedFor_reports (cause : Nat) : Reports s (unverifiedFor n cause s) :=
  reports_trans (reports_trans (t := (drawBool s).2) ⟨rfl, rfl, List.prefix_rfl⟩ (setUnverified_reports ..))
    (unverifiedEvent_reports ..)

theorem noAuth_reports (cause : Nat) (changed : Bool) : Reports s (noAuth n cause changed s) :=
  reports_cond (reports_trans (modCyc_reports ..) (endTouch_reports ..)) (unverifiedFor_reports ..)

theorem loadNominal_reports : Reports s (loadNominal n s) :=
  reports_trans (reports_trans (modCyc_reports ..) (modAsy_reports ..)) (modGrps_reports ..)

theorem authLost_reports (cause : Nat) : Reports s (authLost n cause s) := by
  unfold authLost
  dsimp only
  refine reports_trans (reports_trans ?_ (raise_reports ..)) (judgeAuth_reports ..)
  have ended (f : CycCh → CycCh) : Reports s (endTouch n (modCyc n f s)) := reports_trans (modCyc_reports ..) (endTouch_reports ..)
  refine reports_ite (reports_trans (ended _) (setUnverified_reports ..)) ?_
  refine reports_trans (reports_trans (reports_trans ?_ (raise_reports ..)) (queueWrite_reports ..)) (causeOff_reports ..)
  refine reports_trans ?_ (setUnverified_reports ..)
  exact reports_trans (reports_trans (ended _) (modCyc_reports ..)) (loadNominal_reports ..)

theorem authFail_reports (cause : Nat) : Reports s (authFail n cause s) :=
  reports_ite (reports_trans (endTouch_reports ..) (provEnd_reports ..)) (authLost_reports ..)

theorem touchRead_reports : Reports s (touchRead n false [] s) := by
  unfold touchRead
  split
  · exact reports_refl s
  · simp only [Bool.not_false, if_true]
    split
    · exact historyEnd_reports ..
    · exact reports_trans (endTouch_reports ..) (provEnd_reports ..)
    · exact reports_trans (endTouch_reports ..) (provEnd_reports ..)
    · exact noAuth_reports ..
    · exact endTouch_reports ..

theorem touchSigned_reports : Reports s (touchSigned n false [] s) := by
  unfold touchSigned
  split
  · exact reports_refl s
  · exact authFail_reports ..

theorem touchWritten_reports : Reports s (touchWritten n false s) := by
  unfold touchWritten
  split
  · exact reports_refl s
  · simp only [Bool.not_false, if_true]
    exact reports_ite (historyEnd_reports ..) (reports_trans (endTouch_reports ..) (provEnd_reports ..))

/-! ### A node service whose CMD fails (12 R380, R381) -/

theorem putService_reports (v : ServiceSt) : Reports s (putService n v s) := ⟨rfl, rfl, List.prefix_rfl⟩

theorem withTwn_reports (x : TwnSt) : Reports s { s with twn := x } := ⟨rfl, rfl, List.prefix_rfl⟩

theorem servicePoll_reports : Reports s (servicePoll n s) := by
  unfold servicePoll
  split
  · exact reports_refl s
  · exact reports_ite (reports_ite (reports_trans (putService_reports ..) (sendCmd_reports ..))
      (reports_trans (putService_reports ..) (sendCmd_reports ..))) (reports_refl s)

theorem takeHold_reports : Reports s (takeHold n s) := by
  unfold takeHold
  split
  · exact reports_refl s
  · refine reports_ite (reports_trans (putService_reports ..) (withTwn_reports ..)) ?_
    refine reports_trans (reports_trans ?_ (markDirty_reports ..)) (servicePoll_reports ..)
    refine reports_trans (reports_trans ?_ (abortCycle_reports ..)) (modCon_reports ..)
    exact reports_trans (putService_reports ..) (withTwn_reports ..)

theorem nextHold_reports : Reports s (nextHold s) := by
  unfold nextHold
  split
  · exact reports_trans (withTwn_reports ..) (takeHold_reports ..)
  · exact reports_refl s

theorem endService_reports (st : Status) : Reports s (endService n st s) :=
  reports_trans (reports_trans (dropService_reports ..) (markDirty_reports ..)) (nextHold_reports _)

theorem serviceReply_reports : Reports s (serviceReply n none [] s) := by
  unfold serviceReply
  split
  · exact reports_refl s
  · exact endService_reports ..

/-! ### CMDs that fail (05 R149) -/

/-- A CMD without a REPLY, whatever it was sent for. -/
theorem cmdDone_reports (c : NodeCmd) : Reports s (cmdDone n c none [] s) := by
  unfold cmdDone
  dsimp only
  split
  · exact causeOn_reports ..
  · exact reports_refl s
  · exact reports_refl s
  · exact seqReply_reports ..
  · exact reports_refl s
  · exact wireTested_reports ..
  · exact touchRead_reports ..
  · exact touchSigned_reports ..
  · exact touchWritten_reports ..
  · exact serviceReply_reports ..
  · exact serviceReply_reports ..

theorem failCmds_reports : Reports s (failCmds n s) :=
  reports_trans (modTxn_reports ..) (reports_forEach _ _ _ fun c t => cmdDone_reports n t c)

end
end Sys2Proof.Safety

/-! ## SUPPORT. Groups that the matrix latches, and the channels of a quench (08 R243, R244, R250; 11 R338) -/

namespace Sys2Proof.Safety
open Sys2Proof.Machine

theorem maskOf_succ (n : Nat) (f : Nat → Bool) : maskOf (n + 1) f = if f n then maskOf n f + 2 ^ n else maskOf n f := by
  simp only [maskOf, List.range_succ, List.foldl_append, List.foldl_cons, List.foldl_nil]

theorem maskOf_lt (n : Nat) (f : Nat → Bool) : maskOf n f < 2 ^ n := by
  induction n with
  | zero => exact Nat.one_pos
  | succ n ih =>
    rw [maskOf_succ, pow_succ]
    split <;> omega

theorem testBit_maskOf {n i : Nat} (f : Nat → Bool) (inside : i < n) : (maskOf n f).testBit i = f i := by
  induction n with
  | zero => omega
  | succ n ih =>
    have top : (maskOf n f).testBit n = false := Nat.testBit_lt_two_pow (maskOf_lt n f)
    rw [maskOf_succ]
    obtain below | rfl : i < n ∨ i = n := by omega
    · split
      · rw [Nat.add_comm, Nat.testBit_two_pow_add_gt below, ih below]
      · exact ih below
    · split
      next set => rw [Nat.add_comm, Nat.testBit_two_pow_add_eq, top, set, Bool.not_false]
      next clear => rw [top, Bool.eq_false_of_not_eq_true clear]

section
variable (s : State)

/-! ### Latching -/

/-- The matrix that has latched the groups of `mask` under causes `c`. -/
def latchedBy (mask : Byte) (c : QCause) (q : QmSt) : QmSt :=
  { q with
    latched := q.latched ||| mask
    quenches := q.quenches + BitVec.ofNat 32 (finsOf 8 (fun g => mask.getLsbD g.val)).length
    causes := (finsOf 8 (fun g => mask.getLsbD g.val)).foldl (fun v g => vmod v g (fun _ => c)) q.causes }

/-- What follows the latching: events, broadcasts and the channels. -/
theorem latch_follows (mask : Byte) (c : QCause) :
    KeepsBut (.bus :: decideParts) { s with qm := latchedBy mask c s.qm } (latch mask c s) := by
  have told (t : State) (subject : Nat) (data : List Nat) : KeepsBut (.bus :: decideParts) t (raise 0x8301 subject data t) :=
    keepsBut_sub _ (raise_keeps _ _ _ _) rfl
  refine keepsBut_ite (told _ _ _) ?_
  refine keepsBut_trans ?_ (forEach_keeps _ _ _ fun _ _ => forEach_keeps _ _ _ fun n u => keepsBut_sub _ (quenchChan_keeps n u) rfl)
  refine keepsBut_trans ?_ (keepsBut_sub _ (broadcastTrip_keeps _ _ _) rfl)
  exact keepsBut_cond (told _ _ _) (forEach_keeps _ _ _ fun g u => keepsBut_sub _ (openL0_keeps _ _ u) rfl)

theorem latch_latched (mask : Byte) (c : QCause) : (latch mask c s).qm.latched = s.qm.latched ||| mask :=
  congrArg QmSt.latched (latch_follows s mask c .qm (by decide))

/-- A quenched group stays quenched through an evaluation: only a release opens it (R244). -/
theorem evalMatrix_keeps_quenched {g : Group} (q : quenched s g = true) : quenched (evalMatrix s) g = true := by
  unfold evalMatrix
  dsimp only
  split
  · exact q
  · simp only [quenched, latch_latched, BitVec.getLsbD_or, Bool.or_eq_true]
    exact .inl q

/-- A group that an input calls for is quenched behind an evaluation (R244, R250). -/
theorem evalMatrix_latches {g : Group} (calls : (callsFor s g).any = true) : quenched (evalMatrix s) g = true := by
  by_cases q : quenched s g = true
  · exact evalMatrix_keeps_quenched s q
  have new : g ∈ finsOf 8 (fun g => !quenched s g && (callsFor s g).any) := by
    simp [finsOf, Bool.eq_false_of_not_eq_true q, calls]
  unfold evalMatrix
  dsimp only
  rw [if_neg (by simpa using List.ne_nil_of_mem new)]
  simp only [quenched, latch_latched, BitVec.getLsbD_or, BitVec.getLsbD_ofNat, testBit_maskOf _ g.isLt, Bool.or_eq_true,
    Bool.and_eq_true, decide_eq_true_eq, List.any_eq_true]
  exact .inr ⟨g.isLt, g, new, rfl⟩

/-- An armed port whose tone is FAULT or LOST calls for its group (R107). -/
theorem callsFor_tone {p : Chan} (calls : toneCalls s p = true) (on : populated s p = true) :
    (callsFor s (groupOf s p)).any = true := by
  have member : p ∈ tonePorts s (groupOf s p) := by simp [tonePorts, groupChans, allChans, calls, on]
  have some_ : (tonePorts s (groupOf s p)).isEmpty = false := List.isEmpty_eq_false_iff.mpr (List.ne_nil_of_mem member)
  simp only [callsFor, QCause.any, some_, Bool.not_false, Bool.or_true, Bool.true_or]

end

/-! ### Channel states under a quench -/

/-- Every channel has its state, or is QUENCHED (R338). -/
def OnlyQuenches (s t : State) : Prop := ∀ n : Chan, t.con[n].state = s.con[n].state ∨ t.con[n].state = .quenched

theorem onlyQuenches_of_con {s t : State} (same : t.con = s.con) : OnlyQuenches s t := fun n => .inl (by rw [same])

theorem onlyQuenches_trans {s t u : State} (h : OnlyQuenches s t) (k : OnlyQuenches t u) : OnlyQuenches s u :=
  fun n => (k n).elim (fun e => e ▸ h n) .inr

/-- An operation whose frame leaves the connections alone. -/
theorem onlyQuenches_of_keeps {l : List Part} {s t : State} (k : KeepsBut l s t) (apart : Part.con ∉ l) : OnlyQuenches s t :=
  onlyQuenches_of_con (k .con apart)

theorem onlyQuenches_ite {s t u : State} {c : Prop} [Decidable c] (h : OnlyQuenches s t) (k : OnlyQuenches s u) :
    OnlyQuenches s (if c then t else u) := by
  split <;> assumption

theorem onlyQuenches_cond {s t u : State} {c : Prop} [Decidable c] (h : OnlyQuenches s t) (k : OnlyQuenches t u) :
    OnlyQuenches s (if c then u else t) :=
  onlyQuenches_ite (onlyQuenches_trans h k) h

theorem onlyQuenches_forEach {α : Type} (xs : List α) (f : α → State → State) (s : State) (h : ∀ a t, OnlyQuenches t (f a t)) :
    OnlyQuenches s (forEach xs f s) := by
  unfold forEach
  induction xs generalizing s with
  | nil => exact onlyQuenches_of_con rfl
  | cons x xs ih => exact onlyQuenches_trans (h x s) (ih _)

section
variable (n : Chan) (s : State)

/-- A change of a channel that leaves its state or quenches it. -/
theorem modCon_onlyQuenches (f : ConCh → ConCh) (h : ∀ c, (f c).state = c.state ∨ (f c).state = .quenched) :
    OnlyQuenches s (modCon n f s) := by
  intro m
  simp only [modCon_con]
  by_cases e : m = n
  · subst e
    rw [vmod_get]
    exact h _
  · exact .inl (by rw [vmod_get_ne _ _ _ _ e])

theorem abortCycle_onlyQuenches (reason : Nat) : OnlyQuenches s (abortCycle n reason s) := by
  have off (f : CycCh → CycCh) : OnlyQuenches s (modCyc n f (modCon n (fun x => { x with assayRest := false }) s)) := by
    refine onlyQuenches_trans ?_ (onlyQuenches_of_keeps (modCyc_keeps _ _ _) (by decide))
    exact modCon_onlyQuenches _ _ _ fun _ => .inl rfl
  unfold abortCycle
  dsimp only
  refine onlyQuenches_ite (onlyQuenches_of_con rfl) (onlyQuenches_ite (off _) ?_)
  exact onlyQuenches_trans (off _) (onlyQuenches_of_keeps (raise_keeps _ _ _ _) (by decide))

theorem dropService_onlyQuenches (st : Status) : OnlyQuenches s (dropService n st s) := by
  unfold dropService
  split
  · exact onlyQuenches_of_con rfl
  · refine onlyQuenches_trans ?_ (onlyQuenches_of_keeps (finishAll_keeps _ _ _) (by decide))
    exact onlyQuenches_trans (onlyQuenches_of_con rfl) (modCon_onlyQuenches _ _ _ fun _ => .inl rfl)

theorem setCh_onlyQuenches (cause : Nat) (host : Bool) : OnlyQuenches s (setCh n .quenched cause host s) := by
  unfold setCh
  dsimp only
  refine onlyQuenches_ite (onlyQuenches_of_con rfl) ?_
  refine onlyQuenches_trans ?_ (onlyQuenches_of_keeps (markDirty_keeps _ _) (by decide))
  refine onlyQuenches_trans ?_ (onlyQuenches_of_keeps (chEvent_keeps _ _ _ _ _ _ _ _ _) (by decide))
  refine onlyQuenches_cond ?_ (onlyQuenches_of_keeps (queueWrite_keeps _ _) (by decide))
  refine onlyQuenches_cond ?_ (onlyQuenches_of_keeps (modIns_keeps _ _ _) (by decide))
  refine onlyQuenches_trans ?_ (onlyQuenches_ite (onlyQuenches_of_con rfl) (dropService_onlyQuenches _ _ _))
  exact onlyQuenches_cond (modCon_onlyQuenches _ _ _ fun _ => .inr rfl) (abortCycle_onlyQuenches _ _ _)

theorem seqStep_onlyQuenches (st : ConStep) : OnlyQuenches s (seqStep n st s) := by
  refine onlyQuenches_trans ?_ (onlyQuenches_of_keeps (markDirty_keeps _ _) (by decide))
  exact modCon_onlyQuenches _ _ _ fun _ => .inl rfl

theorem endSeq_onlyQuenches (st : Status) : OnlyQuenches s (endSeq n st s) := by
  have ended : OnlyQuenches s (markDirty n (modCon n (fun c => { c with seq := none }) s)) := by
    refine onlyQuenches_trans ?_ (onlyQuenches_of_keeps (markDirty_keeps _ _) (by decide))
    exact modCon_onlyQuenches _ _ _ fun _ => .inl rfl
  exact onlyQuenches_cond ended (onlyQuenches_of_keeps (finishAll_keeps _ _ _) (by decide))

theorem quenchChan_onlyQuenches : OnlyQuenches s (quenchChan n s) := by
  have safe (c : Prop) [Decidable c] (f : InsCh → InsCh) : OnlyQuenches s (if c then modIns n f s else s) :=
    onlyQuenches_cond (onlyQuenches_of_con rfl) (onlyQuenches_of_keeps (modIns_keeps _ _ _) (by decide))
  unfold quenchChan
  refine onlyQuenches_ite ?_ (safe _ _)
  refine onlyQuenches_cond ?_ (seqStep_onlyQuenches _ _ _)
  refine onlyQuenches_cond ?_ (endSeq_onlyQuenches _ _ _)
  refine onlyQuenches_trans ?_ (setCh_onlyQuenches _ _ _ _)
  refine onlyQuenches_trans ?_ (modCon_onlyQuenches _ _ _ fun _ => .inl rfl)
  exact onlyQuenches_cond (safe _ _) (onlyQuenches_of_keeps (raise_keeps _ _ _ _) (by decide))

theorem latch_onlyQuenches (mask : Byte) (c : QCause) : OnlyQuenches s (latch mask c s) := by
  have told (x : QmSt) (subject : Nat) (data : List Nat) : OnlyQuenches s (raise 0x8301 subject data { s with qm := x }) :=
    onlyQuenches_trans (t := { s with qm := x }) (onlyQuenches_of_con rfl) (onlyQuenches_of_keeps (raise_keeps _ _ _ _) (by decide))
  unfold latch
  dsimp only
  refine onlyQuenches_ite (told _ _ _) ?_
  refine onlyQuenches_trans ?_ (onlyQuenches_forEach _ _ _ fun _ _ => onlyQuenches_forEach _ _ _ fun n u => quenchChan_onlyQuenches n u)
  refine onlyQuenches_trans ?_ (onlyQuenches_of_keeps (broadcastTrip_keeps _ _ _) (by decide))
  exact onlyQuenches_cond (told _ _ _) (onlyQuenches_forEach _ _ _ fun _ _ => onlyQuenches_of_keeps (openL0_keeps _ _ _) (by decide))

theorem evalMatrix_onlyQuenches : OnlyQuenches s (evalMatrix s) :=
  onlyQuenches_ite (onlyQuenches_of_con rfl) (latch_onlyQuenches _ _ _)

end
end Sys2Proof.Safety

/-! ## SUPPORT. The tone of a port (04 R101 to R108, R112) -/

namespace Sys2Proof.Safety
open Sys2Proof.Machine

/-! ### Ports that fall from RUNNING or from bring-up (04 R110, R112) -/

section
variable (p : Chan) (s : State)

/-- A port that leaves RUNNING takes its new link state and keeps its tone. -/
theorem leaveRunning_port (new : LinkState) : (leaveRunning p new s).ports[p].state = new ∧
    (leaveRunning p new s).ports[p].tone = s.ports[p].tone ∧ (leaveRunning p new s).ports[p].lostCause = s.ports[p].lostCause := by
  have failed (t : State) : (failCmds p t).ports = t.ports := (failCmds_reports p t).ports
  unfold leaveRunning
  split
  · simp only [modPort_ports, vmod_get, and_self]
  · simp only [recomputeDeadline, modIns_ports, modAsy_ports, modMeas_ports, modTxn_ports, retestFailed, finishAll, modPort_ports,
      failed, vmod_get, and_self]

/-- It only adds events, those of the CMDs that fail. -/
theorem leaveRunning_adds (new : LinkState) : (leaveRunning p new s).qm = s.qm ∧ s.ev.held <+: (leaveRunning p new s).ev.held := by
  have failed (t : State) : (failCmds p t).qm = t.qm ∧ t.ev.held <+: (failCmds p t).ev.held :=
    ⟨(failCmds_reports p t).qm, (failCmds_reports p t).held⟩
  unfold leaveRunning
  split
  · exact ⟨rfl, List.prefix_rfl⟩
  · simp only [recomputeDeadline, modIns_qm, modAsy_qm, modMeas_qm, modTxn_qm, retestFailed, finishAll, modIns_ev, modAsy_ev,
      modMeas_ev, modTxn_ev, modPort_qm, modPort_ev]
    exact failed _


/-- Where a port goes from state `l` when its tone is lost: out of RUNNING, back from bring-up, or nowhere (R110, R112). -/
def fallen (p : Chan) (l : LinkState) (s : State) : State :=
  if l = .running then leaveRunning p (rxState s p) s
  else if bringing l || stopped l then bringupFails p (if s.ports[p].light then .light else .dark) s
  else s

theorem fallen_port (l : LinkState) : (l = .running → (fallen p l s).ports[p].state = rxState s p) ∧
    (fallen p l s).ports[p].tone = s.ports[p].tone ∧ (fallen p l s).ports[p].lostCause = s.ports[p].lostCause := by
  unfold fallen
  split
  · have left := leaveRunning_port p s (rxState s p)
    exact ⟨fun _ => left.1, left.2⟩
  next other =>
    refine ⟨fun run => absurd run other, ?_⟩
    split
    · simp only [bringupFails, modPort_ports, vmod_get, and_self]
    · exact ⟨rfl, rfl⟩

theorem fallen_adds (l : LinkState) : (fallen p l s).qm = s.qm ∧ s.ev.held <+: (fallen p l s).ev.held := by
  unfold fallen
  split
  · exact leaveRunning_adds _ _ _
  · split
    · exact ⟨rfl, List.prefix_rfl⟩
    · exact ⟨rfl, List.prefix_rfl⟩

/-! ### What the matrix makes of a tone (04 R107; 08 R244) -/

theorem evalMatrix_ports : (evalMatrix s).ports = s.ports := evalMatrix_keeps s .ports (by decide)

/-- A FAULT or LOST tone of an armed port quenches its group. -/
theorem evalMatrix_latches_tone {f : PortSt → PortSt} (on : portOn s p = true) (arm : armed s p = true)
    (state : (f s.ports[p]).state = s.ports[p].state) (tone : (f s.ports[p]).tone = .fault ∨ (f s.ports[p]).tone = .lost) :
    quenched (evalMatrix (modPort p f s)) (groupOf s p) = true := by
  have there : populated s p = true := by
    simp only [portOn, Bool.and_eq_true] at on
    exact on.1.1
  have still : armed (modPort p f s) p = true := by
    simpa only [armed, running, modPort_ports, modPort_con, vmod_get, state] using arm
  refine evalMatrix_latches (modPort p f s) (callsFor_tone (modPort p f s) ?_ there)
  simpa only [toneCalls, still, modPort_ports, vmod_get, Bool.true_and, Bool.or_eq_true, beq_iff_eq] using tone

/-! ### FAULT_TONE (04 R105, R107) -/

/-- The port as a fault tone with cause character `cause` leaves it; a loss counts once, as the tone becomes FAULT. -/
def faultedPort (cause : Byte) (x : PortSt) : PortSt :=
  { x with tone := .fault, tfCause := cause, toneLosses := x.toneLosses + (if x.tone != .fault then 1 else 0) }

/-- The cause character is byte 28 of FAULT_TONE. -/
theorem faultTone_cause (cause : Byte) (l a : Nat) :
    (BitVec.ofNat 288 ([ef 28 0 cause.toNat, ef 29 0 l, ef 29 4 a].foldl (· ||| ·) 0)).toNat % 256 = cause.toNat := by
  have small : cause.toNat < 2 ^ 8 := cause.isLt
  have outside (v k : Nat) : v * 2 ^ (8 + k) % 2 ^ 8 = 0 := by
    rw [pow_add, ← mul_assoc, mul_right_comm]
    exact Nat.mul_mod_left _ _
  rw [BitVec.toNat_ofNat, show 256 = 2 ^ 8 from rfl, Nat.mod_mod_of_dvd _ (Nat.pow_dvd_pow 2 (by decide : 8 ≤ 288))]
  show (0 ||| cause.toNat * 2 ^ 0 ||| l * 2 ^ (8 + 0) ||| a * 2 ^ (8 + 4)) % 2 ^ 8 = cause.toNat
  rw [Nat.or_mod_two_pow, Nat.or_mod_two_pow, outside, outside, Nat.or_zero, Nat.or_zero, Nat.zero_or, pow_zero, mul_one,
    Nat.mod_eq_of_lt small]

variable {p s}

/-- A fault tone is judged by the matrix, said when it is new, and gives the channel its causes. -/
theorem faultToneArrival_follows {cause : Byte} (on : portOn s p = true) : ∃ u, exec (.faultToneArrival p cause) s = done s u ∧
    Reports (evalMatrix (modPort p (faultedPort cause) s)) u ∧
    (s.ports[p].tone ≠ .fault → ∃ e ∈ u.ev.held, e.code = 0x8502 ∧ e.subject = BitVec.ofNat 16 p.val ∧
      e.data.toNat % 256 = cause.toNat) := by
  have same : modPort p (fun x => { x with
      tone := .fault, tfCause := cause, toneLosses := x.toneLosses + (if s.ports[p].tone != .fault then 1 else 0) }) s =
      modPort p (faultedPort cause) s :=
    congrArg (fun v => { s with ports := v }) (vmod_congr _ _ rfl)
  simp only [exec, execFaultToneArrival, on, Bool.not_true, Bool.false_eq_true, if_false, same]
  generalize evalMatrix (modPort p (faultedPort cause) s) = t
  refine ⟨_, rfl, ?_, fun fresh => ?_⟩
  · refine reports_trans (reports_trans ?_ (modMeas_reports ..)) (toneCauses_reports ..)
    exact reports_cond (reports_refl t) (raise_reports ..)
  · have after (f : MeasSt → MeasSt) := reports_trans (modMeas_reports p (faultToneEvent p cause (armed s p) t) f)
      (toneCauses_reports p _ cause)
    obtain ⟨e, mem, -, code, subject, data⟩ := raise_tells 0x8502 p.val
      [ef 28 0 cause.toNat, ef 29 0 t.ports[p].state.code, ef 29 4 (bN (armed s p))] t
    simp only [bne_iff_ne, ne_eq, fresh, not_false_eq_true, if_true]
    refine ⟨e, (after _).held.subset mem, code, subject, ?_⟩
    rw [data]
    exact faultTone_cause ..

theorem faultToneArrival_faults {cause : Byte} (on : portOn s p = true) : ∃ u, Becomes (.faultToneArrival p cause) s u ∧
    (∀ g : Group, quenched s g = true → quenched u g = true) ∧ u.ports[p].tone = .fault ∧
    u.ports[p].tfCause = cause ∧ u.ports[p].state = s.ports[p].state ∧
    (armed s p = true → quenched u (groupOf s p) = true) ∧
    (s.ports[p].tone ≠ .fault → u.ports[p].toneLosses = s.ports[p].toneLosses + 1 ∧
      ∃ e ∈ u.ev.held, e.code = 0x8502 ∧ e.subject = BitVec.ofNat 16 p.val ∧ e.data.toNat % 256 = cause.toNat) ∧
    (s.ports[p].tone = .fault → u.ports[p].toneLosses = s.ports[p].toneLosses) := by
  obtain ⟨u, e, after, said⟩ := faultToneArrival_follows on (cause := cause)
  have port : u.ports[p] = faultedPort cause s.ports[p] := by
    rw [after.ports, evalMatrix_ports, modPort_ports, vmod_get]
  have latched (g : Group) (q : quenched (evalMatrix (modPort p (faultedPort cause) s)) g = true) : quenched u g = true := by
    rwa [quenched, after.qm]
  refine ⟨u, becomes_of_done e, fun g q => latched g (evalMatrix_keeps_quenched (modPort p (faultedPort cause) s) q), by rw [port]; rfl,
    by rw [port]; rfl, by rw [port]; rfl, fun arm => latched _ (evalMatrix_latches_tone p s on arm rfl (.inl rfl)), fun fresh => ⟨?_, said fresh⟩,
    fun again => ?_⟩
  · simpa [port, faultedPort] using fresh
  · simpa [port, faultedPort] using again

theorem faultToneArrival_idles {cause : Byte} (off : portOn s p = false) : Idles (.faultToneArrival p cause) s :=
  idles_of_done (if_pos (by rw [off]; rfl))

/-! ### TONE_LOST (04 R105 to R108, R112; 11 R348) -/

/-- The port as the loss of its tone leaves it. -/
def lostPort (cause : BitVec 2) (x : PortSt) : PortSt :=
  { lossRx cause x with tone := .lost, lostCause := cause, toneLosses := x.toneLosses + 1 }

/-- LINK_LOSS of a channel that is not DORMANT. -/
def lossSaid (p : Chan) (cause : BitVec 2) (l : LinkState) (wasArmed : Bool) (s : State) : State :=
  linkLossEvent p cause.toNat l wasArmed (modCon p (fun c => { c with darkSaid := false }) s)

theorem lossSaid_reports (cause : BitVec 2) (l : LinkState) (wasArmed : Bool) (t : State) : Reports t (lossSaid p cause l wasArmed t) :=
  reports_trans (modCon_reports ..) (raise_reports ..)

theorem lossRx_state (cause : BitVec 2) (x : PortSt) : (lossRx cause x).state = x.state := by
  unfold lossRx
  split <;> rfl

/-- The link state that a loss of tone leaves to a RUNNING port (R112). -/
def lossState (cause : BitVec 2) : LinkState :=
  match cause.toNat with
  | 0 => .dark
  | 1 => .light
  | _ => .aligned

theorem rxState_lostPort {cause : BitVec 2} {t : State} {x : PortSt} (port : t.ports[p] = lostPort cause x) :
    rxState t p = lossState cause := by
  rw [rxState, port]
  unfold lostPort lossRx lossState
  obtain k | k | k := cause.toNat <;> rfl

/-- What follows the matrix at the loss of a tone: LINK_LOSS unless a DORMANT channel's was said, the port's fall, cause 0x0B. -/
def afterLoss (p : Chan) (cause : BitVec 2) (l : LinkState) (wasArmed : Bool) (s : State) : State :=
  let dormant := s.con[p].state = .dormant
  let t := fallen p l (if dormant && s.con[p].darkSaid then s
    else linkLossEvent p cause.toNat l wasArmed (modCon p (fun c => { c with darkSaid := dormant }) s))
  if dormant || !t.ports[p].settled then t else causeOn p 11 t

/-- The steps of a lost tone: the matrix judges it, LINK_LOSS of a channel that is not DORMANT, and all that follows. -/
def toneLost (p : Chan) (cause : BitVec 2) (s : State) : State := evalMatrix (modPort p (lostPort cause) s)

def toneLossSaid (p : Chan) (cause : BitVec 2) (s : State) : State :=
  lossSaid p cause s.ports[p].state (armed s p) (toneLost p cause s)

def lossJudged (p : Chan) (cause : BitVec 2) (s : State) : State :=
  afterLoss p cause s.ports[p].state (armed s p) (toneLost p cause s)

theorem exec_toneLost {cause : BitVec 2} (on : portOn s p = true) (new : s.ports[p].tone ≠ .lost) :
    exec (.toneLost p cause) s = done s (lossJudged p cause s) :=
  if_neg (by simpa only [on, Bool.not_true, Bool.false_or, decide_eq_true_eq] using new)

theorem afterLoss_reports {cause : BitVec 2} {l : LinkState} {wasArmed : Bool} {t : State} (awake : t.con[p].state ≠ .dormant) :
    Reports (fallen p l (lossSaid p cause l wasArmed t)) (afterLoss p cause l wasArmed t) := by
  simp only [afterLoss, lossSaid, awake, decide_false, Bool.false_and, Bool.false_or, Bool.false_eq_true, if_false]
  exact reports_unless (reports_refl _) (causeOn_reports ..)

/-- The matrix puts no channel to sleep. -/
theorem evalMatrix_awake {f : PortSt → PortSt} (awake : s.con[p].state ≠ .dormant) :
    (evalMatrix (modPort p f s)).con[p].state ≠ .dormant := by
  obtain kept | now := evalMatrix_onlyQuenches (modPort p f s) p
  · rwa [kept]
  · rw [now]
    decide

theorem toneLost_loses {cause : BitVec 2} (on : portOn s p = true) (new : s.ports[p].tone ≠ .lost)
    (awake : s.con[p].state ≠ .dormant) : ∃ u, Becomes (.toneLost p cause) s u ∧
    (∀ g : Group, quenched s g = true → quenched u g = true) ∧ u.ports[p].tone = .lost ∧ u.ports[p].lostCause = cause ∧
    (armed s p = true → quenched u (groupOf s p) = true) ∧
    (s.ports[p].state = .running → u.ports[p].state = lossState cause) ∧
    ∃ e ∈ u.ev.held, e.code = 0x8501 ∧ e.subject = BitVec.ofNat 16 p.val := by
  have said : Reports (toneLost p cause s) (toneLossSaid p cause s) := lossSaid_reports ..
  have after : Reports (fallen p s.ports[p].state (toneLossSaid p cause s)) (lossJudged p cause s) := afterLoss_reports (evalMatrix_awake awake)
  have port : (toneLossSaid p cause s).ports[p] = lostPort cause s.ports[p] := by
    rw [said.ports, toneLost, evalMatrix_ports, modPort_ports, vmod_get]
  obtain ⟨state, tone, lostCause⟩ := fallen_port p (toneLossSaid p cause s) s.ports[p].state
  obtain ⟨matrix, held⟩ := fallen_adds p (toneLossSaid p cause s) s.ports[p].state
  obtain ⟨e, mem, -, code, subject, -⟩ := raise_tells 0x8501 p.val
    [ef 28 0 cause.toNat, ef 29 0 s.ports[p].state.code, ef 29 4 (bN (armed s p))]
    (modCon p (fun c => { c with darkSaid := false }) (toneLost p cause s))
  have latched (g : Group) (q : quenched (toneLost p cause s) g = true) :
      quenched (lossJudged p cause s) g = true := by
    rwa [quenched, after.qm, matrix, said.qm]
  refine ⟨_, becomes_of_done (exec_toneLost on new), fun g q => latched g (evalMatrix_keeps_quenched _ q), ?_, ?_,
    fun arm => latched _ (evalMatrix_latches_tone p s on arm (lossRx_state ..) (.inr rfl)), fun run => ?_,
    e, after.held.subset (held.subset mem), code, subject⟩
  · rw [after.ports, tone, port]
    rfl
  · rw [after.ports, lostCause, port]
    rfl
  · rw [after.ports, state run, rxState_lostPort port]

theorem toneLost_idles {cause : BitVec 2} (idle : portOn s p = false ∨ s.ports[p].tone = .lost) : Idles (.toneLost p cause) s :=
  idles_of_done (if_pos (by simpa only [Bool.or_eq_true, Bool.not_eq_true', decide_eq_true_eq] using idle))

/-! ### DOWNSTREAM_DETECT (04 R108) -/

theorem downstreamDetect_idles (idle : portOn s p = false ∨ s.ports[p].tone = .downstream ∨ s.ports[p].tone = .fault) :
    Idles (.downstreamDetect p) s :=
  idles_of_done (if_pos (by simpa only [Bool.or_eq_true, Bool.not_eq_true', decide_eq_true_eq, or_assoc] using idle))

/-- The port as DOWNSTREAM_DETECT leaves it. -/
def downPort (x : PortSt) : PortSt := { x with tone := .downstream, tkStatus := x.tkStatus ||| 1 }

/-- That, and LINK_LOSS 3. -/
def downSaid (p : Chan) (s : State) : State := linkLossEvent p 3 s.ports[p].state (armed s p) (modPort p downPort s)

theorem downstreamDetect_tells (on : portOn s p = true) (other : s.ports[p].tone ≠ .downstream) (quiet : s.ports[p].tone ≠ .fault) :
    Runs (.downstreamDetect p) s (.ports :: decideParts) (fun u => u.ports[p].tone = .downstream ∧
      u.ports[p].state = s.ports[p].state ∧ (s.ports[p].state ≠ .running → u.con = s.con) ∧
      Tells s u 0x8501 p.val [ef 28 0 3, ef 29 0 s.ports[p].state.code, ef 29 4 (bN (armed s p))]) := by
  have e : exec (.downstreamDetect p) s = done s (if running (downSaid p s) p then causeOn p 11 (downSaid p s) else downSaid p s) :=
    if_neg (by simpa only [on, Bool.not_true, Bool.false_or, Bool.or_eq_true, decide_eq_true_eq, not_or] using ⟨other, quiet⟩)
  have said : KeepsBut [.ports, .ev] s (downSaid p s) :=
    keepsBut_trans (keepsBut_sub _ (modPort_keeps _ _ _) rfl) (keepsBut_sub _ (raise_keeps _ _ _ _) rfl)
  have told : Tells s (downSaid p s) 0x8501 p.val [ef 28 0 3, ef 29 0 s.ports[p].state.code, ef 29 4 (bN (armed s p))] :=
    tells_of_ev (t := modPort p downPort s) rfl (raise_tells ..)
  have port : (downSaid p s).ports[p] = downPort s.ports[p] := by
    rw [downSaid, linkLossEvent, raise_keeps _ _ _ _ .ports (by decide), modPort_ports, vmod_get]
  generalize downSaid p s = t at e said told port
  have state : t.ports[p].state = s.ports[p].state := by
    rw [port]
    rfl
  by_cases run : running t p = true
  · rw [if_pos run] at e
    have after := causeOn_reports p t 11
    refine runs_of_done e (keepsBut_trans (keepsBut_sub _ said rfl) (keepsBut_sub _ (causeOn_keeps p 11 t) rfl)) (by decide)
      ⟨?_, by rw [after.ports, state], fun idle => absurd ((running_iff p t).mp run) (by rwa [state]), tells_of_grows after.held told⟩
    rw [after.ports, port]
    rfl
  · rw [if_neg run] at e
    refine runs_of_done e (keepsBut_sub _ said rfl) (by decide) ⟨?_, state, fun _ => said .con (by decide), told⟩
    rw [port]
    rfl

/-! ### TONE_HEALTHY_RETURN (04 R106; 11 R346) -/

/-- DIRTY is the twin link's: the channels stay as they are. -/
theorem markDirty_con : (markDirty p s).con = s.con := rfl

theorem unprotect_present (c : Nat) : (unprotect p c s).con[p].present = s.con[p].present := by
  have staged (t : State) : (restage 2 t).con = t.con := restageFor_keeps 2 t .con (by decide)
  have said (o n k : Nat) (t : State) : (chEvent 0x8202 p o n c false true k t).con = t.con := chEvent_keeps _ _ _ _ _ _ _ _ t .con (by decide)
  unfold unprotect
  split
  · simp only [markDirty_con, staged, said, modCon_con, vmod_get]
  · rfl

theorem getLsbD_causeBit (c d : Nat) : (causeBit c).getLsbD d = (decide (c < 32) && decide (c = d)) :=
  BitVec.getLsbD_twoPow c d

/-- Taking away a bit that is not set changes nothing. -/
theorem and_not_causeBit {w : Word} {c : Nat} (clear : w.getLsbD c = false) : w &&& ~~~(causeBit c) = w := by
  refine BitVec.eq_of_getLsbD_eq fun i small => ?_
  rw [BitVec.getLsbD_and, BitVec.getLsbD_not, getLsbD_causeBit]
  by_cases bit : c = i
  · rw [← bit, clear, Bool.false_and]
  · simp only [bit, small, decide_true, decide_false, Bool.and_false, Bool.not_false, Bool.and_true]

/-- A withdrawn cause leaves the mask of the causes present. -/
theorem causeOff_present (c : Nat) : (causeOff p c s).con[p].present = s.con[p].present &&& ~~~(causeBit c) := by
  unfold causeOff
  split
  next absent =>
    have clear : s.con[p].present.getLsbD c = false := by simpa only [hasCause, Bool.not_eq_true'] using absent
    rw [and_not_causeBit clear]
  · have cleared (t : State) : (endFault (0x0200 + c) p.val t).con = t.con := endFault_keeps _ _ t .con (by decide)
    dsimp only
    rw [unprotect_present]
    split <;> simp only [modCon_con, vmod_get, cleared, markDirty_con]

/-- Withdrawing cause `c` clears it and no other. -/
theorem hasCause_causeOff (c d : Nat) : hasCause (causeOff p c s) p d = (hasCause s p d && !decide (c = d)) := by
  rw [hasCause, causeOff_present, BitVec.getLsbD_and, BitVec.getLsbD_not, getLsbD_causeBit, ← hasCause]
  by_cases set : hasCause s p d = true
  · have small : d < 32 := BitVec.lt_of_getLsbD set
    by_cases bit : c = d <;> simp [set, small, bit]
  · simp only [set, Bool.false_and]

theorem toneHealed_clears : hasCause (toneHealed p s) p 9 = false ∧ hasCause (toneHealed p s) p 10 = false ∧
    (s.ports[p].state = .running → hasCause (toneHealed p s) p 11 = false) := by
  unfold toneHealed
  dsimp only
  split
  · simp [hasCause_causeOff]
  next idle =>
    refine ⟨by simp [hasCause_causeOff], by simp [hasCause_causeOff], fun run => absurd ?_ idle⟩
    rw [running_iff, causeOff_keeps _ _ _ .ports (by decide), causeOff_keeps _ _ _ .ports (by decide)]
    exact run

theorem toneHealed_keeps : KeepsBut (.meas :: decideParts) s (toneHealed p s) := by
  have off (c : Nat) (t : State) : KeepsBut (.meas :: decideParts) t (causeOff p c t) := keepsBut_sub _ (causeOff_keeps p c t) rfl
  have twice := keepsBut_trans (keepsBut_trans (keepsBut_sub _ (modMeas_keeps p (fun m => { m with toneByWire := false }) s) rfl) (off 9 _))
    (off 10 _)
  exact keepsBut_ite (keepsBut_trans twice (off 11 _)) twice

theorem readTk_keeps : KeepsBut [.ports, .free] s (readTk p s) := by
  intro q hq; cases q <;> first | (simp at hq; done) | exact Eq.refl _

theorem toneHealthyReturn_heals (on : portOn s p = true) (other : s.ports[p].tone ≠ .healthy) :
    Runs (.toneHealthyReturn p) s (.ports :: .meas :: decideParts) (fun u =>
      u.ports[p].tone = .healthy ∧ hasCause u p 9 = false ∧ hasCause u p 10 = false ∧
      (s.ports[p].state = .running → hasCause u p 11 = false)) := by
  have frame : KeepsBut (.ports :: .meas :: decideParts) s (readTk p (modPort p (fun x => { x with tone := .healthy }) s)) :=
    keepsBut_trans (keepsBut_sub _ (modPort_keeps _ _ _) rfl) (keepsBut_sub _ readTk_keeps rfl)
  obtain ⟨wire, fault, link⟩ := toneHealed_clears (p := p) (s := readTk p (modPort p (fun x => { x with tone := .healthy }) s))
  refine runs_of_done (if_neg ?_) (keepsBut_trans frame (keepsBut_sub _ toneHealed_keeps rfl)) (by decide) ⟨?_, wire, fault, fun run => link ?_⟩
  · simpa only [on, Bool.not_true, Bool.false_or, decide_eq_true_eq] using other
  · simp only [toneHealed_ports, readTk_ports, modPort_ports, vmod_get]
  · simpa only [readTk_ports, modPort_ports, vmod_get] using run

theorem toneHealthyReturn_idles (idle : portOn s p = false ∨ s.ports[p].tone = .healthy) : Idles (.toneHealthyReturn p) s :=
  idles_of_done (if_pos (by simpa only [Bool.or_eq_true, Bool.not_eq_true', decide_eq_true_eq] using idle))

end

/-- Settles O31, row by row: what the matrix makes of the tone, then the causes and events, which neither touch the ports nor
release a quench. -/
theorem tonesOfAPort : Obligations.TonesOfAPort := by
  intro p s
  exact ⟨fun _ => faultToneArrival_faults, fun _ => faultToneArrival_idles, fun _ => toneLost_loses, fun _ => toneLost_idles,
    downstreamDetect_tells, downstreamDetect_idles, toneHealthyReturn_heals, toneHealthyReturn_idles⟩

end Sys2Proof.Safety

/-! ## SUPPORT. The header of a received frame (05 R130 to R134) -/

namespace Sys2Proof.Safety
open Sys2Proof.Machine

/-! ### What the frame layer of a port makes of a header -/

/-- Every valid frame counts, and its SEQ is kept (R130). -/
def countHeader (h : FrameHdr) (x : TxnSt) : TxnSt :=
  { x with framesRx := x.framesRx + 1
           seqGaps := x.seqGaps + BitVec.ofNat 32 ((x.seqRx.map (fun q => seqMissing q h.seq)).getD 0)
           seqRx := some h.seq }

/-- The frame layer from which a stream goes on behind its reset (R134). -/
def resumeStream (now : Nat) (epoch : Word) (x : TxnSt) : TxnSt :=
  let waiting := x.cmds.map (fun c => DownBody.cmd c.id c.code epoch c.args) ++ x.waiting
  drainWaiting now waiting.length { x with sreset := false, waiting := waiting }

/-- ACK and RESEND of a header (R132). -/
def heedAck (h : FrameHdr) (now : Nat) (x : TxnSt) : TxnSt :=
  if h.resend then takeResend h.ack now (takeAck h.ack now x) else takeAck h.ack now x

/-- The frame's place in the reliable stream: whether it is taken, and the counts behind it (R131). -/
def placeFrame (h : FrameHdr) (rel : Bool) (x : TxnSt) : Bool × TxnSt :=
  if rel then takeRcnt h.rcnt x else (true, if newer8 h.rcnt x.rcntRx then { x with resend := true } else x)

/-- The port's frame layer when its frame takes its place in the stream. -/
def headed (p : Chan) (h : FrameHdr) (s : State) : TxnSt :=
  heedAck h s.tim.tb
    (if s.txns[p].sreset then resumeStream s.tim.tb (epochOf s) (countHeader h s.txns[p]) else countHeader h s.txns[p])

section
variable (p : Chan) (h : FrameHdr) (rel : Bool) (s : State)

/-- A frame of the old stream only counts (R134). -/
theorem acceptHdr_old (reset : s.txns[p].sreset = true) (old : h.sreset = false) :
    acceptHdr p h rel s = (!rel, modTxn p (countHeader h) s) := by
  refine if_pos ?_
  simp only [modTxn_txns, vmod_get, reset, old, Bool.not_false, Bool.and_self]

theorem modTxn_eq_set (f : TxnSt → TxnSt) : modTxn p f s = modTxn p (fun _ => f s.txns[p]) s :=
  congrArg (fun v => { s with txns := v }) (vmod_congr _ _ rfl)

theorem modTxn_modTxn (f g : TxnSt → TxnSt) : modTxn p g (modTxn p f s) = modTxn p (fun x => g (f x)) s :=
  congrArg (fun v => { s with txns := v }) (vmod_vmod _ _ _ _)

/-- A change of a frame layer that has just been set. -/
theorem modTxn_set (x : TxnSt) (g : TxnSt → TxnSt) : modTxn p g (modTxn p (fun _ => x) s) = modTxn p (fun _ => g x) s :=
  modTxn_modTxn p s _ g

theorem txns_set (x : TxnSt) : (modTxn p (fun _ => x) s).txns[p] = x := vmod_get _ _ _

/-- What a header does behind the count and the end of a stream reset: ACK, RESEND, the ABORT wait and the frame's place. -/
def headerTaken (now : Nat) : Bool × State :=
  let s := modTxn p (takeAck h.ack now) s
  let s := if h.resend then modTxn p (takeResend h.ack now) s else s
  let s := modIns p (fun x => { x with abortWait := x.abortWait && abortOut s.txns[p] }) s
  if rel then
    let r := takeRcnt h.rcnt s.txns[p]
    (r.1, modTxn p (fun _ => r.2) s)
  else (true, if newer8 h.rcnt s.txns[p].rcntRx then modTxn p (fun x => { x with resend := true }) s else s)

theorem acceptHdr_eq : acceptHdr p h rel s =
    let t := modTxn p (countHeader h) s
    if t.txns[p].sreset && !h.sreset then (!rel, t)
    else headerTaken p h rel (if t.txns[p].sreset then streamResumed p t else t) s.tim.tb := rfl

theorem headerTaken_set (now : Nat) (x : TxnSt) : headerTaken p h rel (modTxn p (fun _ => x) s) now =
    ((placeFrame h rel (heedAck h now x)).1, modTxn p (fun _ => (placeFrame h rel (heedAck h now x)).2)
      (modIns p (fun y => { y with abortWait := y.abortWait && abortOut (heedAck h now x) }) s)) := by
  have heeded : (if h.resend then modTxn p (takeResend h.ack now) (modTxn p (takeAck h.ack now) (modTxn p (fun _ => x) s))
      else modTxn p (takeAck h.ack now) (modTxn p (fun _ => x) s)) = modTxn p (fun _ => heedAck h now x) s := by
    unfold heedAck
    split <;> simp only [modTxn_set]
  unfold headerTaken
  dsimp only
  rw [heeded]
  have read (f : InsCh → InsCh) (y : TxnSt) : (modIns p f (modTxn p (fun _ => y) s)).txns[p] = y := txns_set p s y
  have write (f : InsCh → InsCh) (y : TxnSt) (g : TxnSt → TxnSt) :
      modTxn p g (modIns p f (modTxn p (fun _ => y) s)) = modTxn p (fun _ => g y) (modIns p f s) := modTxn_set p (modIns p f s) y g
  cases rel
  · simp only [read, write, txns_set, placeFrame, Bool.false_eq_true, if_false]
    split <;> rfl
  · simp only [read, write, txns_set, placeFrame, if_true]

/-- A frame of the stream that runs, or of the one that follows a reset: its result, the frame layer and the ABORT wait. -/
theorem acceptHdr_current (current : s.txns[p].sreset = false ∨ h.sreset = true) : acceptHdr p h rel s =
    ((placeFrame h rel (headed p h s)).1,
      modTxn p (fun _ => (placeFrame h rel (headed p h s)).2)
        (modIns p (fun x => { x with abortWait := x.abortWait && abortOut (headed p h s) }) s)) := by
  have counted : (modTxn p (countHeader h) s).txns[p].sreset = s.txns[p].sreset := by rw [modTxn_eq_set, txns_set]; rfl
  have resumed : (if s.txns[p].sreset then streamResumed p (modTxn p (countHeader h) s) else modTxn p (countHeader h) s) =
      modTxn p (fun _ => if s.txns[p].sreset then resumeStream s.tim.tb (epochOf s) (countHeader h s.txns[p])
        else countHeader h s.txns[p]) s := by
    rw [modTxn_eq_set p s (countHeader h)]
    split
    · exact modTxn_set p s _ (resumeStream s.tim.tb (epochOf s))
    · rfl
  rw [acceptHdr_eq]
  dsimp only
  rw [counted, resumed, headerTaken_set]
  refine if_neg ?_
  obtain e | e := current <;> rw [e] <;> simp

/-- A frame touches the frame layer of its own port and the port's ABORT wait. -/
theorem acceptHdr_keeps : KeepsBut [.txns, .insCh] s (acceptHdr p h rel s).2 := by
  by_cases current : s.txns[p].sreset = false ∨ h.sreset = true
  · rw [acceptHdr_current p h rel s current]
    exact keepsBut_trans (keepsBut_sub _ (modIns_keeps _ _ _) rfl) (keepsBut_sub _ (modTxn_keeps _ _ _) rfl)
  · simp only [not_or, Bool.not_eq_false, Bool.not_eq_true] at current
    rw [acceptHdr_old p h rel s current.1 current.2]
    exact keepsBut_sub _ (modTxn_keeps _ _ _) rfl

theorem acceptHdr_others {q : Chan} (other : q ≠ p) :
    (acceptHdr p h rel s).2.txns[q] = s.txns[q] ∧ (acceptHdr p h rel s).2.insCh[q] = s.insCh[q] := by
  by_cases current : s.txns[p].sreset = false ∨ h.sreset = true
  · rw [acceptHdr_current p h rel s current]
    exact ⟨vmod_get_ne _ _ _ _ other, vmod_get_ne _ _ _ _ other⟩
  · simp only [not_or, Bool.not_eq_false, Bool.not_eq_true] at current
    rw [acceptHdr_old p h rel s current.1 current.2]
    exact ⟨vmod_get_ne _ _ _ _ other, rfl⟩

end

/-! ### Counts of the frames received, and the frames not acknowledged -/

/-- What has been received stays as it is: the count of frames, SEQ, RCNT, and whether a stream reset runs. -/
structure KeepsReceived (x y : TxnSt) : Prop where
  framesRx : y.framesRx = x.framesRx
  seqRx : y.seqRx = x.seqRx
  rcntRx : y.rcntRx = x.rcntRx
  sreset : y.sreset = x.sreset

theorem keepsReceived_trans {x y z : TxnSt} (h : KeepsReceived x y) (k : KeepsReceived y z) : KeepsReceived x z :=
  ⟨k.framesRx.trans h.framesRx, k.seqRx.trans h.seqRx, k.rcntRx.trans h.rcntRx, k.sreset.trans h.sreset⟩

section
variable (x : TxnSt) (now : Nat)

theorem drainWaiting_keepsReceived (k : Nat) : KeepsReceived x (drainWaiting now k x) := by
  induction k generalizing x with
  | zero => exact ⟨rfl, rfl, rfl, rfl⟩
  | succ k ih =>
    unfold drainWaiting
    split
    · exact ⟨rfl, rfl, rfl, rfl⟩
    · split
      · exact ⟨rfl, rfl, rfl, rfl⟩
      · refine keepsReceived_trans ?_ (ih _)
        exact ⟨rfl, rfl, rfl, rfl⟩

/-- Frames that leave as the window opens join those not acknowledged. -/
theorem drainWaiting_unacked (k : Nat) : x.unacked <+: (drainWaiting now k x).unacked := by
  induction k generalizing x with
  | zero => exact List.prefix_rfl
  | succ k ih =>
    unfold drainWaiting
    split
    · exact List.prefix_rfl
    · split
      · exact List.prefix_rfl
      · refine List.IsPrefix.trans ?_ (ih _)
        exact List.prefix_append _ _

theorem takeAck_keepsReceived (ack : Byte) : KeepsReceived x (takeAck ack now x) := by
  unfold takeAck
  split
  · exact ⟨rfl, rfl, rfl, rfl⟩
  · refine keepsReceived_trans ?_ (drainWaiting_keepsReceived _ now _)
    exact ⟨rfl, rfl, rfl, rfl⟩

/-- An ACK that is not ahead of the frames sent releases those it covers and no other (R132). -/
theorem takeAck_unacked {ack : Byte} (sent : newer8 ack x.rcntTx = false) :
    x.unacked.filter (fun f => newer8 f.rcnt ack) <+: (takeAck ack now x).unacked := by
  unfold takeAck
  rw [if_neg (Bool.eq_false_iff.mp sent)]
  dsimp only
  refine List.IsPrefix.trans ?_ (drainWaiting_unacked _ now _)
  exact List.prefix_rfl

/-- Where no frame waits for the window, no other frame follows. -/
theorem takeAck_unacked_of_none_waiting {ack : Byte} (sent : newer8 ack x.rcntTx = false) (none_ : x.waiting = []) :
    (takeAck ack now x).unacked = x.unacked.filter (fun f => newer8 f.rcnt ack) := by
  unfold takeAck
  rw [if_neg (Bool.eq_false_iff.mp sent), none_]
  rfl

/-- RESEND is ignored, or the frames go out again behind its ACK (R132). -/
theorem takeResend_cases (ack : Byte) :
    takeResend ack now x = x ∨ takeResend ack now x = { retransmit ack x with goBack := some (ack, now) } :=
  ite_eq_or_eq _ _ _

theorem takeResend_keepsReceived (ack : Byte) : KeepsReceived x (takeResend ack now x) := by
  obtain e | e := takeResend_cases x now ack <;> rw [e] <;> exact ⟨rfl, rfl, rfl, rfl⟩

theorem takeResend_unacked (ack : Byte) : (takeResend ack now x).unacked = x.unacked := by
  obtain e | e := takeResend_cases x now ack
  · rw [e]
  · rw [e]
    rfl

variable (h : FrameHdr)

theorem heedAck_keepsReceived : KeepsReceived x (heedAck h now x) := by
  unfold heedAck
  split
  · exact keepsReceived_trans (takeAck_keepsReceived x now _) (takeResend_keepsReceived _ now _)
  · exact takeAck_keepsReceived x now _

theorem heedAck_unacked : (heedAck h now x).unacked = (takeAck h.ack now x).unacked := by
  unfold heedAck
  split
  · exact takeResend_unacked _ now _
  · rfl

/-- The stream goes on, with the counts as they were. -/
theorem resumeStream_received (epoch : Word) : (resumeStream now epoch x).framesRx = x.framesRx ∧
    (resumeStream now epoch x).seqRx = x.seqRx ∧ (resumeStream now epoch x).sreset = false := by
  obtain ⟨framesRx, seqRx, -, sreset⟩ := drainWaiting_keepsReceived { x with
    sreset := false
    waiting := x.cmds.map (fun c => DownBody.cmd c.id c.code epoch c.args) ++ x.waiting } now
      (x.cmds.map (fun c => DownBody.cmd c.id c.code epoch c.args) ++ x.waiting).length
  exact ⟨framesRx, seqRx, sreset⟩

/-- The place in the stream leaves all but RCNT and RESEND. -/
theorem placeFrame_keeps (rel : Bool) : (placeFrame h rel x).2.framesRx = x.framesRx ∧ (placeFrame h rel x).2.seqRx = x.seqRx ∧
    (placeFrame h rel x).2.sreset = x.sreset ∧ (placeFrame h rel x).2.unacked = x.unacked := by
  unfold placeFrame takeRcnt
  repeat' split
  all_goals exact ⟨rfl, rfl, rfl, rfl⟩

theorem placeFrame_plain : (placeFrame h false x).1 = true ∧ (placeFrame h false x).2.rcntRx = x.rcntRx := by
  refine ⟨rfl, ?_⟩
  simp only [placeFrame, Bool.false_eq_true, if_false]
  split <;> rfl

/-- The next frame of the stream is taken and counted; any other is not (R131). -/
theorem placeFrame_reliable : ((placeFrame h true x).1 = true ↔ h.rcnt = x.rcntRx + 1) ∧
    (placeFrame h true x).2.rcntRx = (if h.rcnt = x.rcntRx + 1 then h.rcnt else x.rcntRx) := by
  simp only [placeFrame, takeRcnt, if_true]
  split
  next next_ => exact ⟨iff_of_true rfl next_, rfl⟩
  next other => split <;> exact ⟨iff_of_false Bool.false_ne_true other, rfl⟩

/-- A frame further ahead asks for RESEND. -/
theorem placeFrame_ahead (other : h.rcnt ≠ x.rcntRx + 1) (ahead : newer8 h.rcnt x.rcntRx = true) :
    (placeFrame h true x).2.resend = true := by
  simp only [placeFrame, takeRcnt, if_true, if_neg other, if_pos ahead]

end

/-! ### The obligation -/

section
variable (p : Chan) (h : FrameHdr) (rel : Bool) (s : State)

theorem headed_running (cur : s.txns[p].sreset = false) : headed p h s = heedAck h s.tim.tb (countHeader h s.txns[p]) := by
  unfold headed
  rw [cur]
  rfl

/-- Outside a stream reset the counts of the stream are those before the frame. -/
theorem headed_received (cur : s.txns[p].sreset = false) : KeepsReceived (countHeader h s.txns[p]) (headed p h s) := by
  rw [headed_running p h s cur]
  exact heedAck_keepsReceived _ _ _

theorem headed_counts : (headed p h s).framesRx = s.txns[p].framesRx + 1 ∧ (headed p h s).seqRx = some h.seq ∧
    (headed p h s).sreset = false := by
  unfold headed
  obtain ⟨framesRx, seqRx, -, sreset⟩ := heedAck_keepsReceived (if s.txns[p].sreset then
    resumeStream s.tim.tb (epochOf s) (countHeader h s.txns[p]) else countHeader h s.txns[p]) s.tim.tb h
  rw [framesRx, seqRx, sreset]
  split
  · exact resumeStream_received _ _ _
  next cur => exact ⟨rfl, rfl, Bool.eq_false_of_not_eq_true cur⟩

/-- Every valid frame counts, and its SEQ is kept (R130). -/
theorem acceptHdr_counts : (acceptHdr p h rel s).2.txns[p].framesRx = s.txns[p].framesRx + 1 ∧
    (acceptHdr p h rel s).2.txns[p].seqRx = some h.seq := by
  by_cases current : s.txns[p].sreset = false ∨ h.sreset = true
  · rw [acceptHdr_current p h rel s current, txns_set]
    obtain ⟨framesRx, seqRx, -⟩ := placeFrame_keeps (headed p h s) h rel
    obtain ⟨counted, seq, -⟩ := headed_counts p h s
    exact ⟨framesRx.trans counted, seqRx.trans seq⟩
  · simp only [not_or, Bool.not_eq_false, Bool.not_eq_true] at current
    rw [acceptHdr_old p h rel s current.1 current.2, modTxn_eq_set, txns_set]
    exact ⟨rfl, rfl⟩

/-- Outside a stream reset: the frame layer that a frame leaves, and whether it is taken. -/
theorem acceptHdr_running (cur : s.txns[p].sreset = false) :
    (acceptHdr p h rel s).1 = (placeFrame h rel (headed p h s)).1 ∧
    (acceptHdr p h rel s).2.txns[p] = (placeFrame h rel (headed p h s)).2 := by
  rw [acceptHdr_current p h rel s (.inl cur)]
  exact ⟨rfl, txns_set _ _ _⟩

theorem acceptHdr_plain (cur : s.txns[p].sreset = false) : (acceptHdr p h false s).1 = true ∧
    (acceptHdr p h false s).2.txns[p].rcntRx = s.txns[p].rcntRx := by
  obtain ⟨taken, left⟩ := acceptHdr_running p h false s cur
  obtain ⟨yes, rcnt⟩ := placeFrame_plain (headed p h s) h
  exact ⟨taken.trans yes, by rw [left, rcnt, (headed_received p h s cur).rcntRx]; rfl⟩

/-- A reliable frame against the count before it (R131). -/
theorem acceptHdr_reliable (cur : s.txns[p].sreset = false) :
    ((acceptHdr p h true s).1 = true ↔ h.rcnt = s.txns[p].rcntRx + 1) ∧
    (acceptHdr p h true s).2.txns[p].rcntRx = (if h.rcnt = s.txns[p].rcntRx + 1 then h.rcnt else s.txns[p].rcntRx) ∧
    (h.rcnt ≠ s.txns[p].rcntRx + 1 → newer8 h.rcnt s.txns[p].rcntRx = true → (acceptHdr p h true s).2.txns[p].resend = true) := by
  obtain ⟨taken, left⟩ := acceptHdr_running p h true s cur
  have before : (headed p h s).rcntRx = s.txns[p].rcntRx := (headed_received p h s cur).rcntRx
  rw [taken, left, ← before]
  exact ⟨(placeFrame_reliable _ h).1, (placeFrame_reliable _ h).2, placeFrame_ahead _ h⟩

theorem acceptHdr_unacked (cur : s.txns[p].sreset = false) :
    (acceptHdr p h rel s).2.txns[p].unacked = (takeAck h.ack s.tim.tb (countHeader h s.txns[p])).unacked := by
  obtain ⟨-, -, -, placed⟩ := placeFrame_keeps (headed p h s) h rel
  rw [(acceptHdr_running p h rel s cur).2, placed, headed_running p h s cur, heedAck_unacked]

section
variable (cur : s.txns[p].sreset = false) (sent : newer8 h.ack s.txns[p].rcntTx = false)
include cur sent

/-- A frame that the ACK does not cover stays (R132). -/
theorem acceptHdr_unacked_stays {f : DownFrame} (waits : f ∈ s.txns[p].unacked) (later : newer8 f.rcnt h.ack = true) :
    f ∈ (acceptHdr p h rel s).2.txns[p].unacked := by
  rw [acceptHdr_unacked p h rel s cur]
  exact (takeAck_unacked (countHeader h s.txns[p]) s.tim.tb sent).subset (List.mem_filter.mpr ⟨waits, later⟩)

theorem acceptHdr_unacked_filter (none_ : s.txns[p].waiting = []) : (acceptHdr p h rel s).2.txns[p].unacked =
    s.txns[p].unacked.filter (fun f => newer8 f.rcnt h.ack) := by
  rw [acceptHdr_unacked p h rel s cur]
  exact takeAck_unacked_of_none_waiting (countHeader h s.txns[p]) s.tim.tb sent none_

end

/-- During a stream reset a frame of the old stream brings and releases nothing (R134). -/
theorem acceptHdr_reset_old (reset : s.txns[p].sreset = true) (old : h.sreset = false) : (acceptHdr p h rel s).1 = !rel ∧
    (acceptHdr p h rel s).2.txns[p].unacked = s.txns[p].unacked ∧
    (acceptHdr p h rel s).2.txns[p].rcntRx = s.txns[p].rcntRx ∧ (acceptHdr p h rel s).2.txns[p].sreset = true := by
  rw [acceptHdr_old p h rel s reset old, modTxn_eq_set, txns_set]
  exact ⟨rfl, rfl, rfl, reset⟩

/-- The first frame of the new stream ends the reset. -/
theorem acceptHdr_reset_ends (new : h.sreset = true) : (acceptHdr p h rel s).2.txns[p].sreset = false := by
  rw [acceptHdr_current p h rel s (.inr new), txns_set]
  obtain ⟨-, -, sreset, -⟩ := placeFrame_keeps (headed p h s) h rel
  exact sreset.trans (headed_counts p h s).2.2

end

/-- Settles O33: a frame is of the old stream or of the one that runs, and each count is read from the frame layer that it
leaves. -/
theorem headerOfAReceivedFrame : Obligations.HeaderOfAReceivedFrame := by
  intro p h rel s
  refine ⟨acceptHdr_keeps p h rel s, fun q other => acceptHdr_others p h rel s other, (acceptHdr_counts p h rel s).1,
    (acceptHdr_counts p h rel s).2, fun plain cur => plain ▸ acceptHdr_plain p h s cur,
    fun reliable cur => reliable ▸ (acceptHdr_reliable p h s cur).1, fun reliable cur => reliable ▸ (acceptHdr_reliable p h s cur).2.1,
    fun reliable cur => reliable ▸ (acceptHdr_reliable p h s cur).2.2,
    fun cur sent f waits later => acceptHdr_unacked_stays p h rel s cur sent waits later,
    fun cur sent none_ => acceptHdr_unacked_filter p h rel s cur sent none_, acceptHdr_reset_old p h rel s,
    fun _ new => acceptHdr_reset_ends p h rel s new⟩

end Sys2Proof.Safety

/-! ## SUPPORT. Operations that leave what the nodes have reported (05 R142 to R146; 06 R168; 11 R330)

A row that takes a frame writes the tables of its port first; the sequences, decisions, services and assays that follow read them.
One lemma per operation says that it leaves link states, frame counts, STAT, CAPS, EDGE_CNT, pack values and output states alone. -/

namespace Sys2Proof.Safety
open Sys2Proof.Machine

/-- What the frames of a port have left in its frame layer. -/
def framesTold (x : TxnSt) : Word × Option Stat × Option Caps × Option Word := (x.framesRx, x.stat, x.caps, x.edgeCnt)

/-- What the CELLS reports of a port have left of its pack. -/
def packTold (x : MeasSt) : Int × Int × Int × Bool × Word := (x.packI, x.packV, x.capV, x.hasReport, x.reports)

/-- Every port has its link state, its frame count, and the newest STAT, CAPS and EDGE_CNT of its node. -/
structure KeepsLinks (s t : State) : Prop where
  state : ∀ p : Chan, t.ports[p].state = s.ports[p].state
  frames : ∀ p : Chan, framesTold t.txns[p] = framesTold s.txns[p]

/-- Every channel keeps, besides, the pack values of its newest report and its reported output state. -/
structure KeepsTold (s t : State) : Prop extends KeepsLinks s t where
  pack : ∀ p : Chan, packTold t.meas[p] = packTold s.meas[p]
  output : ∀ p : Chan, t.insCh[p].repState = s.insCh[p].repState

section
variable {s t : State} (k : KeepsLinks s t) (p : Chan)
include k

theorem KeepsLinks.framesRx : t.txns[p].framesRx = s.txns[p].framesRx := congrArg Prod.fst (k.frames p)
theorem KeepsLinks.stat : t.txns[p].stat = s.txns[p].stat := congrArg (fun x => x.2.1) (k.frames p)
theorem KeepsLinks.caps : t.txns[p].caps = s.txns[p].caps := congrArg (fun x => x.2.2.1) (k.frames p)
theorem KeepsLinks.edgeCnt : t.txns[p].edgeCnt = s.txns[p].edgeCnt := congrArg (fun x => x.2.2.2) (k.frames p)

end

theorem keepsLinks_trans {s t u : State} (h : KeepsLinks s t) (k : KeepsLinks t u) : KeepsLinks s u :=
  ⟨fun p => (k.state p).trans (h.state p), fun p => (k.frames p).trans (h.frames p)⟩

theorem keepsLinks_of_same {s t : State} (ports : t.ports = s.ports) (txns : t.txns = s.txns) : KeepsLinks s t :=
  ⟨fun p => by rw [ports], fun p => by rw [txns]⟩

theorem keepsLinks_ite {s t u : State} {c : Prop} [Decidable c] (h : KeepsLinks s t) (k : KeepsLinks s u) :
    KeepsLinks s (if c then t else u) := by
  split <;> assumption

/-- The last operation first: it names the state that the others leave. -/
theorem told_after {s t u : State} (k : KeepsTold t u) (h : KeepsTold s t) : KeepsTold s u :=
  ⟨keepsLinks_trans h.toKeepsLinks k.toKeepsLinks, fun p => (k.pack p).trans (h.pack p), fun p => (k.output p).trans (h.output p)⟩

theorem told_of_same {s t : State} (ports : t.ports = s.ports) (txns : t.txns = s.txns) (meas : t.meas = s.meas)
    (insCh : t.insCh = s.insCh) : KeepsTold s t :=
  ⟨keepsLinks_of_same ports txns, fun p => by rw [meas], fun p => by rw [insCh]⟩

theorem told_refl (s : State) : KeepsTold s s := told_of_same rfl rfl rfl rfl

/-- An operation whose frame leaves those four parts alone. -/
theorem told_of_keeps {l : List Part} {s t : State} (k : KeepsBut l s t)
    (apart : [Part.ports, .txns, .meas, .insCh].all (fun p => decide (p ∉ l)) = true) : KeepsTold s t := by
  simp only [List.all_cons, List.all_nil, Bool.and_true, Bool.and_eq_true, decide_eq_true_eq] at apart
  obtain ⟨ports, txns, meas, insCh⟩ := apart
  exact told_of_same (k .ports ports) (k .txns txns) (k .meas meas) (k .insCh insCh)

theorem told_ite {s t u : State} {c : Prop} [Decidable c] (h : KeepsTold s t) (k : KeepsTold s u) :
    KeepsTold s (if c then t else u) := by
  split <;> assumption

theorem told_cond {s t u : State} {c : Prop} [Decidable c] (h : KeepsTold s t) (k : KeepsTold t u) :
    KeepsTold s (if c then u else t) :=
  told_ite (told_after k h) h

/-- Where the rest of an operation is not done. -/
theorem told_unless {s t u : State} {c : Prop} [Decidable c] (h : KeepsTold s t) (k : KeepsTold t u) :
    KeepsTold s (if c then t else u) :=
  told_ite h (told_after k h)

theorem told_forEach {α : Type} (xs : List α) (f : α → State → State) (s : State) (h : ∀ a t, KeepsTold t (f a t)) :
    KeepsTold s (forEach xs f s) := by
  unfold forEach
  induction xs generalizing s with
  | nil => exact told_refl s
  | cons x xs ih => exact told_after (ih _) (h x s)

/-- A loop that carries a result beside the state. -/
theorem told_foldl {α β : Type} (xs : List α) (f : β × State → α → β × State) (a : β × State)
    (h : ∀ b x, KeepsTold b.2 (f b x).2) : KeepsTold a.2 (xs.foldl f a).2 := by
  induction xs generalizing a with
  | nil => exact told_refl _
  | cons x xs ih => exact told_after (ih _) (h a x)

/-- A change of one entry that leaves a quantity of it leaves that of every entry. -/
theorem vmod_leaves {α β : Type} {n : Nat} (g : α → β) (v : Vector α n) (i : Fin n) {f : α → α} (h : ∀ x, g (f x) = g x)
    (j : Fin n) : g (vmod v i f)[j] = g v[j] := by
  by_cases e : j = i
  · subst e
    rw [vmod_get, h]
  · rw [vmod_get_ne _ _ _ _ e]

section
variable (n : Chan) (s : State)

/-! ### One entry of a part -/

theorem modPort_told {f : PortSt → PortSt} (h : ∀ x, (f x).state = x.state) : KeepsTold s (modPort n f s) :=
  ⟨⟨vmod_leaves PortSt.state s.ports n h, fun _ => rfl⟩, fun _ => rfl, fun _ => rfl⟩

theorem modTxn_told {f : TxnSt → TxnSt} (h : ∀ x, framesTold (f x) = framesTold x) : KeepsTold s (modTxn n f s) :=
  ⟨⟨fun _ => rfl, vmod_leaves framesTold s.txns n h⟩, fun _ => rfl, fun _ => rfl⟩

theorem modMeas_told {f : MeasSt → MeasSt} (h : ∀ x, packTold (f x) = packTold x) : KeepsTold s (modMeas n f s) :=
  ⟨⟨fun _ => rfl, fun _ => rfl⟩, vmod_leaves packTold s.meas n h, fun _ => rfl⟩

theorem modIns_told {f : InsCh → InsCh} (h : ∀ x, (f x).repState = x.repState) : KeepsTold s (modIns n f s) :=
  ⟨⟨fun _ => rfl, fun _ => rfl⟩, fun _ => rfl, vmod_leaves InsCh.repState s.insCh n h⟩

theorem modCon_told (f : ConCh → ConCh) : KeepsTold s (modCon n f s) := told_of_same rfl rfl rfl rfl
theorem modCyc_told (f : CycCh → CycCh) : KeepsTold s (modCyc n f s) := told_of_same rfl rfl rfl rfl
theorem modAsy_told (f : AsyCh → AsyCh) : KeepsTold s (modAsy n f s) := told_of_same rfl rfl rfl rfl
theorem modThm_told (f : ThmCh → ThmCh) : KeepsTold s (modThm n f s) := told_of_same rfl rfl rfl rfl
theorem modGrp_told (k : Nat) (f : GrpSt → GrpSt) : KeepsTold s (modGrp n k f s) := modAsy_told ..
theorem modCell_told (i : Nat) (f : CellSt → CellSt) : KeepsTold s (modCell n i f s) := modMeas_told _ _ fun _ => rfl
theorem modTemp_told (i : Nat) (f : TempSt → TempSt) : KeepsTold s (modTemp n i f s) := modMeas_told _ _ fun _ => rfl

theorem withStg_told (x : StgSt) : KeepsTold s { s with stg := x } := told_of_same rfl rfl rfl rfl
theorem withTwn_told (x : TwnSt) : KeepsTold s { s with twn := x } := told_of_same rfl rfl rfl rfl
theorem withQm_told (x : QmSt) : KeepsTold s { s with qm := x } := told_of_same rfl rfl rfl rfl

/-- A change of some groups of a channel. -/
theorem modGrps_told (l : List Nat) (f : Nat → GrpSt → GrpSt) : KeepsTold s (forEach l (fun i s => modGrp n i (f i) s) s) :=
  told_forEach _ _ _ fun _ _ => modGrp_told ..

/-! ### Events, faults, records and commands in hand -/

theorem raise_told (code subject : Nat) (data : List Nat) : KeepsTold s (raise code subject data s) :=
  told_of_keeps (raise_keeps _ _ _ _) (by decide)

theorem raiseAt_told (code level : Nat) (pin : Bool) (time : DWord) (subject : Nat) (data : List Nat) :
    KeepsTold s (raiseAt code level pin time subject data s) := told_of_keeps (raiseAt_keeps _ _ _ _ _ _ _) (by decide)

theorem raiseFault_told (cause subject level : Nat) (permanent : Bool) (origin : Nat) :
    KeepsTold s (raiseFault cause subject level permanent origin s) := told_of_keeps (raiseFault_keeps _ _ _ _ _ _) (by decide)

theorem endFault_told (cause subject : Nat) : KeepsTold s (endFault cause subject s) :=
  told_of_keeps (endFault_keeps _ _ _) (by decide)

theorem endL1_told (cause subject : Nat) : KeepsTold s (endL1 cause subject s) := told_of_keeps (endL1_keeps _ _ _) (by decide)

theorem queueWrite_told (w : StoreWrite) : KeepsTold s (queueWrite w s) := told_of_keeps (queueWrite_keeps w s) (by decide)

theorem markDirty_told : KeepsTold s (markDirty n s) := told_of_same rfl rfl rfl rfl

theorem finishAll_told (sel : Pend → Bool) (r : Pend → Reply) : KeepsTold s (finishAll sel r s) := told_of_same rfl rfl rfl rfl

theorem completeTaken_told (op : Nat) (r : Reply) : KeepsTold s (completeTaken op r s) :=
  told_of_keeps (completeTaken_keeps op r s) (by decide)

/-! ### Frames that leave (05 R130 to R134; 08 R223 to R235) -/

theorem sendPlain_told : KeepsTold s (sendPlain n s) := modTxn_told _ _ fun _ => rfl

theorem sendBody_told (b : DownBody) : KeepsTold s (sendBody n b s) :=
  modTxn_told _ _ fun _ => by split <;> rfl

theorem sendCmd_told (code : Nat) (args : List Byte) (q : CmdPurpose) : KeepsTold s (sendCmd n code args q s) :=
  told_after (sendBody_told ..) (modTxn_told _ _ fun _ => rfl)

theorem streamReset_told (atExchange : Bool) : KeepsTold s (streamReset n atExchange s) :=
  told_unless (modTxn_told _ _ fun _ => rfl) (raise_told ..)

theorem sendSched_told (gen : Word) (first h : Nat) (closing : Bool) (entries : List SchedEntry) :
    KeepsTold s (sendSched n gen first h closing entries s) := by
  unfold sendSched
  dsimp only
  refine told_after (modTxn_told _ _ fun _ => rfl) (told_cond (told_after (sendPlain_told ..) ?drawn) ?split)
  case drawn => split <;> exact told_of_same rfl rfl rfl rfl
  case split => exact told_after (withStg_told ..) (sendPlain_told ..)

theorem formHorizon_told (closing : Bool) (first h : Nat) : KeepsTold s (formHorizon closing first h s) := by
  unfold formHorizon
  dsimp only
  refine told_after (told_forEach _ _ _ fun _ _ => modIns_told _ _ fun _ => rfl) ?_
  refine told_cond (told_ite ?formed (told_refl s)) ?closed
  case formed =>
    have sent (l : List Chan) (f : Chan → State → State) (x : StgSt) (h : ∀ p t, KeepsTold t (f p t)) :
        KeepsTold s (forEach l f { useGen s with stg := x }) :=
      told_after (told_forEach _ _ _ h) (told_of_same rfl rfl rfl rfl)
    split
    · exact told_after (told_of_keeps (mirrorSet_keeps _ _ _ _ _ _) (by decide)) (sent _ _ _ fun _ _ => sendSched_told ..)
    · exact sent _ _ _ fun _ _ => sendSched_told ..
  case closed =>
    have segment (o : Option PeriodSet) (t : State) : KeepsTold t (match o with
        | some x => closeSegment first x t
        | none => t) := by
      cases o
      · exact told_refl t
      · exact told_of_keeps (closeSegment_keeps _ _ _) (by decide)
    refine told_after (segment _ _) ?_
    refine told_cond (told_after (told_forEach _ _ _ fun _ _ => modIns_told _ _ fun _ => rfl) (told_forEach _ _ _ ?_))
      (told_forEach _ _ _ fun _ _ => told_ite (told_refl _) (modIns_told _ _ fun _ => rfl))
    intro x t
    split
    · exact modIns_told _ _ fun _ => rfl
    · exact told_refl t

/-! ### Restages and ABORT (08 R231 to R235) -/

theorem restageNow_told : KeepsTold s (restageNow s).2 := by
  unfold restageNow
  split
  · exact told_refl s
  · exact told_after (withStg_told ..) (formHorizon_told ..)

theorem restage_told (cause : Nat) : KeepsTold s (restage cause s) := by
  unfold restage restageFor
  split
  · exact told_refl s
  · dsimp only
    split
    · exact told_after (withStg_told ..) (restageNow_told s)
    · exact told_after (withStg_told ..) (restageNow_told s)
    · exact told_after (raise_told ..) (restageNow_told s)

theorem sendAbort_told (action : Byte) : KeepsTold s (sendAbort n action s) := by
  refine told_ite (told_after (withStg_told ..) ?_) (told_refl s)
  refine told_after (modIns_told _ _ fun _ => rfl) (told_after (sendBody_told ..) ?_)
  exact withStg_told ..

/-! ### States and sequences of a channel (11 R328 to R337) -/

theorem chEvent_told (code old new cause : Nat) (host ended : Bool) (count : Nat) :
    KeepsTold s (chEvent code n old new cause host ended count s) := raise_told ..

theorem weldEvent_told (kind : Nat) : KeepsTold s (weldEvent n kind s) := raise_told ..

theorem prechargeEvent_told (reason elapsed : Nat) : KeepsTold s (prechargeEvent n reason elapsed s) := raise_told ..

theorem abortCycle_told (reason : Nat) : KeepsTold s (abortCycle n reason s) := told_of_keeps (abortCycle_keeps n reason s) (by decide)

theorem dropService_told (st : Status) : KeepsTold s (dropService n st s) := told_of_keeps (dropService_keeps n st s) (by decide)

theorem endSeq_told (st : Status) : KeepsTold s (endSeq n st s) := told_of_keeps (endSeq_keeps n st s) (by decide)

theorem seqStep_told (st : ConStep) : KeepsTold s (seqStep n st s) := told_of_keeps (seqStep_keeps n st s) (by decide)

theorem startSeq_told (kind : SeqKind) (st : ConStep) (host : Bool) (cause : Nat) : KeepsTold s (startSeq n kind st host cause s) :=
  told_of_keeps (startSeq_keeps n kind st host cause s) (by decide)

theorem setCh_told (new : ChState) (cause : Nat) (host : Bool) : KeepsTold s (setCh n new cause host s) := by
  unfold setCh
  dsimp only
  refine told_ite (told_refl s) (told_after (markDirty_told ..) (told_after (chEvent_told ..) ?_))
  refine told_cond (told_cond ?_ (modIns_told _ _ fun _ => rfl)) (queueWrite_told ..)
  exact told_unless (told_cond (modCon_told ..) (abortCycle_told ..)) (dropService_told ..)

theorem clearHolds_told : KeepsTold s (clearHolds n s) := modCon_told ..

theorem protect_told (cause : Nat) (atOnce : Bool) : KeepsTold s (protect n cause atOnce s) := by
  unfold protect
  dsimp only
  refine told_unless ?_ (told_after (markDirty_told ..) (told_after (restage_told ..) (chEvent_told ..)))
  exact told_cond (told_cond (modCon_told ..) (setCh_told ..)) (sendAbort_told ..)

theorem unprotect_told (cause : Nat) : KeepsTold s (unprotect n cause s) := by
  refine told_ite (told_after (markDirty_told ..) (told_after (restage_told ..) ?_)) (told_refl s)
  exact told_after (chEvent_told ..) (modCon_told ..)

theorem countDecision_told (c : Nat) : KeepsTold s (countDecision n c s).2 := told_of_keeps (countDecision_keeps n c s) (by decide)

theorem abandon_told (st : Status) : KeepsTold s (abandon n st s) := by
  unfold abandon
  split
  · exact told_refl s
  · exact told_after (endSeq_told ..) (told_cond (told_refl s) (prechargeEvent_told ..))

theorem startDisc_told (kind : SeqKind) (host : Bool) (cause : Nat) (atOnce : Bool) :
    KeepsTold s (startDisc n kind host cause atOnce s) :=
  told_after (startSeq_told ..) (told_ite (modCon_told ..) (protect_told ..))

/-! ### Module decisions (11 R340 to R346) -/

/-- A decision that retires by its count, or else does `t` (R344). -/
theorem retireByCount_told {t : State} (c : Nat) (f : ConCh → ConCh) (h : KeepsTold (countDecision n c s).2 t) :
    KeepsTold s (if (countDecision n c s).1 then
      raiseFault 0x0281 n.val 1 true (lastSeq (modCon n f (countDecision n c s).2)).toNat (modCon n f (countDecision n c s).2)
      else t) := by
  refine told_ite ?_ (told_after h (countDecision_told ..))
  exact told_after (raiseFault_told ..) (told_after (modCon_told ..) (countDecision_told ..))

theorem decideFence_told (c : Nat) : KeepsTold s (decideFence n c s) :=
  retireByCount_told n s c _ (told_after (raiseFault_told ..) (modCon_told ..))

theorem decideRetire_told (c : Nat) : KeepsTold s (decideRetire n c s) :=
  told_after (raiseFault_told ..) (told_after (modCon_told ..) (told_cond (told_refl s) (modCon_told ..)))

theorem decideDisconnect_told (c : Nat) (atOnce : Bool) : KeepsTold s (decideDisconnect n c atOnce s) :=
  told_ite (told_refl s) (retireByCount_told n s c _ (told_after (startDisc_told ..) (abandon_told ..)))

theorem decideHold_told (c : Nat) (atOnce : Bool) : KeepsTold s (decideHold n c atOnce s) :=
  told_ite (told_refl s) (told_after (protect_told ..) (told_cond (told_refl s) (abandon_told ..)))

theorem actOn_told (c : Nat) : KeepsTold s (actOn n c s) := by
  have retire (k : Nat) : KeepsTold s (if strength s n ≥ 4 then s else decideRetire n k s) :=
    told_ite (told_refl s) (decideRetire_told ..)
  have fence (k : Nat) : KeepsTold s (if strength s n ≥ 3 then s else decideFence n k s) :=
    told_ite (told_refl s) (decideFence_told ..)
  unfold actOn
  split
  case h_1 | h_2 | h_3 | h_8 => exact decideDisconnect_told ..
  case h_4 | h_5 => exact retire _
  case h_6 | h_7 => exact decideHold_told ..
  case h_9 =>
    split
    · exact decideHold_told ..
    · exact decideDisconnect_told ..
    · exact told_refl s
  case h_10 | h_11 | h_12 | h_13 | h_14 | h_15 => exact fence _
  case h_16 => exact told_refl s

theorem causeOn_told (c : Nat) : KeepsTold s (causeOn n c s) :=
  told_ite (told_refl s) (told_after (actOn_told ..) (told_after (markDirty_told ..) (modCon_told ..)))

theorem causeOnAt_told (c detail : Nat) : KeepsTold s (causeOnAt n c detail s) :=
  told_ite (told_refl s) (told_after (causeOn_told ..) (modCon_told ..))

theorem causeOff_told (c : Nat) : KeepsTold s (causeOff n c s) := by
  refine told_ite (told_refl s) (told_after (unprotect_told ..) (told_cond (told_after (endFault_told ..) ?_) (modCon_told ..)))
  exact told_after (markDirty_told ..) (modCon_told ..)

/-! ### Sequences (11 R332 to R337) -/

theorem retireNow_told : KeepsTold s (retireNow n s) := by
  unfold retireNow
  dsimp only
  refine told_after (endSeq_told ..) (told_after (queueWrite_told ..) (told_after (chEvent_told ..) (told_after (setCh_told ..) ?_)))
  exact told_after (modCon_told ..) (clearHolds_told ..)

theorem prechargeFail_told (reason elapsed : Nat) : KeepsTold s (prechargeFail n reason elapsed s) := by
  unfold prechargeFail
  dsimp only
  refine told_after (endSeq_told ..) (told_after (setCh_told ..) (told_after (clearHolds_told ..) ?_))
  generalize ht : (if reason = 2 then prechargeEvent n reason elapsed s
    else sendPrecharge n false .protect (prechargeEvent n reason elapsed s)) = t
  refine told_after (retireByCount_told n t 13 _ (told_refl _)) ?_
  exact ht ▸ told_unless (prechargeEvent_told ..) (sendCmd_told ..)

theorem contactBad_told (kind : Nat) : KeepsTold s (contactBad n kind s) :=
  told_after (causeOn_told ..) (told_after (abandon_told ..) (weldEvent_told ..))

theorem discEnd_told : KeepsTold s (discEnd n s) := by
  unfold discEnd
  split
  · exact told_refl s
  next q _ =>
    have opened (cause : Nat) (host : Bool) : KeepsTold s (setCh n .disconnected cause host (clearHolds n s)) :=
      told_after (setCh_told ..) (clearHolds_told ..)
    split
    · exact retireNow_told ..
    · exact told_after (seqStep_told ..) (told_after (sendCmd_told ..) (opened _ _))
    · refine told_after (endSeq_told ..) (told_after (setCh_told ..) (told_after (clearHolds_told ..) ?_))
      refine told_after (queueWrite_told ..) (told_after (endL1_told ..) (told_after (endL1_told ..) ?_))
      exact told_after (endL1_told ..) (modCon_told ..)
    · exact told_after (endSeq_told ..) (told_unless (opened _ _) (chEvent_told ..))

theorem sendContactor_told (close : Bool) : KeepsTold s (sendContactor n close s) :=
  told_after (sendCmd_told ..) (modCon_told ..)

theorem closedPassed_told : KeepsTold s (closedPassed n s) :=
  told_ite (told_after (seqStep_told ..) (sendCmd_told ..)) (modCon_told ..)

theorem seqAdvance_told (report : Option Int) : KeepsTold s (seqAdvance n report s) := by
  unfold seqAdvance
  split
  · exact told_refl s
  next q _ =>
    split
    case h_1 =>
      refine told_ite (told_refl s) ?_
      split
      · exact seqStep_told ..
      · exact told_after (endSeq_told ..) (setCh_told ..)
      · exact told_after (seqStep_told ..) (told_cond (told_refl s) (setCh_told ..))
    case h_2 => exact told_ite (told_refl s) (seqStep_told ..)
    case h_3 =>
      refine told_ite (told_refl s) ?_
      split
      · exact discEnd_told ..
      · exact told_ite (told_refl s) (told_after (seqStep_told ..) (sendCmd_told ..))
    case h_4 =>
      refine told_ite (told_refl s) (told_ite (prechargeFail_told ..) (told_ite (told_refl s) ?_))
      exact told_after (seqStep_told ..) (sendContactor_told ..)
    case h_5 =>
      refine told_ite (contactBad_told ..) (told_ite (closedPassed_told ..) (told_ite ?_ ?_))
      · exact told_ite (told_after (seqStep_told ..) (modCon_told ..)) (told_refl s)
      · exact told_ite (contactBad_told ..) (told_refl s)
    case h_6 =>
      split
      · exact told_refl s
      · exact told_ite (told_after (seqStep_told ..) (sendContactor_told ..)) (told_refl s)
    case h_7 =>
      refine told_ite (contactBad_told ..) (told_ite (told_ite ?_ (discEnd_told ..)) (told_refl s))
      exact told_after (seqStep_told ..) (sendCmd_told ..)
    case h_8 => exact told_refl s

theorem seqPoll_told (report : Option Int) : KeepsTold s (seqPoll n report s) :=
  told_after (seqAdvance_told ..) (told_after (seqAdvance_told ..) (seqAdvance_told ..))

/-! ### The arm-trip request (11 R347; 08 R256) -/

theorem assertTrip_told (cause : Byte) (packI : Int) : KeepsTold s (assertTrip cause packI s) :=
  told_ite (told_refl s) (told_after (raise_told ..) (withQm_told ..))

theorem releaseTrip_told : KeepsTold s (releaseTrip s) :=
  told_ite (told_ite (told_after (raise_told ..) (withQm_told ..)) (told_refl s)) (told_refl s)

theorem checkA1_told (w : Int) : KeepsTold s (checkA1 n w s) := by
  refine told_ite ?_ (told_ite ?_ (told_refl s))
  · exact told_after (causeOn_told ..) (told_after (assertTrip_told ..) (withQm_told ..))
  · exact told_after (releaseTrip_told _) (told_after (causeOff_told ..) (withQm_told ..))

/-! ### Causes that the tables show (11 R332, R340, R341; 06 R189) -/

theorem judgeCells_told : KeepsTold s (judgeCells n s) := by
  refine told_cond (told_cond ?_ (causeOff_told ..)) (causeOff_told ..)
  split
  · exact causeOnAt_told ..
  · exact told_refl s

theorem judgeTemps_told : KeepsTold s (judgeTemps n s) := by
  unfold judgeTemps
  split
  · exact causeOnAt_told ..
  · exact causeOnAt_told ..
  · exact told_ite (causeOff_told ..) (told_refl s)

theorem judgePlaus_told : KeepsTold s (judgePlaus n s) := told_ite (causeOnAt_told ..) (causeOff_told ..)

theorem judgeWires_told : KeepsTold s (judgeWires n s) := by
  unfold judgeWires
  split
  · exact causeOff_told ..
  · exact causeOnAt_told ..

theorem judgeAuth_told : KeepsTold s (judgeAuth n s) :=
  told_ite (causeOff_told ..) (told_cond (told_refl s) (causeOn_told ..))

theorem judgeContact_told : KeepsTold s (judgeContact n s) := told_ite (causeOff_told ..) (told_refl s)

theorem layToWire_told : KeepsTold s (layToWire n s) := by
  have moved (k : Nat) (f : ConCh → ConCh) (t : State) :
      KeepsTold t (if !hasCause t n k then t else uncount n k (modCon n f t)) :=
    told_ite (told_refl t) (told_after (modCon_told ..) (modCon_told ..))
  unfold layToWire
  split
  · exact told_refl s
  · exact told_ite (told_refl s) (told_after (moved 1 _ _) (told_after (moved 2 _ _) (modMeas_told _ _ fun _ => rfl)))

/-! ### Cell and temperature tables (06 R169 to R171) -/

theorem updateCell_told (x : CellsReport) (mask : BitVec 256) (i : Nat) (v : Half) : KeepsTold s (updateCell n x mask i v s) := by
  refine told_ite (modCell_told ..) (told_ite (modCell_told ..) (told_ite ?across (told_ite ?corrected (modCell_told ..))))
  case across =>
    split
    · exact told_ite (modCell_told ..) (modCell_told ..)
    · exact modCell_told ..
  case corrected =>
    split
    · exact told_ite (modCell_told ..) (modCell_told ..)
    · exact modCell_told ..

theorem markStale_told : KeepsTold s (markStale n s) :=
  told_after (told_forEach _ _ _ fun _ t => told_ite (modTemp_told ..) (told_refl t))
    (told_forEach _ _ _ fun _ t => told_ite (modCell_told ..) (told_refl t))

/-! ### Sense wires and plausibility (06 R174 to R188) -/

theorem plausEvent_told (cell : Nat) (sum ended : Bool) (main other : Nat) :
    KeepsTold s (plausEvent n cell sum ended main other s) :=
  told_after (raise_told ..) (modMeas_told _ _ fun _ => rfl)

theorem startWireTest_told (k : Nat) : KeepsTold s (startWireTest n k s) :=
  told_ite (told_refl s) (told_after (sendCmd_told ..) (modMeas_told _ _ fun _ => rfl))

theorem nextSuspect_told : KeepsTold s (nextSuspect n s) := by
  unfold nextSuspect
  split
  · exact startWireTest_told ..
  · exact told_refl s

theorem suspectWire_told (k : Nat) : KeepsTold s (suspectWire n k s) := by
  refine told_ite (told_refl s) (told_after (nextSuspect_told ..) ?_)
  exact told_after (modMeas_told _ _ fun _ => rfl) (told_cond (told_refl s) (modAsy_told ..))

theorem endSuspect_told (k : Nat) : KeepsTold s (endSuspect n k s) :=
  told_after (nextSuspect_told ..) (told_after (modAsy_told ..) (modMeas_told _ _ fun _ => rfl))

theorem latchPlaus_told (i main other : Nat) : KeepsTold s (latchPlaus n i main other s) :=
  told_ite (told_refl s) (told_after (plausEvent_told ..) (modCell_told ..))

theorem confirmOpen_told (w : Suspect) (checked cellFault : Bool) : KeepsTold s (confirmOpen n w checked cellFault s) := by
  unfold confirmOpen
  dsimp only
  refine told_unless ?_ (told_after (judgePlaus_told ..) (told_forEach _ _ _ fun _ t => told_ite (latchPlaus_told ..) (told_refl t)))
  refine told_after (markDirty_told ..) (told_after (layToWire_told ..) (told_after (judgeWires_told ..) ?_))
  refine told_after (raise_told ..) (told_after (raise_told ..) (told_after (endSuspect_told ..) ?_))
  exact modMeas_told _ _ fun _ => rfl

theorem classifyWires_told : KeepsTold s (classifyWires n s) :=
  told_forEach _ _ _ fun _ t => told_ite (confirmOpen_told ..) (told_ite (confirmOpen_told ..) (told_refl t))

theorem stackSum_told : KeepsTold s (stackSum n s) := by
  unfold stackSum
  dsimp only
  refine told_ite (told_refl s) (told_ite (told_cond ?counted (told_after (plausEvent_told ..) (modMeas_told _ _ fun _ => rfl)))
    (told_ite ?counted (told_ite ?counted (told_ite ?suspects ?faults))))
  case counted => exact modMeas_told _ _ fun _ => rfl
  case suspects =>
    split
    · exact told_after (suspectWire_told ..) (modMeas_told _ _ fun _ => rfl)
    · exact modMeas_told _ _ fun _ => rfl
  case faults =>
    refine told_after (plausEvent_told ..) (told_after (modMeas_told _ _ fun _ => rfl) ?_)
    exact modMeas_told _ _ fun _ => rfl

theorem deviations_told : KeepsTold s (deviations n s) :=
  told_after (told_forEach _ _ _ fun _ _ => suspectWire_told ..) (modMeas_told _ _ fun _ => rfl)

/-! ### Gaps, relaxations and bursts (09 R271 to R273; 10 R291 to R297) -/

theorem gapReport_told (wStart : Int) (wEnd : DWord) (packI : Int) : KeepsTold s (gapReport n wStart wEnd packI s) := by
  unfold gapReport
  split
  · exact told_refl s
  · refine told_ite (told_refl s) (told_unless (modAsy_told ..) (told_forEach _ _ _ fun _ _ => ?_))
    exact told_ite (modGrp_told ..) (modGrp_told ..)

theorem relaxBegin_told : KeepsTold s (relaxBegin n s) := by
  unfold relaxBegin
  split
  · exact told_refl s
  · exact modAsy_told ..

theorem relaxReport_told (wStart : Int) (wEnd : DWord) (packI : Int) : KeepsTold s (relaxReport n wStart wEnd packI s) := by
  have begun : KeepsTold s (if s.asyCh[n].relax.isNone then relaxBegin n s else s) := told_cond (told_refl s) (relaxBegin_told ..)
  refine told_ite (told_refl s) ?_
  dsimp only
  split
  · exact begun
  · exact told_unless begun (modAsy_told ..)

theorem gapBegin_told (t : DWord) : KeepsTold s (gapBegin n t s) := told_after (modGrps_told ..) (modAsy_told ..)

theorem anchorGroup_told (g : GapSt) (t : DWord) (k : Nat) : KeepsTold s (anchorGroup n g t k s) := by
  unfold anchorGroup
  split
  · exact told_refl s
  · refine told_ite (told_refl s) ?_
    dsimp only
    split
    · exact modAsy_told ..
    · exact told_ite (modAsy_told ..) (told_after (modAsy_told ..) (modGrp_told ..))

theorem takeAnchor_told (t : DWord) : KeepsTold s (takeAnchor n t s) := by
  unfold takeAnchor
  split
  · exact told_refl s
  · exact told_ite (told_forEach _ _ _ fun _ _ => anchorGroup_told ..) (told_refl s)

theorem slowFit_told (r : RelaxSt) (lasted : Rat) (k : Nat) : KeepsTold s (slowFit n r lasted k s) := by
  unfold slowFit
  split
  · exact told_refl s
  · exact told_ite (told_refl s) (told_after (modCyc_told ..) (modGrp_told ..))

theorem relaxEnd_told (t : DWord) : KeepsTold s (relaxEnd n t s) := by
  unfold relaxEnd
  split
  · exact told_refl s
  · exact told_unless (modAsy_told ..) (told_forEach _ _ _ fun _ _ => slowFit_told ..)

theorem gapClose_told (t : DWord) : KeepsTold s (gapClose n t s) :=
  told_after (modAsy_told ..) (told_after (takeAnchor_told ..) (relaxEnd_told ..))

theorem burstGroup_told (t : BurstTimes) (e : EdgeSeen) (k : Nat) (x : BurstSample) : KeepsTold s (burstGroup n t e k x s).2 := by
  unfold burstGroup
  dsimp only
  split
  · split
    · exact told_refl s
    · split
      · exact told_refl s
      · dsimp only
        exact modGrp_told ..
  · exact told_refl s

theorem burstPair_told (t : BurstTimes) (e : EdgeSeen) (samples : List BurstSample) : KeepsTold s (burstPair n t e samples s) := by
  unfold burstPair
  split
  · exact told_refl s
  · dsimp only
    split
    · exact told_ite (told_refl s) (modAsy_told ..)
    · exact told_refl s

theorem burstDone_told (b : BurstSt) (e : EdgeSeen) : KeepsTold s (burstDone n b e s) := by
  unfold burstDone
  dsimp only
  refine told_ite (told_after (modCyc_told ..) (modAsy_told ..)) ?_
  refine told_after (modCyc_told ..) (told_after (burstPair_told ..) ?_)
  exact told_after (told_foldl _ _ _ fun _ _ => burstGroup_told ..) (modAsy_told ..)

theorem burstMatch_told : KeepsTold s (burstMatch n s) := by
  unfold burstMatch
  split
  · exact told_refl s
  · refine told_ite (told_refl s) ?_
    split
    · exact burstDone_told ..
    · exact told_refl s

theorem reportAssay_told (x : CellsReport) (wStart : Int) : KeepsTold s (reportAssay n x wStart s) :=
  told_after (relaxReport_told ..) (told_after (gapReport_told ..) (modAsy_told ..))

theorem edgeStream_told (x : ExecRec) : KeepsTold s (edgeStream n x s) :=
  told_forEach _ _ _ fun _ _ => told_of_keeps (modRing_keeps _ _ _) (by decide)

theorem edgeGap_told (time stop : DWord) (st : Option OutState) : KeepsTold s (edgeGap n time stop st s) := by
  unfold edgeGap
  split
  · exact gapClose_told ..
  · exact gapClose_told ..
  · exact told_ite (told_refl s) (gapBegin_told ..)
  · exact told_ite (told_refl s) (gapBegin_told ..)
  · exact told_after (modAsy_told ..) (told_cond (told_refl s) (takeAnchor_told ..))

/-! ### Node services (12 R380, R381) -/

theorem putService_told (v : ServiceSt) : KeepsTold s (putService n v s) := told_of_same rfl rfl rfl rfl

theorem servicePoll_told : KeepsTold s (servicePoll n s) := by
  have sent (v : ServiceSt) (code : Nat) (args : List Byte) (q : CmdPurpose) :
      KeepsTold s (sendCmd n code args q (putService n v s)) := told_after (sendCmd_told ..) (putService_told ..)
  unfold servicePoll
  split
  · exact told_refl s
  · exact told_ite (told_ite (sent ..) (sent ..)) (told_refl s)

theorem takeHold_told : KeepsTold s (takeHold n s) := by
  unfold takeHold
  split
  · exact told_refl s
  · refine told_ite (told_after (withTwn_told ..) (putService_told ..)) ?_
    refine told_after (servicePoll_told ..) (told_after (markDirty_told ..) (told_after (modCon_told ..) ?_))
    exact told_after (abortCycle_told ..) (told_after (withTwn_told ..) (putService_told ..))

theorem nextHold_told : KeepsTold s (nextHold s) := by
  unfold nextHold
  split
  · exact told_after (takeHold_told ..) (withTwn_told ..)
  · exact told_refl s

theorem endService_told (st : Status) : KeepsTold s (endService n st s) :=
  told_after (nextHold_told _) (told_after (markDirty_told ..) (dropService_told ..))

theorem serviceCaps_told (image : Word) : KeepsTold s (serviceCaps n image s) := by
  unfold serviceCaps
  split
  · exact told_refl s
  · exact told_ite (told_refl s) (told_ite (putService_told ..) (endService_told ..))

/-! ### The touchmark at an exchange (10 R321 to R324) -/

theorem touchSend_told : KeepsTold s (touchSend n s) := by
  unfold touchSend
  split
  · exact told_refl s
  · split
    · exact sendCmd_told ..
    · split
      · exact sendCmd_told ..
      · exact told_refl s
    · split
      · exact sendCmd_told ..
      · exact told_refl s

theorem setTouch_told (t : TouchSt) : KeepsTold s (setTouch n t s) := told_after (touchSend_told ..) (modCyc_told ..)

theorem setUnverified_told : KeepsTold s (setUnverified n s) :=
  told_unless (told_after (modGrps_told ..) (modCyc_told ..)) (queueWrite_told ..)

theorem unverifiedEvent_told (cause : Nat) (ended : Bool) : KeepsTold s (unverifiedEvent n cause ended s) :=
  told_after (raise_told ..) (modCyc_told ..)

theorem noAuth_told (cause : Nat) (changed : Bool) : KeepsTold s (noAuth n cause changed s) := by
  refine told_cond (told_after (modCyc_told ..) (modCyc_told ..)) ?_
  exact told_after (unverifiedEvent_told ..) (told_after (setUnverified_told ..) (told_of_same rfl rfl rfl rfl))

theorem packExchange_told (c : Caps) (changed : Bool) : KeepsTold s (packExchange n c changed s) := by
  have judged (f : CycCh → CycCh) : KeepsTold s (judgeAuth n (modCyc n f s)) := told_after (judgeAuth_told ..) (modCyc_told ..)
  refine told_ite (told_refl s) (told_ite (told_after (noAuth_told ..) (judged _)) ?_)
  exact told_ite (told_after (noAuth_told ..) (judged _)) (told_cond (judged _) (setTouch_told ..))

theorem wake_told (now : DWord) : KeepsTold s (wake n now s) := by
  refine told_ite (told_refl s) (told_after (queueWrite_told ..) (told_cond ?_ ?_))
  · exact told_after (modCyc_told ..) (modGrps_told ..)
  · exact told_after (unverifiedEvent_told ..) (setUnverified_told ..)

/-! ### Delays (04 R115 to R119) -/

theorem setDelay_told (d round : Rat) : KeepsTold s (setDelay n d round s).2 := by
  unfold setDelay
  dsimp only
  refine told_cond ?_ (restage_told ..)
  exact told_after (told_of_keeps (recomputeDeadline_keeps _) (by decide)) (modPort_told _ _ fun _ => rfl)

theorem trackDelay_told (down : Rat) : KeepsTold s (trackDelay n down s) := by
  unfold trackDelay
  split
  · exact told_refl s
  · refine told_ite (told_after (setDelay_told ..) (modPort_told _ _ fun _ => rfl)) (told_unless (modPort_told _ _ fun _ => rfl) ?_)
    exact told_after (raise_told ..) (told_after (setDelay_told ..) (modPort_told _ _ fun _ => rfl))

theorem retestTake_told (down : Rat) : KeepsTold s (retestTake n down s) := by
  unfold retestTake
  split
  · exact told_refl s
  · refine told_ite (modPort_told _ _ fun _ => rfl) (told_after (finishAll_told ..) ?_)
    exact modPort_told _ _ fun _ => rfl

theorem timingReply_told (x : Stat) (t4 : Stamp) : KeepsTold s (timingReply n x t4 s) := by
  unfold timingReply
  split
  · exact told_refl s
  · dsimp only
    split
    · exact told_after (retestTake_told ..) (told_after (trackDelay_told ..) (modPort_told _ _ fun _ => rfl))
    · split
      · exact told_after (modPort_told _ _ fun _ => rfl) (modPort_told _ _ fun _ => rfl)
      · exact told_after (modPort_told _ _ fun _ => rfl) (modPort_told _ _ fun _ => rfl)
    · exact modPort_told _ _ fun _ => rfl

/-! ### Placing channels (02 R44; 11 R349) -/

theorem settlePort_told : KeepsTold s (settlePort n s) := modPort_told _ _ fun _ => rfl

theorem placeFenced_told (cause : Nat) : KeepsTold s (placeFenced n cause s) := told_after (setCh_told ..) (modCon_told ..)

theorem placeDark_told : KeepsTold s (placeDark n s) := told_ite (setCh_told ..) (told_ite (setCh_told ..) (placeFenced_told ..))

theorem settleRefused_told : KeepsTold s (settleRefused n s) :=
  told_ite (told_refl s) (told_after (settlePort_told ..) (placeDark_told ..))

theorem placeStart_told : KeepsTold s (placeStart n s) := by
  have settled (new : ChState) (cause : Nat) : KeepsTold s (settlePort n (setCh n new cause false s)) :=
    told_after (settlePort_told ..) (setCh_told ..)
  refine told_ite (settled ..) (told_ite ?dormant (told_ite (told_refl s) ?first))
  case dormant =>
    split
    · exact settled ..
    · exact settled ..
    · exact told_refl s
  case first =>
    split
    · exact settled ..
    · exact told_cond (settled ..) (sendAbort_told ..)
    · exact told_after (settlePort_told ..) (placeFenced_told ..)
    · exact told_refl s

/-! ### Roles and generations (12 R357 to R359; 08 R226) -/

theorem judgeRole_told : KeepsTold s (judgeRole s) := by
  unfold judgeRole
  split
  · exact told_refl s
  · exact told_after (raiseAt_told ..) (withTwn_told ..)

theorem dropFrames_told : KeepsTold s (dropFrames n s) :=
  told_after (modTxn_told _ _ fun _ => rfl) (modIns_told _ _ fun _ => rfl)

theorem dropTrip_told : KeepsTold s (dropTrip s) := told_ite (told_refl s) (told_after (raise_told ..) (withQm_told ..))

theorem withRole_told (ins : InsSt) (img : ImgSt) (stg : StgSt) (twn : TwnSt) :
    KeepsTold s { s with ins := ins, img := img, stg := stg, twn := twn } := told_of_same rfl rfl rfl rfl

theorem becomeStandby_told (cause : Nat) : KeepsTold s (becomeStandby cause s) := by
  unfold becomeStandby
  dsimp only
  refine told_after (raiseAt_told ..) (told_unless (told_after (withTwn_told ..) (judgeRole_told s)) ?_)
  refine told_after (dropTrip_told _) (told_after (told_forEach _ _ _ fun _ _ => ?_) ?_)
  · exact told_after (dropFrames_told ..) (told_after (modCyc_told ..) (modCon_told ..))
  · refine told_after (withRole_told ..) ?_
    exact told_after (completeTaken_told ..) (told_after (completeTaken_told ..) (finishAll_told ..))

theorem sawEpoch_told (e : Word) : KeepsTold s (sawEpoch e s) := by
  unfold sawEpoch
  dsimp only
  split
  · refine told_unless (withTwn_told ..) (told_ite (withTwn_told ..) (becomeStandby_told ..))
  · exact withTwn_told ..

theorem sawGens_told (l : List Word) : KeepsTold s (sawGens n l s) := told_ite (withStg_told ..) (told_refl s)

/-! ### The set-up behind an exchange (06 R159, R182) -/

theorem sendSetups_told : KeepsTold s (sendSetups n s) := by
  refine told_ite (told_refl s) (told_after (told_forEach _ _ _ fun _ t => ?_) (modMeas_told _ _ fun _ => rfl))
  exact told_after (sendCmd_told ..) (told_cond (told_refl t) (modThm_told ..))

theorem eraseCalib_told (id : DWord) : KeepsTold s (eraseCalib n id s) :=
  told_ite (told_after (queueWrite_told ..) (modMeas_told _ _ fun _ => rfl)) (told_refl s)

theorem placeCaps_told (x : Caps) : KeepsTold s (placeCaps n x s) :=
  told_ite (told_after (settlePort_told ..) (setCh_told ..)) (placeStart_told ..)

end
end Sys2Proof.Safety

/-! ## 05. Frames of a node: STAT, CAPS, CELLS, TOUCH, EDGES and REPLY -/

namespace Sys2Proof.Safety
open Sys2Proof.Machine

section
variable {c : Instr} {o : Out} {p : Chan} {h : FrameHdr} {rel : Bool} {s : State}

/-! ### The header's result, as the rows read it -/

/-- A row of frames does nothing on a port that cannot receive. -/
theorem idles_of_deaf (deaf : receiving s p = false) (row : exec c s = if !receiving s p then done s s else o) : Idles c s :=
  idles_of_done (row.trans (if_pos (by rw [deaf]; rfl)))

theorem exec_of_receiving (hears : receiving s p = true) (row : exec c s = if !receiving s p then done s s else o) : exec c s = o :=
  row.trans (if_neg (by rw [hears]; simp))

theorem acceptHdr_ports : (acceptHdr p h rel s).2.ports = s.ports := acceptHdr_keeps p h rel s .ports (by decide)

theorem acceptHdr_meas : (acceptHdr p h rel s).2.meas = s.meas := acceptHdr_keeps p h rel s .meas (by decide)

theorem acceptHdr_runs : running (acceptHdr p h rel s).2 p = running s p := by unfold running; rw [acceptHdr_ports]

theorem acceptHdr_cellCount : cellCount (acceptHdr p h rel s).2 p = cellCount s p := by
  have cfg : (acceptHdr p h rel s).2.cfg = s.cfg := acceptHdr_keeps p h rel s .cfg (by decide)
  unfold cellCount pNat
  rw [cfg]

/-- The header leaves the due triggers of its port. -/
theorem acceptHdr_trigDue : (acceptHdr p h rel s).2.insCh[p].trigDue = s.insCh[p].trigDue := by
  by_cases current : s.txns[p].sreset = false ∨ h.sreset = true
  · rw [acceptHdr_current p h rel s current, modTxn_insCh, modIns_insCh, vmod_get]
  · simp only [not_or, Bool.not_eq_false, Bool.not_eq_true] at current
    rw [acceptHdr_old p h rel s current.1 current.2]
    rfl

/-- The guard of the rows that only a RUNNING port takes: the frame is out of order, or the port is not RUNNING. -/
theorem notTaken_iff : (!(acceptHdr p h rel s).1 || !running (acceptHdr p h rel s).2 p) = true ↔
    (acceptHdr p h rel s).1 = false ∨ s.ports[p].state ≠ .running := by
  simp only [acceptHdr_runs, Bool.or_eq_true, Bool.not_eq_true', ← running_iff, Bool.not_eq_true, ne_eq]

theorem taken (accepted : (acceptHdr p h rel s).1 = true) (runs : s.ports[p].state = .running) :
    ¬ (!(acceptHdr p h rel s).1 || !running (acceptHdr p h rel s).2 p) = true := by
  rw [notTaken_iff, accepted, runs]
  simp

end

/-! ### Rows on a port that cannot receive, and those that only a RUNNING port takes -/

theorem rows_deaf (p : Chan) (h : FrameHdr) (s : State) (deaf : receiving s p = false) :
    (∀ x t4, Idles (.statReceived p h x t4) s) ∧ (∀ x, Idles (.capsReceived p h x) s) ∧
    (∀ x, Idles (.cellsReportReceived p h x) s) ∧ (∀ x, Idles (.cellsBurstReceived p h x) s) ∧
    (∀ x, Idles (.cellsTriggerReceived p h x) s) ∧ (∀ x, Idles (.touchReceived p h x) s) ∧
    (∀ x, Idles (.edgesReceived p h x) s) ∧ (∀ x, Idles (.replyReceived p h x) s) :=
  ⟨fun _ _ => idles_of_deaf deaf rfl, fun _ => idles_of_deaf deaf rfl, fun _ => idles_of_deaf deaf rfl,
    fun _ => idles_of_deaf deaf rfl, fun _ => idles_of_deaf deaf rfl, fun _ => idles_of_deaf deaf rfl,
    fun _ => idles_of_deaf deaf rfl, fun _ => idles_of_deaf deaf rfl⟩

section
variable {p : Chan} {h : FrameHdr} {s : State} (hears : receiving s p = true)
include hears

theorem edges_notTaken (shut : (acceptHdr p h true s).1 = false ∨ s.ports[p].state ≠ .running) (x : EdgesFrame) :
    Becomes (.edgesReceived p h x) s (acceptHdr p h true s).2 :=
  becomes_of_done ((exec_of_receiving hears rfl).trans (if_pos (notTaken_iff.mpr shut)))

section
variable (shut : (acceptHdr p h false s).1 = false ∨ s.ports[p].state ≠ .running)
include shut

theorem cellsReport_notTaken (x : CellsReport) : Becomes (.cellsReportReceived p h x) s (acceptHdr p h false s).2 :=
  becomes_of_done ((exec_of_receiving hears rfl).trans (if_pos (notTaken_iff.mpr shut)))

theorem cellsBurst_notTaken (x : CellsBurst) : Becomes (.cellsBurstReceived p h x) s (acceptHdr p h false s).2 :=
  becomes_of_done ((exec_of_receiving hears rfl).trans (if_pos (notTaken_iff.mpr shut)))

theorem cellsTrigger_notTaken (x : CellsTrigger) : Becomes (.cellsTriggerReceived p h x) s (acceptHdr p h false s).2 :=
  becomes_of_done ((exec_of_receiving hears rfl).trans (if_pos (notTaken_iff.mpr shut)))

theorem touch_notTaken (x : TouchFrame) : Becomes (.touchReceived p h x) s (acceptHdr p h false s).2 := by
  refine becomes_of_done ((exec_of_receiving hears rfl).trans (if_pos ?_))
  rw [Bool.or_assoc, Bool.or_eq_true]
  exact .inl (notTaken_iff.mpr shut)

end
end


/-! ### A report that is taken (06 R165, R168 to R171) -/

/-- The pack values of a report, in the entry of its channel. -/
def packOf (x : CellsReport) (m : MeasSt) : MeasSt :=
  { m with reports := m.reports + 1, packI := x.packI.toInt, packV := x.packV.toInt, capV := x.capV.toInt, hasReport := true }

section
variable {p : Chan} {h : FrameHdr} {s : State} {x : CellsReport}

/-- A report of cells alone leaves its pack values in the tables. -/
theorem takeReport_pack (cells : x.temps = none) : packTold (takeReport p x s).meas[p] =
    (x.packI.toInt, x.packV.toInt, x.capV.toInt, true, s.meas[p].reports + 1) := by
  have kept : KeepsTold (modMeas p (packOf x) s) (takeReport p x s) := by
    unfold takeReport
    rw [cells]
    exact told_after (markStale_told ..) (told_forEach _ _ _ fun _ _ => updateCell_told ..)
  rw [kept.pack p, modMeas_meas, vmod_get]
  rfl

/-- What follows the tables reads the pack values. -/
theorem judgeReport_told (w : Int) : KeepsTold s (judgeContact p (checkA1 p w (seqPoll p (some w) (reportAssay p x w
    (judgePlaus p (judgeTemps p (judgeCells p (classifyWires p (deviations p (stackSum p s)))))))))) := by
  refine told_after (judgeContact_told ..) (told_after (checkA1_told ..) (told_after (seqPoll_told ..) ?_))
  refine told_after (reportAssay_told ..) (told_after (judgePlaus_told ..) (told_after (judgeTemps_told ..) ?_))
  refine told_after (judgeCells_told ..) (told_after (classifyWires_told ..) ?_)
  exact told_after (deviations_told ..) (stackSum_told ..)

variable (hears : receiving s p = true) (accepted : (acceptHdr p h false s).1 = true) (runs : s.ports[p].state = .running)
include hears accepted runs

theorem cellsReport_discarded (count : x.cells.length ≠ cellCount s p) : Becomes (.cellsReportReceived p h x) s
    (modMeas p (fun m => { m with discarded := m.discarded + 1 }) (acceptHdr p h false s).2) := by
  refine becomes_of_done ((exec_of_receiving hears rfl).trans ((if_neg (taken accepted runs)).trans (if_pos ?_)))
  simp [acceptHdr_cellCount, count]

/-- A report of cells alone, over a window in which the carrier did not change. -/
theorem cellsReport_taken (count : x.cells.length = cellCount s p) (cells : x.temps = none) (carrier : s.meas[p].carrierAt = none) :
    ∃ u, Becomes (.cellsReportReceived p h x) s u ∧ u.meas[p].packI = x.packI.toInt ∧ u.meas[p].packV = x.packV.toInt ∧
      u.meas[p].capV = x.capV.toInt ∧ u.meas[p].hasReport = true ∧ u.meas[p].reports = s.meas[p].reports + 1 := by
  have one (w : Int) : spansCarrier (acceptHdr p h false s).2 p w x = false := by
    unfold spansCarrier
    rw [acceptHdr_meas, carrier]
  refine ⟨_, becomes_of_done ((exec_of_receiving hears rfl).trans ((if_neg (taken accepted runs)).trans (if_neg ?_))), ?_⟩
  · simp [acceptHdr_cellCount, count, cells, one]
  · have told (w : Int) := ((judgeReport_told (p := p) (x := x) w).pack p).trans (takeReport_pack (s := (acceptHdr p h false s).2) cells)
    simp only [acceptHdr_meas, packTold, Prod.mk.injEq] at told
    exact told _

end

/-! ### Bursts, trigger samples, TOUCH and EDGES that are taken (06 R172, R175; 07 R219; 08 R236) -/

section
variable {p : Chan} {h : FrameHdr} {s : State} (hears : receiving s p = true)
include hears

theorem touch_discarded (x : TouchFrame) (main : x.main.length ≠ cellCount s p) :
    Becomes (.touchReceived p h x) s (acceptHdr p h false s).2 := by
  refine becomes_of_done ((exec_of_receiving hears rfl).trans (if_pos ?_))
  simp [acceptHdr_cellCount, main]

variable (runs : s.ports[p].state = .running)
include runs

section
variable (accepted : (acceptHdr p h false s).1 = true)
include accepted

/-- A trigger sample answers at most one due trigger: none is added, and one of its time leaves the list. -/
theorem cellsTrigger_taken (x : CellsTrigger) : Runs (.cellsTriggerReceived p h x) s [.txns, .insCh] (fun u =>
    (∀ t ∈ u.insCh[p].trigDue, t ∈ s.insCh[p].trigDue) ∧
    ((∃ t ∈ s.insCh[p].trigDue, ((x.time.toNat : Int) - t.toNat).natAbs ≤ 40) →
      u.insCh[p].trigDue.length + 1 = s.insCh[p].trigDue.length)) := by
  refine runs_of_done ((exec_of_receiving hears rfl).trans (if_neg (taken accepted runs)))
    (keepsBut_trans (acceptHdr_keeps p h false s) (keepsBut_sub _ (modIns_keeps _ _ _) rfl)) (by decide) ?_
  rw [modIns_insCh, vmod_get]
  simp only [acceptHdr_trigDue]
  split
  next t found =>
    have due := List.mem_of_find?_eq_some found
    refine ⟨fun _ => List.mem_of_mem_erase, fun _ => ?_⟩
    rw [List.length_erase_of_mem due]
    exact Nat.sub_add_cancel (List.length_pos_of_mem due)
  next none_ =>
    rw [List.find?_eq_none] at none_
    exact ⟨fun _ => id, fun ⟨t, due, near⟩ => absurd (decide_eq_true near) (none_ t due)⟩

theorem cellsBurst_taken (x : CellsBurst) : Becomes (.cellsBurstReceived p h x) s (burstSegment p x (acceptHdr p h false s).2) :=
  becomes_of_done ((exec_of_receiving hears rfl).trans (if_neg (taken accepted runs)))

theorem touch_taken (x : TouchFrame) (main : x.main.length = cellCount s p) (stone : x.stone.length = cellCount s p) :
    Becomes (.touchReceived p h x) s (markStale p (touchCompare p x (acceptHdr p h false s).2)) := by
  refine becomes_of_done ((exec_of_receiving hears rfl).trans (if_neg ?_))
  have open_ := taken accepted runs
  simp only [acceptHdr_cellCount, main, stone, Bool.or_eq_true, not_or] at open_ ⊢
  simp [open_]

end

end

/-! ### EDGES records that are taken (08 R236; 11 R330) -/

section
variable (p : Chan) (r : EdgeRec) (t : State)

theorem edgeEngine_txns (stop : DWord) (stale : Bool) : (edgeEngine p r stop stale t).txns = t.txns := rfl

theorem edgeEngine_repState (stop : DWord) (stale : Bool) :
    (edgeEngine p r stop stale t).insCh[p].repState = OutState.ofCode r.state := by
  change (vmod t.insCh p _)[p].repState = _
  rw [vmod_get]

/-- What follows a record reads it. -/
theorem afterRecord_told (time stop : DWord) (st : Option OutState) (x : ExecRec) :
    KeepsTold t (burstMatch p (edgeGap p time stop st (edgeStream p x t))) :=
  told_after (burstMatch_told ..) (told_after (edgeGap_told ..) (edgeStream_told ..))

/-- A record leaves its output state and its EDGE_CNT. -/
theorem takeEdge_repState (base : DWord) : (takeEdge p base t r).insCh[p].repState = OutState.ofCode r.state := by
  unfold takeEdge
  dsimp only
  rw [(afterRecord_told p _ _ _ _ _).output, edgeEngine_repState]

theorem takeEdge_edgeCnt (base : DWord) : (takeEdge p base t r).txns[p].edgeCnt = some r.edgeCnt := by
  unfold takeEdge
  dsimp only
  rw [(afterRecord_told p _ _ _ _ _).edgeCnt, edgeEngine_txns, modAsy_txns, modMeas_txns, modTxn_txns, vmod_get]

end

section
variable {p : Chan} {h : FrameHdr} {s : State} (hears : receiving s p = true) (accepted : (acceptHdr p h true s).1 = true)
  (runs : s.ports[p].state = .running)
include hears accepted runs

theorem edges_taken (x : EdgesFrame) : Becomes (.edgesReceived p h x) s
    (servicePoll p (seqPoll p none (x.recs.foldl (takeEdge p x.base) (acceptHdr p h true s).2))) :=
  becomes_of_done ((exec_of_receiving hears rfl).trans (if_neg (taken accepted runs)))

theorem edges_none_taken (x : EdgesFrame) (none_ : x.recs = []) :
    Becomes (.edgesReceived p h x) s (servicePoll p (seqPoll p none (acceptHdr p h true s).2)) := by
  have row := edges_taken hears accepted runs x
  rwa [none_] at row

theorem edges_one_taken (x : EdgesFrame) (e : EdgeRec) (one : x.recs = [e]) : ∃ u, Becomes (.edgesReceived p h x) s u ∧
    u.insCh[p].repState = OutState.ofCode e.state ∧ u.txns[p].edgeCnt = some e.edgeCnt := by
  have row := edges_taken hears accepted runs x
  rw [one] at row
  have polled (t : State) : KeepsTold t (servicePoll p (seqPoll p none t)) := told_after (servicePoll_told ..) (seqPoll_told ..)
  refine ⟨_, row, ((polled _).output p).trans ?_, ((polled _).edgeCnt p).trans ?_⟩
  · exact takeEdge_repState ..
  · exact takeEdge_edgeCnt ..

end

/-! ### REPLY (05 R148, R149) -/

section
variable {p : Chan} {h : FrameHdr} {s : State} (hears : receiving s p = true) (x : NodeReply)
include hears

/-- A reply out of order, one that says ACCEPTED, and one that answers no open CMD. -/
theorem reply_answers_none (other : (acceptHdr p h true s).1 = false ∨ x.result = 1 ∨
    ∀ c ∈ (acceptHdr p h true s).2.txns[p].cmds, ¬ (c.id = x.cmdId ∧ c.code = x.code)) :
    Becomes (.replyReceived p h x) s (acceptHdr p h true s).2 := by
  refine becomes_of_done ((exec_of_receiving hears rfl).trans ?_)
  by_cases early : (acceptHdr p h true s).1 = false ∨ x.result = 1
  · refine if_pos ?_
    obtain e | e := early <;> simp [e]
  · have none_ : (acceptHdr p h true s).2.txns[p].cmds.find? (fun c => c.id == x.cmdId && c.code == x.code) = none := by
      rw [List.find?_eq_none]
      intro c open_ same
      simp only [Bool.and_eq_true, beq_iff_eq] at same
      obtain e | e | e := other
      · exact early (.inl e)
      · exact early (.inr e)
      · exact e c open_ same
    refine (if_neg ?_).trans ?_
    · simpa using early
    · rw [none_]

theorem reply_completes (c : NodeCmd) (accepted : (acceptHdr p h true s).1 = true) (final : x.result ≠ 1)
    (found : (acceptHdr p h true s).2.txns[p].cmds.find? (fun c => c.id == x.cmdId && c.code == x.code) = some c) :
    Becomes (.replyReceived p h x) s (cmdDone p c (some x.result.toNat) x.data
      (modTxn p (fun y => { y with cmds := y.cmds.filter (fun z => z.id ≠ c.id) }) (acceptHdr p h true s).2)) := by
  refine becomes_of_done ((exec_of_receiving hears rfl).trans ((if_neg ?_).trans ?_))
  · rw [accepted, decide_eq_false final]
    decide
  · rw [found]

end

/-! ### STAT (04 R115 to R119; 05 R143; 11 R330) -/

theorem reportState_links (p : Chan) (code : Byte) (s : State) : KeepsLinks s (reportState p code s) :=
  keepsLinks_ite (keepsLinks_of_same rfl rfl) (keepsLinks_of_same rfl rfl)

/-- The state in which a STAT is on its port's table, and the row's own effects begin. -/
def statTold (p : Chan) (x : Stat) (s : State) : State :=
  modTxn p (fun y => { y with stat := some x, stale := (drawWord s).1.truncate 32 }) (drawWord s).2

section
variable {p : Chan} {h : FrameHdr} {s : State} (hears : receiving s p = true) (x : Stat) (t4 : Stamp)
include hears

/-- A STAT's own effects leave what it has put on the table. -/
theorem stat_links : ∃ u, Becomes (.statReceived p h x t4) s u ∧ KeepsLinks (statTold p x (acceptHdr p h false s).2) u := by
  refine ⟨_, becomes_of_done (exec_of_receiving hears rfl), ?_⟩
  refine keepsLinks_trans ?_ (told_after (judgeContact_told ..) (told_after (servicePoll_told ..)
    (told_after (seqPoll_told ..) (told_cond (told_after (sawEpoch_told ..) (sawGens_told ..)) (placeStart_told ..))))).toKeepsLinks
  refine keepsLinks_trans ?_ (reportState_links ..)
  exact (told_cond (told_cond (told_refl _) (timingReply_told ..)) (streamReset_told ..)).toKeepsLinks

theorem stat_taken : ∃ u, Becomes (.statReceived p h x t4) s u ∧ u.txns[p].stat = some x ∧
    u.txns[p].framesRx = s.txns[p].framesRx + 1 := by
  obtain ⟨u, row, links⟩ := stat_links hears x t4 (h := h)
  refine ⟨u, row, (links.stat p).trans ?_, (links.framesRx p).trans ?_⟩
  · rw [statTold, modTxn_txns, vmod_get]
  · rw [statTold, modTxn_txns, vmod_get]
    exact (acceptHdr_counts p h false s).1

end

/-! ### CAPS (05 R144 to R146) -/

theorem crossWire_state (p : Chan) (x : Caps) (s : State) : (crossWire p x s).ports[p].state = .crossWired := by
  have marked : (modPort p (fun y => { y with saidCrossWired := true }) (leaveRunning p .crossWired s)).ports[p].state = .crossWired := by
    rw [modPort_ports, vmod_get]
    exact (leaveRunning_port p s .crossWired).1
  have kept (t : State) (b : Prop) [Decidable b] (data : List Nat) :
      KeepsTold t (settleRefused p (if b then t else raise 0x8506 p.val data t)) :=
    told_after (settleRefused_told ..) (told_ite (told_refl t) (raise_told ..))
  exact ((kept _ _ _).state p).trans marked

/-- The state in which a CAPS is on its port's table and the port is RUNNING. -/
def capsTold (p : Chan) (x : Caps) (s : State) : State :=
  modPort p (fun y => { y with state := .running, saidUnpartnered := false, saidCrossWired := false, saidRefused := false,
                               tfCause := if !running s p then 0 else y.tfCause })
    (modTxn p (fun y => { y with caps := some x, reExchange := false, edgeCnt := none, sched := none }) s)

/-- What follows an exchange that ends well leaves its result. -/
theorem capsAccepted_links (p : Chan) (x : Caps) (s : State) : KeepsLinks (capsTold p x s) (capsAccepted p x s) := by
  unfold capsAccepted
  dsimp only
  refine keepsLinks_trans ?_ (told_cond (told_after (serviceCaps_told ..) (told_after (packExchange_told ..)
    (told_after (sendSetups_told ..) (told_after (placeCaps_told ..) (told_cond (told_after (sawEpoch_told ..) (sawGens_told ..))
      (wake_told ..)))))) (causeOff_told ..)).toKeepsLinks
  refine keepsLinks_trans ?_ (reportState_links ..)
  refine keepsLinks_trans ?_ (told_after (told_of_keeps (recomputeDeadline_keeps _) (by decide)) (eraseCalib_told ..)).toKeepsLinks
  exact keepsLinks_of_same rfl rfl

theorem capsAccepted_running (p : Chan) (x : Caps) (s : State) : (capsAccepted p x s).ports[p].state = .running ∧
    (capsAccepted p x s).txns[p].caps = some x := by
  have links := capsAccepted_links p x s
  refine ⟨(links.state p).trans ?_, (links.caps p).trans ?_⟩
  · rw [capsTold, modPort_ports, vmod_get]
  · rw [capsTold, modPort_txns, modTxn_txns, vmod_get]

/-- The guard of CAPS passes a frame in order on a port in exchange. -/
theorem caps_open {p : Chan} {h : FrameHdr} {s : State} (accepted : (acceptHdr p h true s).1 = true)
    (exchange : s.ports[p].state = .exchange) :
    ¬ (!(acceptHdr p h true s).1 || !((acceptHdr p h true s).2.ports[p].state == .exchange ||
      (running (acceptHdr p h true s).2 p && (acceptHdr p h true s).2.txns[p].reExchange))) = true := by
  rw [acceptHdr_ports, accepted, exchange]
  simp

section
variable {p : Chan} {h : FrameHdr} {s : State} (hears : receiving s p = true) (x : Caps)
include hears

/-- A CAPS out of order, or on a port that has no exchange to end. -/
theorem caps_notTaken (shut : (acceptHdr p h true s).1 = false ∨ (s.ports[p].state ≠ .exchange ∧ s.ports[p].state ≠ .running)) :
    Becomes (.capsReceived p h x) s (acceptHdr p h true s).2 := by
  refine becomes_of_done ((exec_of_receiving hears rfl).trans (if_pos ?_))
  obtain e | ⟨exchange, runs⟩ := shut
  · simp [e]
  · have stays : running s p = false := Bool.eq_false_iff.mpr fun e => runs ((running_iff ..).mp e)
    rw [acceptHdr_ports, acceptHdr_runs, stays, beq_false_of_ne exchange]
    simp

variable (accepted : (acceptHdr p h true s).1 = true) (exchange : s.ports[p].state = .exchange)
include accepted exchange

theorem caps_otherProto (proto : x.proto.toNat / 256 ≠ 1) :
    Becomes (.capsReceived p h x) s (unpartner p 1 (exchangeFails p (acceptHdr p h true s).2)) :=
  becomes_of_done ((exec_of_receiving hears rfl).trans ((if_neg (caps_open accepted exchange)).trans (if_pos proto)))

variable (proto : x.proto.toNat / 256 = 1)
include proto

theorem caps_otherSide (side : x.sideB ≠ sideExpected (acceptHdr p h true s).2) :
    Becomes (.capsReceived p h x) s (crossWire p x (exchangeFails p (acceptHdr p h true s).2)) :=
  becomes_of_done ((exec_of_receiving hears rfl).trans ((if_neg (caps_open accepted exchange)).trans
    ((if_neg (not_not.mpr proto)).trans (if_pos side))))

variable (side : x.sideB = sideExpected (acceptHdr p h true s).2)
include side

theorem caps_twice (q : Chan) (same : sameNode (acceptHdr p h true s).2 p x.nodeId = some q) :
    Becomes (.capsReceived p h x) s (duplicate p q x (exchangeFails p (acceptHdr p h true s).2)) := by
  refine becomes_of_done ((exec_of_receiving hears rfl).trans ((if_neg (caps_open accepted exchange)).trans
    ((if_neg (not_not.mpr proto)).trans ((if_neg (not_not.mpr side)).trans ?_))))
  rw [same]

variable (new : sameNode (acceptHdr p h true s).2 p x.nodeId = none)
include new

theorem caps_faulty (cause : Nat) (fault : capsFault (acceptHdr p h true s).2 p x = some cause) :
    Becomes (.capsReceived p h x) s (unpartner p cause (exchangeFails p (acceptHdr p h true s).2)) := by
  refine becomes_of_done ((exec_of_receiving hears rfl).trans ((if_neg (caps_open accepted exchange)).trans
    ((if_neg (not_not.mpr proto)).trans ((if_neg (not_not.mpr side)).trans ?_))))
  rw [new, fault]

theorem caps_taken (sound : capsFault (acceptHdr p h true s).2 p x = none) : ∃ u, Becomes (.capsReceived p h x) s u ∧
    u.ports[p].state = .running ∧ u.txns[p].caps = some x := by
  refine ⟨_, becomes_of_done ((exec_of_receiving hears rfl).trans ((if_neg (caps_open accepted exchange)).trans
    ((if_neg (not_not.mpr proto)).trans ((if_neg (not_not.mpr side)).trans ?_)))), capsAccepted_running p x (acceptHdr p h true s).2⟩
  rw [new, sound]

end

/-! ### The obligation -/

/-- Settles O34: every row is its header's result and then its own effect; an effect that goes on through sequences, decisions
and services leaves what the frame has put on its port's tables (`KeepsTold`). -/
theorem framesFromANode : Obligations.FramesFromANode := by
  unfold Obligations.FramesFromANode
  intro p h s
  refine ⟨rows_deaf p h s, fun hears => ⟨stat_taken hears, fun shut => ?_, edges_notTaken hears, fun accepted runs => ?_,
    fun accepted runs => ⟨edges_none_taken hears accepted runs, edges_one_taken hears accepted runs⟩, reply_answers_none hears,
    reply_completes hears, caps_notTaken hears, fun x accepted exchange => ?_⟩⟩
  · exact ⟨cellsReport_notTaken hears shut, cellsBurst_notTaken hears shut, cellsTrigger_notTaken hears shut,
      touch_notTaken hears shut⟩
  · exact ⟨fun _ => cellsReport_discarded hears accepted runs, fun _ => cellsReport_taken hears accepted runs,
      cellsBurst_taken hears runs accepted, cellsTrigger_taken hears runs accepted,
      fun x main stone => ⟨touch_taken hears runs accepted x main stone, acceptHdr_keeps p h false s⟩, touch_discarded hears⟩
  · exact ⟨caps_otherProto hears x accepted exchange,
      fun proto side => ⟨caps_otherSide hears x accepted exchange proto side, crossWire_state ..⟩,
      caps_twice hears x accepted exchange, caps_faulty hears x accepted exchange, caps_taken hears x accepted exchange⟩

end Sys2Proof.Safety

/-! ## SUPPORT. The latched groups of the quench matrix (08 R244, R245, R252)

One lemma per operation that a row calls. Most leave the whole matrix state alone (`_qm`); some write other parts of it, such as the
trip request or the host's activity, and leave the latched groups (`_latched`); those that evaluate the matrix may latch more groups
and unlatch none (`_quenched`). -/

namespace Sys2Proof.Safety
open Sys2Proof.Machine

/-- A group is in a mask of latched groups: `quenched` read off the mask. -/
def Latched (mask : Byte) (g : Group) : Prop := mask.getLsbD g.val = true

/-! ### Branches and loops -/

@[simp] theorem qm_ite (c : Prop) [Decidable c] (s t : State) : (if c then s else t).qm = if c then s.qm else t.qm :=
  apply_ite State.qm c s t

@[simp] theorem snd_qm_ite {α : Type} (c : Prop) [Decidable c] (s t : α × State) :
    (if c then s else t).2.qm = if c then s.2.qm else t.2.qm :=
  apply_ite (fun x : α × State => x.2.qm) c s t

@[simp] theorem latched_ite (c : Prop) [Decidable c] (x y : QmSt) : (if c then x else y).latched = if c then x.latched else y.latched :=
  apply_ite QmSt.latched c x y

/-- Both branches keep the group latched. -/
@[simp] theorem Latched.ite {c : Prop} [Decidable c] {x y : Byte} {g : Group} (hx : Latched x g) (hy : Latched y g) :
    Latched (if c then x else y) g := by
  split <;> assumption

theorem latched_branch {c : Prop} [Decidable c] {s t : State} {g : Group} (hs : Latched s.qm.latched g) (ht : Latched t.qm.latched g) :
    Latched (if c then s else t).qm.latched g := by
  split <;> assumption

/-- A fold leaves the matrix when each step does; `view` finds the state in what the fold carries. -/
theorem foldl_qm {α β : Type} (view : β → State) (xs : List α) (f : β → α → β) (b : β)
    (h : ∀ b x, (view (f b x)).qm = (view b).qm) : (view (xs.foldl f b)).qm = (view b).qm := by
  induction xs generalizing b with
  | nil => rfl
  | cons x xs ih => exact (ih (f b x)).trans (h b x)

theorem forEach_quenched {α : Type} {g : Group} (xs : List α) (f : α → State → State) {s : State}
    (h : ∀ a t, Latched t.qm.latched g → Latched (f a t).qm.latched g) (q : Latched s.qm.latched g) :
    Latched (forEach xs f s).qm.latched g := by
  unfold forEach
  induction xs generalizing s with
  | nil => exact q
  | cons x xs ih => exact ih (h x s q)

section
variable (n p : Chan) (s : State) {g : Group}

@[simp] theorem forEach_qm {α : Type} (xs : List α) (f : α → State → State) (h : ∀ a t, (f a t).qm = t.qm) :
    (forEach xs f s).qm = s.qm :=
  foldl_qm id xs (fun s a => f a s) s fun t a => h a t

/-! ### Operations of Machine/Ops.lean -/

@[simp] theorem drawWord_qm : (drawWord s).2.qm = s.qm := rfl
@[simp] theorem drawBool_qm : (drawBool s).2.qm = s.qm := rfl
@[simp] theorem raiseAt_qm (code level : Nat) (pin : Bool) (time : DWord) (subject : Nat) (data : List Nat) :
    (raiseAt code level pin time subject data s).qm = s.qm := raiseAt_keeps code level pin time subject data s .qm (by decide)
@[simp] theorem raise_qm (code subject : Nat) (data : List Nat) : (raise code subject data s).qm = s.qm :=
  raise_keeps code subject data s .qm (by decide)
@[simp] theorem sendVector_qm (p : HPort) (v : Nat) : (sendVector p v s).qm = s.qm := modHp_qm _ _ _
@[simp] theorem signalPort_qm (p : HPort) (v : Nat) : (signalPort p v s).qm = s.qm := by simp [signalPort]
@[simp] theorem signalRing_qm (r : Ring) : (signalRing r s).qm = s.qm := by simp [signalRing]
@[simp] theorem returned_qm (r : Ring) : (returned r s).qm = s.qm := by simp [returned]
@[simp] theorem writeDesc_qm (r : Ring) (idx : Word) (op tag len : Half) (w2 : Nat) (words : List (Nat × Word)) (full : Bool) :
    (writeDesc r idx op tag len w2 words full s).qm = s.qm := writeDesc_keeps r idx op tag len w2 words full s .qm (by decide)
@[simp] theorem queueWrite_qm (w : StoreWrite) : (queueWrite w s).qm = s.qm := queueWrite_keeps w s .qm (by decide)
@[simp] theorem seamFrames_qm (l : SeamLane) (n : Nat) : (seamFrames l n s).qm = s.qm := seamFrames_keeps l n s .qm (by decide)
@[simp] theorem seamBoth_qm : (seamBoth s).qm = s.qm := seamBoth_keeps s .qm (by decide)
@[simp] theorem sendSeam_qm (o : SeamOut) : (sendSeam o s).qm = s.qm := sendSeam_keeps o s .qm (by decide)
@[simp] theorem seamAgain_qm (ack : Half) : (seamAgain ack s).qm = s.qm := seamAgain_keeps ack s .qm (by decide)

/-! ### Operations of Machine/Faults.lean -/

@[simp] theorem modFault_qm (id : Word) (f : FaultRec → FaultRec) : (modFault id f s).qm = s.qm :=
  modFault_keeps id f s .qm (by decide)
@[simp] theorem raiseFault_qm (cause subject level : Nat) (permanent : Bool) (origin : Nat) :
    (raiseFault cause subject level permanent origin s).qm = s.qm :=
  raiseFault_keeps cause subject level permanent origin s .qm (by decide)
@[simp] theorem nextCurrent_qm : (nextCurrent s).qm = s.qm := nextCurrent_keeps s .qm (by decide)
@[simp] theorem closeFault_qm (r : FaultRec) (how : Nat) : (closeFault r how s).qm = s.qm :=
  closeFault_keeps r how s .qm (by decide)
@[simp] theorem endFault_qm (cause subject : Nat) : (endFault cause subject s).qm = s.qm :=
  endFault_keeps cause subject s .qm (by decide)
@[simp] theorem endL1_qm (cause subject : Nat) : (endL1 cause subject s).qm = s.qm := endL1_keeps cause subject s .qm (by decide)
@[simp] theorem openL0_qm (g : Nat) (origin : Nat) : (openL0 g origin s).qm = s.qm := openL0_keeps g origin s .qm (by decide)

/-! ### Operations of Machine/Link.lean -/

@[simp] theorem nodeService_qm (cause value : Nat) : (nodeService p cause value s).qm = s.qm := by simp [nodeService]
@[simp] theorem sendBody_qm (b : DownBody) : (sendBody p b s).qm = s.qm := sendBody_keeps p b s .qm (by decide)
@[simp] theorem sendCmd_qm (code : Nat) (args : List Byte) (purpose : CmdPurpose) : (sendCmd p code args purpose s).qm = s.qm :=
  sendCmd_keeps p code args purpose s .qm (by decide)
@[simp] theorem streamReset_qm (atExchange : Bool) : (streamReset p atExchange s).qm = s.qm :=
  streamReset_keeps p atExchange s .qm (by decide)
@[simp] theorem streamResumed_qm : (streamResumed p s).qm = s.qm := rfl
@[simp] theorem recomputeDeadline_qm : (recomputeDeadline s).qm = s.qm := rfl

/-! ### Operations of Machine/Staging.lean -/

@[simp] theorem formHorizon_qm (closing : Bool) (first h : Nat) : (formHorizon closing first h s).qm = s.qm :=
  formHorizon_keeps closing first h s .qm (by decide)
@[simp] theorem formGeneration_qm (closing : Bool) (first : Nat) : (formGeneration closing first s).qm = s.qm := by
  simp [formGeneration]
@[simp] theorem closeTo_qm (k start : Nat) : (closeTo k start s).qm = s.qm := by
  induction k generalizing s with
  | zero => rfl
  | succ k ih =>
    unfold closeTo
    split <;> simp [ih]
@[simp] theorem sayRestaged_qm (cause count : Nat) (gen : Word) : (sayRestaged cause count gen s).qm = s.qm := by simp [sayRestaged]
@[simp] theorem restageFor_qm (cause : Nat) : (restageFor cause s).2.qm = s.qm := restageFor_keeps cause s .qm (by decide)
@[simp] theorem restage_qm (cause : Nat) : (restage cause s).qm = s.qm := by simp [restage]
@[simp] theorem sendAbort_qm (action : Byte) : (sendAbort p action s).qm = s.qm := sendAbort_keeps p action s .qm (by decide)

/-! ### Operations of Machine/Operands.lean -/

@[simp] theorem activity_latched : (activity s).qm.latched = s.qm.latched := by
  unfold activity
  dsimp only
  split <;> simp
@[simp] theorem doorbell_latched (p : HPort) : (doorbell p s).qm.latched = s.qm.latched := by simp [doorbell]
@[simp] theorem finishAll_qm (sel : Pend → Bool) (r : Pend → Reply) : (finishAll sel r s).qm = s.qm :=
  finishAll_keeps sel r s .qm (by decide)
@[simp] theorem finishOp_qm (op : Nat) (r : Reply) : (finishOp op r s).qm = s.qm := rfl
@[simp] theorem completeTaken_qm (op : Nat) (r : Reply) : (completeTaken op r s).qm = s.qm :=
  completeTaken_keeps op r s .qm (by decide)
@[simp] theorem putTaken_qm (h : Hdr) (op : Nat) (idx : Word) (r : Option Reply) : (putTaken h op idx r s).qm = s.qm :=
  putTaken_keeps h op idx r s .qm (by decide)
@[simp] theorem later1_qm (h : Hdr) (op : Nat) (r : Reply) : (later1 h op r s).qm = s.qm := rfl

/-! ### Operations of Machine/CellView.lean -/

@[simp] theorem modCell_qm (i : Nat) (f : CellSt → CellSt) : (modCell n i f s).qm = s.qm := rfl
@[simp] theorem modTemp_qm (i : Nat) (f : TempSt → TempSt) : (modTemp n i f s).qm = s.qm := rfl

/-! ### Operations of Machine/Connection.lean -/

@[simp] theorem addCount_qm (cause : Nat) : (addCount n cause s).qm = s.qm := rfl
@[simp] theorem chEvent_qm (code : Nat) (old new cause : Nat) (host ended : Bool) (count : Nat) :
    (chEvent code n old new cause host ended count s).qm = s.qm :=
  chEvent_keeps code n old new cause host ended count s .qm (by decide)
@[simp] theorem markDirty_qm : (markDirty n s).qm = s.qm := markDirty_keeps n s .qm (by decide)
@[simp] theorem abortCycle_qm (reason : Nat) : (abortCycle n reason s).qm = s.qm := abortCycle_keeps n reason s .qm (by decide)
@[simp] theorem dropService_qm (st : Status) : (dropService n st s).qm = s.qm := dropService_keeps n st s .qm (by decide)
@[simp] theorem setCh_qm (new : ChState) (cause : Nat) (host : Bool) : (setCh n new cause host s).qm = s.qm :=
  setCh_keeps n new cause host s .qm (by decide)
@[simp] theorem clearHolds_qm : (clearHolds n s).qm = s.qm := rfl
@[simp] theorem endSeq_qm (st : Status) : (endSeq n st s).qm = s.qm := endSeq_keeps n st s .qm (by decide)
@[simp] theorem protect_qm (cause : Nat) (atOnce : Bool) : (protect n cause atOnce s).qm = s.qm :=
  protect_keeps n cause atOnce s .qm (by decide)
@[simp] theorem seqStep_qm (st : ConStep) : (seqStep n st s).qm = s.qm := seqStep_keeps n st s .qm (by decide)
@[simp] theorem sendPrecharge_qm (close : Bool) (p : CmdPurpose) : (sendPrecharge n close p s).qm = s.qm := rfl
@[simp] theorem sendContactor_qm (close : Bool) : (sendContactor n close s).qm = s.qm := rfl
@[simp] theorem weldEvent_qm (kind : Nat) : (weldEvent n kind s).qm = s.qm := by simp [weldEvent]
@[simp] theorem prechargeEvent_qm (reason elapsed : Nat) : (prechargeEvent n reason elapsed s).qm = s.qm := by simp [prechargeEvent]
@[simp] theorem countDecision_qm (c : Nat) : (countDecision n c s).2.qm = s.qm := countDecision_keeps n c s .qm (by decide)
@[simp] theorem abandon_qm (st : Status) : (abandon n st s).qm = s.qm := abandon_keeps n st s .qm (by decide)
@[simp] theorem retireNow_qm : (retireNow n s).qm = s.qm := by simp [retireNow]
@[simp] theorem startSeq_qm (kind : SeqKind) (step : ConStep) (host : Bool) (cause : Nat) :
    (startSeq n kind step host cause s).qm = s.qm := startSeq_keeps n kind step host cause s .qm (by decide)
@[simp] theorem startDisc_qm (kind : SeqKind) (host : Bool) (cause : Nat) (atOnce : Bool) :
    (startDisc n kind host cause atOnce s).qm = s.qm := startDisc_keeps n kind host cause atOnce s .qm (by decide)
@[simp] theorem retireBegin_qm (cause : Nat) (byCount host : Bool) : (retireBegin n cause byCount host s).qm = s.qm := by
  simp [retireBegin]
@[simp] theorem decideDisconnect_qm (cause : Nat) (atOnce : Bool) : (decideDisconnect n cause atOnce s).qm = s.qm :=
  decideDisconnect_keeps n cause atOnce s .qm (by decide)
@[simp] theorem causeOn_qm (c : Nat) : (causeOn n c s).qm = s.qm := causeOn_keeps n c s .qm (by decide)
@[simp] theorem causeOnAt_qm (c detail : Nat) : (causeOnAt n c detail s).qm = s.qm := by simp [causeOnAt]
@[simp] theorem causeOff_qm (c : Nat) : (causeOff n c s).qm = s.qm := causeOff_keeps n c s .qm (by decide)
@[simp] theorem placeByStat_qm (cause : Nat) (host : Bool) : (placeByStat n cause host s).qm = s.qm := by
  unfold placeByStat
  split <;> simp
@[simp] theorem anneal_qm (host : Bool) : (anneal n host s).qm = s.qm := by
  unfold anneal
  split <;> simp
@[simp] theorem fenceHold_qm (cause : Nat) : (fenceHold n cause s).qm = s.qm := by simp [fenceHold]
@[simp] theorem fenceDone_qm (cause : Nat) : (fenceDone n cause s).qm = s.qm := by simp [fenceDone]
@[simp] theorem prechargeFail_qm (reason elapsed : Nat) : (prechargeFail n reason elapsed s).qm = s.qm := by simp [prechargeFail]
@[simp] theorem welded_qm (kind : Nat) : (welded n kind s).qm = s.qm := by
  unfold welded
  dsimp only
  split <;> simp
@[simp] theorem contactBad_qm (kind : Nat) : (contactBad n kind s).qm = s.qm := by simp [contactBad]
@[simp] theorem openFailed_qm : (openFailed n s).qm = s.qm := by
  unfold openFailed
  split <;> simp
@[simp] theorem discEnd_qm : (discEnd n s).qm = s.qm := by
  unfold discEnd
  (repeat' split) <;> simp
@[simp] theorem closedPassed_qm : (closedPassed n s).qm = s.qm := by simp [closedPassed]
@[simp] theorem seqAdvance_qm (report : Option Int) : (seqAdvance n report s).qm = s.qm := by
  unfold seqAdvance
  (repeat' split) <;> simp
@[simp] theorem seqPoll_qm (report : Option Int) : (seqPoll n report s).qm = s.qm := by simp [seqPoll]
@[simp] theorem seqReply_qm (result : Option Nat) : (seqReply n result s).qm = s.qm := by
  unfold seqReply
  split
  case h_1 => rfl
  dsimp only
  split
  case h_3 =>
    split
    · simp
    · split
      · split <;> simp
      · simp
  all_goals simp
@[simp] theorem tripEvent_qm (ended : Bool) (by_ : Byte) (packI : Int) : (tripEvent ended by_ packI s).qm = s.qm := by
  simp [tripEvent]
@[simp] theorem assertTrip_latched (by_ : Byte) (packI : Int) : (assertTrip by_ packI s).qm.latched = s.qm.latched := by
  simp [assertTrip]
@[simp] theorem endTrip_latched : (endTrip s).qm.latched = s.qm.latched := by simp [endTrip]
@[simp] theorem releaseTrip_latched : (releaseTrip s).qm.latched = s.qm.latched := by simp [releaseTrip]
@[simp] theorem checkA1_latched (w : Int) : (checkA1 n w s).qm.latched = s.qm.latched := by simp [checkA1]

/-! ### Operations of Machine/Quench.lean -/

@[simp] theorem quenchChan_qm : (quenchChan n s).qm = s.qm := quenchChan_keeps n s .qm (by decide)
@[simp] theorem latch_quenched (mask : Byte) (c : QCause) (h : Latched s.qm.latched g) : Latched (latch mask c s).qm.latched g := by
  simp only [Latched, latch_latched, BitVec.getLsbD_or, Bool.or_eq_true]
  exact .inl h
@[simp] theorem evalMatrix_quenched (h : Latched s.qm.latched g) : Latched (evalMatrix s).qm.latched g :=
  evalMatrix_keeps_quenched s h
@[simp] theorem busTrip_quenched (mask : Byte) (h : Latched s.qm.latched g) : Latched (busTrip mask s).2.qm.latched g := by
  simp [h, busTrip]
@[simp] theorem releaseChan_qm : (releaseChan n s).qm = s.qm := by
  unfold releaseChan
  (repeat' split) <;> simp
@[simp] theorem hwFault_quenched (cause : Nat) (subject : Nat) (h : Latched s.qm.latched g) :
    Latched (hwFault cause subject s).qm.latched g := by simp [h, hwFault]
@[simp] theorem tripFaultEvent_qm (i : TripIn) (kind : Nat) (ended : Bool) : (tripFaultEvent i kind ended s).qm = s.qm := by
  simp [tripFaultEvent]

/-! ### Operations of Machine/Decisions.lean -/

@[simp] theorem judgeCells_qm : (judgeCells n s).qm = s.qm := by
  unfold judgeCells
  split <;> simp
@[simp] theorem judgeTemps_qm : (judgeTemps n s).qm = s.qm := by
  unfold judgeTemps
  split <;> simp
@[simp] theorem judgePlaus_qm : (judgePlaus n s).qm = s.qm := by simp [judgePlaus]
@[simp] theorem judgeWires_qm : (judgeWires n s).qm = s.qm := by
  unfold judgeWires
  split <;> simp
@[simp] theorem judgeAuth_qm : (judgeAuth n s).qm = s.qm := by simp [judgeAuth]
@[simp] theorem wireTone_qm : (wireTone n s).qm = s.qm := by simp [wireTone]
@[simp] theorem desat_qm : (desat n s).qm = s.qm := by simp [desat]
@[simp] theorem toneCauses_qm (c : Byte) : (toneCauses n c s).qm = s.qm := by simp [toneCauses]
@[simp] theorem uncount_qm (cause : Nat) : (uncount n cause s).qm = s.qm := rfl
@[simp] theorem layToWire_qm : (layToWire n s).qm = s.qm := by
  unfold layToWire
  split <;> simp
@[simp] theorem toneHealed_qm : (toneHealed n s).qm = s.qm := by simp [toneHealed]
@[simp] theorem judgeContact_qm : (judgeContact n s).qm = s.qm := by simp [judgeContact]
@[simp] theorem judgeAll_qm : (judgeAll n s).qm = s.qm := by simp [judgeAll]

/-! ### Operations of Machine/Frames.lean -/

@[simp] theorem acceptHdr_qm (h : FrameHdr) (reliable : Bool) : (acceptHdr p h reliable s).2.qm = s.qm := by
  unfold acceptHdr
  dsimp only
  (repeat' split) <;> simp
@[simp] theorem sendSetup_qm (k : Nat) (p : CmdPurpose) : (sendSetup n k p s).qm = s.qm := by simp [sendSetup]
@[simp] theorem sendSetups_qm : (sendSetups n s).qm = s.qm := by simp [sendSetups]

/-! ### Operations of Machine/CellModel.lean -/

@[simp] theorem modGrp_qm (i : Nat) (f : GrpSt → GrpSt) : (modGrp n i f s).qm = s.qm := rfl

/-! ### Operations of Machine/Learned.lean -/

@[simp] theorem loadLearned_qm (r : LearnedRec) : (loadLearned n r s).qm = s.qm := by simp -implicitDefEqProofs [loadLearned]
@[simp] theorem loadImp_qm (i : Nat) (r : ImpRec) : (loadImp n i r s).qm = s.qm := rfl
@[simp] theorem loadNominal_qm : (loadNominal n s).qm = s.qm := by simp -implicitDefEqProofs [loadNominal]
@[simp] theorem newPackSoc_qm : (newPackSoc n s).qm = s.qm := by simp -implicitDefEqProofs [newPackSoc]
@[simp] theorem writeLearned_qm : (writeLearned n s).qm = s.qm := by simp [writeLearned]
@[simp] theorem unverifiedEvent_qm (cause : Nat) (ended : Bool) : (unverifiedEvent n cause ended s).qm = s.qm := by
  simp [unverifiedEvent]
@[simp] theorem setUnverified_qm : (setUnverified n s).qm = s.qm := by simp -implicitDefEqProofs [setUnverified]
@[simp] theorem unverifiedFor_qm (cause : Nat) : (unverifiedFor n cause s).qm = s.qm := by simp [unverifiedFor]
@[simp] theorem clearUnverified_qm : (clearUnverified n s).qm = s.qm := by simp -implicitDefEqProofs [clearUnverified]
@[simp] theorem checkVerified_qm : (checkVerified n s).qm = s.qm := by simp [checkVerified]
@[simp] theorem packChanged_qm (loaded : Bool) (old new : DWord) : (packChanged n loaded old new s).qm = s.qm := by
  simp [packChanged]
@[simp] theorem authFailEvent_qm (cause : Nat) (pack : DWord) : (authFailEvent n cause pack s).qm = s.qm := by simp [authFailEvent]
@[simp] theorem wake_qm (now : DWord) : (wake n now s).qm = s.qm := by simp -implicitDefEqProofs [wake]

/-! ### Operations of Machine/Touchmark.lean -/

@[simp] theorem touchSend_qm : (touchSend n s).qm = s.qm := by
  unfold touchSend
  (repeat' split) <;> simp
@[simp] theorem setTouch_qm (t : TouchSt) : (setTouch n t s).qm = s.qm := by simp [setTouch]
@[simp] theorem endTouch_qm : (endTouch n s).qm = s.qm := rfl
@[simp] theorem startIdent_qm (job : TouchJob) (changed : Bool) : (startIdent n job changed s).qm = s.qm := by simp [startIdent]
@[simp] theorem cycleDoneEvent_qm (stored tm : Bool) : (cycleDoneEvent n stored tm s).qm = s.qm := by
  unfold cycleDoneEvent
  split <;> simp
@[simp] theorem startHistory_qm : (startHistory n s).qm = s.qm := by simp [startHistory]
@[simp] theorem historyEnd_qm (ok : Bool) : (historyEnd n ok s).qm = s.qm := by simp [historyEnd]
@[simp] theorem historyWrite_qm (t : TouchSt) : (historyWrite n t s).qm = s.qm := by simp [historyWrite]
@[simp] theorem provEnd_qm (r : Reply) : (provEnd n r s).qm = s.qm := rfl
@[simp] theorem authLost_qm (cause : Nat) : (authLost n cause s).qm = s.qm := by simp [authLost]
@[simp] theorem authFail_qm (cause : Nat) : (authFail n cause s).qm = s.qm := by simp [authFail]
@[simp] theorem noAuth_qm (cause : Nat) (changed : Bool) : (noAuth n cause changed s).qm = s.qm := by simp [noAuth]
@[simp] theorem authDone_qm (t : TouchSt) : (authDone n t s).qm = s.qm := by simp -implicitDefEqProofs [authDone]
@[simp] theorem authSlots_qm (t : TouchSt) : (authSlots n t s).qm = s.qm := by
  unfold authSlots
  dsimp only
  split <;> simp
@[simp] theorem authImps_qm (t : TouchSt) : (authImps n t s).qm = s.qm := by
  refine (endTouch_qm _ _).trans (forEach_qm _ _ _ fun i u => ?_)
  split <;> simp
@[simp] theorem identRead_qm (t : TouchSt) : (identRead n t s).qm = s.qm := by
  unfold identRead
  dsimp only
  (repeat' split) <;> simp
@[simp] theorem touchRead_qm (ok : Bool) (data : List Byte) : (touchRead n ok data s).qm = s.qm := by
  unfold touchRead
  dsimp only
  (repeat' split) <;> simp
@[simp] theorem touchWritten_qm (ok : Bool) : (touchWritten n ok s).qm = s.qm := by
  unfold touchWritten
  split <;> simp
@[simp] theorem touchSigned_qm (ok : Bool) (data : List Byte) : (touchSigned n ok data s).qm = s.qm := by
  unfold touchSigned
  split <;> simp
@[simp] theorem packExchange_qm (c : Caps) (changed : Bool) : (packExchange n c changed s).qm = s.qm := by simp [packExchange]

/-! ### Operations of Machine/Anchor.lean -/

@[simp] theorem advanceFilters_qm (i secs : Rat) : (advanceFilters n i secs s).qm = s.qm := by
  simp -implicitDefEqProofs [advanceFilters]
@[simp] theorem gapBegin_qm (t : DWord) : (gapBegin n t s).qm = s.qm := by simp -implicitDefEqProofs [gapBegin]
@[simp] theorem gapReport_qm (wStart : Int) (wEnd : DWord) (packI : Int) : (gapReport n wStart wEnd packI s).qm = s.qm := by
  unfold gapReport
  split <;> simp
@[simp] theorem adopt_qm (k : Nat) (z u : Rat) : (adopt n k z u s).qm = s.qm := rfl
@[simp] theorem anchorGroup_qm (g : GapSt) (t : DWord) (k : Nat) : (anchorGroup n g t k s).qm = s.qm := by
  unfold anchorGroup
  (repeat' split) <;> simp
@[simp] theorem takeAnchor_qm (t : DWord) : (takeAnchor n t s).qm = s.qm := by
  unfold takeAnchor
  split <;> simp
@[simp] theorem gapEnd_qm (t : DWord) : (gapEnd n t s).qm = s.qm := by simp [gapEnd]
@[simp] theorem gapDrop_qm : (gapDrop n s).qm = s.qm := rfl
@[simp] theorem relaxBegin_qm : (relaxBegin n s).qm = s.qm := by
  unfold relaxBegin
  split <;> simp
@[simp] theorem relaxReport_qm (wStart : Int) (wEnd : DWord) (packI : Int) : (relaxReport n wStart wEnd packI s).qm = s.qm := by
  unfold relaxReport
  dsimp only
  (repeat' split) <;> simp
@[simp] theorem slowFit_qm (r : RelaxSt) (lasted : Rat) (k : Nat) : (slowFit n r lasted k s).qm = s.qm := by
  unfold slowFit
  split <;> simp
@[simp] theorem relaxEnd_qm (t : DWord) : (relaxEnd n t s).qm = s.qm := by
  unfold relaxEnd
  split <;> simp
@[simp] theorem gapClose_qm (t : DWord) : (gapClose n t s).qm = s.qm := by simp [gapClose]

/-! ### Operations of Machine/Burst.lean -/

@[simp] theorem burstGroup_qm (t : BurstTimes) (e : EdgeSeen) (k : Nat) (x : BurstSample) :
    (burstGroup n t e k x s).2.qm = s.qm := by
  unfold burstGroup
  split <;> simp
@[simp] theorem burstPair_qm (t : BurstTimes) (e : EdgeSeen) (samples : List BurstSample) :
    (burstPair n t e samples s).qm = s.qm := by
  unfold burstPair
  dsimp only
  (repeat' split) <;> simp
@[simp] theorem burstDone_qm (b : BurstSt) (e : EdgeSeen) : (burstDone n b e s).qm = s.qm := by
  unfold burstDone
  dsimp only
  split
  · simp
  · rw [modCyc_qm, burstPair_qm]
    exact foldl_qm Prod.snd _ _ _ fun _ _ => burstGroup_qm _ _ _ _ _ _
@[simp] theorem burstMatch_qm : (burstMatch n s).qm = s.qm := by
  unfold burstMatch
  (repeat' split) <;> simp
@[simp] theorem burstSegment_qm (x : CellsBurst) : (burstSegment n x s).qm = s.qm := by
  unfold burstSegment
  dsimp only
  split <;> simp
@[simp] theorem driftEvent_qm (k kind : Nat) (ended : Bool) (b : Nat) : (driftEvent n k kind ended b s).qm = s.qm := by
  simp [driftEvent]
@[simp] theorem driftKind_qm (k kind b : Nat) (met : Bool) : (driftKind n k kind b met s).qm = s.qm := by simp [driftKind]
@[simp] theorem takeBaseline_qm (k : Nat) : (takeBaseline n k s).qm = s.qm := by simp [takeBaseline]
@[simp] theorem driftCheck_qm (k b : Nat) : (driftCheck n k b s).qm = s.qm := by
  unfold driftCheck
  dsimp only
  (repeat' split) <;> simp
@[simp] theorem fitBin_qm (k b : Nat) : (fitBin n k b s).qm = s.qm := by simp [fitBin]
@[simp] theorem fitChannel_qm : (fitChannel n s).qm = s.qm := by simp [fitChannel]

/-! ### Operations of Machine/Measure.lean -/

@[simp] theorem updateCell_qm (x : CellsReport) (mask : BitVec 256) (i : Nat) (v : Half) :
    (updateCell n x mask i v s).qm = s.qm := by
  unfold updateCell
  (repeat' split) <;> simp
@[simp] theorem markStale_qm : (markStale n s).qm = s.qm := by simp [markStale]
@[simp] theorem updateTemp_qm (t : Nat) (v : Half) : (updateTemp n t v s).qm = s.qm := rfl
@[simp] theorem keepTemp_qm (t : Nat) (v : Half) : (keepTemp n t v s).qm = s.qm := by simp [keepTemp]
@[simp] theorem plausEvent_qm (cell : Nat) (sum ended : Bool) (main other : Nat) :
    (plausEvent n cell sum ended main other s).qm = s.qm := by simp [plausEvent]
@[simp] theorem startWireTest_qm (k : Nat) : (startWireTest n k s).qm = s.qm := by simp [startWireTest]
@[simp] theorem nextSuspect_qm : (nextSuspect n s).qm = s.qm := by
  unfold nextSuspect
  split <;> simp
@[simp] theorem suspectWire_qm (k : Nat) : (suspectWire n k s).qm = s.qm := by simp [suspectWire]
@[simp] theorem endSuspect_qm (k : Nat) : (endSuspect n k s).qm = s.qm := by simp [endSuspect]
@[simp] theorem latchPlaus_qm (i : Nat) (main other : Nat) : (latchPlaus n i main other s).qm = s.qm := by simp [latchPlaus]
@[simp] theorem confirmOpen_qm (w : Suspect) (checked cellFault : Bool) : (confirmOpen n w checked cellFault s).qm = s.qm := by
  simp [confirmOpen]
@[simp] theorem classifyWires_qm : (classifyWires n s).qm = s.qm := by simp [classifyWires]
@[simp] theorem wireTested_qm (k : Nat) (d : Option (Half × Half)) : (wireTested n k d s).qm = s.qm := by
  unfold wireTested
  dsimp only
  (repeat' split) <;> simp
@[simp] theorem stackSum_qm : (stackSum n s).qm = s.qm := by
  unfold stackSum
  dsimp only
  (repeat' split) <;> simp
@[simp] theorem deviations_qm : (deviations n s).qm = s.qm := by simp [deviations]
@[simp] theorem countCell_qm (x : TouchFrame) (cmp : List (Option Int)) (i : Nat) : (countCell n x cmp i s).qm = s.qm := by
  unfold countCell
  dsimp only
  (repeat' split) <;> simp
@[simp] theorem touchCompare_qm (x : TouchFrame) : (touchCompare n x s).qm = s.qm := by simp [touchCompare]
@[simp] theorem takeReport_qm (x : CellsReport) : (takeReport n x s).qm = s.qm := by
  unfold takeReport
  split <;> simp

/-! ### Operations of Machine/Service.lean -/

@[simp] theorem putService_qm (v : ServiceSt) : (putService n v s).qm = s.qm := rfl
@[simp] theorem servicePoll_qm : (servicePoll n s).qm = s.qm := by
  unfold servicePoll
  split <;> simp
@[simp] theorem takeHold_qm : (takeHold n s).qm = s.qm := by
  unfold takeHold
  split <;> simp
@[simp] theorem nextHold_qm : (nextHold s).qm = s.qm := by
  unfold nextHold
  split <;> simp
@[simp] theorem startService_qm (v : ServiceSt) : (startService n v s).qm = s.qm := by simp [startService]
@[simp] theorem endService_qm (st : Status) : (endService n st s).qm = s.qm := by simp [endService]
@[simp] theorem serviceRelease_qm : (serviceRelease n s).qm = s.qm := by
  unfold serviceRelease
  split <;> simp
@[simp] theorem serviceDone_qm (v : ServiceSt) : (serviceDone n v s).qm = s.qm := by simp [serviceDone]
@[simp] theorem nextChunk_qm (v : ServiceSt) : (nextChunk n v s).qm = s.qm := by simp [nextChunk]
@[simp] theorem reExchange_qm : (reExchange n s).qm = s.qm := rfl
@[simp] theorem serviceReply_qm (result : Option Nat) (data : List Byte) : (serviceReply n result data s).qm = s.qm := by
  unfold serviceReply
  (repeat' split) <;> simp
@[simp] theorem serviceCaps_qm (image : Word) : (serviceCaps n image s).qm = s.qm := by
  unfold serviceCaps
  split <;> simp
@[simp] theorem serviceSetup_qm : (serviceSetup n s).qm = s.qm := by
  unfold serviceSetup
  split <;> simp
@[simp] theorem bleedTaken_qm (args : List Byte) : (bleedTaken n args s).qm = s.qm := by simp [bleedTaken]
@[simp] theorem setupReply_qm (k : Nat) (ok : Bool) (args : List Byte) : (setupReply n k ok args s).qm = s.qm := by
  simp [setupReply]
@[simp] theorem cmdDone_qm (c : NodeCmd) (result : Option Nat) (data : List Byte) : (cmdDone p c result data s).qm = s.qm := by
  unfold cmdDone
  split <;> simp
@[simp] theorem failCmds_qm : (failCmds p s).qm = s.qm := by simp [failCmds]

/-! ### Operations of Machine/PortRows.lean -/

@[simp] theorem readPower_qm : (readPower p s).qm = s.qm := rfl
@[simp] theorem readTk_qm : (readTk p s).qm = s.qm := rfl
@[simp] theorem retestFailed_qm : (retestFailed p s).qm = s.qm := rfl
@[simp] theorem leaveRunning_qm (new : LinkState) : (leaveRunning p new s).qm = s.qm := by simp [leaveRunning]
@[simp] theorem bringupFails_qm (new : LinkState) : (bringupFails p new s).qm = s.qm := rfl
@[simp] theorem settlePort_qm : (settlePort p s).qm = s.qm := rfl
@[simp] theorem placeFenced_qm (cause : Nat) : (placeFenced n cause s).qm = s.qm := by simp [placeFenced]
@[simp] theorem placeDark_qm : (placeDark n s).qm = s.qm := by simp [placeDark]
@[simp] theorem placeStart_qm : (placeStart n s).qm = s.qm := by
  unfold placeStart
  (repeat' split) <;> simp
@[simp] theorem settleRefused_qm : (settleRefused n s).qm = s.qm := by simp [settleRefused]
@[simp] theorem unpartner_qm (cause : Nat) : (unpartner p cause s).qm = s.qm := by simp [unpartner]
@[simp] theorem sendSync_qm (step : Bool) : (sendSync p step s).qm = s.qm := rfl
@[simp] theorem setDelay_qm (d round : Rat) : (setDelay p d round s).2.qm = s.qm := by simp [setDelay]
@[simp] theorem delayEvent_qm (old new : Rat) (moved : Bool) : (delayEvent p old new moved s).qm = s.qm := by simp [delayEvent]
@[simp] theorem trackDelay_qm (down : Rat) : (trackDelay p down s).qm = s.qm := by
  unfold trackDelay
  split <;> simp
@[simp] theorem retestTake_qm (down : Rat) : (retestTake p down s).qm = s.qm := by
  unfold retestTake
  split <;> simp
@[simp] theorem timingReply_qm (x : Stat) (t4 : Stamp) : (timingReply p x t4 s).qm = s.qm := by
  unfold timingReply
  dsimp only
  (repeat' split) <;> simp
@[simp] theorem refuse_qm (cause value : Nat) : (refuse p cause value s).qm = s.qm := by simp [refuse]
@[simp] theorem faultToneEvent_qm (cause : Byte) (wasArmed : Bool) : (faultToneEvent p cause wasArmed s).qm = s.qm := by
  simp [faultToneEvent]
@[simp] theorem linkLossEvent_qm (cause : Nat) (st : LinkState) (wasArmed : Bool) :
    (linkLossEvent p cause st wasArmed s).qm = s.qm := by simp [linkLossEvent]

/-! ### Operations of Machine/EdgeRows.lean -/

@[simp] theorem breakContinuity_qm : (breakContinuity n s).qm = s.qm := by
  unfold breakContinuity
  dsimp only
  split <;> simp -implicitDefEqProofs
@[simp] theorem countCharge_qm (r : EdgeRec) : (countCharge n r s).qm = s.qm := by
  unfold countCharge
  dsimp only
  split <;> simp
@[simp] theorem edgeStream_qm (x : ExecRec) : (edgeStream n x s).qm = s.qm := by simp -implicitDefEqProofs [edgeStream]
@[simp] theorem edgeGap_qm (time stop : DWord) (st : Option OutState) : (edgeGap n time stop st s).qm = s.qm := by
  unfold edgeGap
  split <;> simp
@[simp] theorem edgeEngine_qm (r : EdgeRec) (stop : DWord) (stale : Bool) : (edgeEngine n r stop stale s).qm = s.qm := rfl
@[simp] theorem takeEdge_qm (base : DWord) (r : EdgeRec) : (takeEdge n base s r).qm = s.qm := by simp [takeEdge]
@[simp] theorem reportAssay_qm (x : CellsReport) (wStart : Int) : (reportAssay n x wStart s).qm = s.qm := by simp [reportAssay]

/-! ### Operations of Machine/Crucible.lean -/

@[simp] theorem setRate_qm (t : Nat) : (setRate n t s).qm = s.qm := by
  unfold setRate
  dsimp only
  (repeat' split) <;> simp
@[simp] theorem rorEvent_qm (kind t : Nat) (ended : Bool) : (rorEvent n kind t ended s).qm = s.qm := by simp [rorEvent]
@[simp] theorem rateOfRise_qm : (rateOfRise n s).qm = s.qm := by
  unfold rateOfRise
  dsimp only
  (repeat' split) <;> simp
@[simp] theorem fastMode_qm : (fastMode n s).qm = s.qm := by simp [fastMode]
@[simp] theorem tsSteps_qm (fresh : Bool) : (tsSteps fresh s).qm = s.qm := by
  refine forEach_qm _ _ _ fun i u => ?_
  split
  · rfl
  · split <;> rfl
@[simp] theorem throttleEvent_qm (subject chan step source factor sensor : Nat) (temp : Int) :
    (throttleEvent subject chan step source factor sensor temp s).qm = s.qm := by simp [throttleEvent]
@[simp] theorem throttle_qm (fresh : Bool) : (throttle fresh n s).qm = s.qm := by
  unfold throttle
  dsimp only
  (repeat' split) <;> simp
@[simp] theorem crucibleUpdate_qm : (crucibleUpdate s).qm = s.qm := by simp [crucibleUpdate]
@[simp] theorem sensorFaultEvent_qm (i : TempIn) (kind : Nat) (ended trip : Bool) :
    (sensorFaultEvent i kind ended trip s).qm = s.qm := by simp [sensorFaultEvent]
@[simp] theorem tsTake_qm (i : TempIn) (t : Int) : (tsTake i t s).qm = s.qm := rfl

/-! ### Operations of Machine/Estimator.lean -/

@[simp] theorem advanceGroup_qm (d : Int) (id_ : Rat) (i : Nat) : (advanceGroup n d id_ i s).qm = s.qm := rfl
@[simp] theorem advanceChan_qm : (advanceChan n s).2.qm = s.qm := by simp -implicitDefEqProofs [advanceChan]
@[simp] theorem advanceAll_qm (l : List Chan) : (advanceAll l s).2.qm = s.qm := by
  induction l generalizing s with
  | nil => rfl
  | cons n ns ih => exact (ih _).trans (advanceChan_qm n s)
@[simp] theorem advanceSegment_qm (l : List (Chan × (Rat × Rat) × (Rat × Rat))) : (advanceSegment l s).qm = s.qm := by
  unfold advanceSegment
  dsimp only
  split <;> rfl

/-! ### Operations of Machine/Limits.lean -/

@[simp] theorem limitsUpdate_qm : (limitsUpdate n s).qm = s.qm := by
  unfold limitsUpdate
  dsimp only
  split <;> simp
@[simp] theorem deratedEvent_qm (cause : Nat) (ended : Bool) (factor : Rat) : (deratedEvent n cause ended factor s).qm = s.qm := by
  simp [deratedEvent]
@[simp] theorem deratedEvents_qm : (deratedEvents n s).qm = s.qm := by simp [deratedEvents]
@[simp] theorem segmentLimits_qm : (segmentLimits s).qm = s.qm := rfl
@[simp] theorem restEvent_qm (ended again : Bool) : (restEvent n ended again s).qm = s.qm := by simp [restEvent]
@[simp] theorem restRequests_qm : (restRequests n s).qm = s.qm := by
  unfold restRequests
  dsimp only
  split <;> simp
@[simp] theorem finishRest_qm : (finishRest n s).qm = s.qm := by simp -implicitDefEqProofs [finishRest]
@[simp] theorem restEarly_qm : (restEarly n s).qm = s.qm := by
  unfold restEarly
  split <;> simp
@[simp] theorem bypassGap_qm : (bypassGap n s).qm = s.qm := by
  unfold bypassGap
  split
  · rfl
  · split <;> simp -implicitDefEqProofs
@[simp] theorem ownGap_qm : (ownGap s).qm = s.qm := by
  unfold ownGap
  (repeat' split) <;> simp
@[simp] theorem bleedUpdate_qm : (bleedUpdate n s).qm = s.qm := by simp [bleedUpdate]
@[simp] theorem countCycles_qm : (countCycles n s).qm = s.qm := by simp [countCycles]
@[simp] theorem notStored_qm (reason : Nat) : (notStored n reason s).qm = s.qm := by simp [notStored]
@[simp] theorem restAnchors_qm (top : Bool) (miss : Rat) : (restAnchors n top miss s).qm = s.qm := by
  simp -implicitDefEqProofs [restAnchors]
@[simp] theorem cyclePhase_qm (p : Nat) : (cyclePhase n p s).qm = s.qm := rfl
@[simp] theorem learnGroup_qm (dq : Rat) (k : Nat) : (learnGroup n dq k s).2.qm = s.qm := by simp [learnGroup]
@[simp] theorem writeBack_qm : (writeBack n s).qm = s.qm := by simp [writeBack]
@[simp] theorem cycleLearn_qm : (cycleLearn n s).qm = s.qm := by
  unfold cycleLearn
  simp only [cyclePhase_qm, writeBack_qm, checkVerified_qm, modCyc_qm]
  exact foldl_qm Prod.snd _ _ _ fun _ _ => learnGroup_qm _ _ _ _
@[simp] theorem cycleUpdate_qm : (cycleUpdate n s).qm = s.qm := by
  unfold cycleUpdate
  dsimp only
  (repeat' split) <;> simp

/-! ### Operations of Machine/AssayRows.lean -/

@[simp] theorem provPoll_qm : (provPoll n s).qm = s.qm := by simp [provPoll]
@[simp] theorem masterUpdate_qm : (masterUpdate n s).qm = s.qm := by simp [masterUpdate]
@[simp] theorem estimate_qm : (estimate s).qm = s.qm := by simp [estimate]
@[simp] theorem restBegin_qm : (restBegin n s).qm = s.qm := rfl

/-! ### Operations of Machine/TimeBase.lean -/

@[simp] theorem timeEvent_qm (old : LockState) (byCmd : Bool) : (timeEvent old byCmd s).qm = s.qm := by simp [timeEvent]
@[simp] theorem setLock_qm (new : LockState) (seam byCmd : Bool) : (setLock new seam byCmd s).qm = s.qm := by simp [setLock]
@[simp] theorem setSlew_qm (e : Int) : (setSlew e s).qm = s.qm := rfl
@[simp] theorem acquire_qm (a : Int) (e : Option Int) (byCmd : Bool) : (acquire a e byCmd s).qm = s.qm := by simp [acquire]
@[simp] theorem loopStep_qm (e : Int) : (loopStep e s).qm = s.qm := rfl
@[simp] theorem edgeOutside_qm (a : Int) : (edgeOutside a s).qm = s.qm := by simp [edgeOutside]
@[simp] theorem edgeAccepted_qm (a : Int) : (edgeAccepted a s).qm = s.qm := by
  unfold edgeAccepted
  dsimp only
  split <;> simp
@[simp] theorem edgeLoads_qm (a : Int) (p : Pend) : (edgeLoads a p s).2.qm = s.qm := by
  unfold edgeLoads
  dsimp only
  (repeat' split) <;> simp
@[simp] theorem edgeLoadsAll_qm (a : Int) (due : List Pend) : (edgeLoadsAll a due s).2.qm = s.qm :=
  foldl_qm (fun x : Bool × Int × State => x.2.2) _ _ _ fun _ _ => edgeLoads_qm _ _ _
@[simp] theorem edgeTakes_qm (a : Int) (due : List Pend) : (edgeTakes a due s).qm = s.qm := by simp [edgeTakes]
@[simp] theorem edgeOnSeam_qm (a : Int) (due : List Pend) : (edgeOnSeam a due s).qm = s.qm := by simp [edgeOnSeam]

/-! ### Operations of Machine/Twin.lean -/

@[simp] theorem seamAck_qm (ack : Half) : (seamAck ack s).qm = s.qm := by simp [seamAck]
@[simp] theorem seamGoBack_qm (ack : Half) : (seamGoBack ack s).qm = s.qm := by simp [seamGoBack]
@[simp] theorem seamCommon_qm (h : SeamHdr) : (seamCommon h s).qm = s.qm := by simp [seamCommon]
@[simp] theorem seamPlain_qm (h : SeamHdr) : (seamPlain h s).qm = s.qm := by simp [seamPlain]
@[simp] theorem roleEvent_qm (old new cause : Nat) (hitless : Bool) (gen : Word) (from_ : DWord) :
    (roleEvent old new cause hitless gen from_ s).qm = s.qm := by simp [roleEvent]
@[simp] theorem judgeRole_qm : (judgeRole s).qm = s.qm := by
  unfold judgeRole
  split <;> simp
@[simp] theorem seamEnds_qm : (seamEnds s).qm = s.qm := by simp [seamEnds]
@[simp] theorem becomeMaster_qm (cause : Nat) (epoch : Word) : (becomeMaster cause epoch s).qm = s.qm := by simp [becomeMaster]
@[simp] theorem dropTrip_latched : (dropTrip s).qm.latched = s.qm.latched := by simp [dropTrip]
@[simp] theorem dropFrames_qm : (dropFrames p s).qm = s.qm := rfl
@[simp] theorem becomeStandby_latched (cause : Nat) : (becomeStandby cause s).qm.latched = s.qm.latched := by
  simp -implicitDefEqProofs [becomeStandby]
@[simp] theorem sawEpoch_latched (e : Word) : (sawEpoch e s).qm.latched = s.qm.latched := by
  unfold sawEpoch
  dsimp only
  split <;> simp
@[simp] theorem sendTakeovers_qm (gen : Word) (from_ : DWord) : (sendTakeovers gen from_ s).qm = s.qm := by
  simp -implicitDefEqProofs [sendTakeovers]
@[simp] theorem replaceChan_qm : (replaceChan n s).qm = s.qm := by
  unfold replaceChan
  dsimp only
  (repeat' split) <;> simp
@[simp] theorem masterSteps_qm : (masterSteps s).qm = s.qm := by simp [masterSteps]
@[simp] theorem takeover_qm (cause : Nat) : (takeover cause s).qm = s.qm := by simp [takeover]
@[simp] theorem receiveArm_qm (o : Offer) : (receiveArm o s).qm = s.qm := by simp [receiveArm]
@[simp] theorem openHandover_qm (a : Asked) : (openHandover a s).qm = s.qm := rfl
@[simp] theorem restartSoon_qm (r : Restart) : (restartSoon r s).qm = s.qm := rfl
@[simp] theorem preferBank_qm (k : Bank) : (preferBank k s).qm = s.qm := rfl
@[simp] theorem handedOver_qm : (handedOver s).qm = s.qm := by
  unfold handedOver
  (repeat' split) <;> simp

/-! ### Operations of Machine/BusRows.lean -/

@[simp] theorem passiveEvent_qm (b : BusId) (ended : Bool) : (passiveEvent b ended s).qm = s.qm := by simp [passiveEvent]
@[simp] theorem busOffEvent_qm (b : BusId) (ended supply : Bool) : (busOffEvent b ended supply s).qm = s.qm := by simp [busOffEvent]
@[simp] theorem clashEvent_qm (b : BusId) (own ended : Bool) (ident : BitVec 29) : (clashEvent b own ended ident s).qm = s.qm := by
  simp [clashEvent]
@[simp] theorem aloneEvent_qm (b : BusId) (ended : Bool) (count : Nat) : (aloneEvent b ended count s).qm = s.qm := by
  simp [aloneEvent]
@[simp] theorem tripBroadcastEvent_qm (b : BusId) (received : Bool) (buses zone source groups causes count hit : Nat) :
    (tripBroadcastEvent b received buses zone source groups causes count hit s).qm = s.qm := by simp [tripBroadcastEvent]
@[simp] theorem sendsDone_qm : (sendsDone s).qm = s.qm := rfl
@[simp] theorem oneShotEnds_qm (b : BusId) (code : Nat) (f : OneShot) : (oneShotEnds b code f s).qm = s.qm := by simp [oneShotEnds]
@[simp] theorem endFifo_qm (b : BusId) (code : Nat) : (endFifo b code s).qm = s.qm := by simp [endFifo]
@[simp] theorem endFirst_qm (b : BusId) (code : Nat) : (endFirst b code s).qm = s.qm := by
  unfold endFirst
  split <;> simp
@[simp] theorem queueOneShot_qm (b : BusId) (f : OneShot) : (queueOneShot b f s).qm = s.qm := rfl
@[simp] theorem busReturns_qm (b : BusId) : (busReturns b s).qm = s.qm := rfl
@[simp] theorem busJudge_qm (b : BusId) : (busJudge b s).qm = s.qm := by simp [busJudge]
@[simp] theorem busRejoins_qm (b : BusId) (supply : Bool) : (busRejoins b supply s).qm = s.qm := by simp [busRejoins]
@[simp] theorem declareClash_qm (b : BusId) (own : Bool) (ident : BitVec 29) : (declareClash b own ident s).qm = s.qm := by
  simp [declareClash]
@[simp] theorem clearClash_qm : (clearClash s).qm = s.qm := by simp -implicitDefEqProofs [clearClash]
@[simp] theorem recoversDone_qm : (recoversDone s).qm = s.qm := rfl
@[simp] theorem tripSent_qm (b : BusId) : (tripSent b s).qm = s.qm := by
  unfold tripSent
  split <;> simp
@[simp] theorem tecRaise_qm (e : BusErr) (dataPhase : Bool) (x : BusOne) : (tecRaise e dataPhase x s).2.qm = s.qm := by
  unfold tecRaise
  split <;> simp
@[simp] theorem recvAfter_qm (b : BusId) : (recvAfter b s).qm = s.qm := by simp [recvAfter]
@[simp] theorem busTakes_qm (b : BusId) (ident : BitVec 29) : (busTakes b ident s).qm = s.qm := by simp [busTakes]
@[simp] theorem busRecord_qm (b : BusId) (f : BusFrame) : (busRecord b f s).qm = s.qm := by simp -implicitDefEqProofs [busRecord]
@[simp] theorem takeTrip_quenched (b : BusId) (f : BusFrame) (h : Latched s.qm.latched g) : Latched (takeTrip b f s).qm.latched g := by
  have taken : Latched (busRecord b f s).qm.latched g := by rwa [busRecord_qm]
  unfold takeTrip
  refine latched_branch h (latched_branch taken ?_)
  rw [tripBroadcastEvent_qm]
  exact busTrip_quenched _ _ taken
@[simp] theorem takeStatus_latched (b : BusId) (f : BusFrame) : (takeStatus b f s).qm.latched = s.qm.latched := by simp [takeStatus]
@[simp] theorem takeFrame_quenched (b : BusId) (f : BusFrame) (h : Latched s.qm.latched g) :
    Latched (takeFrame b f s).qm.latched g := by
  unfold takeFrame
  split
  · exact takeTrip_quenched _ b f (by rwa [busTakes_qm])
  all_goals simpa using h
@[simp] theorem busEnableChanged_qm (old : Nat) : (busEnableChanged old s).qm = s.qm := by simp [busEnableChanged]

/-! ### Operations of Machine/EngineRows.lean -/

@[simp] theorem dropWrite_qm (p : HPort) : (dropWrite p s).qm = s.qm := by simp [dropWrite]
@[simp] theorem rejectLoad_qm : (rejectLoad s).qm = s.qm := rfl
@[simp] theorem takeLoad_qm (byOpcode : Bool) : (takeLoad byOpcode s).qm = s.qm := by simp [takeLoad]
@[simp] theorem loadGo_qm (v : Word) : (loadGo v s).qm = s.qm := by simp [loadGo]
@[simp] theorem keepRef_qm (r : RefDesc) (at_ : DWord) : (keepRef r at_ s).qm = s.qm := rfl
@[simp] theorem countLate_qm (r : RefDesc) : (countLate r s).qm = s.qm := rfl
@[simp] theorem reloadCarriers_qm (start : Nat) (old : Nat) : (reloadCarriers start old s).qm = s.qm := by
  simp -implicitDefEqProofs [reloadCarriers]
@[simp] theorem reloadParams_qm (start : Nat) : (reloadParams start s).qm = s.qm := by simp [reloadParams]
@[simp] theorem applyMode_qm : (applyMode s).qm = s.qm := by
  unfold applyMode
  split <;> simp
@[simp] theorem applyLoad_qm (start : Nat) : (applyLoad start s).qm = s.qm := by
  unfold applyLoad
  split <;> simp
@[simp] theorem gapHold_qm (start : Nat) : (gapHold start n s).qm = s.qm := by simp [gapHold]
@[simp] theorem enterActive_qm : (enterActive n s).qm = s.qm := by
  unfold enterActive
  (repeat' split) <;> simp
@[simp] theorem missTriggers_qm : (missTriggers n s).qm = s.qm := rfl
@[simp] theorem staleCheck_qm : (staleCheck n s).qm = s.qm := by simp [staleCheck]
@[simp] theorem makeOffer_qm (start : Nat) : (makeOffer start s).qm = s.qm := by simp [makeOffer]
@[simp] theorem reloadTurn_qm (start : Nat) : (reloadTurn start s).qm = s.qm := by simp [reloadTurn]
@[simp] theorem reloadForm_qm (start : Nat) : (reloadForm start s).qm = s.qm := by
  unfold reloadForm
  dsimp only
  split <;> simp

/-! ### Operations of Machine/QuenchRows.lean -/

@[simp] theorem demandBegins_quenched (i : TripIn) (h : Latched s.qm.latched g) : Latched (demandBegins i s).qm.latched g := by
  simp [h, demandBegins]
@[simp] theorem demandEnds_latched (i : TripIn) : (demandEnds i s).qm.latched = s.qm.latched := by simp [demandEnds]
@[simp] theorem enterSafe_quenched (h : Latched s.qm.latched g) : Latched (enterSafe s).qm.latched g := by simp [h, enterSafe]
@[simp] theorem selftestEvent_qm (lane kind : Nat) (vector : Half) : (selftestEvent lane kind vector s).qm = s.qm := by
  simp [selftestEvent]
@[simp] theorem twoLanes_quenched (origin : Nat) (h : Latched s.qm.latched g) : Latched (twoLanes origin s).qm.latched g := by
  unfold twoLanes
  refine latched_branch (enterSafe_quenched _ ?_) ?_ <;>
    · rw [raiseFault_qm, assertTrip_latched]
      exact evalMatrix_quenched _ h

/-! ### Operations of Machine/Commit.lean -/

@[simp] theorem populationChanged_qm (old : Nat) : (populationChanged old s).qm = s.qm := by simp [populationChanged]
@[simp] theorem countsChanged_qm : (countsChanged n s).qm = s.qm := by simp [countsChanged]
@[simp] theorem tsChanged_qm (old : Tab (List Byte)) (i : TempIn) : (tsChanged old i s).qm = s.qm := by simp [tsChanged]
@[simp] theorem polarityChanged_quenched (old : Nat) (h : Latched s.qm.latched g) :
    Latched (polarityChanged old s).qm.latched g := by
  refine forEach_quenched _ _ (fun i t ht => latched_branch ht (latched_branch ?_ ?_)) h
  · exact demandBegins_quenched _ i ht
  · rwa [demandEnds_latched]
@[simp] theorem configEffects_quenched (old : Tab (List Byte)) (carrier : Bool) (h : Latched s.qm.latched g) :
    Latched (configEffects old carrier s).qm.latched g := by
  refine evalMatrix_quenched _ ?_
  rw [recomputeDeadline_qm]
  refine polarityChanged_quenched _ _ ?_
  simpa -implicitDefEqProofs using h
@[simp] theorem configWritten_quenched (h : Latched s.qm.latched g) : Latched (configWritten s).qm.latched g := by
  unfold configWritten
  split
  · exact h
  · simp only [finishOp_qm, raise_qm]
    exact configEffects_quenched _ _ _ (by simpa using h)
@[simp] theorem configLost_qm : (configLost s).qm = s.qm := rfl

/-! ### Operations of Machine/ConnectionRows.lean -/

@[simp] theorem chDone_qm (st : Status) : (chDone n st s).qm = s.qm := rfl
@[simp] theorem recheckChan_qm : (recheckChan n s).qm = s.qm := by
  unfold recheckChan
  dsimp only
  (repeat' split) <;> simp

/-! ### Operations of Machine/LoadOut.lean -/

@[simp] theorem loEvent_qm (code level : Nat) (o : LoadOut) (ended offState : Bool) (kind : Nat) :
    (loEvent code level o ended offState kind s).qm = s.qm := by simp [loEvent]
@[simp] theorem loMeasure_qm (o : LoadOut) (m : LoMeas) : (loMeasure o m s).qm = s.qm := rfl
@[simp] theorem uvEvent_qm (g : Fin 4) (ended : Bool) : (uvEvent g ended s).qm = s.qm := by simp [uvEvent]
@[simp] theorem uvDone_qm (o : LoadOut) : (uvDone o s).qm = s.qm := by simp [uvDone]
@[simp] theorem loStart_qm (o : LoadOut) : (loStart o s).qm = s.qm := by simp [loStart]
@[simp] theorem loNextQueued_qm (g : Fin 4) : (loNextQueued g s).qm = s.qm := by
  unfold loNextQueued
  (repeat' split) <;> simp
@[simp] theorem loTurnOn_qm (o : LoadOut) (inrush attempt : Bool) : (loTurnOn o inrush attempt s).qm = s.qm := by simp [loTurnOn]
@[simp] theorem loAuto_qm (o : LoadOut) (attempt : Bool) : (loAuto o attempt s).qm = s.qm := by simp [loAuto]
@[simp] theorem loOff_qm (o : LoadOut) (st : LoState) : (loOff o st s).qm = s.qm := by simp [loOff]
@[simp] theorem loRetire_qm (o : LoadOut) (kind : Nat) : (loRetire o kind s).qm = s.qm := by simp [loRetire]
@[simp] theorem loFault_qm (o : LoadOut) (kind : Nat) (m : LoMeas) : (loFault o kind m s).qm = s.qm := by simp [loFault]
@[simp] theorem loTrip_qm (o : LoadOut) (kind : Nat) (m : LoMeas) : (loTrip o kind m s).qm = s.qm := by simp [loTrip]
@[simp] theorem loResume_qm (o : LoadOut) : (loResume o s).qm = s.qm := by
  unfold loResume
  dsimp only
  (repeat' split) <;> simp
@[simp] theorem loCutGroup_qm (g : Fin 4) : (loCutGroup g s).qm = s.qm := by simp [loCutGroup]
@[simp] theorem loStuck_qm (o : LoadOut) : (loStuck o s).qm = s.qm := by simp [loStuck]
@[simp] theorem loSelfTest_qm (o : LoadOut) : (loSelfTest o s).2.qm = s.qm := rfl
@[simp] theorem loTested_qm (o : LoadOut) (outcome : Nat) : (loTested o outcome s).qm = s.qm := by
  unfold loTested
  split <;> simp
@[simp] theorem loResetOne_qm (powerOn : Bool) (o : LoadOut) : (loResetOne powerOn o s).qm = s.qm := rfl
@[simp] theorem loReset_qm (powerOn : Bool) : (loReset powerOn s).qm = s.qm := by simp -implicitDefEqProofs [loReset]
@[simp] theorem loReadyOne_qm (o : LoadOut) : (loReadyOne o s).qm = s.qm := by simp [loReadyOne]
@[simp] theorem loReady_qm : (loReady s).qm = s.qm := by simp [loReady]
@[simp] theorem loSetOne_qm (o : LoadOut) (on inrush : Bool) : (loSetOne o on inrush s).2.qm = s.qm := by
  unfold loSetOne
  dsimp only
  (repeat' split) <;> simp
@[simp] theorem loSetAll_qm (sel st inr : Word) : (loSetAll sel st inr s).2.qm = s.qm :=
  foldl_qm Prod.snd _ _ _ fun _ _ => loSetOne_qm _ _ _ _
@[simp] theorem loUncut_qm (g : Fin 4) : (loUncut g s).qm = s.qm := by simp [loUncut]
@[simp] theorem loRearmOne_qm (o : LoadOut) : (loRearmOne o s).2.qm = s.qm := by simp [loRearmOne]

/-! ### Operations of Machine/TwinRows.lean -/

@[simp] theorem seamLink_qm (l : SeamLane) (up : Bool) (cause : Nat) : (seamLink l up cause s).qm = s.qm := by simp [seamLink]
@[simp] theorem partnerEvent_qm (ended : Bool) : (partnerEvent ended s).qm = s.qm := by simp [partnerEvent]
@[simp] theorem laneChanged_qm (before : SeamLane) : (laneChanged before s).qm = s.qm := by simp [laneChanged]
@[simp] theorem laneHeard_qm (l : SeamLane) : (laneHeard l s).qm = s.qm := by simp [laneHeard]
@[simp] theorem partnerLost_qm : (partnerLost s).qm = s.qm := by simp [partnerLost]
@[simp] theorem laneDown_qm (l : SeamLane) (cause : Nat) : (laneDown l cause s).qm = s.qm := by simp [laneDown]
@[simp] theorem activeAtStart_qm : (activeAtStart s).qm = s.qm := by simp [activeAtStart]
@[simp] theorem resolveRole_latched : (resolveRole s).qm.latched = s.qm.latched := by
  unfold resolveRole
  (repeat' split) <;> simp
@[simp] theorem mismatchEvent_qm (x : Heartbeat) (cause : Nat) : (mismatchEvent x cause s).qm = s.qm := by simp [mismatchEvent]
@[simp] theorem seamTime_qm (x : Heartbeat) : (seamTime x s).qm = s.qm := by simp [seamTime]
@[simp] theorem onPairing_qm (fresh : Bool) (x : Heartbeat) : (onPairing fresh x s).qm = s.qm := by simp [onPairing]
@[simp] theorem partnerRole_latched (x : Heartbeat) : (partnerRole x s).qm.latched = s.qm.latched := by simp [partnerRole]
@[simp] theorem laneHealed_qm (l : SeamLane) : (laneHealed l s).qm = s.qm := by simp [laneHealed]
@[simp] theorem handoverFails_qm (a : Asked) : (handoverFails a s).qm = s.qm := by
  unfold handoverFails
  split <;> simp

/-! ### Operations of Machine/ImageRows.lean -/

@[simp] theorem modBank_qm (k : Bank) (f : BankSt → BankSt) : (modBank k f s).qm = s.qm := by
  unfold modBank
  split <;> simp
@[simp] theorem judgeBank_qm (k : Bank) : (judgeBank k s).2.qm = s.qm := by
  unfold judgeBank
  split <;> simp

/-! ### Operations of Machine/MirrorRows.lean -/

@[simp] theorem seamHdr_qm (h : SeamHdr) : (seamHdr h s).2.qm = s.qm := by simp [seamHdr]
@[simp] theorem takeEntry_qm (e : MirrorEntry) : (takeEntry n e s).qm = s.qm := rfl
@[simp] theorem mirrorRef_qm (m : SetMirror) : (mirrorRef m s).qm = s.qm := by
  unfold mirrorRef
  (repeat' split) <;> simp
@[simp] theorem takeMirror_qm (m : SetMirror) : (takeMirror m s).qm = s.qm := by simp -implicitDefEqProofs [takeMirror]
@[simp] theorem takeCells_qm (l : List FlagEntry) : (takeCells n l s).qm = s.qm := rfl
@[simp] theorem takeWires_qm (l : List FlagEntry) : (takeWires n l s).qm = s.qm := rfl
@[simp] theorem takeRetired_qm (b : ChanBook) : (takeRetired n b s).qm = s.qm := by simp [takeRetired]
@[simp] theorem takeBook_qm (b : ChanBook) : (takeBook s b).qm = s.qm := by simp [takeBook]
@[simp] theorem takeGroup_qm (g : GroupRecon) : (takeGroup s g).qm = s.qm := rfl
@[simp] theorem takeChannel_qm (c : ChanRecon) : (takeChannel s c).qm = s.qm := by simp [takeChannel]
@[simp] theorem takeAssay_qm (l : List AssayRecon) : (takeAssay l n s).qm = s.qm := by
  unfold takeAssay
  split <;> simp -implicitDefEqProofs
@[simp] theorem takeLearned_qm (x : Chan × LearnedRec) : (takeLearned s x).qm = s.qm := by simp [takeLearned]
@[simp] theorem takeImp_qm (r : ImpRec) : (takeImp s r).qm = s.qm := rfl
@[simp] theorem judgeDelta_qm (dz : Rat) : (judgeDelta dz s).qm = s.qm := rfl
@[simp] theorem takeReconcile_qm (x : Reconcile) : (takeReconcile x s).qm = s.qm := by
  refine (foldl_qm id _ _ _ takeImp_qm).trans ((foldl_qm id _ _ _ takeLearned_qm).trans ?_)
  refine (forEach_qm _ _ _ fun n t => takeAssay_qm n t x.assays).trans ?_
  exact (foldl_qm id _ _ _ takeChannel_qm).trans ((foldl_qm id _ _ _ takeGroup_qm).trans (judgeDelta_qm _ _))

/-! ### Operations of Machine/NodeRows.lean -/

@[simp] theorem sawGens_qm (l : List Word) : (sawGens p l s).qm = s.qm := by simp [sawGens]
@[simp] theorem reportState_qm (code : Byte) : (reportState p code s).qm = s.qm := by simp [reportState]
@[simp] theorem crossWire_qm (x : Caps) : (crossWire p x s).qm = s.qm := by simp [crossWire]
@[simp] theorem duplicate_qm (p q : Chan) (x : Caps) : (duplicate p q x s).qm = s.qm := by simp [duplicate]
@[simp] theorem eraseCalib_qm (id : DWord) : (eraseCalib p id s).qm = s.qm := by simp [eraseCalib]
@[simp] theorem placeCaps_qm (x : Caps) : (placeCaps p x s).qm = s.qm := by simp [placeCaps]
@[simp] theorem capsAccepted_latched (x : Caps) : (capsAccepted p x s).qm.latched = s.qm.latched := by simp [capsAccepted]
@[simp] theorem exchangeFails_qm : (exchangeFails p s).qm = s.qm := by simp [exchangeFails]

/-! ### Operations of Machine/StoreRows.lean -/

@[simp] theorem storeFault_qm (permanent : Bool) : (storeFault permanent s).qm = s.qm := by simp [storeFault]
@[simp] theorem countWrite_qm (w : StoreWrite) : (countWrite w s).qm = s.qm := by
  unfold countWrite
  split <;> simp
@[simp] theorem checkpointEvent_qm (kind : Nat) : (checkpointEvent kind s).qm = s.qm := by simp [checkpointEvent]
@[simp] theorem checkpointWritten_qm (kind : Nat) : (checkpointWritten kind s).qm = s.qm := by simp [checkpointWritten]
@[simp] theorem learnedWritten_qm (afterCycle : Bool) : (learnedWritten n afterCycle s).qm = s.qm := by simp [learnedWritten]
@[simp] theorem impedanceWritten_qm : (impedanceWritten n s).qm = s.qm := rfl
@[simp] theorem stored_quenched (w : StoreWrite) (h : Latched s.qm.latched g) : Latched (stored w s).qm.latched g := by
  unfold stored
  split
  · exact configWritten_quenched _ h
  all_goals simpa using h
@[simp] theorem unstored_qm (w : StoreWrite) : (unstored w s).qm = s.qm := by
  unfold unstored
  split <;> simp

/-! ### Operations of Machine/Startup.lean -/

@[simp] theorem imageStarts_quenched (h : Latched s.qm.latched g) : Latched (imageStarts s).qm.latched g :=
  evalMatrix_quenched _ (by simpa -implicitDefEqProofs using h)
@[simp] theorem boot_quenched (h : Latched s.qm.latched g) : Latched (boot s).qm.latched g := by
  unfold boot
  dsimp only
  split
  · exact h
  · exact imageStarts_quenched _ h
@[simp] theorem closeOld_qm : (closeOld s).qm = s.qm := by simp [closeOld]
@[simp] theorem postShutdown_qm : (postShutdown s).qm = s.qm := by
  unfold postShutdown
  split <;> simp
@[simp] theorem postTorn_qm : (postTorn s).qm = s.qm := by simp [postTorn]
@[simp] theorem dieEvent_qm (step : Nat) : (dieEvent step s).qm = s.qm := by simp [dieEvent]
@[simp] theorem dieOffer_qm : (dieOffer s).qm = s.qm := by simp [dieOffer]

/-! ### Operations of Machine/FaultAction.lean -/

@[simp] theorem fenceStep_qm (cause k : Nat) : (fenceStep n cause k s).qm = s.qm := by simp [fenceStep]
@[simp] theorem retireStep_qm (k : Nat) : (retireStep n k s).qm = s.qm := by simp [retireStep]
@[simp] theorem fenceBlock_qm (cause subject : Nat) : (fenceBlock cause subject s).qm = s.qm := by
  unfold fenceBlock
  dsimp only
  split <;> simp
@[simp] theorem freeBlock_qm (cause subject : Nat) : (freeBlock cause subject s).qm = s.qm := by
  unfold freeBlock
  split <;> simp
@[simp] theorem l3Step_quenched (cause k : Nat) (h : Latched s.qm.latched g) : Latched (l3Step cause k s).qm.latched g := by
  have safe := enterSafe_quenched s h
  unfold l3Step
  exact latched_branch h (latched_branch (latched_branch safe (latched_branch h (latched_branch h safe))) safe)
@[simp] theorem actionStep_quenched (r : FaultRec) (h : Latched s.qm.latched g) : Latched (actionStep r s).qm.latched g := by
  unfold actionStep
  dsimp only
  split
  · exact l3Step_quenched _ _ _ h
  · simpa using h
@[simp] theorem lockstepFault_qm (pair : Nat) : (lockstepFault pair s).qm = s.qm := by simp [lockstepFault]
@[simp] theorem releasePinned_qm (n : Nat) : (releasePinned n s).qm = s.qm := by simp [releasePinned]

/-! ### Operations of Machine/HostPorts.lean -/

@[simp] theorem fromActive_qm (p : HPort) (f : State → State) (h : ∀ t, (f t).qm = t.qm) : (fromActive p f s).qm = s.qm := by
  simp [fromActive, h]
@[simp] theorem fromActive_latched (p : HPort) (f : State → State) (h : ∀ t, (f t).qm.latched = t.qm.latched) :
    (fromActive p f s).qm.latched = s.qm.latched := by
  simp [fromActive, h]
@[simp] theorem ringFault_qm (r : Ring) (cause : Nat) (hpi mpi : Word) : (ringFault r cause hpi mpi s).qm = s.qm := by
  simp [ringFault]
@[simp] theorem scanRing_qm (r : Ring) : (scanRing r s).qm = s.qm := by
  unfold scanRing
  dsimp only
  split <;> simp
@[simp] theorem writeHpi_latched (p : HPort) (r : Ring) (v : Word) : (writeHpi p r v s).qm.latched = s.qm.latched := by
  simp [writeHpi]
@[simp] theorem writeCfg_qm (p : HPort) (r : Ring) (v : Word) : (writeCfg p r v s).qm = s.qm := by simp [writeCfg]
@[simp] theorem unmasked_qm (p : HPort) (old : DWord) : (unmasked p old s).qm = s.qm := by simp [unmasked]
@[simp] theorem writeMask_qm (p : HPort) (high : Bool) (v : Word) : (writeMask p high v s).qm = s.qm := by simp [writeMask]
@[simp] theorem writeMsix_qm (p : HPort) (off : Nat) (v : Word) : (writeMsix p off v s).qm = s.qm := by simp [writeMsix]
@[simp] theorem writeTakeover_qm (p : HPort) (v : Word) : (writeTakeover p v s).qm = s.qm := by simp [writeTakeover]
@[simp] theorem writeReg_latched (p : HPort) (off : Nat) (v : Word) : (writeReg p off v s).qm.latched = s.qm.latched := by
  unfold writeReg
  split
  case h_9 =>
    split
    · simp
    · split
      · dsimp only
        split <;> simp -implicitDefEqProofs
      · simp
  all_goals simp
@[simp] theorem portReset_qm (p : HPort) : (portReset p s).qm = s.qm := by simp [portReset]
@[simp] theorem linkEvent_qm (p : HPort) (up : Bool) : (linkEvent p up s).qm = s.qm := by simp [linkEvent]
@[simp] theorem returnStream_qm (r : Ring) (p : Reply) : (returnStream r p s).qm = s.qm := by simp [returnStream]

/-! ### Taking, admitting and settling -/

theorem takeSlot_latched {r : Ring} {s t : State} {idx : Word} (h : takeSlot r s = some (idx, t)) : t.qm.latched = s.qm.latched := by
  unfold takeSlot at h
  dsimp only at h
  split at h
  · cases h
  · split at h
    · cases h
      simp
    · split at h
      · cases h
      · cases h
        simp

/-! ### Operations of Machine/SafetyRows.lean -/

@[simp] theorem modSi_qm (i : SafetyIn) (f : SiSt → SiSt) : (modSi i f s).qm = s.qm := rfl
@[simp] theorem modPair_qm (k : SafetyPair) (f : PairSt → PairSt) : (modPair k f s).qm = s.qm := rfl
@[simp] theorem modSo_qm (o : SafetyOut) (f : SoSt → SoSt) : (modSo o f s).qm = s.qm := rfl
@[simp] theorem safeEvent_qm (code subject : Nat) (data : List Nat) : (safeEvent code subject data s).qm = s.qm := by
  unfold safeEvent
  split <;> simp
@[simp] theorem handOver_qm : (handOver s).qm = s.qm := forEach_qm _ _ _ fun _ _ => raise_qm _ _ _ _
@[simp] theorem demandEvent_qm (k : SafetyPair) (ended : Bool) : (demandEvent k ended s).qm = s.qm := safeEvent_qm _ _ _ _
@[simp] theorem discEvent_qm (k : SafetyPair) (ended : Bool) : (discEvent k ended s).qm = s.qm := safeEvent_qm _ _ _ _
@[simp] theorem soEvent_qm (o : SafetyOut) (kind : Nat) (ended : Bool) : (soEvent o kind ended s).qm = s.qm := safeEvent_qm _ _ _ _
@[simp] theorem degEvent_qm (d : DegSt) (ended expired : Bool) : (degEvent d ended expired s).qm = s.qm := safeEvent_qm _ _ _ _
@[simp] theorem hallEvent_qm (b : Fin 5) (restored : Bool) : (hallEvent b restored s).qm = s.qm := safeEvent_qm _ _ _ _
@[simp] theorem setFn_qm (k : SafetyPair) (new : FnState) : (setFn k new s).qm = s.qm := by
  unfold setFn
  dsimp only
  (repeat' split) <;> simp
@[simp] theorem holdHands_qm (k : SafetyPair) : (holdHands k s).qm = s.qm := by simp [holdHands]
@[simp] theorem evalHands_qm (k : SafetyPair) : (evalHands k s).qm = s.qm := by
  unfold evalHands
  dsimp only
  (repeat' split) <;> simp
@[simp] theorem evalPair_qm (k : SafetyPair) : (evalPair k s).qm = s.qm := by
  unfold evalPair
  dsimp only
  split <;> simp
@[simp] theorem evalFn_qm (k : SafetyPair) : (evalFn k s).qm = s.qm := by
  unfold evalFn
  (repeat' split) <;> simp
@[simp] theorem safeSettle_quenched (h : Latched s.qm.latched g) : Latched (safeSettle s).qm.latched g := by
  unfold safeSettle
  dsimp only
  split
  · refine evalMatrix_quenched _ ?_
    simpa using h
  · simpa using h
@[simp] theorem setInput_qm (i : SafetyIn) (permit : Bool) : (setInput i permit s).qm = s.qm := by
  unfold setInput
  dsimp only
  split
  · rfl
  · rw [evalFn_qm, qm_ite]
    exact ite_self _
@[simp] theorem degrade_qm (switch : Bool) (index : Nat) : (degrade switch index s).qm = s.qm := by
  unfold degrade
  (repeat' split) <;> simp
@[simp] theorem degradeSeen_qm (switch : Bool) (index : Nat) (present : Bool) : (degradeSeen switch index present s).qm = s.qm :=
  rfl
@[simp] theorem pulseFault_qm (k : SafetyPair) : (pulseFault k s).qm = s.qm := by simp [pulseFault]
@[simp] theorem pulseInput_qm (i : SafetyIn) (high : Bool) : (pulseInput i high s).qm = s.qm := by simp [pulseInput]
@[simp] theorem discTick_qm (k : SafetyPair) : (discTick k s).qm = s.qm := by simp [discTick]
@[simp] theorem resetFn_qm (start : Nat) (k : SafetyPair) : (resetFn start k s).qm = s.qm := by
  unfold resetFn
  (repeat' split) <;> simp
@[simp] theorem resetOut_qm (start : Nat) (o : SafetyOut) : (resetOut start o s).qm = s.qm := by simp [resetOut]
@[simp] theorem resetDegraded_qm (start : Nat) : (resetDegraded start s).qm = s.qm := by
  unfold resetDegraded
  dsimp only
  (repeat' split) <;> simp

/-! ### Starts and READY -/

@[simp] theorem bootIfUp_quenched (h : Latched s.qm.latched g) : Latched (bootIfUp s).qm.latched g := by
  unfold bootIfUp
  split
  · exact boot_quenched _ h
  · exact h
@[simp] theorem becomeReady_qm : (becomeReady s).qm = s.qm := by simp [becomeReady]

end
end Sys2Proof.Safety

/-! ## SUPPORT. What a command leaves of the latched groups -/

namespace Sys2Proof.Safety
open Sys2Proof.Machine

/-- The command completes, and its own effect leaves the latched groups as `Q` says. -/
def LatchEnds (Q : Byte → Prop) (o : Out) : Prop := ∃ u, o = .next (settle u) ∧ Q u.qm.latched

/-- They are those of before. -/
abbrev LeavesLatched (s : State) (o : Out) : Prop := LatchEnds (· = s.qm.latched) o

section
variable {s : State} {Q R : Byte → Prop} {c : Prop} [Decidable c] {a b : Out}

theorem LatchEnds.imp (h : LatchEnds Q a) (i : ∀ x, Q x → R x) : LatchEnds R a := by
  obtain ⟨u, e, q⟩ := h
  exact ⟨u, e, i _ q⟩

theorem latchEnds_doneWin {win : List Host.Cell} {u : State} (h : Q u.qm.latched) : LatchEnds Q (doneWin s win u) := ⟨_, rfl, h⟩

theorem latchEnds_done {u : State} (h : Q u.qm.latched) : LatchEnds Q (done s u) := latchEnds_doneWin h

theorem latchEnds_ite (ha : LatchEnds Q a) (hb : LatchEnds Q b) : LatchEnds Q (if c then a else b) := by
  split
  · exact ha
  · exact hb

/-- A guard behind which the row has no effect. -/
theorem latchEnds_unless (base : Q s.qm.latched) (h : LatchEnds Q a) : LatchEnds Q (if c then done s s else a) :=
  latchEnds_ite (latchEnds_done base) h

theorem leavesLatched_unless (h : LeavesLatched s a) : LeavesLatched s (if c then done s s else a) := latchEnds_unless rfl h

/-- A last guard. -/
theorem latchEnds_guarded {u v : State} (hu : Q u.qm.latched) (hv : Q v.qm.latched) : LatchEnds Q (if c then done s u else done s v) :=
  latchEnds_ite (latchEnds_done hu) (latchEnds_done hv)

/-- A command run on a state with the latched groups of `s`. -/
theorem leavesLatched_congr {t : State} (e : t.qm.latched = s.qm.latched) (h : LeavesLatched t a) : LeavesLatched s a :=
  h.imp fun _ k => k.trans e

end

/-- A host command leaves the latched groups when its own work does (03 R62 to R71). -/
theorem leavesLatched_hostCmd {h : Hdr} {op least : Nat} {g : Target} {pends : Bool} {body : State → Res} {s : State}
    (work : ∀ t, (resState (body t)).qm.latched = t.qm.latched) : LeavesLatched s (hostCmd h op least g pends body s) := by
  unfold hostCmd
  split
  case h_1 => exact latchEnds_done rfl
  case h_2 idx t taken =>
    have ht : t.qm.latched = s.qm.latched := takeSlot_latched taken
    have hb := (work t).trans ht
    have refused (r : Reply) : LeavesLatched s (done s (putTaken h op idx (some r) t)) :=
      latchEnds_done ((congrArg _ (putTaken_qm ..)).trans ht)
    refine latchEnds_ite (refused _) ?_
    split
    · exact refused _
    · refine latchEnds_ite (refused _) (latchEnds_ite (refused _) ?_)
      split
      next e => exact latchEnds_doneWin (by simpa [e] using hb)
      next e => exact latchEnds_done (by simpa [e] using hb)
      next e => exact latchEnds_doneWin (by simpa [e] using hb)

theorem leavesLatched_seamSeries {h : SeamHdr} {f : State → State} (work : ∀ t, (f t).qm = t.qm) (s : State) :
    LeavesLatched s (seamSeries h f s) :=
  leavesLatched_unless (latchEnds_guarded (by rw [work, seamHdr_qm]) (by rw [seamHdr_qm]))

/-! ### Rows of the host commands -/

@[simp] theorem chRefuse_latched (n : Chan) (st : Status) (s : State) : (resState (chRefuse n st s)).qm.latched = s.qm.latched := rfl

theorem chAccept_latched (h : Hdr) (op : Nat) (n : Chan) {work : State → State} (hw : ∀ t, (work t).qm.latched = t.qm.latched)
    (s : State) :
    (resState (chAccept h op n work s)).qm.latched = s.qm.latched :=
  hw _

theorem chGate_latched {n : Chan} {s : State} {go : Res} (hg : (resState go).qm.latched = s.qm.latched) :
    (resState (chGate n s go)).qm.latched = s.qm.latched := by
  simp [chGate, hg]

theorem execChConnect_leavesLatched (h : Hdr) (n : Chan) (active : Bool) (s : State) : LeavesLatched s (execChConnect h n active s) := by
  refine leavesLatched_hostCmd fun t => chGate_latched ?_
  dsimp only
  split
  · simp
  · split
    case h_2 =>
      split
      · simp
      · exact chAccept_latched _ _ _ (fun u => by simp) t
    case h_6 => simp
    all_goals exact chAccept_latched _ _ _ (fun u => by simp) t

theorem execChDisconnect_leavesLatched (h : Hdr) (n : Chan) (s : State) : LeavesLatched s (execChDisconnect h n s) := by
  refine leavesLatched_hostCmd fun t => chGate_latched ?_
  dsimp only
  split
  · exact chAccept_latched _ _ _ (fun u => by simp) t
  · simp

theorem execChDormant_leavesLatched (h : Hdr) (n : Chan) (s : State) : LeavesLatched s (execChDormant h n s) := by
  refine leavesLatched_hostCmd fun t => chGate_latched ?_
  split
  case h_3 =>
    split
    · exact chAccept_latched _ _ _ (fun u => by simp) t
    · simp
  case h_4 => simp
  all_goals exact chAccept_latched _ _ _ (fun u => by simp) t

theorem execChRetire_leavesLatched (h : Hdr) (n : Chan) (w4 : Word) (s : State) : LeavesLatched s (execChRetire h n w4 s) := by
  refine leavesLatched_hostCmd fun t => ?_
  split
  · simp
  · split
    · simp
    · exact chAccept_latched _ _ _ (fun u => by simp) t

theorem execChRestore_leavesLatched (h : Hdr) (n : Chan) (s : State) : LeavesLatched s (execChRestore h n s) := by
  refine leavesLatched_hostCmd fun t => ?_
  dsimp only
  split
  · simp
  · split
    case h_1 =>
      split
      · simp
      · exact chAccept_latched _ _ _ (fun u => by simp) t
    case h_2 =>
      split
      · exact chAccept_latched _ _ _ (fun u => by simp) t
      · simp
    case h_5 => simp
    all_goals exact chAccept_latched _ _ _ (fun u => by simp) t

/-- A standby keeps the reference before the command is refused (07 R214). -/
theorem execArmReference_leavesLatched (h : Hdr) (ref : RefDesc) (s : State) : LeavesLatched s (execArmReference h ref s) := by
  have work (t : State) : (resState (takeRef ref t)).qm.latched = t.qm.latched := by
    unfold takeRef
    split <;> simp
  unfold execArmReference
  exact leavesLatched_congr (by simp) (leavesLatched_hostCmd work)

theorem execLoadAll_leavesLatched (h : Hdr) (s : State) : LeavesLatched s (execLoadAll h s) := by
  refine leavesLatched_hostCmd fun t => ?_
  split
  · simp
  · split <;> simp

theorem execLoRearm_leavesLatched (h : Hdr) (mask : Word) (s : State) : LeavesLatched s (execLoRearm h mask s) := by
  refine leavesLatched_hostCmd fun t => ?_
  split
  · simp
  · exact congrArg QmSt.latched (foldl_qm Prod.snd _ _ _ fun _ _ => loRearmOne_qm _ _)

theorem ackFault_latched {id : Word} {s t : State} {n : Nat} (h : ackFault id s = some (n, t)) : t.qm.latched = s.qm.latched := by
  unfold ackFault at h
  dsimp only at h
  split at h
  · cases h; simp
  · split at h
    · cases h
    · split at h <;> cases h <;> simp

theorem execFaultAck_leavesLatched (h : Hdr) (id : Word) (s : State) : LeavesLatched s (execFaultAck h id s) := by
  refine leavesLatched_hostCmd fun t => ?_
  split
  · simp
  next e => exact ackFault_latched e

theorem execUnknownOpcode_leavesLatched (h : Hdr) (op : Half) (s : State) : LeavesLatched s (execUnknownOpcode h op s) := by
  unfold execUnknownOpcode
  split
  · exact latchEnds_done rfl
  next taken => exact latchEnds_done ((congrArg _ (putTaken_qm ..)).trans (takeSlot_latched taken))

theorem execNodeUpdate_leavesLatched (h : Hdr) (n : Chan) (bulk : Bulk) (s : State) : LeavesLatched s (execNodeUpdate h n bulk s) := by
  refine leavesLatched_hostCmd fun t => ?_
  split <;> simp

theorem execNodeCalibrate_leavesLatched (h : Hdr) (n : Chan) (kind : Byte) (s : State) :
    LeavesLatched s (execNodeCalibrate h n kind s) := by
  refine leavesLatched_hostCmd fun t => ?_
  split <;> simp

theorem execImageUpdate_leavesLatched (h : Hdr) (offset : Word) (bulk : Bulk) (last : Bool) (s : State) :
    LeavesLatched s (execImageUpdate h offset bulk last s) := by
  refine leavesLatched_hostCmd fun t => ?_
  dsimp only
  (repeat' split) <;> simp

theorem execGetParam_leavesLatched (h : Hdr) (id : Half) (view : BitVec 2) (bulk : Bulk) (s : State) :
    LeavesLatched s (execGetParam h id view bulk s) := by
  refine leavesLatched_hostCmd fun t => ?_
  dsimp only
  (repeat' split) <;> simp

theorem execSetParam_leavesLatched (h : Hdr) (id len : Half) (value : List Byte) (bulk : Bulk) (s : State) :
    LeavesLatched s (execSetParam h id len value bulk s) := by
  refine leavesLatched_hostCmd fun t => ?_
  dsimp only
  (repeat' split) <;> simp

theorem execCommitConfig_leavesLatched (h : Hdr) (validateOnly : Bool) (s : State) :
    LeavesLatched s (execCommitConfig h validateOnly s) := by
  refine leavesLatched_hostCmd fun t => ?_
  dsimp only
  (repeat' split) <;> simp

theorem execBusRecover_leavesLatched (h : Hdr) (mask : BitVec 2) (s : State) : LeavesLatched s (execBusRecover h mask s) :=
  leavesLatched_hostCmd fun t => by simp -implicitDefEqProofs

theorem execBusSend_leavesLatched (h : Hdr) (mask : BitVec 2) (mtype : BitVec 13) (cls : BitVec 4) (len : BitVec 7) (data : List Byte)
    (bulk : Bulk) (s : State) : LeavesLatched s (execBusSend h mask mtype cls len data bulk s) :=
  leavesLatched_hostCmd fun t => by simp -implicitDefEqProofs

theorem execBusMode_leavesLatched (h : Hdr) (mask mode : BitVec 2) (s : State) : LeavesLatched s (execBusMode h mask mode s) :=
  leavesLatched_hostCmd fun t => by simp -implicitDefEqProofs

/-! ### Rows that answer by a case of the state or of an operand -/

section
variable (s : State)

theorem execSyncInterval_leavesLatched : LeavesLatched s (execSyncInterval s) := by
  refine latchEnds_done (congrArg QmSt.latched (forEach_qm _ _ _ fun p t => (sendSync_qm p _ false).trans ?_))
  split <;> simp

theorem execEdgesReceived_leavesLatched (p : Chan) (hdr : FrameHdr) (x : EdgesFrame) : LeavesLatched s (execEdgesReceived p hdr x s) := by
  have head := acceptHdr_qm p s hdr true
  refine leavesLatched_unless (latchEnds_guarded (congrArg _ head) ?_)
  rw [servicePoll_qm, seqPoll_qm]
  exact congrArg QmSt.latched ((foldl_qm id _ _ _ fun _ _ => takeEdge_qm _ _ _ _).trans head)

theorem execPpsLossTimeout_leavesLatched : LeavesLatched s (execPpsLossTimeout s) := by
  unfold execPpsLossTimeout
  (repeat' split) <;> exact latchEnds_done (by simp)

theorem execReplyReceived_leavesLatched (p : Chan) (hdr : FrameHdr) (x : NodeReply) : LeavesLatched s (execReplyReceived p hdr x s) := by
  refine leavesLatched_unless (latchEnds_ite (latchEnds_done (by simp)) ?_)
  split <;> exact latchEnds_done (by simp)

theorem execCapsReceived_leavesLatched (p : Chan) (hdr : FrameHdr) (x : Caps) : LeavesLatched s (execCapsReceived p hdr x s) := by
  unfold execCapsReceived
  dsimp only
  (repeat' split) <;> exact latchEnds_done (by simp)

theorem execReloadPoint_leavesLatched (start : DWord) : LeavesLatched s (execReloadPoint start s) := by
  refine leavesLatched_unless ?_
  split
  · exact latchEnds_ite (latchEnds_done (by simp)) (latchEnds_doneWin (by simp))
  all_goals exact latchEnds_done (by simp)

theorem execLoOpenLoad_leavesLatched (o : LoadOut) (begins : Bool) (m : LoMeas) : LeavesLatched s (execLoOpenLoad o begins m s) := by
  refine leavesLatched_unless (latchEnds_ite ?_ ?_)
  · exact latchEnds_ite (latchEnds_done (by simp)) (latchEnds_ite (latchEnds_done (by simp)) (latchEnds_guarded (by simp) (by simp)))
  · split <;> exact latchEnds_done (by simp)

theorem execBusTxComplete_leavesLatched (b : BusId) (k : TxKind) : LeavesLatched s (execBusTxComplete b k s) := by
  refine latchEnds_guarded rfl ?_
  cases k <;> simp

theorem execBusTxError_leavesLatched (b : BusId) (k : TxKind) (e : BusErr) (d : Bool) : LeavesLatched s (execBusTxError b k e d s) := by
  refine leavesLatched_unless ?_
  split
  · exact latchEnds_done rfl
  · cases k <;> exact latchEnds_done (by simp)

theorem execHandoverWithdraw_leavesLatched : LeavesLatched s (execHandoverWithdraw s) := by
  unfold execHandoverWithdraw
  split
  · exact latchEnds_ite (latchEnds_doneWin (by simp)) (latchEnds_done (by simp))
  · exact latchEnds_guarded (by simp) rfl

theorem execInternalFaultDetected_leavesLatched (cause subject : Half) : LeavesLatched s (execInternalFaultDetected cause subject s) := by
  refine leavesLatched_unless ?_
  split
  case h_4 => exact latchEnds_guarded (by simp) rfl
  case h_5 => exact latchEnds_guarded (by simp) rfl
  all_goals exact latchEnds_done (by simp)

theorem execStreamInterval_leavesLatched (ring : Ring) : LeavesLatched s (execStreamInterval ring s) := by
  refine leavesLatched_unless (latchEnds_ite (latchEnds_done (by simp)) ?_)
  exact latchEnds_ite (latchEnds_doneWin (by simp)) (latchEnds_doneWin (by simp))

theorem execRegisterWrite_leavesLatched (p : HPort) (bar : Bar) (off size : Nat) (v : DWord) :
    LeavesLatched s (execRegisterWrite p bar off size v s) := by
  refine leavesLatched_unless ?_
  cases bar
  · exact latchEnds_guarded (by simp) (by simp)
  · exact latchEnds_ite (latchEnds_done (by simp)) (latchEnds_doneWin rfl)

theorem execActivePortChange_leavesLatched : LeavesLatched s (execActivePortChange s) := by
  unfold execActivePortChange
  (repeat' split) <;> exact latchEnds_done (by simp)

end

/-! ### Every command that evaluates no matrix -/

/-- A row that evaluates the matrix and so may latch groups (08 R243 to R254). -/
def quenchRow : Instr → Bool
  | .tripInputDemand _ _ | .tripWiringFault _ _ | .blankingEnd _ | .hwFaultRequest _ | .laneSelftest _ _ | .debugHalt
  | .hostSilenceTimeout _ | .faultToneArrival _ _ | .toneLost _ _ | .tsConversion _ _ | .tsFaultTrip _ | .tripBroadcastRx _ _ _ _
  | .twinStatusRx _ _ _ | .busFrameRx _ _ | .recordWriteDone _ | .faultActionStep | .clockRestored | .thermalRestart => true
  | c => supervisorRow c

/-- Every other row leaves the latched groups, but QUENCH_RELEASE, HEARTBEAT_RX and the resets. -/
theorem exec_leavesLatched (c : Instr) (s : State) (noReset : resetRow c = false) (noQuench : quenchRow c = false)
    (noRelease : ∀ h m, c ≠ .quenchRelease h m) (noPartner : ∀ l h x, c ≠ .heartbeatRx l h x) : LeavesLatched s (exec c s) := by
  cases c with
  | powerOn | mrst | watchdogReset | deferredRestart | clockLoss | railFault | reserveExhausted | thermalShutdown => cases noReset
  | tripInputDemand | tripWiringFault | blankingEnd | hwFaultRequest | laneSelftest | debugHalt | hostSilenceTimeout
  | faultToneArrival | toneLost | tsConversion | tsFaultTrip | tripBroadcastRx | twinStatusRx | busFrameRx | recordWriteDone
  | faultActionStep | clockRestored | thermalRestart | siDemand | siPermit | siChatter | pulseSample | discrepancyTick
  | twoHandSyncTimeout | srstPressAccepted | resetStuck | offPulseTest | soReadbackFault | degradedExpiry | hallmarkScan
  | safetyInternalFault | vsafeLoss | vsafeStart => cases noQuench
  | quenchRelease => exact absurd rfl (noRelease _ _)
  | heartbeatRx => exact absurd rfl (noPartner _ _ _)
  | moduleReady => exact latchEnds_guarded (by simp) rfl
  | hstHeartbeatWrite | hstRingHpiWrite | hstRingCfgWrite | pulseSuppressedReport | restagedReport | tripPresenceEnd
  | tripreqHoldEnd | loShort | loThermalLatch | loClampTurnoff | busRecoveryDone | oneShotTimeout | debugResume | tapInstruction
  | causeCountExpiry => exact latchEnds_done (by simp)
  | hostPortReset port kind => cases kind <;> exact latchEnds_done (by simp)
  | loadAllGo | hstTakeoverWrite | hstIrqPendClear | hstWriteDropsRead | hstTimeLoRead | portSettleTimeout | holdupTestDone
  | aloneWaitExpiry | powerFailWarning | powerFailHandover | powerFailWithdrawn | checkpointPeriodic | holdoverExpiry
  | oscCompensation | portLightDetect | lightOnUnpopulated | toneQualified | rangingVerified
  | bringupStageOverrun | bringupRetry | exchangeTimeout | downstreamDetect | toneHealthyReturn
  | statReceived | timingReplyAbsent | frameInvalid | frameErrorCheck | saturationReport | referenceLateReport
  | tripChatterEnd | annealDelayExpiry | plausHoldExpiry | contactRecheck | openWireScan | restRequestRepeat
  | restWaitExpiry | restEnd | assayTimeout | impedanceSave | dieWarnRecheck | loOverload | loThermalRelease
  | loUvRestart | loInrushEnd | loAnnealed | loAttemptReset | loStuckOn | loOnMax
  | busSupplyAbsent | busSupplyRestored | fwCountTick | seamLaneDown | fwSilence | nodeWitness | seamRetxTimeout
  | ringIrqHoldExpiry | bringupWaitExpiry | seamLaneLock | busRxError | serviceHoldWaitTimeout =>
    exact latchEnds_guarded (by simp) (by simp)
  | twinStatusTimer | segmentStatusTimer => exact latchEnds_guarded rfl (by simp -implicitDefEqProofs)
  | roleResolution | compensationLearn | hostLinkChange | characterLock | cellsBurstReceived | cellsTriggerReceived | touchReceived
  | contactorOpenRetry | cellLimitTimer | estimatorUpdate | restStart | loAttemptDue
  | heartbeatTx | setMirrorRx | mirrorMiss | portLightLoss =>
    exact latchEnds_ite (latchEnds_done (by simp)) (latchEnds_guarded (by simp) (by simp))
  | ppsEdge | cellsReportReceived | contactorTestTimeout | loUndervoltage | dieWarning =>
    exact latchEnds_ite (latchEnds_done (by simp)) (latchEnds_ite (latchEnds_done (by simp)) (latchEnds_guarded (by simp) (by simp)))
  | seamFrameInvalid =>
    exact leavesLatched_unless (latchEnds_ite (latchEnds_done rfl) (latchEnds_guarded (by simp) (by simp)))
  | rangingComplete =>
    exact leavesLatched_unless (latchEnds_ite (latchEnds_done (by simp)) (latchEnds_ite (latchEnds_done (by simp))
      (latchEnds_guarded (by simp) (by simp))))
  | readIdentity | setTime | streamSetup | resetModule | hostSwitch | restage | setMode | assayCycleStart
  | assayCycleAbort | restGrant | touchmarkProvision | readLimits | linkRetest | thermalMode | loSet | safetyStatus | twinHandover
  | imageActivate | logRead => unfold exec; exact leavesLatched_hostCmd fun t => by simp
  | stateMirrorRx => exact leavesLatched_seamSeries (fun t => foldl_qm id _ _ _ takeBook_qm) s
  | reconcileRx => exact leavesLatched_seamSeries (fun t => takeReconcile_qm t _) s
  | configRx | imageRx => unfold exec; exact leavesLatched_seamSeries (fun t => by simp) s
  | setTimeTimeout | busModeApply | cmdReplyTimeout | rangingSync | imageChunkWritten =>
    dsimp only [exec, execSetTimeTimeout, execBusModeApply, execCmdReplyTimeout, execRangingSync, execImageChunkWritten]
    split <;> exact latchEnds_done (by simp)
  | prechargeTimeout | disconnectBypassTimeout | retransmitTimeout | l2BlockRestart =>
    dsimp only [exec, execPrechargeTimeout, execDisconnectBypassTimeout, execRetransmitTimeout, execL2BlockRestart]
    (repeat' split) <;> exact latchEnds_done (by simp)
  | getParam => exact execGetParam_leavesLatched _ _ _ _ s
  | setParam => exact execSetParam_leavesLatched _ _ _ _ _ s
  | commitConfig => unfold exec; exact execCommitConfig_leavesLatched _ _ s
  | chConnect => exact execChConnect_leavesLatched _ _ _ s
  | chDisconnect => exact execChDisconnect_leavesLatched _ _ s
  | chDormant => exact execChDormant_leavesLatched _ _ s
  | chRetire => exact execChRetire_leavesLatched _ _ _ s
  | chRestore => exact execChRestore_leavesLatched _ _ s
  | armReference => exact execArmReference_leavesLatched _ _ s
  | loadAll => exact execLoadAll_leavesLatched _ s
  | nodeUpdate => exact execNodeUpdate_leavesLatched _ _ _ s
  | nodeCalibrate => exact execNodeCalibrate_leavesLatched _ _ _ s
  | loRearm => exact execLoRearm_leavesLatched _ _ s
  | busRecover => exact execBusRecover_leavesLatched _ _ s
  | busSend => exact execBusSend_leavesLatched _ _ _ _ _ _ _ s
  | busMode => exact execBusMode_leavesLatched _ _ _ s
  | imageUpdate => exact execImageUpdate_leavesLatched _ _ _ _ s
  | faultAck => exact execFaultAck_leavesLatched _ _ s
  | unknownOpcode => exact execUnknownOpcode_leavesLatched _ _ s
  | registerWrite => exact execRegisterWrite_leavesLatched s _ _ _ _ _
  | activePortChange => exact execActivePortChange_leavesLatched s
  | streamInterval => exact execStreamInterval_leavesLatched s _
  | ppsLossTimeout => exact execPpsLossTimeout_leavesLatched s
  | syncInterval => exact execSyncInterval_leavesLatched s
  | capsReceived => exact execCapsReceived_leavesLatched s _ _ _
  | edgesReceived => exact execEdgesReceived_leavesLatched s _ _ _
  | replyReceived => exact execReplyReceived_leavesLatched s _ _ _
  | reloadPoint => unfold exec; exact execReloadPoint_leavesLatched s _
  | loOpenLoad => exact execLoOpenLoad_leavesLatched s _ _ _
  | busTxComplete => exact execBusTxComplete_leavesLatched s _ _
  | busTxError => exact execBusTxError_leavesLatched s _ _ _ _
  | handoverWithdraw => exact execHandoverWithdraw_leavesLatched s
  | internalFaultDetected => exact execInternalFaultDetected_leavesLatched s _ _

/-! ### The rows that evaluate the matrix -/

section
variable {s : State} {g : Group} (q : Latched s.qm.latched g)
include q

/-- What leaves the latched groups alone latches no fewer. -/
theorem LeavesLatched.quenched {o : Out} (k : LeavesLatched s o) : LatchEnds (Latched · g) o := k.imp fun _ e => e ▸ q

theorem safeRow_quenched {f : State → State} (work : ∀ t, (f t).qm = t.qm) : LatchEnds (Latched · g) (safeRow s f) :=
  latchEnds_guarded (safeSettle_quenched _ (by rwa [work])) q

/-- The supervisor's rows: its functions move, then its request acts on the matrix (15 R453). -/
theorem supervisor_quenched (c : Instr) (sup : supervisorRow c = true) : LatchEnds (Latched · g) (exec c s) := by
  cases c with
  | siDemand | siPermit | siChatter | pulseSample | discrepancyTick | twoHandSyncTimeout | resetStuck | offPulseTest
  | soReadbackFault | hallmarkScan | safetyInternalFault =>
    unfold exec; exact safeRow_quenched q fun t => by simp
  | srstPressAccepted => unfold exec; exact latchEnds_unless q (safeRow_quenched q fun t => by simp)
  | degradedExpiry => unfold exec; exact safeRow_quenched q fun t => by split <;> simp
  | vsafeLoss => exact latchEnds_unless q (latchEnds_done (latched_branch (evalMatrix_quenched _ q) q))
  | vsafeStart =>
    refine latchEnds_unless q (latchEnds_done (safeSettle_quenched _ ?_))
    rw [forEach_qm _ _ _ fun k t => by simp]
    exact q
  | _ => cases sup

/-- The matrix stays as it is, or is evaluated after a change of its inputs (08 R244). -/
theorem execTsConversion_quenched (i : TempIn) (res : TsResult) : LatchEnds (Latched · g) (execTsConversion i res s) := by
  refine latchEnds_unless q ?_
  split
  case h_1 => exact latchEnds_guarded q (by simpa using q)
  case h_2 =>
    dsimp only
    split
    · exact latchEnds_done (evalMatrix_quenched _ q)
    · exact latchEnds_guarded q (evalMatrix_quenched _ (by simpa using q))

theorem execToneLost_quenched (p : Chan) (cause : BitVec 2) : LatchEnds (Latched · g) (execToneLost p cause s) := by
  refine latchEnds_unless q (latchEnds_done ?_)
  simp only [qm_ite, causeOn_qm, bringupFails_qm, leaveRunning_qm, linkLossEvent_qm, modCon_qm, ite_self]
  exact evalMatrix_quenched _ q

theorem execFaultToneArrival_quenched (p : Chan) (cause : Byte) : LatchEnds (Latched · g) (execFaultToneArrival p cause s) := by
  refine latchEnds_unless q (latchEnds_done ?_)
  simp only [toneCauses_qm, modMeas_qm, qm_ite, faultToneEvent_qm, ite_self]
  exact evalMatrix_quenched _ q

theorem execLaneSelftest_quenched (ok : Bool) (v : Half) : LatchEnds (Latched · g) (execLaneSelftest ok v s) := by
  refine latchEnds_ite (latchEnds_done q) (latchEnds_ite (latchEnds_done (latched_branch ?_ ?_)) (latchEnds_done ?_))
  · exact twoLanes_quenched _ _ (by simpa using q)
  · simpa using q
  · simpa using q

theorem execTripInputDemand_quenched (i : TripIn) (b : Bool) : LatchEnds (Latched · g) (execTripInputDemand i b s) := by
  have entered (c : Prop) [Decidable c] (f : TripSt → TripSt) :
      Latched (if c then tripFaultEvent i 1 false (modTrip i f s) else modTrip i f s).qm.latched g :=
    latched_branch (by rwa [tripFaultEvent_qm]) q
  refine latchEnds_ite (latchEnds_done q) (latchEnds_guarded (latched_branch ?_ ?_) ?_)
  · exact entered ..
  · exact demandBegins_quenched _ _ (entered ..)
  · rwa [demandEnds_latched]

theorem execTripWiringFault_quenched (i : TripIn) (b : Bool) : LatchEnds (Latched · g) (execTripWiringFault i b s) := by
  have told (kind : Nat) (f : TripSt → TripSt) : Latched (tripFaultEvent i kind (!b) (modTrip i f s)).qm.latched g := by
    rwa [tripFaultEvent_qm]
  refine latchEnds_guarded q (latched_branch (latched_branch ?_ ?_) ?_)
  · exact told ..
  · exact demandBegins_quenched _ _ (told ..)
  · rw [demandEnds_latched]
    exact told ..

theorem execRecordWriteDone_quenched (ok : Bool) : LatchEnds (Latched · g) (execRecordWriteDone ok s) := by
  unfold execRecordWriteDone
  split
  · exact latchEnds_done q
  · refine latchEnds_guarded (stored_quenched _ _ ?_) ?_
    · rwa [countWrite_qm]
    · rwa [storeFault_qm, unstored_qm]

theorem execFaultActionStep_quenched : LatchEnds (Latched · g) (execFaultActionStep s) := by
  unfold execFaultActionStep
  split
  · exact latchEnds_done q
  next r _ =>
    have acted := actionStep_quenched s r q
    exact latchEnds_unless q (latchEnds_guarded acted (by rwa [nextCurrent_qm]))

/-- Every row that evaluates the matrix keeps every latched group. -/
theorem exec_quenched (c : Instr) (row : quenchRow c = true) : LatchEnds (Latched · g) (exec c s) := by
  cases c with
  | siDemand | siPermit | siChatter | pulseSample | discrepancyTick | twoHandSyncTimeout | srstPressAccepted | resetStuck
  | offPulseTest | soReadbackFault | degradedExpiry | hallmarkScan | safetyInternalFault | vsafeLoss | vsafeStart =>
    exact supervisor_quenched q _ rfl
  | tripInputDemand => exact execTripInputDemand_quenched q _ _
  | tripWiringFault => exact execTripWiringFault_quenched q _ _
  | blankingEnd => exact latchEnds_done (evalMatrix_quenched _ (forEach_quenched _ _ (fun _ _ k => k) q))
  | hwFaultRequest => exact latchEnds_guarded (by simp [q]) q
  | laneSelftest => exact execLaneSelftest_quenched q _ _
  | debugHalt => exact latchEnds_done (evalMatrix_quenched _ q)
  | hostSilenceTimeout =>
    have said (x : HstSt) (l : List Nat) : Latched (raise 0x8108 0xFFFF l { s with hst := x }).qm.latched g := by rwa [raise_qm]
    exact latchEnds_unless q (latchEnds_done (latched_branch (evalMatrix_quenched _ (said ..)) (said ..)))
  | faultToneArrival => exact execFaultToneArrival_quenched q _ _
  | toneLost => exact execToneLost_quenched q _ _
  | tsConversion => exact execTsConversion_quenched q _ _
  | tsFaultTrip => exact latchEnds_guarded (evalMatrix_quenched _ q) q
  | tripBroadcastRx | twinStatusRx => exact latchEnds_guarded (takeFrame_quenched _ _ _ q) q
  | busFrameRx => exact latchEnds_unless q (latchEnds_guarded (takeFrame_quenched _ _ _ q) (by simpa using q))
  | recordWriteDone => exact execRecordWriteDone_quenched q _
  | faultActionStep => exact execFaultActionStep_quenched q
  | clockRestored | thermalRestart => exact latchEnds_guarded (bootIfUp_quenched _ q) q
  | _ => cases row

end

/-! ### A heartbeat at a master (08 R245) -/

section
variable (s : State)

@[simp] theorem role_ite (c : Prop) [Decidable c] (s t : State) :
    (if c then s else t).twn.role = if c then s.twn.role else t.twn.role :=
  apply_ite (fun x : State => x.twn.role) c s t

@[simp] theorem raise_twn (code subject : Nat) (data : List Nat) : (raise code subject data s).twn = s.twn :=
  raise_keeps code subject data s .twn (by decide)
@[simp] theorem seamFrames_role (l : SeamLane) (n : Nat) : (seamFrames l n s).twn.role = s.twn.role := by simp [seamFrames, modLane]
@[simp] theorem seamPlain_role (h : SeamHdr) : (seamPlain h s).twn.role = s.twn.role := by
  simp [seamPlain, seamCommon, seamAck, seamGoBack, seamAgain]
@[simp] theorem setLock_role (new : LockState) (seam byCmd : Bool) : (setLock new seam byCmd s).twn.role = s.twn.role := by
  simp [setLock, timeEvent]
@[simp] theorem seamTime_role (x : Heartbeat) : (seamTime x s).twn.role = s.twn.role := by simp [seamTime, seamEnds, setSlew]
@[simp] theorem endFault_twn (cause subject : Nat) : (endFault cause subject s).twn = s.twn :=
  endFault_keeps cause subject s .twn (by decide)
@[simp] theorem laneHealed_role (l : SeamLane) : (laneHealed l s).twn.role = s.twn.role := by simp [laneHealed, modLane]
@[simp] theorem laneHeard_role (l : SeamLane) : (laneHeard l s).twn.role = s.twn.role := by simp [laneHeard, seamLink, modLane]
@[simp] theorem laneChanged_role (l : SeamLane) : (laneChanged l s).twn.role = s.twn.role := by simp [laneChanged]

/-- Only a standby follows the releases that the partner reports. -/
theorem seenReleased_latched (x : Heartbeat) (m : isMaster s = true) : (seenReleased x s).qm.latched = s.qm.latched := by
  unfold seenReleased
  dsimp only
  rw [if_pos (show isMaster { s with qm := { s.qm with partnerQuenched := x.quenched } } = true from m)]

theorem takeHeartbeat_latched (hdr : SeamHdr) (x : Heartbeat) (m : isMaster s = true) :
    (takeHeartbeat hdr x s).qm.latched = s.qm.latched := by
  have master : s.twn.role = .active := by simpa [isMaster] using m
  unfold takeHeartbeat
  dsimp only
  rw [partnerRole_latched, onPairing_qm, seenReleased_latched]
  · simp [partnerEvent]
  · simp [isMaster, master, partnerEvent, mismatchEvent]

theorem execHeartbeatRx_leavesLatched (lane : SeamLane) (hdr : SeamHdr) (x : Heartbeat) (m : isMaster s = true) :
    LeavesLatched s (execHeartbeatRx lane hdr x s) := by
  have master : s.twn.role = .active := by simpa [isMaster] using m
  refine leavesLatched_unless (latchEnds_ite (latchEnds_done (by simp)) ?_)
  split
  · exact latchEnds_done (by simp)
  · refine latchEnds_guarded (by simp) ?_
    rw [takeHeartbeat_latched]
    · simp
    · simp [isMaster, master]

end

/-! ### The obligation -/

/-- A group that is latched before a command is latched in the state it answers. -/
theorem quenched_of_exec {c : Instr} {s t : State} {g : Group} (e : exec c s = .next t) (h : LatchEnds (Latched · g) (exec c s)) :
    quenched t g = true := by
  obtain ⟨u, e', q⟩ := h
  cases e.symm.trans e'
  simpa [quenched, Latched] using q

/-- Settles O48: a row leaves the latched groups alone or evaluates the matrix, which unlatches none. -/
theorem quenchedGroupsStayQuenched : Obligations.QuenchedGroupsStayQuenched := by
  unfold Obligations.QuenchedGroupsStayQuenched
  intro c rest s t g front e noRelease noReset partner q
  have runs : exec c { s with pending := rest } = .next t := by simpa [step, front] using e
  refine quenched_of_exec runs ?_
  have before : Latched ({ s with pending := rest } : State).qm.latched g := q
  by_cases row : quenchRow c = true
  · exact exec_quenched before c row
  · by_cases beat : ∀ l h x, c ≠ .heartbeatRx l h x
    · exact (exec_leavesLatched c _ noReset (Bool.eq_false_of_not_eq_true row) noRelease beat).quenched before
    · push Not at beat
      obtain ⟨l, h, x, rfl⟩ := beat
      have master : isMaster s = true := partner.resolve_left fun other => other l h x rfl
      exact (execHeartbeatRx_leavesLatched { s with pending := rest } l h x master).quenched before

end Sys2Proof.Safety

/-! ## SUPPORT. The inputs of the quench matrix (08 R246 to R250) -/

namespace Sys2Proof.Safety
open Sys2Proof.Machine

section
variable (s : State) {g : Group} (i : TripIn)

/-! ### What an evaluation writes, and what calls for one -/

theorem withQm_keeps (x : QmSt) : KeepsBut [.qm] s { s with qm := x } := by
  intro p hp
  cases p
  case qm => exact absurd (List.mem_singleton.mpr rfl) hp
  all_goals exact Eq.refl _

theorem modTrip_modTrip (f k : TripSt → TripSt) : modTrip i k (modTrip i f s) = modTrip i (fun t => k (f t)) s := by
  simp only [modTrip, vmod_vmod]

/-- Of the matrix an evaluation writes the latched groups, their causes and their count alone (R244). -/
theorem evalMatrix_leaves {β : Type} (view : QmSt → β) (apart : ∀ m c q, view (latchedBy m c q) = view q) :
    view (evalMatrix s).qm = view s.qm := by
  unfold evalMatrix
  dsimp only
  split
  · rfl
  · exact (congrArg view (latch_follows s _ _ .qm (by decide))).trans (apart ..)

/-- A trip input that acts on a group calls for it (R246). -/
theorem evalMatrix_latches_trip (acts : tripActs s i g = true) : quenched (evalMatrix s) g = true := by
  refine evalMatrix_latches s ?_
  have acting : ((List.finRange 8).filter fun i => tripActs s i g).isEmpty = false :=
    List.isEmpty_eq_false_iff.mpr (List.ne_nil_of_mem (a := i) (by simp [acts]))
  simp [callsFor, QCause.any, acting]

/-- A hardware fault calls for every group (R250). -/
theorem evalMatrix_latches_hardware {c : Byte} (present : c ∈ s.qm.hw) : quenched (evalMatrix s) g = true := by
  refine evalMatrix_latches s ?_
  simp [callsFor, QCause.any, List.isEmpty_eq_false_iff.mpr (List.ne_nil_of_mem present)]

/-- The firmware request calls for its groups (R253). -/
theorem evalMatrix_latches_firmware (asked : (firmwareMask s).testBit g.val = true) : quenched (evalMatrix s) g = true :=
  evalMatrix_latches s (by simp [callsFor, QCause.any, asked])

/-- Eight latched groups are all there are. -/
theorem latched_all {m : Byte} (all : ∀ g : Group, m.getLsbD g.val = true) : m = 0xFF := by
  refine BitVec.eq_of_getLsbD_eq fun k hk => ?_
  have ones : ∀ k : Fin 8, (0xFF#8).getLsbD k.val = true := by decide
  exact (all ⟨k, hk⟩).trans (ones ⟨k, hk⟩).symm

/-! ### A demand that begins or ends (R247, R248) -/

theorem blankedBy_bit : (blankedBy s i).testBit g.val =
    ((pNat s (Prm.insTripMap + i.val)).testBit g.val && !quenched s g && blankingRuns s g) := by
  rw [blankedBy, testBit_maskOf _ g.isLt, Fin.ofNat_val_eq_self]

theorem demandBegins_trip : (demandBegins i s).qm.trips[i] =
    { s.qm.trips[i] with blanked := BitVec.ofNat 8 (blankedBy s i), lately := false } := by
  unfold demandBegins
  rw [evalMatrix_leaves _ (fun q => q.trips[i]) fun _ _ _ => rfl]
  dsimp only
  split <;> exact vmod_get _ _ _

theorem demandBegins_held : s.ev.held <+: (demandBegins i s).ev.held := by
  unfold demandBegins
  refine List.IsPrefix.trans ?_ (evalMatrix_quenches _).held
  dsimp only
  split <;> exact List.prefix_rfl

variable {s i} (maps : (pNat s (Prm.insTripMap + i.val)).testBit g.val = true)
include maps

/-- Where no blanking window runs, a demand quenches its groups at once. -/
theorem demandBegins_latches (demands : inDemand s.qm.trips[i] = true) (runs : blankingRuns s g = false) :
    quenched (demandBegins i s) g = true := by
  have uncovered : (BitVec.ofNat 8 (blankedBy s i)).getLsbD g.val = false := by
    rw [BitVec.getLsbD_ofNat, blankedBy_bit, runs, Bool.and_false, Bool.and_false]
  have acts (u : State) (trips : u.qm.trips =
      (modTrip i (fun t => { t with blanked := BitVec.ofNat 8 (blankedBy s i), lately := false }) s).qm.trips)
      (cfg : u.cfg = s.cfg) : tripActs u i g = true := by
    have demands' := demands
    simp only [inDemand] at demands'
    simp only [tripActs, trips, pNat, cfg, modTrip, vmod_get, uncovered, inDemand, demands']
    simpa [pNat] using maps
  unfold demandBegins
  refine evalMatrix_latches_trip _ i (acts _ ?_ ?_) <;> dsimp only <;> split <;> rfl

/-- A group that a blanking window covers is held back and counted. -/
theorem demandBegins_blanks (free : quenched s g = false) (runs : blankingRuns s g = true) :
    (demandBegins i s).qm.trips[i].blanked.getLsbD g.val = true ∧ (demandBegins i s).qm.blanked = s.qm.blanked + 1 := by
  have bit : (blankedBy s i).testBit g.val = true := by rw [blankedBy_bit, maps, free, runs]; rfl
  constructor
  · rw [demandBegins_trip, BitVec.getLsbD_ofNat, bit]
    simp
  · have some_ : blankedBy s i ≠ 0 := fun none_ => by simp [none_] at bit
    unfold demandBegins
    rw [evalMatrix_leaves _ QmSt.blanked fun _ _ _ => rfl]
    dsimp only
    rw [if_neg some_]
    rfl

end

/-! ### TRIP_INPUT_DEMAND and TRIP_WIRING_FAULT (R247) -/

/-- Which windows run is read from station time, the edges and the configuration (R248). -/
theorem blankingRuns_congr {s t : State} (k : KeepsBut [.qm, .ev] s t) (g : Group) : blankingRuns t g = blankingRuns s g := by
  have tim : t.tim = s.tim := k .tim (by decide)
  have cfg : t.cfg = s.cfg := k .cfg (by decide)
  have insCh : t.insCh = s.insCh := k .insCh (by decide)
  unfold blankingRuns groupChans populated groupOf pNat
  rw [tim, cfg, insCh]

/-- An input that begins its demand in `t`, where the entry has been recorded, acts on the groups of `s`. -/
theorem demandBegins_acts {s t : State} {i : TripIn} (k : KeepsBut [.qm, .ev] s t) (latched : t.qm.latched = s.qm.latched)
    (blanked : t.qm.blanked = s.qm.blanked) (demands : inDemand t.qm.trips[i] = true) :
    (∀ g : Group, quenched s g = true → quenched (demandBegins i t) g = true) ∧
    ∀ g : Group, (pNat s (Prm.insTripMap + i.val)).testBit g.val = true →
      (blankingRuns s g = false → quenched (demandBegins i t) g = true) ∧
      (blankingRuns s g = true → quenched s g = false →
        (demandBegins i t).qm.trips[i].blanked.getLsbD g.val = true ∧ (demandBegins i t).qm.blanked = s.qm.blanked + 1) := by
  have same (g : Group) : quenched t g = quenched s g := by rw [quenched, latched, quenched]
  have cfg : t.cfg = s.cfg := k .cfg (by decide)
  refine ⟨fun g q => demandBegins_quenched t i ((same g).trans q), fun g maps => ?_⟩
  have mapped : (pNat t (Prm.insTripMap + i.val)).testBit g.val = true := by rwa [pNat, cfg]
  rw [← blankingRuns_congr k g, ← same g, ← blanked]
  exact ⟨demandBegins_latches mapped demands, fun runs free => demandBegins_blanks mapped free runs⟩

/-- The entries into demand that are kept: the newest ten. -/
def entriesNow (s : State) (i : TripIn) : List Nat := (s.tim.tb :: s.qm.trips[i].entries).take 10

/-- The entry is the tenth within a second. -/
def tenthEntry (s : State) (i : TripIn) : Bool :=
  decide ((entriesNow s i).length = 10) && decide (s.tim.tb - (entriesNow s i).getLastD 0 < tSec)

/-- An entry into demand as it is recorded at its input. -/
def tripEntry (s : State) (i : TripIn) (t : TripSt) : TripSt :=
  { t with demand := true, entries := entriesNow s i, chatter := t.chatter || tenthEntry s i }

/-- The entry recorded, and the chattering that it begins said. -/
def tripEntered (i : TripIn) (s : State) : State :=
  if tenthEntry s i && !s.qm.trips[i].chatter then tripFaultEvent i 1 false (modTrip i (tripEntry s i) s)
  else modTrip i (tripEntry s i) s

section
variable {s : State} {i : TripIn}

theorem tripFaultEvent_keeps (kind : Nat) (ended : Bool) : KeepsBut [.ev] s (tripFaultEvent i kind ended s) := raise_keeps _ _ _ _

theorem tripEntered_keeps : KeepsBut [.qm, .ev] s (tripEntered i s) := by
  have entered : KeepsBut [.qm, .ev] s (modTrip i (tripEntry s i) s) := keepsBut_sub _ (modTrip_keeps _ _ _) rfl
  exact keepsBut_ite (keepsBut_trans entered (keepsBut_sub _ (tripFaultEvent_keeps _ _) rfl)) entered

theorem tripEntered_qm : (tripEntered i s).qm = (modTrip i (tripEntry s i) s).qm := by
  rw [tripEntered, qm_ite, tripFaultEvent_qm, ite_self]

theorem tripEntered_trip : (tripEntered i s).qm.trips[i] = tripEntry s i s.qm.trips[i] := by
  rw [tripEntered_qm]
  exact vmod_get _ _ _

theorem exec_tripEnters (used : tripUsed s i = true) (free : s.qm.trips[i].demand = false) :
    exec (.tripInputDemand i true) s =
      done s (if inDemand s.qm.trips[i] then tripEntered i s else demandBegins i (tripEntered i s)) :=
  (if_neg (by rw [used, free]; decide)).trans (if_pos rfl)

theorem demand_quenches (used : tripUsed s i = true) (free : inDemand s.qm.trips[i] = false) :
    ∃ u, Becomes (.tripInputDemand i true) s u ∧ (∀ g : Group, quenched s g = true → quenched u g = true) ∧
      u.qm.trips[i].demand = true ∧ ∀ g : Group, (pNat s (Prm.insTripMap + i.val)).testBit g.val = true →
        (blankingRuns s g = false → quenched u g = true) ∧
        (blankingRuns s g = true → quenched s g = false →
          u.qm.trips[i].blanked.getLsbD g.val = true ∧ u.qm.blanked = s.qm.blanked + 1) := by
  obtain ⟨⟨idle, -⟩, -⟩ : (s.qm.trips[i].demand = false ∧ s.qm.trips[i].wiring = false) ∧ s.qm.trips[i].chatter = false := by
    simpa only [inDemand, Bool.or_eq_false_iff] using free
  obtain ⟨keeps, acts⟩ := demandBegins_acts (s := s) (t := tripEntered i s) tripEntered_keeps (by rw [tripEntered_qm]; rfl)
    (by rw [tripEntered_qm]; rfl) (by rw [tripEntered_trip]; rfl)
  refine ⟨_, becomes_of_done ((exec_tripEnters used idle).trans (congrArg (done s) (if_neg (by rw [free]; decide)))), keeps, ?_, acts⟩
  rw [demandBegins_trip, tripEntered_trip]
  rfl

/-- The tenth entry within a second, of an input that is in demand by its wiring already. -/
theorem tenthEntry_chatters (used : tripUsed s i = true) (free : s.qm.trips[i].demand = false)
    (quiet : s.qm.trips[i].chatter = false) (wiring : s.qm.trips[i].wiring = true)
    (nine : s.qm.trips[i].entries.length = 9) (soon : s.tim.tb - s.qm.trips[i].entries.getLastD 0 < tSec) :
    Runs (.tripInputDemand i true) s [.qm, .ev] (fun u => u.qm.trips[i].chatter = true ∧ u.qm.latched = s.qm.latched ∧
      Tells s u 0x8304 i.val [ef 28 0 i.val, ef 29 0 1, ef 29 2 0]) := by
  have ten : entriesNow s i = s.tim.tb :: s.qm.trips[i].entries :=
    List.take_of_length_le (by rw [List.length_cons, nine])
  have last : (entriesNow s i).getLastD 0 = s.qm.trips[i].entries.getLastD 0 := by
    rw [ten]
    cases h : s.qm.trips[i].entries with
    | nil => rw [h] at nine; cases nine
    | cons x xs => rfl
  have tenth : tenthEntry s i = true := by
    rw [tenthEntry, last, ten, List.length_cons, nine, decide_eq_true soon]
    rfl
  have demands : inDemand s.qm.trips[i] = true := by rw [inDemand, wiring, Bool.or_true, Bool.true_or]
  refine runs_of_done ((exec_tripEnters used free).trans (congrArg (done s) (if_pos demands)))
    tripEntered_keeps (by decide) ⟨?_, by rw [tripEntered_qm]; rfl, ?_⟩
  · rw [tripEntered_trip, tripEntry, tenth, Bool.or_true]
  · rw [tripEntered, tenth, quiet]
    exact tells_of_ev (t := modTrip i (tripEntry s i) s) rfl (raise_tells _ _ _ _)

/-- An input that leaves demand is present for release for a while (R247). -/
theorem demandEnds_leaves (f : TripSt → TripSt) (gone : inDemand (f s.qm.trips[i]) = false) :
    demandEnds i (modTrip i f s) = modTrip i (fun t => { f t with blanked := 0, lately := true }) s := by
  rw [demandEnds, if_neg (by rw [show (modTrip i f s).qm.trips[i] = f s.qm.trips[i] from vmod_get _ _ _, gone]; decide),
    modTrip_modTrip]

theorem demandEnds_keeps : KeepsBut [.qm] s (demandEnds i s) := keepsBut_ite (keepsBut_refl _ _) (modTrip_keeps _ _ _)

theorem demandEnds_trip : ∃ b l, (demandEnds i s).qm.trips[i] = { s.qm.trips[i] with blanked := b, lately := l } := by
  unfold demandEnds
  split
  · exact ⟨_, _, rfl⟩
  · exact ⟨_, _, vmod_get _ _ _⟩

theorem demand_ends (used : tripUsed s i = true) (on : s.qm.trips[i].demand = true) (wiring : s.qm.trips[i].wiring = false)
    (quiet : s.qm.trips[i].chatter = false) : Runs (.tripInputDemand i false) s [.qm] (fun u =>
      u.qm = { s.qm with trips := vmod s.qm.trips i (fun t => { t with demand := false, blanked := 0, lately := true }) }) := by
  have e : exec (.tripInputDemand i false) s = done s (demandEnds i (modTrip i (fun t => { t with demand := false }) s)) :=
    (if_neg (by rw [used, on]; decide)).trans (if_neg (by decide))
  rw [demandEnds_leaves _ (by rw [inDemand, wiring, quiet]; rfl)] at e
  exact runs_of_done e (modTrip_keeps _ _ _) (by decide) rfl

/-- A wiring fault that begins or ends, said (R247). -/
def wiringSaid (i : TripIn) (begins : Bool) (s : State) : State :=
  tripFaultEvent i 0 (!begins) (modTrip i (fun t => { t with wiring := begins }) s)

theorem wiringSaid_keeps (b : Bool) : KeepsBut [.qm, .ev] s (wiringSaid i b s) :=
  keepsBut_trans (keepsBut_sub _ (modTrip_keeps _ _ _) rfl) (keepsBut_sub _ (tripFaultEvent_keeps _ _) rfl)

theorem wiringSaid_qm (b : Bool) : (wiringSaid i b s).qm = (modTrip i (fun t => { t with wiring := b }) s).qm := tripFaultEvent_qm ..

theorem wiringSaid_trip (b : Bool) : (wiringSaid i b s).qm.trips[i] = { s.qm.trips[i] with wiring := b } := by
  rw [wiringSaid_qm]
  exact vmod_get _ _ _

theorem wiringSaid_tells (b : Bool) : Tells s (wiringSaid i b s) 0x8304 i.val [ef 28 0 i.val, ef 29 0 0, ef 29 2 (bN !b)] :=
  tells_of_ev (t := modTrip i (fun t => { t with wiring := b }) s) rfl (raise_tells _ _ _ _)

theorem wiring_quenches (used : tripUsed s i = true) (free : inDemand s.qm.trips[i] = false) :
    ∃ u, Becomes (.tripWiringFault i true) s u ∧ (∀ g : Group, quenched s g = true → quenched u g = true) ∧
      u.qm.trips[i].wiring = true ∧ Tells s u 0x8304 i.val [ef 28 0 i.val, ef 29 0 0, ef 29 2 0] ∧
      ∀ g : Group, (pNat s (Prm.insTripMap + i.val)).testBit g.val = true → blankingRuns s g = false → quenched u g = true := by
  obtain ⟨⟨-, sound⟩, -⟩ : (s.qm.trips[i].demand = false ∧ s.qm.trips[i].wiring = false) ∧ s.qm.trips[i].chatter = false := by
    simpa only [inDemand, Bool.or_eq_false_iff] using free
  obtain ⟨keeps, acts⟩ := demandBegins_acts (s := s) (t := wiringSaid i true s) (i := i) (wiringSaid_keeps true)
    (by rw [wiringSaid_qm]; rfl) (by rw [wiringSaid_qm]; rfl) (by rw [wiringSaid_trip, inDemand, Bool.or_true, Bool.true_or])
  have e : exec (.tripWiringFault i true) s = done s (demandBegins i (wiringSaid i true s)) :=
    (if_neg (by rw [used, sound]; decide)).trans (congrArg (done s) ((if_pos rfl).trans (if_neg (by rw [free]; decide))))
  refine ⟨_, becomes_of_done e, keeps, ?_, tells_of_grows (demandBegins_held _ i) (wiringSaid_tells true),
    fun g maps => (acts g maps).1⟩
  rw [demandBegins_trip, wiringSaid_trip]

theorem wiring_ends (used : tripUsed s i = true) (on : s.qm.trips[i].wiring = true) :
    Runs (.tripWiringFault i false) s [.qm, .ev] (fun u => u.qm.latched = s.qm.latched ∧ u.qm.trips[i].wiring = false ∧
      Tells s u 0x8304 i.val [ef 28 0 i.val, ef 29 0 0, ef 29 2 1]) := by
  have e : exec (.tripWiringFault i false) s = done s (demandEnds i (wiringSaid i false s)) :=
    (if_neg (by rw [used, on]; decide)).trans (congrArg (done s) (if_neg (by decide)))
  refine runs_of_done e (keepsBut_trans (wiringSaid_keeps false) (keepsBut_sub _ demandEnds_keeps rfl)) (by decide) ⟨?_, ?_, ?_⟩
  · rw [demandEnds_latched, wiringSaid_qm]
    rfl
  · obtain ⟨b, l, h⟩ := demandEnds_trip (i := i) (s := wiringSaid i false s)
    rw [h, wiringSaid_trip]
  · exact tells_of_grows (by rw [demandEnds_keeps .ev (by decide)]) (wiringSaid_tells false)

theorem unused_records (b : Bool) (unused : tripUsed s i = false) :
    Runs (.tripInputDemand i b) s [.qm] (fun u => u.qm = { s.qm with trips := vmod s.qm.trips i (fun t => { t with demand := b }) }) ∧
    Runs (.tripWiringFault i b) s [.qm] (fun u => u.qm = { s.qm with trips := vmod s.qm.trips i (fun t => { t with wiring := b }) }) := by
  constructor <;>
    exact runs_of_done (if_pos (by rw [unused]; rfl)) (modTrip_keeps _ _ _) (by decide) rfl

/-! ### The ends of chattering, presence and blanking (R247, R248) -/

theorem chatter_ends (on : s.qm.trips[i].chatter = true) : Runs (.tripChatterEnd i) s [.qm, .ev] (fun u =>
    u.qm.trips[i].chatter = false ∧ u.qm.trips[i].entries = [] ∧ u.qm.latched = s.qm.latched ∧
    Tells s u 0x8304 i.val [ef 28 0 i.val, ef 29 0 1, ef 29 2 1] ∧
    (s.qm.trips[i].demand = false → s.qm.trips[i].wiring = false → u.qm.trips[i].lately = true)) := by
  obtain ⟨t, ht⟩ : ∃ t, t = tripFaultEvent i 1 true (modTrip i (fun t => { t with chatter := false, entries := [] }) s) :=
    ⟨_, rfl⟩
  have qm : t.qm = (modTrip i (fun t => { t with chatter := false, entries := [] }) s).qm := ht ▸ tripFaultEvent_qm ..
  have trip : t.qm.trips[i] = { s.qm.trips[i] with chatter := false, entries := [] } := by
    rw [qm]
    exact vmod_get _ _ _
  have kept : KeepsBut [.qm, .ev] s t :=
    ht ▸ keepsBut_trans (keepsBut_sub _ (modTrip_keeps _ _ _) rfl) (keepsBut_sub _ (tripFaultEvent_keeps _ _) rfl)
  have said : Tells s t 0x8304 i.val [ef 28 0 i.val, ef 29 0 1, ef 29 2 1] :=
    ht ▸ tells_of_ev (t := modTrip i (fun t => { t with chatter := false, entries := [] }) s) rfl (raise_tells _ _ _ _)
  have e : exec (.tripChatterEnd i) s = done s (demandEnds i t) := (if_neg (by rw [on]; decide)).trans (by rw [ht])
  obtain ⟨b, l, h⟩ := demandEnds_trip (i := i) (s := t)
  refine runs_of_done e (keepsBut_trans kept (keepsBut_sub _ demandEnds_keeps rfl)) (by decide)
    ⟨by rw [h, trip], by rw [h, trip], by rw [demandEnds_latched, qm]; rfl, ?_, fun demand wiring => ?_⟩
  · exact tells_of_grows (by rw [demandEnds_keeps .ev (by decide)]) said
  · rw [demandEnds, if_neg (by rw [trip]; simp only [inDemand, demand, wiring]; decide)]
    exact congrArg TripSt.lately (vmod_get _ _ _)

end
end Sys2Proof.Safety

/-! ## SUPPORT. A fault raised behind a quench (17 R483, R484, R487) -/

namespace Sys2Proof.Safety
open Sys2Proof.Machine

/-- What a storm is judged by is the same: the queue, the current fault, the times of the faults raised, and the levels and the
number of the open ones. -/
structure SameStorm (s t : State) : Prop where
  queue : t.flt.queue = s.flt.queue
  current : t.flt.current = s.flt.current
  times : t.flt.times = s.flt.times
  tb : t.tim.tb = s.tim.tb
  level : ∀ id, levelOf t id = levelOf s id
  open_ : openCount t = openCount s

theorem sameStorm_of_flt {s t : State} (flt : t.flt = s.flt) (tim : t.tim = s.tim) : SameStorm s t := by
  refine ⟨by rw [flt], by rw [flt], by rw [flt], by rw [tim], fun id => ?_, ?_⟩
  · rw [levelOf, levelOf, faultById, faultById, flt]
  · rw [openCount, openCount, flt]

theorem sameStorm_trans {s t u : State} (h : SameStorm s t) (k : SameStorm t u) : SameStorm s u :=
  ⟨k.queue.trans h.queue, k.current.trans h.current, k.times.trans h.times, k.tb.trans h.tb,
    fun id => (k.level id).trans (h.level id), k.open_.trans h.open_⟩

/-- An operation whose frame leaves faults and times alone. -/
theorem sameStorm_of_keeps {l : List Part} {s t : State} (k : KeepsBut l s t)
    (apart : [Part.flt, .tim].all (fun p => decide (p ∉ l)) = true) : SameStorm s t := by
  simp only [List.all_cons, List.all_nil, Bool.and_true, Bool.and_eq_true, decide_eq_true_eq] at apart
  exact sameStorm_of_flt (k .flt apart.1) (k .tim apart.2)

theorem sameStorm_forEach {α : Type} (xs : List α) (f : α → State → State) (s : State) (h : ∀ a t, SameStorm t (f a t)) :
    SameStorm s (forEach xs f s) := by
  unfold forEach
  induction xs generalizing s with
  | nil => exact sameStorm_of_flt rfl rfl
  | cons x xs ih => exact sameStorm_trans (h x s) (ih _)

theorem SameStorm.stormCase {s t : State} (h : SameStorm s t) (l : Nat) : stormCase t l = stormCase s l := by
  have wouldQueue : wouldQueue t l = wouldQueue s l := by
    unfold wouldQueue
    rw [h.current]
    split
    · rw [h.level]
    · rfl
  rw [Machine.stormCase, Machine.stormCase, wouldQueue, h.queue, h.open_, lastSecond, lastSecond, h.times, h.tb]

section
variable (s : State)

/-- A record that is counted again keeps its level and its place. -/
theorem modFault_sameStorm (id : Word) {f : FaultRec → FaultRec} (key : ∀ r, (f r).id = r.id) (level : ∀ r, (f r).level = r.level)
    (state : ∀ r, (f r).state = r.state) : SameStorm s (modFault id f s) := by
  have ids (r : FaultRec) : (if r.id == id then f r else r).id = r.id := by split <;> simp [key]
  have levels (r : FaultRec) : (if r.id == id then f r else r).level = r.level := by split <;> simp [level]
  have states (r : FaultRec) : faultPresent (if r.id == id then f r else r) = faultPresent r := by
    simp only [faultPresent]
    split <;> simp [state]
  refine ⟨rfl, rfl, rfl, rfl, fun x => ?_, ?_⟩
  · simp only [levelOf, faultById, modFault, List.find?_map, Function.comp_def, ids]
    cases s.flt.recs.find? (fun r => r.id == x) with
    | none => rfl
    | some r => exact levels r
  · simp only [openCount, modFault, List.filter_map, List.length_map, Function.comp_def, levels, states]

/-- The L0 record of a group counts for no storm (R483, R491). -/
theorem openL0_sameStorm (g origin : Nat) : SameStorm s (openL0 g origin s) := by
  unfold openL0
  split
  next r _ =>
    refine sameStorm_trans (modFault_sameStorm s r.id (f := fun r => { r with
      count := if r.count = 0xFFFF then r.count else r.count + 1, last := s.tim.station, seenAt := s.tim.tb })
      (fun _ => rfl) (fun _ => rfl) fun _ => rfl) ?_
    exact ⟨rfl, rfl, rfl, rfl, fun _ => rfl, rfl⟩
  · dsimp only
    refine sameStorm_trans ?_ (sameStorm_of_keeps (raiseAt_keeps _ _ _ _ _ _ _) (by decide))
    refine ⟨rfl, rfl, rfl, rfl, fun id => ?_, ?_⟩
    · simp only [levelOf, faultById, List.find?_append]
      cases s.flt.recs.find? (fun r => r.id == id) with
      | some r => rfl
      | none =>
        rw [Option.none_or, List.find?_singleton]
        cases s.ev.seq == id <;> rfl
    · simp [openCount, List.filter_append]

/-- A channel that is quenched raises no fault. -/
theorem quenchChan_flt (n : Chan) : (quenchChan n s).flt = s.flt := by
  have branch (c : Prop) [Decidable c] (t u : State) : (if c then t else u).flt = if c then t.flt else u.flt := apply_ite State.flt c t u
  have raised (code subject : Nat) (data : List Nat) (t : State) : (raise code subject data t).flt = t.flt :=
    raise_keeps _ _ _ _ .flt (by decide)
  have set (new : ChState) (c : Nat) (h : Bool) (t : State) : (setCh n new c h t).flt = t.flt := setCh_keeps _ _ _ _ _ .flt (by decide)
  have ended (st : Status) (t : State) : (endSeq n st t).flt = t.flt := endSeq_keeps _ _ _ .flt (by decide)
  have stepped (st : ConStep) (t : State) : (seqStep n st t).flt = t.flt := seqStep_keeps _ _ _ .flt (by decide)
  simp [quenchChan, prechargeEvent, branch, raised, set, ended, stepped]

theorem evalMatrix_sameStorm : SameStorm s (evalMatrix s) := by
  have chan (n : Chan) (t : State) : SameStorm t (quenchChan n t) :=
    sameStorm_of_flt (quenchChan_flt t n) (quenchChan_keeps n t .tim (by decide))
  have said (q : QmSt) (subject : Nat) (data : List Nat) : SameStorm s (raise 0x8301 subject data { s with qm := q }) :=
    sameStorm_trans (sameStorm_of_flt (t := { s with qm := q }) rfl rfl) (sameStorm_of_keeps (raise_keeps _ _ _ _) (by decide))
  unfold evalMatrix
  dsimp only
  split
  · exact sameStorm_of_flt rfl rfl
  · unfold latch
    dsimp only
    split
    · exact said ..
    · refine sameStorm_trans ?_ (sameStorm_forEach _ _ _ fun _ _ => sameStorm_forEach _ _ _ chan)
      refine sameStorm_trans ?_ (sameStorm_of_keeps (broadcastTrip_keeps _ _ _) (by decide))
      split
      · exact sameStorm_trans (said ..) (sameStorm_forEach _ _ _ fun _ t => openL0_sameStorm t _ _)
      · exact said ..

/-! ### The record of a fault that is raised -/

theorem openFault_recorded (cause subject level : Nat) (permanent : Bool) (origin : Nat) :
    ∃ r ∈ (openFault cause subject level permanent origin s).flt.recs, r.cause = BitVec.ofNat 16 cause ∧
      r.subject = BitVec.ofNat 16 subject ∧ r.level = level ∧ r.permanent = permanent := by
  unfold openFault
  dsimp only
  rw [show ∀ code l pin time subject data (t : State), (raiseAt code l pin time subject data t).flt = t.flt from
    fun _ _ _ _ _ _ _ => raiseAt_keeps _ _ _ _ _ _ _ .flt (by decide)]
  exact ⟨_, List.mem_append_right _ (List.mem_singleton.mpr rfl), rfl, rfl, rfl, rfl⟩

/-- A fault that is new and meets no storm has a record of its own (R484). -/
theorem raiseFault_new {cause subject level : Nat} (permanent : Bool) (origin : Nat) (new : findFault s cause subject = none)
    (calm : stormCase s level = false) : raiseFault cause subject level permanent origin s =
      openFault cause subject level (permanent || (level = 2 && thirdL2 s cause subject)) origin s := by
  unfold raiseFault
  simp only [new, calm, Bool.false_eq_true, if_false]

/-- Where no storm stands, a fault that is raised has its record, its own or one that was open (R482, R484). -/
theorem raiseFault_recorded {cause subject level : Nat} (permanent : Bool) (origin : Nat) (code : cause < 2 ^ 16)
    (object : subject < 2 ^ 16) (calm : stormCase s level = false) :
    ∃ r ∈ (raiseFault cause subject level permanent origin s).flt.recs, r.cause.toNat = cause ∧ r.subject.toNat = subject := by
  cases found : findFault s cause subject with
  | none =>
    rw [raiseFault_new s permanent origin found calm]
    obtain ⟨r, mem, c, o, -⟩ := openFault_recorded s cause subject level (permanent || (level = 2 && thirdL2 s cause subject)) origin
    exact ⟨r, mem, by rw [c, BitVec.toNat_ofNat, Nat.mod_eq_of_lt code], by rw [o, BitVec.toNat_ofNat, Nat.mod_eq_of_lt object]⟩
  | some r =>
    have mem := List.mem_of_find?_eq_some found
    obtain ⟨⟨-, c⟩, o⟩ : (faultPresent r = true ∧ r.cause.toNat = cause) ∧ r.subject.toNat = subject := by
      simpa using List.find?_some found
    unfold raiseFault
    simp only [found, modFault]
    exact ⟨_, List.mem_map_of_mem mem, by split <;> exact c, by split <;> exact o⟩

end
end Sys2Proof.Safety

/-! ## SUPPORT. Presence, blanking, hardware faults and the debug halt (08 R247 to R250, R253) -/

namespace Sys2Proof.Safety
open Sys2Proof.Machine

section
variable (s : State) (g : Group)

/-! ### TRIP_PRESENCE_END and BLANKING_END -/

theorem presence_ends (i : TripIn) : Runs (.tripPresenceEnd i) s [.qm] (fun u =>
    u.qm = { s.qm with trips := vmod s.qm.trips i (fun t => { t with lately := false }) }) :=
  runs_of_done rfl (modTrip_keeps _ _ _) (by decide) rfl

theorem forEach_modTrip_other {is : List TripIn} {j : TripIn} (f : TripSt → TripSt) (other : j ∉ is) :
    (forEach is (fun i => modTrip i f) s).qm.trips[j] = s.qm.trips[j] := by
  unfold forEach
  induction is generalizing s with
  | nil => rfl
  | cons i is ih =>
    obtain ⟨ne, rest⟩ := List.ne_and_not_mem_of_not_mem_cons other
    exact (ih (modTrip i f s) rest).trans (vmod_get_ne _ _ _ _ ne)

/-- A change of each input once. -/
theorem forEach_modTrip {is : List TripIn} {j : TripIn} (f : TripSt → TripSt) (once : is.Nodup) (mem : j ∈ is) :
    (forEach is (fun i => modTrip i f) s).qm.trips[j] = f s.qm.trips[j] := by
  induction is generalizing s with
  | nil => cases mem
  | cons i is ih =>
    obtain ⟨new, once⟩ := List.nodup_cons.mp once
    have first : forEach (i :: is) (fun i => modTrip i f) s = forEach is (fun i => modTrip i f) (modTrip i f s) := rfl
    rw [first]
    rcases List.mem_cons.mp mem with rfl | mem
    · rw [forEach_modTrip_other _ f new]
      exact vmod_get _ _ _
    · have ne : j ≠ i := fun h => new (h ▸ mem)
      rw [ih _ once mem]
      exact congrArg f (vmod_get_ne _ _ _ _ ne)

/-- The inputs when a group's blanking has ended: none is held back for it. -/
def unblanked (s : State) (g : Group) : State :=
  forEach (List.finRange 8) (fun i => modTrip i fun t => { t with blanked := t.blanked &&& ~~~(1#8 <<< g.val) }) s

theorem unblanked_trip (i : TripIn) :
    (unblanked s g).qm.trips[i] = { s.qm.trips[i] with blanked := s.qm.trips[i].blanked &&& ~~~(1#8 <<< g.val) } :=
  forEach_modTrip s _ (List.nodup_finRange 8) (List.mem_finRange i)

theorem unblanked_bit (i : TripIn) : (unblanked s g).qm.trips[i].blanked.getLsbD g.val = false := by
  rw [unblanked_trip]
  simp [g.isLt]

theorem unblanked_cfg : (unblanked s g).cfg = s.cfg :=
  forEach_keeps (l := [.qm]) _ _ _ (fun _ _ => modTrip_keeps _ _ _) .cfg (by decide)

theorem blanking_ends : ∃ u, Becomes (.blankingEnd g) s u ∧ (∀ g' : Group, quenched s g' = true → quenched u g' = true) ∧
    (∀ i : TripIn, u.qm.trips[i].blanked.getLsbD g.val = false) ∧
    ∀ i : TripIn, inDemand s.qm.trips[i] = true → (pNat s (Prm.insTripMap + i.val)).testBit g.val = true → quenched u g = true := by
  have trips : (evalMatrix (unblanked s g)).qm.trips = (unblanked s g).qm.trips := evalMatrix_leaves _ QmSt.trips fun _ _ _ => rfl
  refine ⟨evalMatrix (unblanked s g), becomes_of_done rfl, fun g' q => ?_, fun i => ?_, fun i demands maps => ?_⟩
  · exact evalMatrix_quenched _ (forEach_quenched _ _ (fun _ _ h => h) q)
  · rw [trips, unblanked_bit]
  · refine evalMatrix_latches_trip _ i ?_
    have demanded : inDemand (unblanked s g).qm.trips[i] = true := by rwa [unblanked_trip]
    have mapped : (pNat (unblanked s g) (Prm.insTripMap + i.val)).testBit g.val = true := by rwa [pNat, unblanked_cfg]
    simp only [tripActs, demanded, mapped, unblanked_bit]
    decide

/-! ### HW_FAULT_REQUEST -/

/-- A hardware fault presented to the matrix. -/
def hwPresented (c : Byte) (s : State) : State :=
  { s with qm := { s.qm with hw := if s.qm.hw.contains c then s.qm.hw else s.qm.hw ++ [c] } }

theorem mem_hwPresented (c : Byte) : c ∈ (hwPresented c s).qm.hw := by
  unfold hwPresented
  dsimp only
  split
  · next h => exact List.contains_iff_mem.mp h
  · exact List.mem_append_right _ (List.mem_singleton.mpr rfl)

/-- Eight groups answer a hardware fault (R250). -/
theorem evalMatrix_latches_all {c : Byte} (present : c ∈ s.qm.hw) : (evalMatrix s).qm.latched = 0xFF :=
  latched_all fun _ => evalMatrix_latches_hardware s present

theorem hwFault_latches (cause : Byte) (subject : Nat) :
    (hwFault cause.toNat subject s).qm.latched = 0xFF ∧ cause ∈ (hwFault cause.toNat subject s).qm.hw := by
  have qm : (hwFault cause.toNat subject s).qm = (evalMatrix (hwPresented cause s)).qm := by
    rw [hwFault, BitVec.ofNat_toNat, BitVec.setWidth_eq]
    exact raiseFault_qm ..
  rw [qm, evalMatrix_leaves _ QmSt.hw fun _ _ _ => rfl]
  exact ⟨evalMatrix_latches_all _ (mem_hwPresented s cause), mem_hwPresented s cause⟩

theorem hwFault_recorded {cause subject : Nat} (code : 0x0301 + cause < 2 ^ 16) (object : subject < 2 ^ 16) (calm : stormCase s 3 = false) :
    ∃ r ∈ (hwFault cause subject s).flt.recs, r.cause.toNat = 0x0301 + cause ∧ r.subject.toNat = subject := by
  refine raiseFault_recorded _ true _ code object ?_
  rw [(evalMatrix_sameStorm _).stormCase]
  exact calm

theorem hardware_quenches (cause : Byte) (low : 1 ≤ cause.toNat) (high : cause.toNat ≤ 4) :
    ∃ u, Becomes (.hwFaultRequest cause) s u ∧ u.qm.latched = 0xFF ∧ cause ∈ u.qm.hw ∧
      (stormCase s 3 = false → ∃ r ∈ u.flt.recs, r.cause.toNat = 0x0301 + cause.toNat ∧ r.subject = 0xFFFF) := by
  obtain ⟨latched, present⟩ := hwFault_latches s cause 0xFFFF
  refine ⟨hwFault cause.toNat 0xFFFF s, becomes_of_done (if_pos (by simp [low, high])), latched, present, fun calm => ?_⟩
  obtain ⟨r, mem, code, object⟩ := hwFault_recorded s (cause := cause.toNat) (subject := 0xFFFF) (by omega) (by decide) calm
  exact ⟨r, mem, code, BitVec.eq_of_toNat_eq object⟩

theorem noHardware_idles (cause : Byte) (outside : cause.toNat = 0 ∨ 4 < cause.toNat) : Idles (.hwFaultRequest cause) s :=
  idles_of_done (if_neg (by simp; omega))

/-! ### DEBUG_HALT and DEBUG_RESUME -/

theorem halt_quenches : ∃ u, Becomes .debugHalt s u ∧ u.qm.fwHalt = true ∧
    (∀ g : Group, quenched s g = true → quenched u g = true) ∧
    ∀ g : Group, (pNat s Prm.insHaltMap).testBit g.val = true → quenched u g = true := by
  refine ⟨evalMatrix { s with qm := { s.qm with fwHalt := true } }, becomes_of_done rfl, ?_, fun g q => evalMatrix_quenched _ q,
    fun g asked => evalMatrix_latches_firmware _ ?_⟩
  · exact evalMatrix_leaves _ QmSt.fwHalt fun _ _ _ => rfl
  · have halted : (pNat { s with qm := { s.qm with fwHalt := true } } Prm.insHaltMap).testBit g.val = true := asked
    simp [firmwareMask, halted]

theorem resume_runs : Runs .debugResume s [.qm] (fun u => u.qm = { s.qm with fwHalt := false }) :=
  runs_of_done rfl (withQm_keeps s _) (by decide) rfl

end

/-- Settles O27: each row records its input and evaluates the matrix, which latches what calls and unlatches nothing. -/
theorem tripInputsQuenchTheirGroups : Obligations.TripInputsQuenchTheirGroups := fun s =>
  ⟨fun _ used => ⟨demand_quenches used, fun free quiet wiring nine soon => tenthEntry_chatters used free quiet wiring nine soon,
      demand_ends used, wiring_quenches used, wiring_ends used⟩,
    fun _ b unused => unused_records b unused, fun _ quiet => idles_of_done (if_pos (by rw [quiet]; rfl)), fun _ => chatter_ends,
    presence_ends s, blanking_ends s, hardware_quenches s, noHardware_idles s, halt_quenches s, resume_runs s⟩

end Sys2Proof.Safety

/-! ## SUPPORT. The test of the comparator lanes (08 R251; 11 R347 A2; 17 R489) -/

namespace Sys2Proof.Safety
open Sys2Proof.Machine

section
variable (s : State)

/-! ### The role stays while the matrix is evaluated -/

@[simp] theorem setCh_role (n : Chan) (new : ChState) (cause : Nat) (host : Bool) : (setCh n new cause host s).twn.role = s.twn.role := by
  have event (old new' c : Nat) (b e : Bool) (k : Nat) (t : State) : (chEvent 0x8201 n old new' c b e k t).twn = t.twn :=
    chEvent_keeps _ _ _ _ _ _ _ _ _ .twn (by decide)
  have cycle (t : State) : (abortCycle n 1 t).twn = t.twn := abortCycle_keeps _ _ _ .twn (by decide)
  have queued (w : StoreWrite) (t : State) : (queueWrite w t).twn = t.twn := queueWrite_keeps _ _ .twn (by decide)
  have service (st : Status) (t : State) : (dropService n st t).twn.role = t.twn.role := by
    unfold dropService
    split <;> rfl
  simp [setCh, markDirty, event, cycle, queued, service, modCon, modIns]

@[simp] theorem endSeq_role (n : Chan) (st : Status) : (endSeq n st s).twn.role = s.twn.role :=
  (role_ite _ _ _).trans (ite_self _)

@[simp] theorem quenchChan_role (n : Chan) : (quenchChan n s).twn.role = s.twn.role := by
  have stepped (st : ConStep) (t : State) : (seqStep n st t).twn.role = t.twn.role := rfl
  simp [quenchChan, prechargeEvent, stepped, modCon, modIns]

theorem forEach_role {α : Type} (xs : List α) (f : α → State → State) (h : ∀ a t, (f a t).twn.role = t.twn.role) :
    (forEach xs f s).twn.role = s.twn.role := by
  unfold forEach
  induction xs generalizing s with
  | nil => rfl
  | cons x xs ih => exact (ih _).trans (h x s)

theorem evalMatrix_role : (evalMatrix s).twn.role = s.twn.role := by
  have cast (m : Byte) (c : QCause) (t : State) : (broadcastTrip m c t).twn = t.twn := broadcastTrip_keeps _ _ _ .twn (by decide)
  have record (g origin : Nat) (t : State) : (openL0 g origin t).twn.role = t.twn.role := by
    rw [openL0_keeps g origin t .twn (by decide)]
  have chans (g : Group) (t : State) : (forEach (groupChans t g) quenchChan t).twn.role = t.twn.role :=
    forEach_role _ _ _ fun n u => quenchChan_role u n
  have records (gs : List Group) (origin : Nat) (t : State) :
      (forEach gs (fun g => openL0 g.val origin) t).twn.role = t.twn.role := forEach_role _ _ _ fun _ _ => record _ _ _
  have groups (gs : List Group) (t : State) :
      (forEach gs (fun g u => forEach (groupChans u g) quenchChan u) t).twn.role = t.twn.role := forEach_role _ _ _ chans
  simp [evalMatrix, latch, cast, records, groups]

theorem isMaster_of_role {s t : State} (h : t.twn.role = s.twn.role) : isMaster t = isMaster s := by rw [isMaster, h, isMaster]

/-! ### The trip request and the module safe state -/

theorem assertTrip_asserts (b : Byte) (i : Int) (m : isMaster s = true) : (assertTrip b i s).qm.tripreq = true := by
  unfold assertTrip
  split
  · next held => simpa [m] using held
  · simp

theorem assertTrip_tripA2 (b : Byte) (i : Int) : (assertTrip b i s).qm.tripA2 = s.qm.tripA2 := by
  unfold assertTrip
  split
  · rfl
  · simp

theorem assertTrip_twn (b : Byte) (i : Int) : (assertTrip b i s).twn = s.twn := by
  unfold assertTrip
  split
  · rfl
  · simp [tripEvent]

theorem assertTrip_held (b : Byte) (i : Int) : s.ev.held <+: (assertTrip b i s).ev.held := by
  unfold assertTrip
  split
  · exact List.prefix_rfl
  · exact (raise_quenches { s with qm := { s.qm with tripreq := true, tripreqAt := s.tim.tb, tripBy := b } } _ _ _).held

/-- The safe state writes the firmware request and what an evaluation writes, and no more of the matrix. -/
theorem enterSafe_leaves {β : Type} (view : QmSt → β) (apart : ∀ m c q, view (latchedBy m c q) = view q) :
    view (enterSafe s).qm = view { s.qm with fwSafe := true } := evalMatrix_leaves _ view apart

theorem enterSafe_held : s.ev.held <+: (enterSafe s).ev.held := (evalMatrix_quenches { s with qm := { s.qm with fwSafe := true } }).held

/-! ### Two lanes have failed (R251) -/

/-- The second lane's failure presented to the matrix: the hardware cause 1 and the arm-trip condition A2. -/
def lanesPresented (s : State) : State :=
  { s with qm := { s.qm with hw := if s.qm.hw.contains 1 then s.qm.hw else s.qm.hw ++ [1], tripA2 := true } }

/-- The groups quenched, the request asserted, and the fault raised. -/
def lanesFailed (origin : Nat) (s : State) : State :=
  raiseFault 0x0302 0xFFFF 3 true origin (assertTrip 0xFF 0 (evalMatrix (lanesPresented s)))

theorem twoLanes_eq (origin : Nat) : twoLanes origin s =
    if isMaster (lanesFailed origin s) then enterSafe (lanesFailed origin s) else lanesFailed origin s := rfl

variable (origin : Nat)

theorem lanesFailed_qm : (lanesFailed origin s).qm = (assertTrip 0xFF 0 (evalMatrix (lanesPresented s))).qm := raiseFault_qm ..

theorem lanesFailed_latched : (lanesFailed origin s).qm.latched = 0xFF := by
  rw [lanesFailed_qm, assertTrip_latched]
  exact evalMatrix_latches_all (lanesPresented s) (mem_hwPresented s 1)

theorem lanesFailed_tripA2 : (lanesFailed origin s).qm.tripA2 = true := by
  rw [lanesFailed_qm, assertTrip_tripA2]
  exact evalMatrix_leaves _ QmSt.tripA2 fun _ _ _ => rfl

theorem lanesFailed_held : s.ev.held <+: (lanesFailed origin s).ev.held :=
  (evalMatrix_quenches (lanesPresented s)).held.trans ((assertTrip_held _ _ _).trans (raiseFault_reports ..).held)

theorem isMaster_lanesFailed : isMaster (lanesFailed origin s) = isMaster s := by
  refine isMaster_of_role ?_
  rw [lanesFailed, raiseFault_keeps _ _ _ _ _ _ .twn (by decide), assertTrip_twn, evalMatrix_role]
  rfl

theorem twoLanes_latched : (twoLanes origin s).qm.latched = 0xFF := by
  have failed := lanesFailed_latched s origin
  rw [twoLanes_eq]
  split
  · refine latched_all fun g => enterSafe_quenched _ ?_
    rw [failed]
    exact (by decide : ∀ g : Group, (0xFF : Byte).getLsbD g.val = true) g
  · exact failed

theorem twoLanes_tripA2 : (twoLanes origin s).qm.tripA2 = true := by
  have failed := lanesFailed_tripA2 s origin
  rw [twoLanes_eq]
  split
  · exact (enterSafe_leaves _ QmSt.tripA2 fun _ _ _ => rfl).trans failed
  · exact failed

theorem twoLanes_held : s.ev.held <+: (twoLanes origin s).ev.held := by
  rw [twoLanes_eq]
  split
  · exact (lanesFailed_held s origin).trans (enterSafe_held _)
  · exact lanesFailed_held s origin

/-- A master asserts the request and enters the module safe state. -/
theorem twoLanes_master (m : isMaster s = true) :
    (twoLanes origin s).qm.tripreq = true ∧ (twoLanes origin s).pwr.mod = .safe ∧ (twoLanes origin s).qm.fwSafe = true := by
  have asserted : (lanesFailed origin s).qm.tripreq = true := by
    rw [lanesFailed_qm]
    exact assertTrip_asserts _ _ _ ((isMaster_of_role (evalMatrix_role _)).trans m)
  rw [twoLanes_eq, if_pos ((isMaster_lanesFailed s origin).trans m)]
  exact ⟨(enterSafe_leaves _ QmSt.tripreq fun _ _ _ => rfl).trans asserted, rfl, enterSafe_leaves _ QmSt.fwSafe fun _ _ _ => rfl⟩

/-! ### LANE_SELFTEST -/

/-- A mismatch of the lane under test, as the matrix records it. -/
def laneMissed (s : State) : State :=
  { s with qm := { s.qm with lane := s.qm.lane + 1, laneBad := s.qm.laneBad ||| (1#3 <<< s.qm.lane.val),
                             selftestFails := s.qm.selftestFails + 1 } }

/-- The lane marked failed at its second mismatch. -/
def laneMarked (s : State) : State :=
  { laneMissed s with qm := { (laneMissed s).qm with laneFailed := s.qm.laneFailed ||| (1#3 <<< s.qm.lane.val) } }

/-- The failure of a lane said, when it is the first or the second to fail. -/
def laneSaid (v : Half) (s : State) : State := selftestEvent s.qm.lane.val (if s.qm.laneFailed ≠ 0 then 2 else 1) v (laneMarked s)

variable {s} (v : Half)

/-- A mismatch: of a lane that has missed before and not failed, or of another. -/
theorem exec_laneMismatch : exec (.laneSelftest false v) s =
    if s.qm.laneBad.getLsbD s.qm.lane.val && !s.qm.laneFailed.getLsbD s.qm.lane.val then
      done s (if s.qm.laneFailed ≠ 0 then twoLanes (lastSeq (laneSaid v s)).toNat (laneSaid v s)
        else raiseFault 0x0301 s.qm.lane.val 2 true (lastSeq (laneSaid v s)).toNat (laneSaid v s))
    else done s (selftestEvent s.qm.lane.val 0 v (laneMissed s)) := rfl

theorem lane_passes : Runs (.laneSelftest true v) s [.qm] (fun u => u.qm.lane = s.qm.lane + 1 ∧
    u.qm.laneBad = s.qm.laneBad &&& ~~~(1#3 <<< s.qm.lane.val) ∧ u.qm.selftests = s.qm.selftests + 1 ∧
    u.qm.latched = s.qm.latched ∧ u.qm.laneFailed = s.qm.laneFailed) :=
  runs_of_done rfl (withQm_keeps s _) (by decide) ⟨rfl, rfl, rfl, rfl, rfl⟩

/-- The event of a lane test, after the matrix has recorded its result. -/
theorem selftestEvent_tells (lane kind : Nat) (q : QmSt) :
    Tells s (selftestEvent lane kind v { s with qm := q }) 0x8303 0xFFFF [ef 28 0 lane, ef 29 0 kind, ef 30 0 v.toNat] :=
  tells_of_ev (t := { s with qm := q }) rfl (raiseAt_tells ..)

theorem selftestEvent_keeps (lane kind : Nat) (q : QmSt) : KeepsBut [.qm, .ev] s (selftestEvent lane kind v { s with qm := q }) :=
  keepsBut_trans (keepsBut_sub _ (withQm_keeps s q) rfl) (keepsBut_sub _ (raiseAt_keeps _ _ _ _ _ _ _) rfl)

theorem lane_misses (first : s.qm.laneBad.getLsbD s.qm.lane.val = false) : Runs (.laneSelftest false v) s [.qm, .ev] (fun u =>
    u.qm.lane = s.qm.lane + 1 ∧ u.qm.laneBad = s.qm.laneBad ||| (1#3 <<< s.qm.lane.val) ∧ u.qm.laneFailed = s.qm.laneFailed ∧
    u.qm.latched = s.qm.latched ∧ Tells s u 0x8303 0xFFFF [ef 28 0 s.qm.lane.val, ef 29 0 0, ef 30 0 v.toNat]) := by
  have e : exec (.laneSelftest false v) s = done s (selftestEvent s.qm.lane.val 0 v (laneMissed s)) :=
    (exec_laneMismatch v).trans (if_neg (by rw [first]; exact Bool.false_ne_true))
  have qm : (selftestEvent s.qm.lane.val 0 v (laneMissed s)).qm = (laneMissed s).qm := selftestEvent_qm ..
  exact runs_of_done e (selftestEvent_keeps v _ _ _) (by decide) ⟨by rw [qm]; rfl, by rw [qm]; rfl, by rw [qm]; rfl, by rw [qm]; rfl,
    selftestEvent_tells ..⟩

section
variable (again : s.qm.laneBad.getLsbD s.qm.lane.val = true)
include again

theorem lane_fails (sound : s.qm.laneFailed = 0) : Runs (.laneSelftest false v) s [.qm, .ev, .flt] (fun u =>
    u.qm.laneFailed = (1#3 <<< s.qm.lane.val) ∧ u.qm.latched = s.qm.latched ∧
    Tells s u 0x8303 0xFFFF [ef 28 0 s.qm.lane.val, ef 29 0 1, ef 30 0 v.toNat] ∧
    (findFault s 0x0301 s.qm.lane.val = none → stormCase s 2 = false →
      ∃ r ∈ u.flt.recs, r.cause = 0x0301 ∧ r.level = 2 ∧ r.permanent = true)) := by
  obtain ⟨t, ht⟩ : ∃ t, t = selftestEvent s.qm.lane.val 1 v (laneMarked s) := ⟨_, rfl⟩
  have said : laneSaid v s = t := by rw [laneSaid, if_neg (by rw [sound]; decide), ht]
  have e := (exec_laneMismatch v).trans (if_pos (by rw [again, sound]; simp))
  rw [if_neg (by rw [sound]; decide), said] at e
  have kept : KeepsBut [.qm, .ev] s t := ht ▸ selftestEvent_keeps v _ _ _
  have told : Tells s t 0x8303 0xFFFF [ef 28 0 s.qm.lane.val, ef 29 0 1, ef 30 0 v.toNat] := ht ▸ selftestEvent_tells ..
  have qm : (raiseFault 0x0301 s.qm.lane.val 2 true (lastSeq t).toNat t).qm = (laneMarked s).qm := by
    rw [raiseFault_qm, ht, selftestEvent_qm]
  refine runs_of_done e (keepsBut_trans (keepsBut_sub _ kept rfl) (keepsBut_sub _ (raiseFault_keeps _ _ _ _ _ _) rfl)) (by decide)
    ⟨?_, by rw [qm]; rfl, tells_of_grows (raiseFault_reports ..).held told, fun new calm => ?_⟩
  · rw [qm]
    exact (congrArg (· ||| 1#3 <<< s.qm.lane.val) sound).trans BitVec.zero_or
  · have unknown : findFault t 0x0301 s.qm.lane.val = none := by rw [← new, findFault, kept .flt (by decide), findFault]
    have quiet : stormCase t 2 = false := (sameStorm_of_keeps kept (by decide)).stormCase 2 |>.trans calm
    rw [raiseFault_new t true _ unknown quiet]
    obtain ⟨r, mem, code, -, level, permanent⟩ := openFault_recorded t 0x0301 s.qm.lane.val 2
      (true || (2 = 2 && thirdL2 t 0x0301 s.qm.lane.val)) (lastSeq t).toNat
    exact ⟨r, mem, code, level, permanent.trans (Bool.true_or _)⟩

theorem lanes_fail (fresh : s.qm.laneFailed.getLsbD s.qm.lane.val = false) (others : s.qm.laneFailed ≠ 0) :
    ∃ u, Becomes (.laneSelftest false v) s u ∧ u.qm.latched = 0xFF ∧ u.qm.tripA2 = true ∧
      Tells s u 0x8303 0xFFFF [ef 28 0 s.qm.lane.val, ef 29 0 2, ef 30 0 v.toNat] ∧
      (isMaster s = true → u.qm.tripreq = true ∧ u.pwr.mod = .safe ∧ u.qm.fwSafe = true) := by
  have said : laneSaid v s = selftestEvent s.qm.lane.val 2 v (laneMarked s) := by rw [laneSaid, if_pos others]
  have e := (exec_laneMismatch v).trans (if_pos (by rw [again, fresh]; rfl))
  rw [if_pos others, said] at e
  have role : isMaster (selftestEvent s.qm.lane.val 2 v (laneMarked s)) = isMaster s :=
    isMaster_of_role (congrArg TwnSt.role (selftestEvent_keeps v _ _ _ .twn (by decide)))
  exact ⟨_, becomes_of_done e, twoLanes_latched .., twoLanes_tripA2 ..,
    tells_of_grows (twoLanes_held ..) (selftestEvent_tells ..), fun m => twoLanes_master _ _ (role.trans m)⟩

end
end
end Sys2Proof.Safety

/-! ## SUPPORT. QUENCH_RELEASE and the end of the trip request (08 R252, R256) -/

namespace Sys2Proof.Safety
open Sys2Proof.Machine

section
variable (mask : Byte) (s : State)

/-! ### QUENCH_RELEASE -/

/-- The groups of a mask that can be released: latched, with no cause present. -/
def releasable (mask : Byte) (s : State) (g : Group) : Bool := mask.getLsbD g.val && quenched s g && !presentFor s g

/-- What a release says is what it releases. -/
theorem releaseGroups_bit (g : Group) : (releaseGroups mask s).1.getLsbD g.val = releasable mask s g := by
  have said : (releaseGroups mask s).1 =
      BitVec.ofNat 8 (maskOf 8 fun i => (finsOf 8 (releasable mask s)).any fun g => g.val = i) := rfl
  rw [said, BitVec.getLsbD_ofNat, testBit_maskOf _ g.isLt]
  have found : (finsOf 8 (releasable mask s)).any (fun g' => g'.val = g.val) = releasable mask s g := by
    rw [Bool.eq_iff_iff]
    simp [finsOf, Fin.val_inj]
  rw [found]
  simp [g.isLt]

/-- Of the latched groups a release takes out what it names. -/
theorem releaseGroups_latched : (releaseGroups mask s).2.qm.latched = s.qm.latched &&& ~~~(releaseGroups mask s).1 := by
  have placed (g : Group) (t : State) : (forEach (groupChans t g) releaseChan t).qm = t.qm :=
    forEach_qm _ _ _ fun n u => releaseChan_qm n u
  unfold releaseGroups
  dsimp only
  rw [forEach_qm _ _ _ placed, qm_ite, raise_qm, ite_self]
  refine congrArg QmSt.latched (forEach_qm _ _ _ fun g t => ?_)
  split
  · exact closeFault_qm ..
  · rfl

/-- Where every group asked for is held, a release changes nothing. -/
theorem releaseGroups_none (held : ∀ g : Group, mask.getLsbD g.val = true → quenched s g = true → presentFor s g = true) :
    releaseGroups mask s = (0, s) := by
  have none_ : finsOf 8 (releasable mask s) = [] := by
    refine List.filter_eq_nil_iff.mpr fun g _ => ?_
    simpa [releasable] using held g
  have gs : finsOf 8 (fun g => mask.getLsbD g.val && quenched s g && !presentFor s g) = [] := none_
  unfold releaseGroups
  dsimp only
  rw [gs]
  have empty : BitVec.ofNat 8 (maskOf 8 fun i => ([] : List Group).any fun g => g.val = i) = 0 := by decide
  have all : s.qm.latched &&& ~~~(0 : Byte) = s.qm.latched := BitVec.and_allOnes
  rw [empty, all]
  rfl

theorem execQuenchRelease_eq (h : Hdr) : exec (.quenchRelease h mask) s =
    hostCmd h 0x0303 4 .none false (fun t => .now (okWords [(3, (releaseGroups mask t).1.toNat), (4, stillHeld mask t)])
      (if (releaseGroups mask t).1 = 0 then (releaseGroups mask t).2 else restage 4 (releaseGroups mask t).2)) s := rfl

variable {mask s} {h : Hdr} {t : State} {idx : Word} (a : Admits h 0x0303 4 .none false s idx t)
include a

theorem release_answers : ∃ r u, AnswersWith (.quenchRelease h mask) h 0x0303 idx s r u ∧
    r = okWords [(3, (releaseGroups mask t).1.toNat), (4, stillHeld mask t)] ∧
    ∀ g : Group, quenched u g = (quenched t g && !(mask.getLsbD g.val && !presentFor t g)) ∧
      (releaseGroups mask t).1.getLsbD g.val = (mask.getLsbD g.val && quenched t g && !presentFor t g) := by
  refine ⟨_, _, answersWith_of a (execQuenchRelease_eq mask s h) rfl, rfl, fun g => ⟨?_, releaseGroups_bit mask t g⟩⟩
  have qm : (if (releaseGroups mask t).1 = 0 then (releaseGroups mask t).2 else restage 4 (releaseGroups mask t).2).qm =
      (releaseGroups mask t).2.qm := by rw [qm_ite, restage_qm, ite_self]
  rw [quenched, qm, releaseGroups_latched, BitVec.getLsbD_and, BitVec.getLsbD_not, releaseGroups_bit, releasable]
  show (quenched t g && _) = _
  rw [decide_eq_true g.isLt, Bool.true_and]
  cases quenched t g <;> simp

theorem release_held (held : ∀ g : Group, mask.getLsbD g.val = true → quenched t g = true → presentFor t g = true) :
    Replies (.quenchRelease h mask) h 0x0303 idx s t (okWords [(3, 0), (4, stillHeld mask t)]) [] (fun _ => True) := by
  refine replies_unchanged a (execQuenchRelease_eq mask s h) ?_
  rw [releaseGroups_none mask t held]
  rfl

end

/-! ### TRIPREQ_HOLD_END -/

section
variable (s : State)

theorem request_stands (stands : s.qm.tripreq = false ∨ tripCause s = true) : Idles .tripreqHoldEnd s := by
  have e : endTrip s = s := if_neg (by rcases stands with h | h <;> simp [h])
  exact idles_of_done (congrArg (done s) e)

/-- The bit of ARM_TRIP_REQUEST that says that the request ends. -/
theorem tripEvent_ended (x y z : Nat) :
    (BitVec.ofNat 288 ([ef 28 0 x, ef 28 2 (bN true), ef 29 0 y, ef 32 0 z].foldl (· ||| ·) 0)).getLsbD 2 = true := by
  simp [ef, fld, bN]

theorem request_ends (asked : s.qm.tripreq = true) (clear : tripCause s = false) : Runs .tripreqHoldEnd s [.qm, .ev] (fun u =>
    u.qm = { s.qm with tripreq := false } ∧ ∃ e ∈ u.ev.held, e.seq = s.ev.seq ∧ e.code = 0x8208 ∧ e.data.getLsbD 2 = true) := by
  have e : exec .tripreqHoldEnd s = done s (endTrip s) := rfl
  rw [endTrip, if_pos (by rw [asked, clear]; rfl)] at e
  refine runs_of_done e (keepsBut_trans (keepsBut_sub _ (withQm_keeps s _) rfl) (keepsBut_sub _ (raise_keeps _ _ _ _) rfl)) (by decide)
    ⟨tripEvent_qm .., ?_⟩
  obtain ⟨e, mem, seq, code, -, data⟩ := raise_tells 0x8208 0xFFFF _ { s with qm := { s.qm with tripreq := false } }
  exact ⟨e, mem, seq, code, by rw [data, tripEvent_ended]⟩

end

/-- Settles O28: each row is one change of the matrix and what it says; the two-lane case evaluates the matrix and enters the
module safe state. -/
theorem lanesReleaseAndTripRequest : Obligations.LanesReleaseAndTripRequest := fun s =>
  ⟨lane_passes, lane_misses, fun v again => lane_fails v again, fun v again => lanes_fail v again,
    fun _ _ _ _ a => ⟨release_answers a, release_held a⟩, request_stands s, request_ends s⟩

end Sys2Proof.Safety

/-! ## SUPPORT. Gaps that end, records that are queued, and the seam's frames (09 R271 to R276; 10 R296, R314; 12 R354) -/

namespace Sys2Proof.Safety

open Sys2Proof.Machine

section
variable (n : Chan) (s : State)

/-! ### What the end of a gap may change -/

theorem anchorGroup_keeps (g : GapSt) (t : DWord) (k : Nat) : KeepsBut [.asyCh] s (anchorGroup n g t k s) := by
  unfold anchorGroup
  split
  · exact keepsBut_refl _ s
  · refine keepsBut_ite (keepsBut_refl _ s) ?_
    dsimp only
    split
    · exact modAsy_keeps _ _ _
    · exact keepsBut_ite (modAsy_keeps _ _ _) (keepsBut_trans (modGrp_keeps _ _ _ _) (modAsy_keeps _ _ _))

theorem takeAnchor_keeps (t : DWord) : KeepsBut [.asyCh] s (takeAnchor n t s) := by
  unfold takeAnchor
  split
  · exact keepsBut_refl _ s
  · exact keepsBut_ite (forEach_keeps _ _ _ fun k u => anchorGroup_keeps n u _ t k) (keepsBut_refl _ s)

theorem slowFit_keeps (r : RelaxSt) (lasted : Rat) (k : Nat) : KeepsBut [.asyCh, .cyc] s (slowFit n r lasted k s) := by
  unfold slowFit
  split
  · exact keepsBut_refl _ s
  · exact keepsBut_ite (keepsBut_refl _ s)
      (keepsBut_trans (keepsBut_sub _ (modGrp_keeps _ _ _ _) rfl) (keepsBut_sub _ (modCyc_keeps _ _ _) rfl))

theorem relaxEnd_keeps (t : DWord) : KeepsBut [.asyCh, .cyc] s (relaxEnd n t s) := by
  unfold relaxEnd
  split
  · exact keepsBut_refl _ s
  · have stopped (f : AsyCh → AsyCh) : KeepsBut [.asyCh, .cyc] s (modAsy n f s) := keepsBut_sub _ (modAsy_keeps _ _ _) rfl
    exact keepsBut_ite (stopped _) (keepsBut_trans (stopped _) (forEach_keeps _ _ _ fun k u => slowFit_keeps n u _ _ k))

theorem gapClose_keeps (t : DWord) : KeepsBut [.asyCh, .cyc] s (gapClose n t s) :=
  keepsBut_trans (relaxEnd_keeps n s t)
    (keepsBut_trans (keepsBut_sub _ (takeAnchor_keeps _ _ _) rfl) (keepsBut_sub _ (modAsy_keeps _ _ _) rfl))

/-- A change of some groups leaves what the channel holds beside its groups. -/
theorem modGrps_leaves {β : Type} (g : AsyCh → β) (fixed : ∀ a l, g { a with grps := l } = g a) (l : List Nat)
    (f : Nat → GrpSt → GrpSt) :
    g (forEach l (fun k s => modGrp n k (f k) s) s).asyCh[n] = g s.asyCh[n] :=
  List.foldlRecOn (motive := fun t : State => g t.asyCh[n] = g s.asyCh[n]) l _ rfl
    fun t same k _ => (vmod_leaves g t.asyCh n (fun a => fixed a _) n).trans same

/-! ### The rest that ends (R276) -/

/-- The end of a rest takes its anchor: that of a gap that a rising edge closes, or of one that stays. -/
def restAnchored : State := if s.con[n].rest then gapClose n s.tim.station s else takeAnchor n s.tim.station s

/-- What the channel holds once its rest and its grant are over: the windows of its gap begin again. -/
def restClosed (a : AsyCh) : AsyCh :=
  { a with restFrom := none, grant := none, gap := a.gap.map (fun g => { g with windows := 0, good := true }) }

/-- The groups forget what they saw of the gap. -/
def gapValuesDropped : State := forEach (groupsOf s n) (fun k s => modGrp n k (fun g => { g with gapV := none }) s) s

theorem finishRest_eq : finishRest n s = markDirty n (modCon n (fun c => { c with rest := false })
    (gapValuesDropped n (modAsy n restClosed (restAnchored n s)))) := rfl

theorem restAnchored_keeps : KeepsBut [.asyCh, .cyc] s (restAnchored n s) :=
  keepsBut_ite (gapClose_keeps n s _) (keepsBut_sub _ (takeAnchor_keeps n s _) rfl)

theorem gapValuesDropped_keeps : KeepsBut [.asyCh] s (gapValuesDropped n s) :=
  forEach_keeps _ _ _ fun k u => modGrp_keeps n k _ u

theorem restClosed_groups_keeps : KeepsBut [.asyCh, .cyc] s (gapValuesDropped n (modAsy n restClosed (restAnchored n s))) :=
  keepsBut_trans (restAnchored_keeps n s)
    (keepsBut_trans (keepsBut_sub _ (modAsy_keeps _ _ _) rfl) (keepsBut_sub _ (gapValuesDropped_keeps _ _) rfl))

theorem finishRest_con : (finishRest n s).con = vmod s.con n (fun c => { c with rest := false }) := by
  rw [finishRest_eq, markDirty, modCon_con, restClosed_groups_keeps n s .con (by decide)]

/-- What an end of rest makes of a quantity that no group holds. -/
theorem finishRest_reads {β : Type} (g : AsyCh → β) (fixed : ∀ a l, g { a with grps := l } = g a) :
    g (finishRest n s).asyCh[n] = g (restClosed (restAnchored n s).asyCh[n]) := by
  have groups := modGrps_leaves n (modAsy n restClosed (restAnchored n s)) g fixed
  rw [finishRest_eq, markDirty, modCon_asyCh, gapValuesDropped, groups, modAsy_asyCh, vmod_get]

theorem finishRest_clears : (finishRest n s).asyCh[n].restFrom = none ∧ (finishRest n s).asyCh[n].grant = none :=
  ⟨finishRest_reads n s AsyCh.restFrom fun _ _ => rfl, finishRest_reads n s AsyCh.grant fun _ _ => rfl⟩

/-! ### The seam and the store -/

theorem seamFrames_impRotate (l : SeamLane) (k : Nat) : (seamFrames l k s).twn.impRotate = s.twn.impRotate := by
  unfold seamFrames
  split <;> rfl

theorem sendSeam_impRotate (o : SeamOut) : (sendSeam o s).twn.impRotate = s.twn.impRotate := by
  unfold sendSeam
  dsimp only
  split
  · rfl
  · exact seamFrames_impRotate ..

theorem queueWrite_grows (w : StoreWrite) : s.store.queue <+: (queueWrite w s).store.queue := by
  unfold queueWrite
  split
  · exact List.prefix_rfl
  · exact List.prefix_append ..

end

end Sys2Proof.Safety

/-! ## 09. The estimator update, rests, the time-out of an assay cycle and the periodic saves

That an estimator with both pairs fenced stops is log 197, and that rests are the master's alone is log 99: both are the model's
reading. -/

namespace Sys2Proof.Safety

open Sys2Proof.Machine

/-! ### ESTIMATOR_UPDATE (09 R263; 12 R363) -/

section
variable (s : State)

theorem estimator_idles (off : fwRuns s = false ∨ blockFenced s 0x0401 0 = true ∧ blockFenced s 0x0401 1 = true) :
    Idles .estimatorUpdate s := by
  refine idles_of_done (if_pos ?_)
  rcases off with halted | ⟨first, second⟩
  · simp [halted]
  · simp [first, second]

/-- The state after an update at a master: the RECONCILE has left, with the impedance records of the next channel. -/
def reconciled (t : State) : State :=
  sendSeam (.reconcile t.tim.station) { t with twn := { t.twn with impRotate := t.twn.impRotate + 1 } }

theorem execEstimatorUpdate_eq (runs : fwRuns s = true) (left : blockFenced s 0x0401 0 = false ∨ blockFenced s 0x0401 1 = false) :
    exec .estimatorUpdate s = if isMaster (estimate s) then done s (reconciled (estimate s)) else done s (estimate s) := by
  refine if_neg ?_
  rcases left with h | h <;> simp [runs, h]

theorem reconciled_keeps (t : State) : KeepsBut [.twn] t (reconciled t) :=
  keepsBut_trans (keepsBut_twn t _) (sendSeam_keeps _ _)

theorem reconciled_impRotate (t : State) : (reconciled t).twn.impRotate = t.twn.impRotate + 1 := sendSeam_impRotate ..

theorem estimator_updates (runs : fwRuns s = true) (left : blockFenced s 0x0401 0 = false ∨ blockFenced s 0x0401 1 = false) :
    (isMaster (estimate s) = false → Becomes .estimatorUpdate s (estimate s)) ∧
    (isMaster (estimate s) = true → ∃ u, Becomes .estimatorUpdate s u ∧ KeepsBut [.twn] (estimate s) u ∧
      u.twn.impRotate = (estimate s).twn.impRotate + 1) := by
  have e := execEstimatorUpdate_eq s runs left
  constructor
  · intro other
    exact becomes_of_done (e.trans (if_neg (Bool.eq_false_iff.mp other)))
  · intro master
    exact ⟨_, becomes_of_done (e.trans (if_pos master)), reconciled_keeps _, reconciled_impRotate _⟩

end

/-! ### Rest requests (R274, R277) -/

section
variable (n : Chan) (s : State)

theorem restEvent_keeps (again : Bool) : KeepsBut [.asyCh, .ev] s (restEvent n false again s) :=
  keepsBut_trans (keepsBut_sub _ (modAsy_keeps _ _ _) rfl) (keepsBut_sub _ (raise_keeps _ _ _ _) rfl)

theorem restEvent_counts (again : Bool) :
    (restEvent n false again s).asyCh = vmod s.asyCh n (fun a => { a with requests := a.requests + 1 }) :=
  raise_keeps _ _ _ (modAsy n (fun a => { a with requests := a.requests + 1 }) s) .asyCh (by decide)

theorem restEvent_tells (again : Bool) : ∃ e ∈ (restEvent n false again s).ev.held,
    e.seq = s.ev.seq ∧ e.code = 0x8401 ∧ e.subject = BitVec.ofNat 16 n.val := by
  obtain ⟨e, mem, seq, code, subject, -⟩ :=
    raise_tells 0x8401 n.val _ (modAsy n (fun a => { a with requests := a.requests + 1 }) s)
  exact ⟨e, mem, seq, code, subject⟩

theorem execRestRequestRepeat_eq : exec (.restRequestRepeat n) s =
    if isMaster s = true ∧ s.asyCh[n].restReq.isSome = true ∧ s.asyCh[n].grant = none ∧ s.asyCh[n].worst.1 > 3 / 100 ∧
      s.cyc[n].phase = 0
    then done s (restEvent n false true s) else done s s := by
  simp only [exec, execRestRequestRepeat, Bool.and_eq_true, decide_eq_true_eq, Option.isNone_iff_eq_none, and_assoc]

theorem restRequest_repeats (master : isMaster s = true) (asked : s.asyCh[n].restReq.isSome = true) (free : s.asyCh[n].grant = none)
    (wide : s.asyCh[n].worst.1 > 3 / 100) (idle : s.cyc[n].phase = 0) : Runs (.restRequestRepeat n) s [.asyCh, .ev] (fun u =>
      u.asyCh = vmod s.asyCh n (fun a => { a with requests := a.requests + 1 }) ∧
      ∃ e ∈ u.ev.held, e.seq = s.ev.seq ∧ e.code = 0x8401 ∧ e.subject = BitVec.ofNat 16 n.val) :=
  runs_of_done ((execRestRequestRepeat_eq n s).trans (if_pos ⟨master, asked, free, wide, idle⟩)) (restEvent_keeps n s true) (by decide)
    ⟨restEvent_counts n s true, restEvent_tells n s true⟩

theorem restRequest_idles (no : isMaster s = false ∨ s.asyCh[n].restReq = none ∨ s.asyCh[n].grant.isSome = true ∨
    s.cyc[n].phase ≠ 0 ∨ s.asyCh[n].worst.1 ≤ 3 / 100) : Idles (.restRequestRepeat n) s := by
  refine idles_of_done ((execRestRequestRepeat_eq n s).trans (if_neg ?_))
  rintro ⟨master, asked, free, wide, idle⟩
  rcases no with other | none_ | granted | cycles | narrow
  · exact Bool.eq_false_iff.mp other master
  · exact Option.isSome_iff_ne_none.mp asked none_
  · exact Option.isSome_iff_ne_none.mp granted free
  · exact cycles idle
  · exact not_lt.mpr narrow wide

theorem execRestWaitExpiry_eq : exec (.restWaitExpiry n) s =
    if s.asyCh[n].restReq.isSome = true ∧ s.asyCh[n].grant = none ∧ s.asyCh[n].worst.1 > 3 / 100
    then done s (modAsy n (fun a => { a with derating := true }) s) else done s s := by
  simp only [exec, execRestWaitExpiry, Bool.and_eq_true, decide_eq_true_eq, Option.isNone_iff_eq_none, and_assoc]

theorem restWait_derates (asked : s.asyCh[n].restReq.isSome = true) (free : s.asyCh[n].grant = none)
    (wide : s.asyCh[n].worst.1 > 3 / 100) : Runs (.restWaitExpiry n) s [.asyCh] (fun u =>
      u.asyCh = vmod s.asyCh n (fun a => { a with derating := true })) :=
  runs_of_done ((execRestWaitExpiry_eq n s).trans (if_pos ⟨asked, free, wide⟩)) (modAsy_keeps _ _ _) (by decide) rfl

theorem restWait_idles (no : s.asyCh[n].restReq = none ∨ s.asyCh[n].grant.isSome = true ∨ s.asyCh[n].worst.1 ≤ 3 / 100) :
    Idles (.restWaitExpiry n) s := by
  refine idles_of_done ((execRestWaitExpiry_eq n s).trans (if_neg ?_))
  rintro ⟨asked, free, wide⟩
  rcases no with none_ | granted | narrow
  · exact Option.isSome_iff_ne_none.mp asked none_
  · exact Option.isSome_iff_ne_none.mp granted free
  · exact not_lt.mpr narrow wide

/-! ### Rests that begin and end (R275, R276) -/

theorem restBegin_keeps : KeepsBut [.asyCh, .con, .twn] s (restBegin n s) :=
  keepsBut_trans (keepsBut_sub _ (modCon_keeps _ _ _) rfl)
    (keepsBut_trans (keepsBut_sub _ (modAsy_keeps _ _ _) rfl) (keepsBut_sub _ (markDirty_keeps _ _) rfl))

/-- A rest that begins on a channel that does not rest yet runs from now. -/
theorem restBegin_asyCh (fresh : s.asyCh[n].restFrom = none) :
    (restBegin n s).asyCh = vmod s.asyCh n (fun a => { a with restFrom := some s.tim.station }) := by
  have begun : (restBegin n s).asyCh =
      vmod s.asyCh n (fun a => { a with restFrom := some (a.restFrom.getD s.tim.station) }) := rfl
  rw [begun]
  exact vmod_congr _ _ (by rw [fresh, Option.getD_none])

theorem execRestStart_eq : exec (.restStart n) s =
    if s.asyCh[n].grant = none ∨ s.asyCh[n].restFrom.isSome = true then done s s
    else if isMaster s = true ∧ restable s n = true then done s (restBegin n s)
    else done s (modAsy n (fun a => { a with grant := none }) s) := by
  simp only [exec, execRestStart, Bool.or_eq_true, Bool.and_eq_true, Option.isNone_iff_eq_none]

theorem restStart_idles (no : s.asyCh[n].grant = none ∨ s.asyCh[n].restFrom.isSome = true) : Idles (.restStart n) s :=
  idles_of_done ((execRestStart_eq n s).trans (if_pos no))

section
variable (granted : s.asyCh[n].grant.isSome = true) (fresh : s.asyCh[n].restFrom = none)
include granted fresh

theorem restStart_due : ¬ (s.asyCh[n].grant = none ∨ s.asyCh[n].restFrom.isSome = true) :=
  not_or.mpr ⟨Option.isSome_iff_ne_none.mp granted, fun rests => Option.isSome_iff_ne_none.mp rests fresh⟩

theorem restStart_begins (master : isMaster s = true) (fit : restable s n = true) :
    Runs (.restStart n) s [.asyCh, .con, .twn] (fun u =>
      u.asyCh = vmod s.asyCh n (fun a => { a with restFrom := some s.tim.station }) ∧
      u.con = vmod s.con n (fun c => { c with rest := c.rest || (s.con[n].state == .active) })) := by
  have e := (execRestStart_eq n s).trans (if_neg (restStart_due n s granted fresh))
  exact runs_of_done (e.trans (if_pos ⟨master, fit⟩)) (restBegin_keeps n s) (by decide) ⟨restBegin_asyCh n s fresh, rfl⟩

theorem restStart_drops (no : isMaster s = false ∨ restable s n = false) : Runs (.restStart n) s [.asyCh] (fun u =>
    u.asyCh = vmod s.asyCh n (fun a => { a with grant := none })) := by
  have e := (execRestStart_eq n s).trans (if_neg (restStart_due n s granted fresh))
  refine runs_of_done (e.trans (if_neg ?_)) (modAsy_keeps _ _ _) (by decide) rfl
  exact not_and_or.mpr (no.imp Bool.eq_false_iff.mp Bool.eq_false_iff.mp)

end

theorem execRestEnd_eq : exec (.restEnd n) s =
    if isMaster s = true ∧ s.asyCh[n].restFrom.isSome = true then done s (finishRest n s) else done s s := by
  simp only [exec, execRestEnd, Bool.and_eq_true]

theorem restEnd_ends (master : isMaster s = true) (rests : s.asyCh[n].restFrom.isSome = true) : ∃ u, Becomes (.restEnd n) s u ∧
    u.asyCh[n].restFrom = none ∧ u.asyCh[n].grant = none ∧ u.con[n].rest = false ∧ ∀ m : Chan, m ≠ n → u.con[m] = s.con[m] := by
  obtain ⟨ended, used⟩ := finishRest_clears n s
  refine ⟨finishRest n s, becomes_of_done ((execRestEnd_eq n s).trans (if_pos ⟨master, rests⟩)), ended, used, ?_, fun m other => ?_⟩
  · rw [finishRest_con, vmod_get]
  · rw [finishRest_con, vmod_get_ne _ _ _ _ other]

theorem restEnd_idles (no : isMaster s = false ∨ s.asyCh[n].restFrom = none) : Idles (.restEnd n) s := by
  refine idles_of_done ((execRestEnd_eq n s).trans (if_neg ?_))
  exact not_and_or.mpr (no.imp Bool.eq_false_iff.mp fun none_ rests => Option.isSome_iff_ne_none.mp rests none_)

/-! ### ASSAY_TIMEOUT (10 R310) -/

/-- The cycle that an abort closes before RETURN: it counts, and the reason stands. -/
def cycAborted (reason : Nat) (x : CycCh) : CycCh :=
  { x with phase := 0, lastAbort := BitVec.ofNat 4 reason, aborted := x.aborted + 1 }

/-- The channel and its cycle when an abort closes it before RETURN; the event follows. -/
def cycleClosed (reason : Nat) : State :=
  modCyc n (cycAborted reason) (modCon n (fun x => { x with assayRest := false }) s)

theorem abortCycle_before_return (reason : Nat) (runs : s.cyc[n].phase ≠ 0) (early : s.cyc[n].phase ≠ 5) :
    abortCycle n reason s = raise 0x8407 n.val [ef 28 0 n.val, ef 29 0 reason, ef 29 4 s.cyc[n].phase,
      ef 32 0 (min 0xFFFFFFFF ((s.tim.station - s.cyc[n].started).toNat / tSec))] (cycleClosed n s reason) :=
  (if_neg runs).trans (if_neg early)

theorem abortCycle_in_return (reason : Nat) (back : s.cyc[n].phase = 5) : abortCycle n reason s =
    modCyc n (fun x => { x with phase := 0 }) (modCon n (fun x => { x with assayRest := false }) s) :=
  (if_neg (by rw [back]; decide)).trans (if_pos back)

theorem abortCycle_idle (reason : Nat) (idle : s.cyc[n].phase = 0) : abortCycle n reason s = s := if_pos idle

theorem execAssayTimeout_master (master : isMaster s = true) : exec (.assayTimeout n) s = done s (abortCycle n 4 s) := if_pos master

theorem assayTimeout_aborts (master : isMaster s = true) (runs : s.cyc[n].phase ≠ 0) (early : s.cyc[n].phase ≠ 5) :
    Runs (.assayTimeout n) s [.con, .cyc, .ev] (fun u =>
      u.cyc = vmod s.cyc n (fun x => { x with phase := 0, lastAbort := 4, aborted := x.aborted + 1 }) ∧
      u.con = vmod s.con n (fun x => { x with assayRest := false }) ∧
      Tells s u 0x8407 n.val [ef 28 0 n.val, ef 29 0 4, ef 29 4 s.cyc[n].phase,
        ef 32 0 (min 0xFFFFFFFF ((s.tim.station - s.cyc[n].started).toNat / tSec))]) := by
  refine runs_of_done (execAssayTimeout_master n s master) (abortCycle_keeps n 4 s) (by decide) ?_
  rw [abortCycle_before_return n s 4 runs early]
  exact ⟨raise_keeps _ _ _ _ .cyc (by decide), raise_keeps _ _ _ _ .con (by decide), tells_of_ev rfl (raise_tells _ _ _ _)⟩

theorem assayTimeout_returns (master : isMaster s = true) (back : s.cyc[n].phase = 5) :
    Runs (.assayTimeout n) s [.con, .cyc] (fun u =>
      u.cyc = vmod s.cyc n (fun x => { x with phase := 0 }) ∧ u.con = vmod s.con n (fun x => { x with assayRest := false })) :=
  runs_of_done ((execAssayTimeout_master n s master).trans (congrArg (done s) (abortCycle_in_return n s 4 back)))
    (keepsBut_trans (keepsBut_sub _ (modCon_keeps _ _ _) rfl) (keepsBut_sub _ (modCyc_keeps _ _ _) rfl)) (by decide) ⟨rfl, rfl⟩

theorem assayTimeout_idles (no : isMaster s = false ∨ s.cyc[n].phase = 0) : Idles (.assayTimeout n) s := by
  refine idles_of_done ?_
  by_cases master : isMaster s = true
  · have idle := no.resolve_left (by simp [master])
    exact (execAssayTimeout_master n s master).trans (congrArg (done s) (abortCycle_idle n s 4 idle))
  · exact if_neg master

end

/-! ### IMPEDANCE_SAVE (10 R314, R315) -/

/-- The two records of a channel that a save queues. -/
def queueRecords (n : Chan) (s : State) : State := queueWrite (.learned n false) (queueWrite (.impedance n) s)

/-- What a save does to one channel: its records, and a history write that waits may begin. -/
def saveChan (n : Chan) (s : State) : State :=
  if (queueRecords n s).cyc[n].tmPending && mayHistory (queueRecords n s) n then startHistory n (queueRecords n s) else queueRecords n s

theorem execImpedanceSave_eq (s : State) (runs : fwRuns s = true) :
    exec .impedanceSave s = done s (forEach (popChans s) saveChan s) :=
  if_neg (by simp [runs])

theorem queueRecords_keeps (n : Chan) (s : State) : KeepsBut [.store] s (queueRecords n s) :=
  keepsBut_trans (queueWrite_keeps _ _) (queueWrite_keeps _ _)

theorem queueRecords_grows (n : Chan) (s : State) : s.store.queue <+: (queueRecords n s).store.queue :=
  (queueWrite_grows ..).trans (queueWrite_grows ..)

theorem mem_queueRecords (n : Chan) (s : State) :
    .impedance n ∈ (queueRecords n s).store.queue ∧ .learned n false ∈ (queueRecords n s).store.queue :=
  ⟨(queueWrite_grows ..).subset (mem_queueWrite ..), mem_queueWrite ..⟩

theorem queueRecords_cyc (n : Chan) (s : State) : (queueRecords n s).cyc = s.cyc := queueRecords_keeps n s .cyc (by decide)

/-- No history write waits: a save only queues the records. -/
theorem saveChan_settled (n : Chan) (s : State) (none_ : s.cyc[n].tmPending = false) : saveChan n s = queueRecords n s :=
  if_neg (by rw [queueRecords_cyc, none_]; exact Bool.false_ne_true)

theorem saveChans_queue (l : List Chan) (s : State) (none_ : ∀ m : Chan, s.cyc[m].tmPending = false) :
    KeepsBut [.store] s (forEach l saveChan s) ∧ s.store.queue <+: (forEach l saveChan s).store.queue ∧
      ∀ m ∈ l, .impedance m ∈ (forEach l saveChan s).store.queue ∧ .learned m false ∈ (forEach l saveChan s).store.queue := by
  induction l generalizing s with
  | nil => exact ⟨keepsBut_refl _ s, List.prefix_rfl, nofun⟩
  | cons n l ih =>
    have first : forEach (n :: l) saveChan s = forEach l saveChan (queueRecords n s) :=
      congrArg (forEach l saveChan) (saveChan_settled n s (none_ n))
    obtain ⟨keeps, grows, queued⟩ := ih (queueRecords n s) (by simpa only [queueRecords_cyc] using none_)
    obtain ⟨imp, learned⟩ := mem_queueRecords n s
    rw [first]
    exact ⟨keepsBut_trans (queueRecords_keeps n s) keeps, (queueRecords_grows n s).trans grows,
      List.forall_mem_cons.mpr ⟨⟨grows.subset imp, grows.subset learned⟩, queued⟩⟩

section
variable (s : State)

theorem mem_popChans (m : Chan) (here : populated s m = true) : m ∈ popChans s :=
  List.mem_filter.mpr ⟨List.mem_finRange m, here⟩

theorem impedanceSave_idles (halted : fwRuns s = false) : Idles .impedanceSave s :=
  idles_of_done (if_pos (by simp [halted]))

theorem impedanceSave_queues (runs : fwRuns s = true) (none_ : ∀ m : Chan, s.cyc[m].tmPending = false) :
    Runs .impedanceSave s [.store] (fun u => s.store.queue <+: u.store.queue ∧
      ∀ m : Chan, populated s m = true → .impedance m ∈ u.store.queue ∧ .learned m false ∈ u.store.queue) := by
  obtain ⟨keeps, grows, queued⟩ := saveChans_queue (popChans s) s none_
  exact runs_of_done (execImpedanceSave_eq s runs) keeps (by decide) ⟨grows, fun m here => queued m (mem_popChans s m here)⟩

end

/-- Settles O30: each row is one guard of the model and what the state behind it holds; a rest that ends goes through its anchor,
which leaves the connection, and a save through the records of one channel after another. -/
theorem restsSavesAndEstimator : Obligations.RestsSavesAndEstimator := fun n s =>
  ⟨estimator_idles s, estimator_updates s, restRequest_repeats n s, restRequest_idles n s, restWait_derates n s, restWait_idles n s,
    restStart_idles n s, fun granted fresh => ⟨restStart_begins n s granted fresh, restStart_drops n s granted fresh⟩,
    restEnd_ends n s, restEnd_idles n s, assayTimeout_aborts n s, assayTimeout_returns n s, assayTimeout_idles n s,
    impedanceSave_idles s, impedanceSave_queues s⟩

end Sys2Proof.Safety

/-! ## SUPPORT. What a reply that changes nothing else leaves, and the words of its descriptor (03 R62, R66) -/

namespace Sys2Proof.Safety

open Sys2Proof.Machine

theorem eq_of_keepsBut_cmd {t u : State} (k : KeepsBut [.cmd] t u) : u = { t with cmd := u.cmd } := by
  cases t
  cases u
  rw [State.mk.injEq]
  refine ⟨k .tim ?_, k .pwr ?_, k .hst ?_, k .rings ?_, k .win ?_, rfl, k .ev ?_, k .cfg ?_, k .ports ?_, k .txns ?_, k .meas ?_,
    k .insCh ?_, k .ins ?_, k .stg ?_, k .qm ?_, k .asyCh ?_, k .cyc ?_, k .asy ?_, k .store ?_, k .con ?_, k .twn ?_, k .img ?_,
    k .thm ?_, k .thmCh ?_, k .lo ?_, k .saf ?_, k .bus ?_, k .flt ?_, k .free ?_, k .pending ?_⟩ <;> decide

/-- A command that replies and changes nothing else leaves the state in which it was taken, with its reply. -/
theorem exec_of_replies {c : Instr} {h : Hdr} {op : Nat} {idx : Word} {s t : State} {r : Reply} {P : State → Prop}
    (x : Replies c h op idx s t r [] P) : exec c s = .next (settle (putTaken h op idx (some r) t)) := by
  obtain ⟨u, e, taken, pend, held, kept, -⟩ := x
  have cmd : u.cmd = (putTaken h op idx (some r) t).cmd := by
    cases hu : u.cmd
    rw [Answers, hu] at taken
    rw [hu] at pend held
    exact CmdSt.mk.injEq .. ▸ ⟨taken, pend, held⟩
  rw [e, eq_of_keepsBut_cmd kept, cmd]
  rfl

theorem flushEvents_quiet {s : State} (none_ : s.ev.held = []) (whole : s.ev.dropped = 0) :
    flushEvents s = { s with ev := { s.ev with held := [] } } := by
  have overflow : ¬ (canPost s 1 && decide (s.ev.dropped ≠ 0)) = true := by simp [whole]
  refine (if_neg overflow).trans ?_
  rw [none_]
  rfl

/-- With one answered command in hand and no event waiting, the window takes that reply alone. -/
theorem settle_win_of_one {s : State} {x : Taken} {p : Reply} (one : s.cmd.taken = [x]) (answered : x.reply = some p)
    (noReply : s.cmd.held = []) (noEvent : s.ev.held = []) (whole : s.ev.dropped = 0) :
    (settle s).win = (writeDesc x.ring x.idx x.op x.tag x.len (replyWord2 p) p.words false s).win := by
  obtain ⟨t, ht⟩ : ∃ t, t = flushEvents (pumpStore s) := ⟨_, rfl⟩
  have kept : KeepsBut [.store, .ev] s t := by
    have pumped := pumpStore_keeps s
    have ev : (pumpStore s).ev = s.ev := pumped .ev (by decide)
    rw [ht, flushEvents_quiet (by rw [ev, noEvent]) (by rw [ev, whole])]
    exact keepsBut_trans (keepsBut_sub _ pumped rfl) (keepsBut_sub _ (keepsBut_ev _ _) rfl)
  have taken : t.cmd.taken = [x] := (congrArg CmdSt.taken (kept .cmd (by decide))).trans one
  have settled : settle s = flushReplies [] (flushTaken [x] [] t) := by
    unfold settle
    rw [noReply, ← ht, ← taken]
  have returns : flushTaken [x] [] t = flushTaken [] []
      (returned x.ring (writeDesc x.ring x.idx x.op x.tag x.len (replyWord2 p) p.words false t)) := by
    rw [flushTaken_cons, answered]
    rfl
  rw [settled, returns, flushTaken, flushReplies, returned_win]
  simp only [writeDesc, show t.win = s.win from kept .win (by decide), show t.rings = s.rings from kept .rings (by decide)]

/-- Word 10 of a reply that ends with words 10 and 11, read from its descriptor. -/
theorem writeDesc_word10 {s : State} (wf : WindowForm s) (r : Ring) (idx : Word) (op tag len : Half) (w2 : Nat)
    (l : List (Nat × Word)) (a b : Word) :
    memNum (writeDesc r idx op tag len w2 (l ++ [(10, a), (11, b)]) false s).win (slotOff r s.rings[r] idx + 40) 4 = a.toNat := by
  obtain ⟨o, ho⟩ : ∃ o, o = slotOff r s.rings[r] idx := ⟨_, rfl⟩
  obtain ⟨m, hm⟩ : ∃ m, m = l.foldl (fun w p => memWrite w (o + 4 * p.1) (leBytes 4 p.2.toNat))
    (memWrite (memWrite s.win (o + 4) (leBytes 4 (tag.toNat * 65536 + len.toNat))) (o + 8) (leBytes 4 w2)) := ⟨_, rfl⟩
  have formed : Memory.wf m = true := hm ▸ foldl_memWrite_wf _ _ _ (memWrite_wf _ _ _ (memWrite_wf _ _ _ wf))
  have e : (writeDesc r idx op tag len w2 (l ++ [(10, a), (11, b)]) false s).win =
      memWrite (memWrite (memWrite m (o + 40) (leBytes 4 a.toNat)) (o + 44) (leBytes 4 b.toNat)) o (leBytes 4 op.toNat) := by
    rw [hm, ho]
    simp only [writeDesc, List.foldl_append, List.foldl_cons, List.foldl_nil]
    rfl
  have formedA := memWrite_wf m (o + 40) (leBytes 4 a.toNat) formed
  have formedB := memWrite_wf _ (o + 44) (leBytes 4 b.toNat) formedA
  rw [e, ← ho, memNum, memRead_memWrite_apart formedB _ _ (.inr (by rw [length_leBytes]; omega)),
    memRead_memWrite_apart formedA _ _ (.inl (by omega)), ← memNum, memNum_memWrite formed,
    Nat.mod_eq_of_lt (show a.toNat < 256 ^ 4 from a.isLt)]

/-- A whole number of units that its bytes hold is reported as it is. -/
theorem units_natCast {n k : Nat} (fits : k ≤ 2 ^ (8 * n) - 1) : units n k = k := by
  have whole : toLsb (k : Rat) = k := (if_pos (Rat.den_natCast k)).trans (Rat.num_natCast k)
  rw [units, whole, clampN, if_neg (Int.natCast_nonneg k).not_gt, if_neg (by exact_mod_cast fits.not_gt), Int.toNat_natCast]

end Sys2Proof.Safety

/-! ## 10. READ_LIMITS of the segment without a cell model (09 R282, *READ_LIMITS reply, word 11*)

The segment's clause of O29 gives the state of charge and the uncertainty that the estimator keeps, whether or not a cell model is
in force. Without one every value of the reply is 0 (NO_MODEL; log 92), while the uncertainty that is kept starts at 1. -/

namespace Sys2Proof.Safety

open Sys2Proof.Machine

/-- The reply to READ_LIMITS for the segment: its limits, word 10 and the flags of word 11. -/
def segmentReply (l : Limits) (soc flags : Nat) : Reply := okWords (limitWords l ++ [(10, soc), (11, flags)])

/-- The flags of word 11 for the segment. -/
def segmentFlags (t : State) : Nat :=
  ((segChans t).foldl (fun a m => a ||| limitFlags t m) 0 &&& 0xE7) + 8 * bN (!modelOk t) + 16 * bN (segChans t).isEmpty

/-- The body of READ_LIMITS for the segment: its values stand only with a cell model. -/
theorem execReadLimits_segment (h : Hdr) (s t : State) {sel : Byte} (all : sel = 0xFF) :
    ∃ body, exec (.readLimits h sel) s = hostCmd h 0x0405 4 .none false body s ∧
      body t = .now (segmentReply (if modelOk t then t.asy.lim else {})
        (if modelOk t then units 2 (t.asy.pub.getD 0) + 65536 * units 2 (t.asy.unc * 10000) else 0) (segmentFlags t)) t [] :=
  ⟨_, rfl, if_pos (beq_iff_eq.mpr all)⟩

theorem readLimits_segment_unmodelled {h : Hdr} {s t : State} {idx : Word} (a : Admits h 0x0405 4 .none false s idx t)
    (unmodelled : modelOk t = false) :
    Replies (.readLimits h 0xFF) h 0x0405 idx s t (segmentReply {} 0 (segmentFlags t)) [] (fun _ => True) := by
  obtain ⟨body, row, answer⟩ := execReadLimits_segment h s t rfl
  refine replies_unchanged a row (answer.trans ?_)
  simp only [unmodelled, Bool.false_eq_true, if_false]

/-! ### The counterexample -/

/-- A READY master that works alone, its command ring enabled and no cell model in force. -/
def unmodelledMaster : State :=
  { pwr := { mod := .ready }, twn := { role := .active }, rings := State.reset.rings.set 2 { enable := true } }

/-- The same with the first descriptor of the ring taken. -/
def limitsAsked : State := modRing 2 (fun g => { g with hpi := 1, tkn := 1, exe := 1 }) (activity unmodelledMaster)

/-- The header of that descriptor. -/
def limitsHdr : Hdr := { ring := 2, tag := 7, length := 4 }

theorem limitsAsked_admitted : Admits limitsHdr 0x0405 4 .none false unmodelledMaster 0 limitsAsked :=
  ⟨rfl, rfl, rfl, le_refl 4, rfl, nofun⟩

/-- Word 10 of that descriptor: state of charge and uncertainty. -/
def socWord (s : State) : Nat := memNum s.win (slotOff 2 limitsAsked.rings[(2 : Ring)] 0 + 40) 4

theorem socWord_segmentReply (l : Limits) (soc flags : Nat) :
    socWord (settle (putTaken limitsHdr 0x0405 0 (some (segmentReply l soc flags)) limitsAsked)) = soc % 2 ^ 32 := by
  obtain ⟨r, hr⟩ : ∃ r, r = segmentReply l soc flags := ⟨_, rfl⟩
  have words : r.words = (limitWords l).map (fun x => (x.1, BitVec.ofNat 32 x.2)) ++
      [(10, BitVec.ofNat 32 soc), (11, BitVec.ofNat 32 flags)] := by
    rw [hr]
    exact List.map_append
  have win := settle_win_of_one (s := putTaken limitsHdr 0x0405 0 (some r) limitsAsked) rfl rfl rfl rfl rfl
  rw [← hr, socWord, win, words]
  exact (writeDesc_word10 (s := putTaken limitsHdr 0x0405 0 (some r) limitsAsked) rfl _ _ _ _ _ _ _ _ _).trans (BitVec.toNat_ofNat ..)

/-- A start leaves the uncertainty at 1, which is 10,000 in units of 0.01 %. -/
theorem units_uncertainty_of_start :
    units 2 (limitsAsked.asy.pub.getD 0) + 65536 * units 2 (limitsAsked.asy.unc * 10000) = 65536 * 10000 := by
  have soc : units 2 (limitsAsked.asy.pub.getD 0) = 0 := units_natCast (k := 0) (by decide)
  have start : limitsAsked.asy.unc * 10000 = (10000 : Nat) := one_mul _
  rw [soc, start, units_natCast (by decide), Nat.zero_add]

/-- Refutes O29: with no cell model in force and the uncertainty of a start, 1, the clause of READ_LIMITS for the segment gives
10,000 in the upper half of word 10, where the module answers 0. -/
theorem not_assayCommandsOfTheHost : ¬ Obligations.AssayCommandsOfTheHost := by
  unfold Obligations.AssayCommandsOfTheHost
  intro claims
  obtain ⟨-, -, -, -, readLimits⟩ := claims limitsHdr 0 unmodelledMaster limitsAsked 0
  obtain ⟨segment, -⟩ := readLimits 0xFF limitsAsked_admitted
  have claimed := exec_of_replies (segment rfl)
  have answered := exec_of_replies (readLimits_segment_unmodelled limitsAsked_admitted rfl)
  have same := Host.Outcome.next.inj (claimed.symm.trans answered)
  have words := (socWord_segmentReply ..).symm.trans ((congrArg socWord same).trans (socWord_segmentReply ..))
  rw [units_uncertainty_of_start] at words
  exact absurd words (by decide)

end Sys2Proof.Safety

/-! ## SUPPORT. A channel that is idle changes its state (11 R328 to R333; 12 R380) -/

namespace Sys2Proof.Safety

open Sys2Proof.Machine

section
variable (n : Chan) (s : State)

theorem sendCmd_con (code : Nat) (args : List Byte) (q : CmdPurpose) : (sendCmd n code args q s).con = s.con := rfl

theorem queueWrite_con (w : StoreWrite) : (queueWrite w s).con = s.con := queueWrite_keeps w s .con (by decide)

theorem chEvent_con (code old new cause : Nat) (host ended : Bool) (count : Nat) :
    (chEvent code n old new cause host ended count s).con = s.con := chEvent_keeps _ _ _ _ _ _ _ _ _ .con (by decide)

theorem endSeq_con (st : Status) : (endSeq n st s).con = vmod s.con n (fun c => { c with seq := none }) := by
  unfold endSeq
  dsimp only
  split <;> rfl

theorem abortCycle_of_none {s : State} (none_ : s.cyc[n].phase = 0) (reason : Nat) : abortCycle n reason s = s := if_pos none_

/-- A channel without a node service has none to drop. -/
theorem dropService_of_none {s : State} (none_ : serviceOf s n = none) (st : Status) : dropService n st s = s := by
  have absent : tabGet none (s.img.service.map (fun x => (x.1, some x.2))) n.val = none := by
    simp only [serviceOf, Option.map_eq_none_iff, List.find?_eq_none, decide_eq_true_eq] at none_
    generalize s.img.service = l at none_
    induction l with
    | nil => rfl
    | cons x xs ih =>
      have other : n.val ≠ x.1 := fun e => none_ x (List.mem_cons_self ..) e.symm
      simp only [List.map_cons, tabGet, if_neg other, ih fun y hy => none_ y (List.mem_cons_of_mem _ hy), ite_self]
  unfold dropService
  rw [absent]

/-- A service that is dropped takes its hold along. -/
theorem dropService_con (st : Status) : ∃ b, (dropService n st s).con = vmod s.con n (fun c => { c with service := b }) := by
  unfold dropService
  split
  · exact ⟨s.con[n].service, (Vector.set_getElem_self n.isLt).symm⟩
  · exact ⟨false, rfl⟩

/-- A channel that was not ACTIVE changes its state, and with it at most the hold of its node service. -/
theorem setCh_con_of_idle {s : State} {new : ChState} (change : s.con[n].state ≠ new) (idle : s.con[n].state ≠ .active)
    (cause : Nat) (host : Bool) : ∃ b, (setCh n new cause host s).con =
      vmod s.con n (fun c => { c with state := new, cause := BitVec.ofNat 8 cause, service := b }) := by
  obtain ⟨b, dropped⟩ := dropService_con n (modCon n (fun c => { c with state := new, cause := BitVec.ofNat 8 cause }) s)
    (if new = .fenced then .fenced else .wrongState)
  unfold setCh
  dsimp only
  rw [if_neg change, if_neg idle, markDirty_con, chEvent_con]
  simp only [apply_ite State.con, queueWrite_con, modIns_con, ite_self, dropped, modCon_con, vmod_vmod]
  split
  · exact ⟨s.con[n].service, vmod_congr _ _ rfl⟩
  · exact ⟨b, rfl⟩

/-- Without a node service nothing else follows but the event, the engine's start and a record. -/
theorem setCh_keeps_of_idle {s : State} {new : ChState} (idle : s.con[n].state ≠ .active) (none_ : serviceOf s n = none)
    (cause : Nat) (host : Bool) : KeepsBut [.con, .ev, .twn, .insCh, .store] s (setCh n new cause host s) := by
  have undropped (f : ConCh → ConCh) (st : Status) : dropService n st (modCon n f s) = modCon n f s :=
    dropService_of_none (s := modCon n f s) n none_ st
  unfold setCh
  dsimp only
  refine keepsBut_ite (keepsBut_refl _ _) ?_
  rw [if_neg idle, undropped, ite_self]
  refine keepsBut_trans ?_ (keepsBut_sub _ (markDirty_keeps _ _) rfl)
  refine keepsBut_trans ?_ (keepsBut_sub _ (chEvent_keeps _ _ _ _ _ _ _ _ _) rfl)
  refine keepsBut_cond ?_ (keepsBut_sub _ (queueWrite_keeps _ _) rfl)
  exact keepsBut_cond (keepsBut_sub _ (modCon_keeps _ _ _) rfl) (keepsBut_sub _ (modIns_keeps _ _ _) rfl)

/-- The sequence as it starts at the step `st`. -/
def startedSeq (kind : SeqKind) (st : ConStep) (host : Bool) (cause since : Nat) : ConSeq :=
  { kind := kind, step := st, host := host, cause := BitVec.ofNat 8 cause, since := since, tries := 0 }

/-- A sequence starts on a channel without an assay cycle. -/
theorem startSeq_of_none {s : State} (none_ : s.cyc[n].phase = 0) (kind : SeqKind) (st : ConStep) (host : Bool) (cause : Nat) :
    startSeq n kind st host cause s =
      markDirty n (modCon n (fun c => { c with seq := some (startedSeq kind st host cause s.tim.tb) }) s) := by
  unfold startSeq
  rw [abortCycle_of_none n none_]
  rfl

theorem seqAdvance_of_none {s : State} (none_ : s.con[n].seq = none) (report : Option Int) : seqAdvance n report s = s := by
  unfold seqAdvance
  rw [none_]

theorem seqPoll_of_still {s : State} {report : Option Int} (still : seqAdvance n report s = s) : seqPoll n report s = s := by
  rw [seqPoll, still, still, still]

/-- A sequence that waits for BYPASSED goes no further without it (R330). -/
theorem seqAdvance_waitBypass {s : State} {q : ConSeq} (is : s.con[n].seq = some q) (step : q.step = .waitBypass)
    (unheld : reported s n ≠ some .bypassed) (report : Option Int) : seqAdvance n report s = s := by
  unfold seqAdvance
  simp only [is, step]
  exact if_pos (by rw [decide_eq_true unheld, Bool.true_or])

end

end Sys2Proof.Safety

/-! ## SUPPORT. CH_CONNECT from DISCONNECTED, and CH_RETIRE (11 R333, R345) -/

namespace Sys2Proof.Safety

open Sys2Proof.Machine

/-! ### The connection up to its precharge (R333 steps 1 to 3) -/

/-- A connection to the host's target runs on a channel in PRECHARGE and has sent PRECHARGE close at most; the other channels and
the commands in hand are those of `t`. -/
structure Connecting (n : Chan) (active : Bool) (t u : State) : Prop where
  state : u.con[n].state = .precharge
  seq : ∃ q, u.con[n].seq = some q ∧ q.kind = .connect active ∧ q.host = true ∧
    (q.step = .waitBypass ∨ q.step = .openTest ∨ q.step = .prechargeCmd)
  others : ∀ m : Chan, m ≠ n → u.con[m] = t.con[m]
  cmd : u.cmd = t.cmd

section
variable {n : Chan} {active : Bool} {t u : State}

theorem connecting_of_same {v : State} (k : Connecting n active t u) (con : v.con = u.con) (cmd : v.cmd = u.cmd) :
    Connecting n active t v :=
  ⟨by rw [con, k.state], by rw [con]; exact k.seq, fun m other => by rw [con, k.others m other], cmd.trans k.cmd⟩

theorem seqStep_connecting (k : Connecting n active t u) {st : ConStep} (early : st = .waitBypass ∨ st = .openTest ∨ st = .prechargeCmd) :
    Connecting n active t (seqStep n st u) := by
  obtain ⟨q, is, kind, host, -⟩ := k.seq
  have con : (seqStep n st u).con =
      vmod u.con n (fun c => { c with seq := c.seq.map (fun q => { q with step := st, since := u.tim.tb }) }) := rfl
  refine ⟨?_, ⟨{ q with step := st, since := u.tim.tb }, ?_, kind, host, early⟩, fun m other => ?_, k.cmd⟩
  · rw [con, vmod_get, k.state]
  · rw [con, vmod_get, is]
    rfl
  · rw [con, vmod_get_ne _ _ _ _ other, k.others m other]

/-- No step before the reply to PRECHARGE close leaves the precharge. -/
theorem seqAdvance_connecting (k : Connecting n active t u) (report : Option Int) :
    Connecting n active t (seqAdvance n report u) := by
  obtain ⟨q, is, kind, -, step⟩ := k.seq
  unfold seqAdvance
  simp only [is]
  obtain step | step | step := step
  · simp only [step, kind]
    split
    · exact k
    · exact seqStep_connecting k (.inr (.inl rfl))
  · simp only [step, kind]
    split
    · exact k
    · split
      · exact k
      · exact seqStep_connecting (connecting_of_same k (sendCmd_con ..) rfl) (.inr (.inr rfl))
  · simp only [step]
    exact k

theorem seqPoll_connecting (k : Connecting n active t u) (report : Option Int) : Connecting n active t (seqPoll n report u) :=
  seqAdvance_connecting (seqAdvance_connecting (seqAdvance_connecting k report) report) report

end

/-- What CH_CONNECT starts on a DISCONNECTED channel. -/
def connectWork (n : Chan) (active : Bool) (s : State) : State :=
  seqPoll n none (startSeq n (.connect active) .waitBypass true 0 (setCh n .precharge 0 true s))

section
variable {n : Chan} {s : State} (apart : s.con[n].state = .disconnected) (quiet : s.cyc[n].phase = 0)
  (unserved : serviceOf s n = none) (active : Bool)
include apart quiet unserved

/-- The channel is in PRECHARGE, and its connection waits for BYPASSED. -/
theorem connectStart_connecting :
    let u := startSeq n (.connect active) .waitBypass true 0 (setCh n .precharge 0 true s)
    Connecting n active s u ∧ u.con[n].seq = some (startedSeq (.connect active) .waitBypass true 0 s.tim.tb) := by
  have idle : s.con[n].state ≠ .active := by rw [apart]; decide
  have change : s.con[n].state ≠ .precharge := by rw [apart]; decide
  have kept := setCh_keeps_of_idle n (new := .precharge) idle unserved 0 true
  obtain ⟨b, con⟩ := setCh_con_of_idle n change idle 0 true
  generalize setCh n .precharge 0 true s = v at kept con
  have phase : v.cyc[n].phase = 0 := by rw [kept .cyc (by decide), quiet]
  have now : v.tim = s.tim := kept .tim (by decide)
  dsimp only
  rw [startSeq_of_none n phase, now]
  have started : (markDirty n (modCon n (fun c => { c with
      seq := some (startedSeq (.connect active) .waitBypass true 0 s.tim.tb) }) v)).con = vmod s.con n (fun c => { c with
      state := .precharge, cause := BitVec.ofNat 8 0, service := b,
      seq := some (startedSeq (.connect active) .waitBypass true 0 s.tim.tb) }) := by
    rw [markDirty_con, modCon_con, con, vmod_vmod]
  refine ⟨⟨?_, ⟨startedSeq (.connect active) .waitBypass true 0 s.tim.tb, ?_, rfl, rfl, .inl rfl⟩, fun m other => ?_, kept .cmd (by decide)⟩, ?_⟩
  · rw [started, vmod_get]
  · rw [started, vmod_get]
  · rw [started, vmod_get_ne _ _ _ _ other]
  · rw [started, vmod_get]

theorem connectWork_connecting : Connecting n active s (connectWork n active s) :=
  seqPoll_connecting (connectStart_connecting apart quiet unserved active).1 none

/-- R330 holds the connection back before the open test. -/
theorem connectWork_waits (unheld : reported s n ≠ some .bypassed) :
    (connectWork n active s).con[n].seq = some (startedSeq (.connect active) .waitBypass true 0 s.tim.tb) := by
  obtain ⟨-, is⟩ := connectStart_connecting apart quiet unserved active
  have told : reported (startSeq n (.connect active) .waitBypass true 0 (setCh n .precharge 0 true s)) n = reported s n :=
    (told_after (startSeq_told ..) (setCh_told ..)).output n
  rw [connectWork, seqPoll_of_still n (seqAdvance_waitBypass n is rfl (by rwa [told]) none), is]

end

/-! ### Retirement (R345) -/

/-- A channel that was neither ACTIVE nor RETIRED: its state, its record and the end of its sequence. -/
theorem retireNow_con {n : Chan} {s : State} (fresh : s.con[n].state ≠ .retired) (idle : s.con[n].state ≠ .active) :
    ∃ c : ConCh, (retireNow n s).con = vmod s.con n (fun _ => c) ∧ c.state = .retired ∧ c.retiredRec = true ∧
      c.retireCause = s.con[n].retireCause ∧ c.seq = none := by
  unfold retireNow
  dsimp only
  rw [endSeq_con, queueWrite_con, chEvent_con]
  generalize ht : modCon n _ (clearHolds n s) = t
  have state : t.con[n].state = s.con[n].state := by rw [← ht, modCon_con, vmod_get, clearHolds, modCon_con, vmod_get]
  obtain ⟨b, con⟩ := setCh_con_of_idle n (s := t) (new := .retired) (by rwa [state]) (by rwa [state])
    s.con[n].retireCause.toNat (s.con[n].seq.any (·.host))
  rw [con, ← ht, modCon_con, clearHolds, modCon_con]
  simp only [vmod_vmod]
  exact ⟨_, vmod_congr _ _ rfl, rfl, rfl, rfl, rfl⟩

theorem retireNow_queues (n : Chan) (s : State) : .retirement n ∈ (retireNow n s).store.queue := by
  unfold retireNow
  dsimp only
  rw [endSeq_keeps _ _ _ .store (by decide)]
  exact mem_queueWrite _ _

section
variable {n : Chan} {s : State} (apart : s.con[n].state = .disconnected) (free : s.con[n].seq = none) (quiet : s.cyc[n].phase = 0)
include apart free quiet

/-- There is no contactor to open first. -/
theorem retireBegin_of_disconnected : ∃ t, retireBegin n 0 false true s = retireNow n t ∧ t.con = vmod s.con n (fun c => { c with
    retireCause := 0, retireByCount := false, seq := some (startedSeq .retire .relayOff true 0 s.tim.tb) }) := by
  refine ⟨startSeq n .retire .relayOff true 0 (modCon n (fun c => { c with retireCause := 0, retireByCount := false }) s), ?_, ?_⟩
  · unfold retireBegin abandon
    simp only [free, modCon_con, vmod_get, apart]
    exact if_neg (by rw [bne_self_eq_false, Bool.and_false]; exact Bool.false_ne_true)
  · rw [startSeq_of_none (s := modCon n _ s) n quiet, markDirty_con, modCon_con, modCon_con, vmod_vmod]
    rfl

/-- The host's retirement of a DISCONNECTED channel completes at once. -/
theorem retireBegin_disconnected : ∃ c : ConCh, (retireBegin n 0 false true s).con = vmod s.con n (fun _ => c) ∧
    c.state = .retired ∧ c.retiredRec = true ∧ c.retireCause = 0 ∧ c.seq = none ∧
    .retirement n ∈ (retireBegin n 0 false true s).store.queue := by
  obtain ⟨t, begins, con⟩ := retireBegin_of_disconnected apart free quiet
  have state : t.con[n].state = .disconnected := by rw [con, vmod_get, apart]
  obtain ⟨c, retired, isRetired, recorded, cause, ended⟩ :=
    retireNow_con (n := n) (s := t) (by rw [state]; decide) (by rw [state]; decide)
  rw [begins]
  refine ⟨c, ?_, isRetired, recorded, ?_, ended, retireNow_queues n t⟩
  · rw [retired, con, vmod_vmod]
  · rw [cause, con, vmod_get]

end

end Sys2Proof.Safety

/-! ## SUPPORT. What refuses and what accepts a CH_ command (11 *CH_ command outcomes*) -/

namespace Sys2Proof.Safety

open Sys2Proof.Machine

theorem chCode_of_populated {s : State} {n : Chan} (here : populated s n = true) : chCode s n = s.con[n].state.code := if_pos here

section
variable {h : Hdr} {op least : Nat} {n : Chan} {body : State → Res} {s t : State} {idx : Word}

/-- A refusal names the state of the channel and changes nothing. -/
theorem replies_chRefuse {c : Instr} {st : Status} {k : Nat} (a : Admits h op least (.channel n) true s idx t)
    (e : exec c s = hostCmd h op least (.channel n) true body s) (here : populated t n = true)
    (code : t.con[n].state.code = k) (b : body t = chRefuse n st t) :
    Replies c h op idx s t (replyWords st [(3, k)]) [] (fun _ => True) :=
  replies_unchanged a e (b.trans (by rw [chRefuse, chCode_of_populated here, code]))

theorem accepts_chAccept {c : Instr} {work : State → State} (a : Admits h op least (.channel n) true s idx t)
    (e : exec c s = hostCmd h op least (.channel n) true body s) (b : body t = chAccept h op n work t) :
    Accepts c h op (.channel n) idx s t work :=
  accepts_of a e b

end

section
variable {n : Chan} {s : State} (here : populated s n = true)
include here

theorem chGate_fenced (fenced : s.con[n].state = .fenced) (go : Res) : chGate n s go = chRefuse n .fenced s := by
  exact (if_neg (by rw [here]; decide)).trans (if_pos fenced)

theorem chGate_opens (sound : s.con[n].state ≠ .fenced) (free : s.con[n].seq = none) (up : s.meas[n].setupLeft = 0) (go : Res) :
    chGate n s go = go := by
  have idle : chBusy s n = false := by rw [chBusy, free, up]; rfl
  exact (if_neg (by rw [here]; decide)).trans ((if_neg sound).trans (if_neg (by rw [idle]; decide)))

end

/-! ### CH_CONNECT, CH_DISCONNECT and CH_DORMANT (R333 to R336, R348) -/

section
variable {h : Hdr} {n : Chan} {s t : State} {idx : Word}

section
variable (active : Bool) (a : Admits h 0x0201 4 (.channel n) true s idx t) (here : populated t n = true)
  (free : t.con[n].seq = none) (up : t.meas[n].setupLeft = 0)
include a here free up

theorem chConnect_disconnected (apart : t.con[n].state = .disconnected) (well : t.con[n].present = 0) :
    Accepts (.chConnect h n active) h 0x0201 (.channel n) idx s t (connectWork n active) := by
  refine accepts_chAccept a rfl ((chGate_opens here (by rw [apart]; decide) free up _).trans ?_)
  simp only [well, ne_eq, not_true_eq_false, if_false, apart]
  rfl

/-- The gates of R334 decide whether a CONNECTED-BYPASS channel is released. -/
theorem chConnect_bypass (held : t.con[n].state = .bypass) (target : active = true) (well : t.con[n].present = 0) :
    (gateStatus t n = none → Accepts (.chConnect h n active) h 0x0201 (.channel n) idx s t (startSeq n (.connect true) .release true 0)) ∧
    (∀ st, gateStatus t n = some st →
      Replies (.chConnect h n active) h 0x0201 idx s t (replyWords st [(3, 3)]) [] (fun _ => True)) := by
  subst target
  have code : t.con[n].state.code = 3 := by rw [held]; rfl
  refine ⟨fun gate => accepts_chAccept a rfl ((chGate_opens here (by rw [held]; decide) free up _).trans ?_), fun st gate => ?_⟩
  · simp only [well, ne_eq, not_true_eq_false, if_false, held, gate]
  · refine replies_chRefuse a rfl here code ((chGate_opens here (by rw [held]; decide) free up _).trans ?_)
    simp only [well, ne_eq, not_true_eq_false, if_false, held, gate]

theorem chConnect_caused (ill : t.con[n].present ≠ 0) (sound : t.con[n].state ≠ .fenced) :
    Replies (.chConnect h n active) h 0x0201 idx s t (replyWords .wrongState [(3, t.con[n].state.code)]) [] (fun _ => True) :=
  replies_chRefuse a rfl here rfl ((chGate_opens here sound free up _).trans (if_pos ill))

theorem chConnect_toBypass (on : t.con[n].state = .active) (target : active = false) (well : t.con[n].present = 0) :
    Accepts (.chConnect h n active) h 0x0201 (.channel n) idx s t (fun x =>
      seqPoll n none (startSeq n .toBypass .waitBypass true 0 (modCon n (fun c => { c with hostHold := true }) x))) := by
  subst target
  refine accepts_chAccept a rfl ((chGate_opens here (by rw [on]; decide) free up _).trans ?_)
  simp only [well, ne_eq, not_true_eq_false, if_false, on]

/-- A channel in the target state needs no work. -/
theorem chConnect_there (there : t.con[n].state = .active ∧ active = true ∨ t.con[n].state = .bypass ∧ active = false)
    (well : t.con[n].present = 0) :
    Accepts (.chConnect h n active) h 0x0201 (.channel n) idx s t (finishChan n (replyWords .ok [(3, t.con[n].state.code)])) := by
  have sound : t.con[n].state ≠ .fenced := by obtain ⟨st, -⟩ | ⟨st, -⟩ := there <;> rw [st] <;> decide
  have code : chCode (addPend h 0x0201 (.channel n) 0 t) n = t.con[n].state.code := chCode_of_populated here
  refine accepts_of a rfl ((chGate_opens here sound free up _).trans ?_)
  rw [← code]
  obtain ⟨st, target⟩ | ⟨st, target⟩ := there <;>
  · subst target
    simp only [well, ne_eq, not_true_eq_false, if_false, st]
    rfl

end

section
variable (a : Admits h 0x0202 4 (.channel n) true s idx t) (here : populated t n = true)
include a here

theorem chDisconnect_fenced (fenced : t.con[n].state = .fenced) :
    Replies (.chDisconnect h n) h 0x0202 idx s t (replyWords .fenced [(3, 6)]) [] (fun _ => True) := by
  exact replies_chRefuse a rfl here (by rw [fenced]; rfl) (chGate_fenced here fenced _)

variable (free : t.con[n].seq = none) (up : t.meas[n].setupLeft = 0)
include free up

theorem chDisconnect_connected (closed : t.con[n].state = .bypass ∨ t.con[n].state = .active) :
    Accepts (.chDisconnect h n) h 0x0202 (.channel n) idx s t (fun x => seqPoll n none (startDisc n .disconnect true 0 false x)) := by
  have sound : t.con[n].state ≠ .fenced := by obtain st | st := closed <;> rw [st] <;> decide
  refine accepts_chAccept a rfl ((chGate_opens here sound free up _).trans (if_pos ?_))
  obtain st | st := closed <;> rw [st] <;> rfl

theorem chDisconnect_refused (other : t.con[n].state = .dormant ∨ t.con[n].state = .disconnected ∨ t.con[n].state = .precharge ∨
    t.con[n].state = .retired) :
    Replies (.chDisconnect h n) h 0x0202 idx s t (replyWords .wrongState [(3, t.con[n].state.code)]) [] (fun _ => True) := by
  have sound : t.con[n].state ≠ .fenced := by obtain st | st | st | st := other <;> rw [st] <;> decide
  refine replies_chRefuse a rfl here rfl ((chGate_opens here sound free up _).trans (if_neg ?_))
  obtain st | st | st | st := other <;> rw [st] <;> exact Bool.false_ne_true

end

section
variable (a : Admits h 0x0203 4 (.channel n) true s idx t) (here : populated t n = true) (free : t.con[n].seq = none)
  (up : t.meas[n].setupLeft = 0)
include a here free up

theorem chDormant_connected (closed : t.con[n].state = .bypass ∨ t.con[n].state = .active) :
    Accepts (.chDormant h n) h 0x0203 (.channel n) idx s t (fun x => seqPoll n none (startDisc n .dormant true 0 false x)) := by
  have sound : t.con[n].state ≠ .fenced := by obtain st | st := closed <;> rw [st] <;> decide
  refine accepts_chAccept a rfl ((chGate_opens here sound free up _).trans ?_)
  obtain st | st := closed <;> simp only [st]

theorem chDormant_disconnected (apart : t.con[n].state = .disconnected) (run : running t n = true) :
    Accepts (.chDormant h n) h 0x0203 (.channel n) idx s t (fun x =>
      sendCmd n 0x0020 [] .sequence (startSeq n .dormant .dormantCmd true 0 x)) := by
  refine accepts_chAccept a rfl ((chGate_opens here (by rw [apart]; decide) free up _).trans ?_)
  simp only [apart, run, if_true]

theorem chDormant_refused (other : t.con[n].state = .dormant ∨ t.con[n].state = .precharge ∨ t.con[n].state = .quenched ∨
    t.con[n].state = .retired) :
    Replies (.chDormant h n) h 0x0203 idx s t (replyWords .wrongState [(3, t.con[n].state.code)]) [] (fun _ => True) := by
  have sound : t.con[n].state ≠ .fenced := by obtain st | st | st | st := other <;> rw [st] <;> decide
  refine replies_chRefuse a rfl here rfl ((chGate_opens here sound free up _).trans ?_)
  obtain st | st | st | st := other <;> simp only [st]

end

/-! ### CH_RETIRE (R345) -/

section
variable {w4 : Word} (a : Admits h 0x0204 8 (.channel n) true s idx t)
include a

theorem chRetire_unconfirmed (unconfirmed : retireConfirmed n w4 = false) :
    Replies (.chRetire h n w4) h 0x0204 idx s t { status := .badParam, detail := 4 } [] (fun _ => True) :=
  replies_unchanged a rfl (if_pos (by rw [unconfirmed]; rfl))

variable (confirmed : retireConfirmed n w4 = true) (here : populated t n = true)
include confirmed here

theorem chRetire_retired (gone : t.con[n].state = .retired) :
    Replies (.chRetire h n w4) h 0x0204 idx s t (replyWords .wrongState [(3, 7)]) [] (fun _ => True) := by
  refine replies_chRefuse a rfl here (by rw [gone]; rfl) ((if_neg ?_).trans (if_pos ?_))
  · rw [confirmed]
    decide
  · rw [here, gone]
    decide

theorem chRetire_begins (fresh : t.con[n].state ≠ .retired) :
    Accepts (.chRetire h n w4) h 0x0204 (.channel n) idx s t (fun x => seqPoll n none (retireBegin n 0 false true x)) := by
  refine accepts_chAccept a rfl ((if_neg ?_).trans (if_neg ?_))
  · rw [confirmed]
    decide
  · rw [here, decide_eq_false fresh]
    decide

theorem chRetire_disconnected (apart : t.con[n].state = .disconnected) (free : t.con[n].seq = none) (quiet : t.cyc[n].phase = 0) :
    ∃ u, AnswersWith (.chRetire h n w4) h 0x0204 idx s { status := .pending } u ∧ u.con[n].state = .retired ∧
      u.con[n].retiredRec = true ∧ u.con[n].retireCause = 0 ∧ .retirement n ∈ u.store.queue ∧
      ∀ m : Chan, m ≠ n → u.con[m] = t.con[m] := by
  obtain ⟨c, con, state, recorded, cause, ended, queued⟩ :=
    retireBegin_disconnected (n := n) (s := addPend h 0x0204 (.channel n) 0 t) apart free quiet
  have answers : AnswersWith (.chRetire h n w4) h 0x0204 idx s { status := .pending }
      (seqPoll n none (retireBegin n 0 false true (addPend h 0x0204 (.channel n) 0 t))) :=
    chRetire_begins a confirmed here (by rw [apart]; decide)
  generalize retireBegin n 0 false true (addPend h 0x0204 (.channel n) 0 t) = v at con queued answers
  have own : v.con[n] = c := by rw [con, vmod_get]
  rw [seqPoll_of_still n (seqAdvance_of_none n (by rw [own, ended]) none)] at answers
  refine ⟨v, answers, by rw [own, state], by rw [own, recorded], by rw [own, cause], queued, fun m other => ?_⟩
  rw [con, vmod_get_ne _ _ _ _ other]
  rfl

end

/-! ### CH_RESTORE (R343, R344, R350) -/

section
variable (a : Admits h 0x0205 4 (.channel n) true s idx t) (here : populated t n = true)
include a here

/-- Cause 8 is not present, and the counts go (R344). -/
theorem chRestore_counts (alive : t.con[n].state = .bypass ∨ t.con[n].state = .disconnected) (well : t.con[n].present = 0) :
    ∃ u, AnswersWith (.chRestore h n) h 0x0205 idx s { status := .pending } u ∧
      u.con = vmod t.con n (fun c => { c with counts := [] }) ∧ KeepsBut [.cmd, .con, .twn] t u := by
  have work : Accepts (.chRestore h n) h 0x0205 (.channel n) idx s t
      (fun x => chDone n .ok (markDirty n (modCon n (fun c => { c with counts := [] }) (causeOff n 8 x)))) := by
    refine accepts_chAccept a rfl ((if_neg (by rw [here]; decide)).trans ?_)
    obtain st | st := alive <;> simp only [st]
  have absent : causeOff n 8 (addPend h 0x0205 (.channel n) 0 t) = addPend h 0x0205 (.channel n) 0 t := by
    refine if_pos ?_
    have none_ : hasCause t n 8 = false := by rw [hasCause, well]; rfl
    exact congrArg (!·) none_
  dsimp only [Accepts] at work
  rw [absent] at work
  refine ⟨_, work, rfl, ?_⟩
  intro p hp
  cases p <;> first | (simp at hp; done) | exact Eq.refl _

theorem chRestore_fenced (fenced : t.con[n].state = .fenced) :
    (hasCause t n t.con[n].fenceCause.toNat = true →
      Replies (.chRestore h n) h 0x0205 idx s t (replyWords .wrongState [(3, 6)]) [] (fun _ => True)) ∧
    (hasCause t n t.con[n].fenceCause.toNat = false →
      Accepts (.chRestore h n) h 0x0205 (.channel n) idx s t (fun x =>
        chDone n (if (anneal n true x).con[n].state = .fenced then .wrongState else .ok) (anneal n true x))) := by
  refine ⟨fun present => replies_chRefuse a rfl here (by rw [fenced]; rfl) ((if_neg (by rw [here]; decide)).trans ?_),
    fun cleared => accepts_chAccept a rfl ((if_neg (by rw [here]; decide)).trans ?_)⟩
  · simp only [fenced, present, if_true]
  · simp only [fenced, cleared, Bool.false_eq_true, if_false]

theorem chRestore_tests (gone : t.con[n].state = .retired) (run : running t n = true) (opened : contactOpen t n = true)
    (well : t.con[n].present = 0) (free : t.con[n].seq = none) :
    Accepts (.chRestore h n) h 0x0205 (.channel n) idx s t (fun x => seqPoll n none (startSeq n .restore .openTest true 0 x)) := by
  refine accepts_chAccept a rfl ((if_neg (by rw [here]; decide)).trans ?_)
  simp only [gone, run, opened, well, free, Option.isNone_none, beq_self_eq_true, Bool.and_self, if_true]

theorem chRestore_refused (other : t.con[n].state = .dormant ∨ t.con[n].state = .precharge ∨ t.con[n].state = .active ∨
    t.con[n].state = .quenched ∨ t.con[n].state = .retired ∧ running t n = false) :
    Replies (.chRestore h n) h 0x0205 idx s t (replyWords .wrongState [(3, t.con[n].state.code)]) [] (fun _ => True) := by
  refine replies_chRefuse a rfl here rfl ((if_neg (by rw [here]; decide)).trans ?_)
  obtain st | st | st | st | ⟨st, still⟩ := other
  case inr.inr.inr.inr => simp only [st, still, Bool.false_and, Bool.false_eq_true, if_false]
  all_goals simp only [st]

end
end

end Sys2Proof.Safety

/-! ### The obligation -/

namespace Sys2Proof.Safety

open Sys2Proof.Machine

/-- Settles O23: each command by the state of its channel; the connection from DISCONNECTED keeps `Connecting`, and the retirement
of a DISCONNECTED channel completes at once. -/
theorem connectionCommandsOfTheHost : Obligations.ConnectionCommandsOfTheHost := by
  intro h n s t idx
  refine ⟨fun active a here free up => ⟨fun apart well quiet unserved => ?_, fun held target well =>
      (chConnect_bypass active a here free up held target well).1, fun held target well =>
      (chConnect_bypass active a here free up held target well).2, chConnect_caused active a here free up,
      chConnect_toBypass active a here free up, chConnect_there active a here free up⟩,
    fun a here free up => ⟨chDisconnect_connected a here free up, chDisconnect_refused a here free up⟩,
    fun a here free up => ⟨chDormant_connected a here free up, chDormant_disconnected a here free up,
      chDormant_refused a here free up⟩,
    fun w4 a => ⟨chRetire_unconfirmed a, fun confirmed gone here => chRetire_retired a confirmed here gone,
      fun confirmed fresh here => chRetire_begins a confirmed here fresh, chRetire_disconnected a⟩,
    fun a here => ⟨chRestore_counts a here, fun fenced => (chRestore_fenced a here fenced).1, fun fenced =>
      (chRestore_fenced a here fenced).2, chRestore_tests a here, chRestore_refused a here⟩, chDisconnect_fenced⟩
  have start := connectWork_connecting (s := addPend h 0x0201 (.channel n) 0 t) apart quiet unserved active
  have waits := connectWork_waits (s := addPend h 0x0201 (.channel n) 0 t) apart quiet unserved active
  obtain ⟨q, is, kind, host, -⟩ := start.seq
  refine ⟨_, chConnect_disconnected active a here free up apart well, start.state, ⟨q, is, kind, host, fun unheld => ?_⟩,
    start.others, congrArg CmdSt.pend start.cmd⟩
  rw [Option.some.inj (is.symm.trans (waits unheld))]
  rfl

end Sys2Proof.Safety

/-! ## 11. The closed test of a node that does not report BYPASSED (11 R330, R332, R333 step 5)

O24 lets a closed test that has held send PRECHARGE open at once. The module commands the relay only while the node's newest report
shows BYPASSED (R330); without it the connection stays at the closed test, which has passed, until such a report arrives. -/

namespace Sys2Proof.Safety

open Sys2Proof.Machine

/-- A command makes one state of another, as far as the connections go. -/
theorem becomes_con {c : Instr} {s u v : State} (h : Becomes c s u) (k : Becomes c s v) : u.con = v.con := by
  have same := congrArg State.con (Host.Outcome.next.inj (h.symm.trans k))
  rwa [settle_con, settle_con] at same

/-- A closed test that has held without BYPASSED is marked as passed, and the relay stays closed. -/
theorem contactorTestTimeout_waits {n : Chan} {s : State} {q : ConSeq} (is : s.con[n].seq = some q) (step : q.step = .closedTest)
    (begun : q.tries = 1) (held : together s n = true) (unheld : reported s n ≠ some .bypassed) :
    Becomes (.contactorTestTimeout n) s (modCon n (fun c => { c with seq := c.seq.map (fun q => { q with tries := 2 }) }) s) := by
  have at_ (st : ConStep) : atStep s n st = (q.step == st) := by rw [atStep, is]; rfl
  have passed : closedPassed n s = modCon n (fun c => { c with seq := c.seq.map (fun q => { q with tries := 2 }) }) s := if_neg unheld
  refine becomes_of_done ((if_neg ?_).trans ((if_neg ?_).trans ((if_pos ?_).trans (congrArg (done s) ((if_pos held).trans passed)))))
  · rw [at_, step]
    decide
  · rw [at_, step]
    exact Bool.false_ne_true
  · rw [at_, step, is, Option.any_some, begun]
    rfl

/-! ### The counterexample -/

/-- A connection whose closed test has begun. -/
def closedTestSeq : ConSeq := { kind := .connect true, step := .closedTest, host := true, cause := 0, since := 0, tries := 1 }

/-- Channel 0 in that test, its two voltages equal, before any EDGES record of its node. -/
def unreportedClosing : State := modCon 0 (fun c => { c with state := .precharge, seq := some closedTestSeq }) State.reset

/-- Refutes O24: the closed test of channel 0 has held and its node does not report BYPASSED; the clause of CONTACTOR_TEST_TIMEOUT
has the relay open, where the connection stays at its closed test (R330). -/
theorem not_sequenceTimersAndCauses : ¬ Obligations.SequenceTimersAndCauses := by
  unfold Obligations.SequenceTimersAndCauses
  intro claims
  have is : unreportedClosing.con[(0 : Chan)].seq = some closedTestSeq := by rw [unreportedClosing, modCon_con, vmod_get]
  have held : together unreportedClosing 0 = true := by decide
  have unheld : reported unreportedClosing 0 ≠ some .bypassed := by decide
  obtain ⟨-, -, -, -, -, closedTest, -⟩ := claims 0 unreportedClosing
  obtain ⟨u, claimed, opens⟩ := (closedTest closedTestSeq is rfl (by decide)).1 held
  have answered := contactorTestTimeout_waits is rfl rfl held unheld
  have steps := congrArg (fun v : Vector ConCh 64 => v[(0 : Chan)].seq.map ConSeq.step)
    (opens.symm.trans (becomes_con claimed answered))
  simp only [modCon_con, vmod_get, is, Option.map_some] at steps
  exact absurd steps (by decide)

end Sys2Proof.Safety

/-! ## 12. A node service that waits for the hold, in a table out of order (12 R380, R381)

O42 lets SERVICE_HOLD_WAIT_TIMEOUT end the service of every channel that waits. What ends a service looks it up by the table's order
of channels and stops at the first higher one, so a service that stands behind one of a higher channel is not found and stays. No row
writes such a table, but O42 asks no order of it. -/

namespace Sys2Proof.Safety

open Sys2Proof.Machine

/-- A service that the table's order hides is not dropped. -/
theorem dropService_of_hidden {n : Chan} {s : State} (hidden : tabGet none (s.img.service.map (fun x => (x.1, some x.2))) n.val = none)
    (st : Status) : dropService n st s = s := by
  rw [dropService, hidden]

/-- While another channel is under the hold, a time-out that finds no service to drop only takes the channel from the queue. -/
theorem serviceHoldWaitTimeout_of_hidden {n m : Chan} {s : State} {v : ServiceSt} (is : serviceOf s n = some v) (waits : v.stage = 2)
    (owner : s.twn.serviceOwner = some m) (hidden : tabGet none (s.img.service.map (fun x => (x.1, some x.2))) n.val = none) :
    Becomes (.serviceHoldWaitTimeout n) s
      (markDirty n { s with twn := { s.twn with serviceWait := s.twn.serviceWait.filter (· ≠ n) } }) := by
  obtain ⟨t, ht⟩ : ∃ t : State, t = { s with twn := { s.twn with serviceWait := s.twn.serviceWait.filter (· ≠ n) } } := ⟨_, rfl⟩
  have ended : endService n .timeout t = markDirty n t := by
    rw [endService, dropService_of_hidden (by rw [ht]; exact hidden), nextHold, markDirty, ht]
    simp only [owner]
  have found : (serviceOf s n).any (fun v => v.stage == 2) = true := by simp [is, waits]
  rw [← ht, ← ended, ht]
  exact becomes_of_done (if_pos found)

/-! ### The counterexample -/

/-- A calibration that waits for the hold. -/
def waitingCalibration : ServiceSt :=
  { update := false, image := [], version := 0, kind := 4, offset := 0, stage := 2, wasActive := false }

/-- Channel 3 waits for the hold of channel 5, and its service stands behind that of channel 5. -/
def hiddenService : State :=
  { State.reset with
    img := { State.reset.img with service := [(5, { waitingCalibration with stage := 3 }), (3, waitingCalibration)] }
    twn := { State.reset.twn with serviceOwner := some 5, serviceWait := [3] } }

/-- Refutes O42: the service of channel 3 stands behind that of channel 5; its SERVICE_HOLD_WAIT_TIMEOUT, which the clause has end
it, leaves it in the table. -/
theorem not_nodeServicesAndImages : ¬ Obligations.NodeServicesAndImages := by
  unfold Obligations.NodeServicesAndImages
  intro claims
  have is : serviceOf hiddenService 3 = some waitingCalibration := rfl
  obtain ⟨-, -, -, timeout, -⟩ := claims default hiddenService hiddenService 0
  obtain ⟨u, claimed, -, gone, -⟩ := (timeout 3).2 waitingCalibration is rfl rfl (by decide)
  have answered := serviceHoldWaitTimeout_of_hidden is rfl (m := 5) rfl rfl
  have same := congrArg State.img (Host.Outcome.next.inj (claimed.symm.trans answered))
  rw [settle_img, settle_img] at same
  have stays : serviceOf u 3 = some waitingCalibration := by
    rw [serviceOf, same]
    rfl
  exact absurd (gone.symm.trans stays) nofun

end Sys2Proof.Safety

/-! ## SUPPORT. Headers of seam frames, and series that a standby takes in order (12 R354) -/

namespace Sys2Proof.Safety

open Sys2Proof.Machine

/-- What the header of a seam frame may write: the lanes' SEQ, the frames that wait for an ACK, RESEND and the last go-back. -/
def afterHeader (lanes : Vector LaneSt 2) (unacked : List (Half × SeamOut)) (resend : Bool) (goBack : Option (Half × Nat))
    (s : State) : State :=
  { s with twn := { s.twn with lanes := lanes, unacked := unacked, resend := resend, goBack := goBack } }

/-- The count of reliable frames received in order. -/
def countedTo (rcnt : Half) (s : State) : State := { s with twn := { s.twn with rcntRx := rcnt } }

section
variable (h : SeamHdr) (s : State)

theorem seamFrames_afterHeader (l : SeamLane) (n : Nat) :
    ∃ lanes resend, seamFrames l n s = afterHeader lanes s.twn.unacked resend s.twn.goBack s := by
  unfold seamFrames
  split
  · exact ⟨s.twn.lanes, s.twn.resend, rfl⟩
  · exact ⟨vmod s.twn.lanes l (fun x => { x with seqTx := x.seqTx + BitVec.ofNat 16 n }), false, rfl⟩

theorem seamCommon_afterHeader : ∃ lanes unacked resend goBack, seamCommon h s = afterHeader lanes unacked resend goBack s := by
  obtain ⟨unacked, acked⟩ : ∃ unacked, seamAck h.ack s = afterHeader s.twn.lanes unacked s.twn.resend s.twn.goBack s := by
    unfold seamAck
    split
    · exact ⟨s.twn.unacked, rfl⟩
    · exact ⟨_, rfl⟩
  unfold seamCommon seamGoBack
  rw [acked]
  dsimp only
  split
  · split
    · exact ⟨_, _, _, _, rfl⟩
    · obtain ⟨lanes, resend, again⟩ := seamFrames_afterHeader (afterHeader s.twn.lanes unacked s.twn.resend s.twn.goBack s)
        (reliableLane (afterHeader s.twn.lanes unacked s.twn.resend s.twn.goBack s))
        ((afterHeader s.twn.lanes unacked s.twn.resend s.twn.goBack s).twn.unacked.filter (fun f => newer16 f.1 h.ack)).length
      exact ⟨lanes, unacked, resend, some (h.ack, s.tim.tb), by rw [seamAgain, again]; rfl⟩
  · exact ⟨_, _, _, _, rfl⟩

theorem seamPlain_afterHeader : ∃ lanes unacked resend goBack, seamPlain h s = afterHeader lanes unacked resend goBack s := by
  obtain ⟨lanes, unacked, resend, goBack, common⟩ := seamCommon_afterHeader h s
  unfold seamPlain
  rw [common]
  dsimp only
  split
  · exact ⟨lanes, unacked, true, goBack, rfl⟩
  · exact ⟨lanes, unacked, resend, goBack, rfl⟩

theorem afterHeader_keeps (lanes : Vector LaneSt 2) (unacked : List (Half × SeamOut)) (resend : Bool) (goBack : Option (Half × Nat)) :
    KeepsBut [.twn] s (afterHeader lanes unacked resend goBack s) := keepsBut_twn s _

theorem countedTo_keeps (rcnt : Half) : KeepsBut [.twn] s (countedTo rcnt s) := keepsBut_twn s _

/-! ### Series -/

variable {h s}

theorem seamSeries_closed (shut : seamOpen s = false) (f : State → State) : seamSeries h f s = done s s :=
  if_pos (by rw [shut]; rfl)

section
variable (open_ : seamOpen s = true)
include open_

/-- What `seamSeries` answers while the seam is open: `f` is for a series in order, and for a standby. -/
theorem seamSeries_open (f : State → State) : seamSeries h f s =
    if (seamHdr h s).1 && s.twn.role == .standby then done s (f (seamHdr h s).2) else done s (seamHdr h s).2 :=
  if_neg (by rw [open_]; decide)

/-- A series in order: a standby takes its content, another module only counts it. -/
theorem seamSeries_next (next : h.rcnt = s.twn.rcntRx + 1) : ∃ lanes unacked resend goBack, ∀ f : State → State, seamSeries h f s =
    done s (if s.twn.role = .standby then f (countedTo h.rcnt (afterHeader lanes unacked resend goBack s))
      else countedTo h.rcnt (afterHeader lanes unacked resend goBack s)) := by
  obtain ⟨lanes, unacked, resend, goBack, common⟩ := seamCommon_afterHeader h s
  have header : seamHdr h s = (true, countedTo h.rcnt (afterHeader lanes unacked resend goBack s)) := by
    unfold seamHdr
    rw [common]
    exact if_pos next
  refine ⟨lanes, unacked, resend, goBack, fun f => ?_⟩
  rw [seamSeries_open open_, header, Bool.true_and]
  by_cases role : s.twn.role = .standby
  · rw [if_pos (by rw [role]; rfl), if_pos role]
  · rw [if_neg (by simpa using role), if_neg role]

/-- A series out of order is not taken; one that is ahead asks for a go-back. -/
theorem seamSeries_otherwise (gap : h.rcnt ≠ s.twn.rcntRx + 1) : ∃ lanes unacked resend goBack,
    (newer16 h.rcnt s.twn.rcntRx = true → resend = true) ∧
    ∀ f : State → State, seamSeries h f s = done s (afterHeader lanes unacked resend goBack s) := by
  obtain ⟨lanes, unacked, resend, goBack, common⟩ := seamCommon_afterHeader h s
  have header : seamHdr h s = (false, afterHeader lanes unacked (newer16 h.rcnt s.twn.rcntRx || resend) goBack s) := by
    unfold seamHdr
    rw [common]
    refine (if_neg gap).trans ?_
    by_cases ahead : newer16 h.rcnt s.twn.rcntRx = true
    · exact (if_pos ahead).trans (by rw [ahead]; rfl)
    · exact (if_neg ahead).trans (by rw [Bool.eq_false_iff.mpr ahead]; rfl)
  refine ⟨lanes, unacked, newer16 h.rcnt s.twn.rcntRx || resend, goBack, fun ahead => by simp [ahead], fun f => ?_⟩
  rw [seamSeries_open open_, header, Bool.false_and, if_neg Bool.false_ne_true]

/-- A series in order reaches a standby: its header, and its content on what the header left. -/
theorem seamSeries_taken (standby : s.twn.role = .standby) (next : h.rcnt = s.twn.rcntRx + 1) :
    ∃ lanes unacked resend goBack, ∀ f : State → State, seamSeries h f s =
      done s (f (countedTo h.rcnt (afterHeader lanes unacked resend goBack s))) := by
  obtain ⟨lanes, unacked, resend, goBack, e⟩ := seamSeries_next open_ next
  exact ⟨lanes, unacked, resend, goBack, fun f => (e f).trans (by rw [if_pos standby])⟩

end
end
end Sys2Proof.Safety

/-! ## SUPPORT. What a standby forms within itself (12 R361; 08 R223) -/

namespace Sys2Proof.Safety

open Sys2Proof.Machine

/-- What forming a generation may change at a module that is no master: its own engine and segment. -/
def withinParts : List Part := [.insCh, .ins, .asy, .asyCh]

/-- A module that is no master sends nothing of the generation it forms. -/
theorem formHorizon_within {s : State} (apart : isMaster s = false) (closing : Bool) (first h : Nat) :
    KeepsBut withinParts s (formHorizon closing first h s) := by
  unfold formHorizon
  dsimp only
  simp only [apart, Bool.false_eq_true, if_false]
  refine keepsBut_trans ?closed (forEach_keeps _ _ _ fun x t => keepsBut_sub _ (modIns_keeps _ _ _) rfl)
  refine keepsBut_ite ?_ (keepsBut_refl _ _)
  have segment (o : Option PeriodSet) (t : State) (k : KeepsBut withinParts s t) : KeepsBut withinParts s (match o with
      | some x => closeSegment first x t
      | none => t) := by
    cases o
    · exact k
    · exact keepsBut_trans k (keepsBut_sub _ (closeSegment_keeps _ _ _) rfl)
  refine segment _ _ (keepsBut_trans ?_ (forEach_keeps _ _ _ fun n t => keepsBut_sub _ (modIns_keeps _ _ _) rfl))
  refine forEach_keeps _ _ _ fun x t => ?_
  split
  · exact keepsBut_sub _ (modIns_keeps _ _ _) rfl
  · exact keepsBut_refl _ _

/-- The periods that were never closed here are passed within the module, whatever its role. -/
theorem closeTo_keeps (k start : Nat) (s : State) : KeepsBut withinParts s (closeTo k start s) := by
  induction k generalizing s with
  | zero => exact keepsBut_refl _ _
  | succ k ih =>
    unfold closeTo
    split
    · exact keepsBut_refl _ _
    next l _ =>
      refine keepsBut_ite (keepsBut_trans ?_ (ih _)) (keepsBut_refl _ _)
      obtain ⟨t, ht⟩ : ∃ t : State, t = { s with twn := { s.twn with role := .standby } } := ⟨_, rfl⟩
      have formed := formHorizon_within (s := t) (by rw [ht]; rfl) true (l.toNat + tctl s) 1
      have begun : KeepsBut (.twn :: withinParts) s t := ht ▸ keepsBut_sub _ (keepsBut_twn _ _) rfl
      rw [← ht]
      refine keepsBut_of_same (p := .twn) (keepsBut_trans begun (keepsBut_trans (keepsBut_sub _ formed rfl)
        (keepsBut_sub _ (keepsBut_twn _ _) rfl))) ?_
      show ({ (formHorizon true (l.toNat + tctl s) 1 t).twn with role := s.twn.role } : TwnSt) = s.twn
      rw [formed .twn (by decide), ht]

/-- Forming one period at a standby, and those before it. -/
theorem formWithin_keeps {s : State} (apart : isMaster s = false) (start : Nat) :
    KeepsBut withinParts s (formHorizon true start 1 (closeTo 64 start s)) := by
  have passed := closeTo_keeps 64 start s
  refine keepsBut_trans passed (formHorizon_within ?_ _ _ _)
  rw [isMaster, passed .twn (by decide)]
  exact apart

/-! ### A mirrored set (R361) -/

section
variable (m : SetMirror) (s : State)

/-- The set is the one held, and its mode governs. -/
def mirrorBegun : State :=
  { s with
    twn := { s.twn with mirror := some m }
    stg := { s.stg with genLast := m.gen }
    ins := { s.ins with direct := m.direct, concentrated := m.concentrated, rotate := m.rotate } }

/-- Its reference and the entries of its channels are taken. -/
def mirrorHeld : State :=
  let t := forEach (numbered 0 (m.entries.take 64)) (fun e => takeEntry (Fin.ofNat 64 e.1) e.2) (mirrorRef m (mirrorBegun m s))
  { t with twn := { t.twn with mirrored := true } }

/-- The period of the set is formed within the module, and what the active module closed it with governs. -/
def mirrorFormed (t : State) : State :=
  let u := formHorizon true m.period.toNat 1 (closeTo 64 m.period.toNat t)
  forEach (numbered 0 (m.entries.take 64)) (fun e => modIns (Fin.ofNat 64 e.1) (fun x => { x with
    eng := { x.eng with dither := e.2.dither.toNat }, held := m.holds.getLsbD e.1, carrying := e.2.carrying }))
    { u with ins := { u.ins with concentrated := m.concentrated, rotate := m.rotate } }

theorem takeMirror_eq : takeMirror m s =
    if m.restage || (mirrorHeld m s).ins.lastClosed.any (fun l => decide (m.period.toNat ≤ l.toNat)) then mirrorHeld m s
    else mirrorFormed m (mirrorHeld m s) := rfl

/-- A mirrored reference is at most kept among the references. -/
theorem mirrorRef_eq : ∃ refs, mirrorRef m s = { s with ins := { s.ins with refs := refs } } := by
  unfold mirrorRef
  split
  · exact ⟨s.ins.refs, rfl⟩
  · split
    · split
      · exact ⟨_, rfl⟩
      · exact ⟨s.ins.refs, rfl⟩
    · exact ⟨_, rfl⟩

/-- Taking the entries of a set writes channels alone. -/
theorem takeEntries_keeps (es : List (Nat × MirrorEntry)) :
    KeepsBut [.insCh] s (forEach es (fun e => takeEntry (Fin.ofNat 64 e.1) e.2) s) :=
  forEach_keeps _ _ _ fun _ t => modIns_keeps _ _ t

theorem mirrorHeld_keeps : KeepsBut (.twn :: .stg :: withinParts) s (mirrorHeld m s) := by
  obtain ⟨refs, ref⟩ := mirrorRef_eq m (mirrorBegun m s)
  unfold mirrorHeld
  rw [ref]
  refine keepsBut_trans (keepsBut_trans ?_ (keepsBut_sub _ (takeEntries_keeps _ _) rfl)) (keepsBut_sub _ (keepsBut_twn _ _) rfl)
  intro p hp
  cases p <;> first | (simp [withinParts] at hp; done) | exact Eq.refl _

theorem mirrorHeld_twn : (mirrorHeld m s).twn = { s.twn with mirror := some m, mirrored := true } := by
  unfold mirrorHeld
  dsimp only
  rw [takeEntries_keeps _ _ .twn (by decide)]
  obtain ⟨refs, ref⟩ := mirrorRef_eq m (mirrorBegun m s)
  rw [ref]
  rfl

theorem mirrorHeld_ins : ∃ refs, (mirrorHeld m s).ins =
    { s.ins with direct := m.direct, concentrated := m.concentrated, rotate := m.rotate, refs := refs } := by
  obtain ⟨refs, ref⟩ := mirrorRef_eq m (mirrorBegun m s)
  refine ⟨refs, ?_⟩
  unfold mirrorHeld
  dsimp only
  rw [takeEntries_keeps _ _ .ins (by decide), ref]
  rfl

variable {s}

theorem mirrorFormed_keeps (apart : isMaster s = false) : KeepsBut withinParts s (mirrorFormed m s) := by
  unfold mirrorFormed
  exact keepsBut_trans (keepsBut_trans (formWithin_keeps apart _) (keepsBut_sub _ (keepsBut_ins _ _) rfl))
    (forEach_keeps _ _ _ fun _ t => keepsBut_sub _ (modIns_keeps _ _ _) rfl)

theorem mirrorHeld_apart (apart : isMaster s = false) : isMaster (mirrorHeld m s) = false := by
  rw [isMaster, mirrorHeld_twn]
  exact apart

/-- A set taken by a standby is the one held, and nothing is sent. -/
theorem takeMirror_twn (apart : isMaster s = false) : (takeMirror m s).twn = { s.twn with mirror := some m, mirrored := true } := by
  rw [takeMirror_eq]
  split
  · exact mirrorHeld_twn m s
  · exact (mirrorFormed_keeps m (mirrorHeld_apart m apart) .twn (by decide)).trans (mirrorHeld_twn m s)

theorem takeMirror_txns (apart : isMaster s = false) : (takeMirror m s).txns = s.txns := by
  have held := mirrorHeld_keeps m s .txns (by decide)
  rw [takeMirror_eq]
  split
  · exact held
  · exact (mirrorFormed_keeps m (mirrorHeld_apart m apart) .txns (by decide)).trans held

/-- The set of a restage governs at once: no period is formed. -/
theorem takeMirror_restage (restage : m.restage = true) : takeMirror m s = mirrorHeld m s := by
  rw [takeMirror_eq, restage, Bool.true_or, if_pos rfl]

end

/-! ### SET_MIRROR_RX and MIRROR_MISS (R361) -/

section
variable {h : SeamHdr} {s : State}

theorem setMirrorRx_idles (shut : seamOpen s = false) (x : SetMirror) : Idles (.setMirrorRx h x) s :=
  idles_of_done (if_pos (by rw [shut]; rfl))

/-- A set that is not for this module, or not newer than the one held, leaves its header's traces alone. -/
theorem setMirrorRx_discards (open_ : seamOpen s = true) {x : SetMirror}
    (no : s.twn.role ≠ .standby ∨ s.twn.mirror.any (fun m => !newer32 x.gen m.gen) = true) :
    Runs (.setMirrorRx h x) s [.twn] (fun u => u.twn.mirror = s.twn.mirror ∧ u.twn.role = s.twn.role) := by
  obtain ⟨lanes, unacked, resend, goBack, plain⟩ := seamPlain_afterHeader h s
  have e : exec (.setMirrorRx h x) s = done s (afterHeader lanes unacked resend goBack s) := by
    refine (if_neg (by rw [open_]; decide)).trans ?_
    rw [plain]
    refine if_pos ?_
    obtain no | no := no
    · simp [afterHeader, no]
    · simp only [afterHeader, no, Bool.or_true]
  exact runs_of_done e (afterHeader_keeps _ _ _ _ _) (by decide) ⟨rfl, rfl⟩

/-- A newer set becomes the set held; nothing is sent. -/
theorem setMirrorRx_takes (open_ : seamOpen s = true) {x : SetMirror} (standby : s.twn.role = .standby)
    (newer : s.twn.mirror.any (fun m => !newer32 x.gen m.gen) = false) : ∃ u, Becomes (.setMirrorRx h x) s u ∧
      u.twn.mirror = some x ∧ u.twn.mirrored = true ∧ u.twn.role = .standby ∧ u.txns = s.txns ∧
      (x.restage = true → u.ins.direct = x.direct ∧ u.ins.concentrated = x.concentrated ∧ u.ins.rotate = x.rotate) := by
  obtain ⟨lanes, unacked, resend, goBack, plain⟩ := seamPlain_afterHeader h s
  obtain ⟨t, ht⟩ : ∃ t, t = afterHeader lanes unacked resend goBack s := ⟨_, rfl⟩
  have role : t.twn.role = .standby := by rw [ht]; exact standby
  have apart : isMaster t = false := by rw [isMaster, role]; rfl
  have e : exec (.setMirrorRx h x) s = done s (takeMirror x t) := by
    refine (if_neg (by rw [open_]; decide)).trans ?_
    rw [plain, ht]
    refine if_neg ?_
    simp only [afterHeader, standby, newer]
    decide
  have twn := takeMirror_twn x apart
  refine ⟨takeMirror x t, becomes_of_done e, ?_, ?_, ?_, ?_, fun restage => ?_⟩
  · rw [twn]
  · rw [twn]
  · rw [twn]
    exact role
  · rw [takeMirror_txns x apart, ht]
    rfl
  · obtain ⟨refs, ins⟩ := mirrorHeld_ins x t
    rw [takeMirror_restage x restage, ins]
    exact ⟨rfl, rfl, rfl⟩

theorem mirrorMiss_idles (no : mainUp s = false ∨ s.twn.role ≠ .standby ∨ s.twn.mirrored = true ∨ tctl s = 0) :
    Idles .mirrorMiss s := by
  refine idles_of_done (if_pos ?_)
  obtain no | no | no | no := no <;> simp [no]

/-- A reload point without a set counts once, and the period is formed within the module. -/
theorem mirrorMiss_counts (up : mainUp s = true) (standby : s.twn.role = .standby) (missed : s.twn.mirrored = false)
    (period : tctl s ≠ 0) : ∃ u, Becomes .mirrorMiss s u ∧ u.twn.mirrored = true ∧ u.twn.mirrorMiss = s.twn.mirrorMiss + 1 ∧
      u.twn.role = .standby ∧ u.txns = s.txns := by
  obtain ⟨t, ht⟩ : ∃ t : State, t = { s with twn := { s.twn with mirrored := true, mirrorMiss := s.twn.mirrorMiss + 1 } } :=
    ⟨_, rfl⟩
  obtain ⟨start, e⟩ : ∃ start : Nat, exec .mirrorMiss s =
      if t.ins.lastClosed.any (fun l => decide (start ≤ l.toNat)) then done s t
      else done s (formHorizon true start 1 (closeTo 64 start t)) := by
    rw [ht]
    exact ⟨_, if_neg (by simp [up, standby, missed, period])⟩
  have formed := formWithin_keeps (s := t) (by rw [isMaster, ht]; simp [standby]) start
  have outcome : ∃ u, Becomes .mirrorMiss s u ∧ KeepsBut withinParts t u := by
    split at e
    · exact ⟨t, becomes_of_done e, keepsBut_refl _ _⟩
    · exact ⟨_, becomes_of_done e, formed⟩
  obtain ⟨u, becomes, kept⟩ := outcome
  refine ⟨u, becomes, ?_, ?_, ?_, ?_⟩
  · rw [kept .twn (by decide), ht]
  · rw [kept .twn (by decide), ht]
  · rw [kept .twn (by decide), ht]
    exact standby
  · rw [kept .txns (by decide), ht]

end
end Sys2Proof.Safety

/-! ## SUPPORT. The bookkeeping of a channel as the active module has it (12 R362, R367) -/

namespace Sys2Proof.Safety

open Sys2Proof.Machine

section
variable (s : State) (b : ChanBook)

/-- What a channel's bookkeeping makes of its connection, its retirement apart. -/
def bookedState (c : ConCh) : ConCh :=
  let st := (ChState.ofCode b.state.toNat).getD c.state
  { c with
    state := st, seq := mirrorSeq s b, protective := b.protective, hostHold := b.host, service := b.service, gap := b.gap, rest := b.rest
    assayRest := b.assayRest, present := b.present, fenceK := b.fenceK.toNat
    fenceCause := if b.fenceCause = 0xFF then 0 else b.fenceCause
    annealAt := if b.annealAt = 0 then none else some b.annealAt
    wasActive := if st == .quenched then c.wasActive || c.state == .active else c.wasActive
    counts := b.counts.map (fun k => (k.cause, k.time)) }

/-- What it makes of its retirement. -/
def bookedRetired (c : ConCh) : ConCh :=
  { c with
    retireCause := if b.retireCause = 0xFF then 0 else b.retireCause, retiredRec := decide (b.state.toNat = 7)
    retiredNode := b.retiredNode, retiredPack := b.retiredPack }

/-- What it makes of its rests. -/
def bookedAsy (a : AsyCh) : AsyCh :=
  { a with
    grant := if b.restStart = 0 then none else some (b.restStart, b.restLen.toNat)
    restFrom := if b.rest then some (a.restFrom.getD s.tim.station) else none }

theorem takeBook_eq : takeBook s b = takeRetired b.channel b (takeWires b.channel b.flags (takeCells b.channel b.flags
    (modAsy b.channel (bookedAsy s b) (modCon b.channel (bookedState s b) s)))) := rfl

theorem takeRetired_con (n : Chan) : (takeRetired n b s).con = vmod s.con n (bookedRetired b) := by
  unfold takeRetired
  dsimp only
  split
  · rfl
  · exact queueWrite_con _ _

theorem takeRetired_keeps (n : Chan) : KeepsBut [.con, .store] s (takeRetired n b s) :=
  keepsBut_ite (keepsBut_sub _ (modCon_keeps _ _ _) rfl)
    (keepsBut_trans (keepsBut_sub _ (modCon_keeps _ _ _) rfl) (keepsBut_sub _ (queueWrite_keeps _ _) rfl))

theorem takeCells_keeps (n : Chan) (l : List FlagEntry) : KeepsBut [.meas] s (takeCells n l s) := modMeas_keeps _ _ _

theorem takeWires_keeps (n : Chan) (l : List FlagEntry) : KeepsBut [.meas] s (takeWires n l s) := modMeas_keeps _ _ _

theorem takeBook_con : (takeBook s b).con = vmod s.con b.channel (fun c => bookedRetired b (bookedState s b c)) := by
  rw [takeBook_eq, takeRetired_con, takeWires_keeps _ _ _ .con (by decide), takeCells_keeps _ _ _ .con (by decide), modAsy_con,
    modCon_con, vmod_vmod]

theorem takeBook_asyCh : (takeBook s b).asyCh = vmod s.asyCh b.channel (bookedAsy s b) := by
  rw [takeBook_eq, takeRetired_keeps _ _ _ .asyCh (by decide), takeWires_keeps _ _ _ .asyCh (by decide),
    takeCells_keeps _ _ _ .asyCh (by decide), modAsy_asyCh, modCon_asyCh]

theorem takeBook_meas_ne {m : Chan} (other : m ≠ b.channel) : (takeBook s b).meas[m] = s.meas[m] := by
  have cells (t : State) : (takeCells b.channel b.flags t).meas[m] = t.meas[m] := vmod_get_ne _ _ _ _ other
  have wires (t : State) : (takeWires b.channel b.flags t).meas[m] = t.meas[m] := vmod_get_ne _ _ _ _ other
  rw [takeBook_eq, takeRetired_keeps _ _ _ .meas (by decide), wires, cells, modAsy_meas, modCon_meas]

theorem takeBook_keeps : KeepsBut [.con, .asyCh, .meas, .store] s (takeBook s b) := by
  rw [takeBook_eq]
  refine keepsBut_trans ?_ (keepsBut_sub _ (takeRetired_keeps _ b b.channel) rfl)
  refine keepsBut_trans ?_ (keepsBut_sub _ (takeWires_keeps _ _ _) rfl)
  refine keepsBut_trans ?_ (keepsBut_sub _ (takeCells_keeps _ _ _) rfl)
  exact keepsBut_trans (keepsBut_sub _ (modCon_keeps _ _ _) rfl) (keepsBut_sub _ (modAsy_keeps _ _ _) rfl)

/-- The bookkeeping of a channel is no other channel's. -/
theorem takeBook_others {m : Chan} (other : m ≠ b.channel) :
    (takeBook s b).con[m] = s.con[m] ∧ (takeBook s b).meas[m] = s.meas[m] ∧ (takeBook s b).asyCh[m] = s.asyCh[m] := by
  refine ⟨?_, takeBook_meas_ne s b other, ?_⟩
  · rw [takeBook_con, vmod_get_ne _ _ _ _ other]
  · rw [takeBook_asyCh, vmod_get_ne _ _ _ _ other]

/-- What the bookkeeping names of the connection of its channel. -/
theorem takeBook_channel :
    (takeBook s b).con[b.channel].state = (ChState.ofCode b.state.toNat).getD s.con[b.channel].state ∧
    (takeBook s b).con[b.channel].protective = b.protective ∧ (takeBook s b).con[b.channel].hostHold = b.host ∧
    (takeBook s b).con[b.channel].present = b.present ∧ (takeBook s b).con[b.channel].fenceK = b.fenceK.toNat ∧
    (b.fenceCause ≠ 0xFF → (takeBook s b).con[b.channel].fenceCause = b.fenceCause) ∧
    (b.inSequence = false → (takeBook s b).con[b.channel].seq = none) ∧
    (takeBook s b).con[b.channel].retiredRec = decide (b.state.toNat = 7) := by
  rw [takeBook_con, vmod_get]
  exact ⟨rfl, rfl, rfl, rfl, rfl, fun cause => if_neg cause, fun none_ => if_pos (by rw [none_]; rfl), rfl⟩

end

theorem stateMirrorRx_takes {h : SeamHdr} {s : State} (open_ : seamOpen s = true) (standby : s.twn.role = .standby)
    (next : h.rcnt = s.twn.rcntRx + 1) (tag : DWord) (b : ChanBook) :
    Runs (.stateMirrorRx h tag [b]) s [.twn, .con, .asyCh, .meas, .store] (fun u =>
      u.con[b.channel].state = (ChState.ofCode b.state.toNat).getD s.con[b.channel].state ∧
      u.con[b.channel].protective = b.protective ∧ u.con[b.channel].hostHold = b.host ∧ u.con[b.channel].present = b.present ∧
      u.con[b.channel].fenceK = b.fenceK.toNat ∧ (b.fenceCause ≠ 0xFF → u.con[b.channel].fenceCause = b.fenceCause) ∧
      (b.inSequence = false → u.con[b.channel].seq = none) ∧ u.con[b.channel].retiredRec = decide (b.state.toNat = 7) ∧
      ∀ m : Chan, m ≠ b.channel → u.con[m] = s.con[m] ∧ u.meas[m] = s.meas[m] ∧ u.asyCh[m] = s.asyCh[m]) := by
  obtain ⟨lanes, unacked, resend, goBack, e⟩ := seamSeries_taken open_ standby next
  obtain ⟨t, ht⟩ : ∃ t, t = countedTo h.rcnt (afterHeader lanes unacked resend goBack s) := ⟨_, rfl⟩
  have heard : KeepsBut [.twn] s t := ht ▸ keepsBut_trans (afterHeader_keeps _ _ _ _ _) (countedTo_keeps _ _)
  have run : exec (.stateMirrorRx h tag [b]) s = done s (takeBook t b) := ht ▸ e (fun s => takeBook s b)
  obtain ⟨state, prot, host, present, fenceK, fenceCause, seq, retired⟩ := takeBook_channel t b
  refine runs_of_done run (keepsBut_trans (keepsBut_sub _ heard rfl) (keepsBut_sub _ (takeBook_keeps t b) rfl)) (by decide)
    ⟨?_, prot, host, present, fenceK, fenceCause, seq, retired, fun m other => ?_⟩
  · rw [state, heard .con (by decide)]
  · obtain ⟨con, meas, asyCh⟩ := takeBook_others t b other
    exact ⟨by rw [con, heard .con (by decide)], by rw [meas, heard .meas (by decide)], by rw [asyCh, heard .asyCh (by decide)]⟩

end Sys2Proof.Safety

/-! ## SUPPORT. A reconciliation (12 R363, R364) -/

namespace Sys2Proof.Safety

open Sys2Proof.Machine

/-! ### The values of a channel -/

/-- What a reconciliation makes of the limits, requests and anchors of a channel. -/
def reconciledAsy (s : State) (c : ChanRecon) (a : AsyCh) : AsyCh :=
  { a with
    pubLim := { c2 := limOf c.chg 0, c10 := limOf c.chg 1, c60 := limOf c.chg 2,
                d2 := limOf c.dis 0, d10 := limOf c.dis 1, d60 := limOf c.dis 2 }
    fu := (c.fu.toNat : Rat) / 10000, derating := c.derating
    restReq := if c.restReq then some (ago s c.reqAge) else none
    gap := if c.gap then a.gap else none, contLost := c.contLost, eps := epsOf c.epsCh
    anchorAt := some (s.tim.station - BitVec.ofNat 64 (c.anchorAge.toNat * tSec))
    cont := some (c.charge, c.edgeCnt, c.nodeId) }

/-- The segment's own value comes with the lowest populated channel. -/
def reconciledEps (c : ChanRecon) (s : State) : State :=
  if some c.channel = allChans.find? (populated s) then { s with asy := { s.asy with eps := epsOf c.epsSeg } } else s

theorem takeChannel_eq (s : State) (c : ChanRecon) : takeChannel s c = modMeas c.channel (fun m => { m with bleed := c.bleed })
    (reconciledEps c (modAsy c.channel (reconciledAsy s c) s)) := rfl

theorem reconciledEps_keeps (c : ChanRecon) (s : State) : KeepsBut [.asy] s (reconciledEps c s) :=
  keepsBut_ite (keepsBut_asy s _) (keepsBut_refl _ _)

/-! ### The z of a group -/

/-- A group's z stands in a table of canonical form. -/
structure HoldsZ (n : Chan) (i : Nat) (z : Rat) (s : State) : Prop where
  form : tabWfFrom ({} : GrpSt) 0 s.asyCh[n].grps = true
  value : (grpAt s n i).z = z

section
variable {n : Chan} {i : Nat} {z : Rat} {s t : State}

theorem holdsZ_of_grps (same : t.asyCh[n].grps = s.asyCh[n].grps) (holds : HoldsZ n i z s) : HoldsZ n i z t :=
  ⟨by rw [same]; exact holds.form, by rw [grpAt, same]; exact holds.value⟩

/-- A change of some group that leaves its z. -/
theorem holdsZ_modGrp (m : Chan) (k : Nat) {f : GrpSt → GrpSt} (left : ∀ x, (f x).z = x.z) (holds : HoldsZ n i z s) :
    HoldsZ n i z (modGrp m k f s) := by
  by_cases same : n = m
  · subst same
    have grps : (modGrp n k f s).asyCh[n].grps = tabPut {} s.asyCh[n].grps k (f (grpAt s n k)) := by
      rw [modGrp, modAsy_asyCh, vmod_get]
      rfl
    refine ⟨by rw [grps]; exact tabPut_wf _ _ _ _ holds.form (Nat.zero_le _), ?_⟩
    rw [grpAt, grps, tabGet_tabPut _ 0 _ _ _ holds.form, ← holds.value]
    split
    next at_ => rw [left, at_]
    next => rfl
  · exact holdsZ_of_grps (congrArg AsyCh.grps (vmod_get_ne _ _ _ _ same)) holds

theorem holdsZ_forEach {α : Type} (xs : List α) {f : α → State → State} (step : ∀ x t, HoldsZ n i z t → HoldsZ n i z (f x t))
    (holds : HoldsZ n i z s) : HoldsZ n i z (forEach xs f s) :=
  List.foldlRecOn (motive := HoldsZ n i z) xs _ holds fun t h x _ => step x t h

/-- The values of a channel leave its groups. -/
theorem takeChannel_grps (c : ChanRecon) (m : Chan) : (takeChannel s c).asyCh[m].grps = s.asyCh[m].grps := by
  rw [takeChannel_eq, modMeas_asyCh, reconciledEps_keeps _ _ .asyCh (by decide), modAsy_asyCh]
  exact vmod_leaves AsyCh.grps s.asyCh c.channel (f := reconciledAsy s c) (fun _ => rfl) m

/-- The assay cycle of a channel leaves the z of every group. -/
theorem holdsZ_takeAssay (l : List AssayRecon) (m : Chan) (holds : HoldsZ n i z s) : HoldsZ n i z (takeAssay l m s) := by
  unfold takeAssay
  split
  · split
    · exact holds
    · exact holdsZ_of_grps (s := s) rfl holds
  · exact holdsZ_forEach _ (fun g t => holdsZ_modGrp _ _ fun _ => rfl) (holdsZ_of_grps (s := s) rfl holds)

/-- A group that the series names has the z of the series. -/
theorem holdsZ_takeGroup (g : GroupRecon)
    (form : tabWfFrom ({} : GrpSt) 0 s.asyCh[(Fin.ofNat 64 (g.index.toNat / 256) : Chan)].grps = true) :
    HoldsZ (Fin.ofNat 64 (g.index.toNat / 256)) (g.index.toNat % 256) ((g.z.toInt : Rat) / 1000000000) (takeGroup s g) := by
  refine ⟨?_, ?_⟩
  · unfold takeGroup
    rw [modGrp, modAsy_asyCh, vmod_get]
    exact tabPut_wf _ _ _ _ form (Nat.zero_le _)
  · unfold takeGroup
    rw [grpAt, modGrp, modAsy_asyCh, vmod_get]
    dsimp only
    rw [tabGet_tabPut _ 0 _ _ _ form, if_pos rfl]

end

section
variable (s : State)

theorem takeGroup_twn (g : GroupRecon) : (takeGroup s g).twn = s.twn := rfl

theorem takeChannel_twn (c : ChanRecon) : (takeChannel s c).twn = s.twn := by
  rw [takeChannel_eq, modMeas_twn, reconciledEps_keeps _ _ .twn (by decide), modAsy_twn]

theorem takeAssay_twn (l : List AssayRecon) (n : Chan) : (takeAssay l n s).twn = s.twn := by
  unfold takeAssay
  split
  · split <;> rfl
  · refine (forEach_keeps (l := [.asyCh]) _ _ _ fun g t => modGrp_keeps _ _ _ t) .twn (by decide)

end

/-- A reconciliation of one group, without learned data and impedance: what is judged, the group and the channels. -/
def reconciledChannels (x : Reconcile) (g : GroupRecon) (s : State) : State :=
  x.channels.foldl takeChannel (takeGroup (judgeDelta (max 0 (deltaZ s g)) s) g)

section
variable {x : Reconcile} {g : GroupRecon} (s : State)

/-- The assay cycles follow. -/
theorem takeReconcile_one (groups : x.groups = [g]) (learned : x.learned = []) (imps : x.imps = []) : takeReconcile x s =
    forEach (allChans.filter (populated (reconciledChannels x g s))) (takeAssay x.assays) (reconciledChannels x g s) := by
  unfold takeReconcile
  rw [groups, learned, imps]
  rfl

theorem reconciledChannels_twn : (reconciledChannels x g s).twn = (judgeDelta (max 0 (deltaZ s g)) s).twn :=
  List.foldlRecOn (motive := fun t : State => t.twn = (judgeDelta (max 0 (deltaZ s g)) s).twn) x.channels _ rfl
    fun t same c _ => (takeChannel_twn t c).trans same

theorem takeReconcile_twn (groups : x.groups = [g]) (learned : x.learned = []) (imps : x.imps = []) :
    (takeReconcile x s).twn = (judgeDelta (max 0 (deltaZ s g)) s).twn := by
  rw [takeReconcile_one s groups learned imps]
  exact List.foldlRecOn (motive := fun t : State => t.twn = (judgeDelta (max 0 (deltaZ s g)) s).twn) _ _ (reconciledChannels_twn s)
    fun t same n _ => (takeAssay_twn t x.assays n).trans same

/-- The group has the z of the series, whatever the channels and the assay cycles of it carry. -/
theorem takeReconcile_z (groups : x.groups = [g]) (learned : x.learned = []) (imps : x.imps = [])
    (form : tabWfFrom ({} : GrpSt) 0 s.asyCh[(Fin.ofNat 64 (g.index.toNat / 256) : Chan)].grps = true) :
    (grpAt (takeReconcile x s) (Fin.ofNat 64 (g.index.toNat / 256)) (g.index.toNat % 256)).z = (g.z.toInt : Rat) / 1000000000 := by
  rw [takeReconcile_one s groups learned imps]
  refine (holdsZ_forEach _ (fun n t => holdsZ_takeAssay x.assays n) ?_).value
  exact List.foldlRecOn (motive := HoldsZ _ _ _) x.channels _ (holdsZ_takeGroup (s := judgeDelta (max 0 (deltaZ s g)) s) g form)
    fun t holds c _ => holdsZ_of_grps (takeChannel_grps c _) holds

end

/-- What a reconciliation counts, and what it makes of the divergence after nine above or nine within the tolerance. -/
theorem judgeDelta_counts (dz : Rat) (s : State) :
    (judgeDelta dz s).twn.reconciles = s.twn.reconciles + 1 ∧ (judgeDelta dz s).twn.reconciledAt = some s.tim.tb ∧
    ((pNat s Prm.twnReconTol : Rat) < dz → (judgeDelta dz s).twn.within = 0 ∧ (judgeDelta dz s).twn.overRun = s.twn.overRun + 1 ∧
      (9 ≤ s.twn.overRun → (judgeDelta dz s).twn.diverged = true)) ∧
    (dz ≤ (pNat s Prm.twnReconTol : Rat) → (judgeDelta dz s).twn.overRun = 0 ∧ (judgeDelta dz s).twn.within = s.twn.within + 1 ∧
      (9 ≤ s.twn.within → (judgeDelta dz s).twn.diverged = false)) := by
  refine ⟨rfl, rfl, fun above => ?_, fun within => ?_⟩
  · have exceeds : decide (dz > (pNat s Prm.twnReconTol : Rat)) = true := decide_eq_true above
    simp only [judgeDelta, exceeds, if_true]
    exact ⟨trivial, trivial, fun nine => if_pos (by omega)⟩
  · have under : decide (dz > (pNat s Prm.twnReconTol : Rat)) = false := decide_eq_false (not_lt.mpr within)
    simp only [judgeDelta, under, Bool.false_eq_true, if_false]
    exact ⟨trivial, trivial, fun nine => (if_neg (by omega)).trans (if_pos (by omega))⟩

theorem reconcileRx_takes {h : SeamHdr} {s : State} (open_ : seamOpen s = true) (standby : s.twn.role = .standby)
    (next : h.rcnt = s.twn.rcntRx + 1) {x : Reconcile} {g : GroupRecon} (groups : x.groups = [g]) (learned : x.learned = [])
    (imps : x.imps = []) (form : tabWfFrom ({} : GrpSt) 0 s.asyCh[(Fin.ofNat 64 (g.index.toNat / 256) : Chan)].grps = true) :
    ∃ u, Becomes (.reconcileRx h x) s u ∧ u.twn.reconciles = s.twn.reconciles + 1 ∧ u.twn.reconciledAt = some s.tim.tb ∧
      (grpAt u (Fin.ofNat 64 (g.index.toNat / 256)) (g.index.toNat % 256)).z = (g.z.toInt : Rat) / 1000000000 ∧
      ((pNat s Prm.twnReconTol : Rat) < max 0 (deltaZ s g) → u.twn.within = 0 ∧ u.twn.overRun = s.twn.overRun + 1 ∧
        (9 ≤ s.twn.overRun → u.twn.diverged = true)) ∧
      (max 0 (deltaZ s g) ≤ (pNat s Prm.twnReconTol : Rat) → u.twn.overRun = 0 ∧ u.twn.within = s.twn.within + 1 ∧
        (9 ≤ s.twn.within → u.twn.diverged = false)) := by
  obtain ⟨lanes, unacked, resend, goBack, e⟩ := seamSeries_taken open_ standby next
  obtain ⟨t, ht⟩ : ∃ t, t = countedTo h.rcnt (afterHeader lanes unacked resend goBack s) := ⟨_, rfl⟩
  have judged := judgeDelta_counts (max 0 (deltaZ t g)) t
  rw [← takeReconcile_twn t groups learned imps, ht] at judged
  obtain ⟨reconciles, at_, above, within⟩ := judged
  exact ⟨_, becomes_of_done (e (takeReconcile x)), reconciles, at_, takeReconcile_z _ groups learned imps form, above, within⟩

end Sys2Proof.Safety

/-! ## 12. What a standby takes from its partner (12 R354, R361 to R368)

That a CONFIG is adopted whatever its number is log 143, that one row stands for a whole series log 132, and what a mirrored step
stands for log 137: the model's choices. -/

namespace Sys2Proof.Safety

open Sys2Proof.Machine

/-! ### What CONFIG and IMAGE bring (R365, R368) -/

/-- The record that a CONFIG makes. -/
def receivedRecord (q : Word) (es : List ConfigEntry) : CfgRecord :=
  { values := listedValues es, marked := (es.filter (·.marked)).map (fun e => e.id.toNat), seq := q, taken := [] }

/-- A CONFIG whose CRC holds waits for the retained store. -/
def configTaken (q : Word) (es : List ConfigEntry) (ok : Bool) (s : State) : State :=
  if !ok then s else queueWrite .config { s with cfg := { s.cfg with next := some (receivedRecord q es) } }

/-- An image is followed when the standby is set to, does not hold it yet, and its store is free for it. -/
def FollowsImage (s : State) (v : Word) : Prop :=
  pBool s Prm.twnImageFollow = true ∧
    ((bankOf s (otherBank s.pwr.bank)).valid = false ∨ (bankOf s (otherBank s.pwr.bank)).version ≠ v) ∧
    s.img.chunk = none ∧ s.pwr.warn = false ∧ blockFenced s 0x0103 0xFFFF = false

/-- What keeps an image from being followed, as the row judges it. -/
def leavesImage (s : State) (v : Word) : Bool :=
  !pBool s Prm.twnImageFollow ||
    ((bankOf s (otherBank s.pwr.bank)).valid && decide ((bankOf s (otherBank s.pwr.bank)).version = v)) || s.img.chunk.isSome ||
    s.pwr.warn || blockFenced s 0x0103 0xFFFF

/-- The bank that does not run is erased, and the whole image is its chunk. -/
def imageFollowed (bytes : List Byte) (s : State) : State :=
  let t := modBank (otherBank s.pwr.bank) (fun b => { b with valid := false, bytes := [] }) s
  { t with img := { t.img with
      chunk := some { bank := otherBank s.pwr.bank, offset := 0, data := bytes, last := true }, following := true } }

/-- What an IMAGE brings. -/
def imageTaken (v : Word) (bytes : List Byte) (s : State) : State := if leavesImage s v then s else imageFollowed bytes s

/-- The rows of series, as the statement lists them, are `seamSeries` of some content. -/
theorem series_exec {h : SeamHdr} {c : Instr} (series : (∃ tag books, c = .stateMirrorRx h tag books) ∨ (∃ x, c = .reconcileRx h x) ∨
    (∃ q es ok, c = .configRx h q es ok) ∨ (∃ v bytes, c = .imageRx h v bytes)) :
    ∃ f, ∀ s, exec c s = seamSeries h f s := by
  obtain ⟨tag, books, rfl⟩ | ⟨x, rfl⟩ | ⟨q, es, ok, rfl⟩ | ⟨v, bytes, rfl⟩ := series
  · exact ⟨fun s => books.foldl takeBook s, fun s => rfl⟩
  · exact ⟨takeReconcile x, fun s => rfl⟩
  · exact ⟨configTaken q es ok, fun s => rfl⟩
  · exact ⟨imageTaken v bytes, fun s => rfl⟩

theorem leavesImage_iff {s : State} {v : Word} : leavesImage s v = true ↔ ¬ FollowsImage s v := by
  unfold leavesImage FollowsImage
  simp only [Bool.or_eq_true, Bool.and_eq_true, Bool.not_eq_true', decide_eq_true_eq, Option.isSome_iff_ne_none, not_and_or, not_or,
    Bool.not_eq_false, Bool.not_eq_true, not_not, ne_eq, or_assoc]

section
variable (s : State) (bytes : List Byte)

theorem imageFollowed_keeps : KeepsBut [.img] s (imageFollowed bytes s) := by
  unfold imageFollowed modBank
  cases otherBank s.pwr.bank <;> intro p hp <;> cases p <;> first | (simp at hp; done) | exact Eq.refl _

/-- The bank that runs is not written. -/
theorem imageFollowed_banks :
    (bankOf (imageFollowed bytes s) (otherBank s.pwr.bank)).valid = false ∧
    (bankOf (imageFollowed bytes s) (otherBank s.pwr.bank)).bytes = [] ∧
    bankOf (imageFollowed bytes s) s.pwr.bank = bankOf s s.pwr.bank := by
  unfold imageFollowed
  cases s.pwr.bank <;> exact ⟨rfl, rfl, rfl⟩

end

section
variable {h : SeamHdr} {s : State} (open_ : seamOpen s = true) (standby : s.twn.role = .standby)
  (next : h.rcnt = s.twn.rcntRx + 1)
include open_ standby next

/-- A CONFIG whose CRC fails is counted and changes nothing. -/
theorem configRx_fails (q : Word) (es : List ConfigEntry) :
    Runs (.configRx h q es false) s [.twn] (fun u => u.twn.rcntRx = h.rcnt) := by
  obtain ⟨lanes, unacked, resend, goBack, e⟩ := seamSeries_taken open_ standby next
  exact runs_of_done (e (configTaken q es false)) (keepsBut_trans (afterHeader_keeps _ _ _ _ _) (countedTo_keeps _ _)) (by decide) rfl

/-- One whose CRC holds waits for the retained store; the values in force stay. -/
theorem configRx_queues (q : Word) (es : List ConfigEntry) : Runs (.configRx h q es true) s [.twn, .cfg, .store] (fun u =>
    .config ∈ u.store.queue ∧ u.cfg.eff = s.cfg.eff ∧ u.cfg.seq = s.cfg.seq ∧
    ∃ r, u.cfg.next = some r ∧ r.seq = q ∧ r.values = listedValues es) := by
  obtain ⟨lanes, unacked, resend, goBack, e⟩ := seamSeries_taken open_ standby next
  obtain ⟨t, ht⟩ : ∃ t, t = countedTo h.rcnt (afterHeader lanes unacked resend goBack s) := ⟨_, rfl⟩
  have heard : KeepsBut [.twn] s t := ht ▸ keepsBut_trans (afterHeader_keeps _ _ _ _ _) (countedTo_keeps _ _)
  have cfg : (configTaken q es true t).cfg = { s.cfg with next := some (receivedRecord q es) } :=
    (queueWrite_keeps _ _ .cfg (by decide)).trans (by rw [heard .cfg (by decide)])
  have kept : KeepsBut [.cfg, .store] t (configTaken q es true t) :=
    keepsBut_trans (keepsBut_sub _ (keepsBut_cfg t _) rfl) (keepsBut_sub _ (queueWrite_keeps _ _) rfl)
  refine runs_of_done (ht ▸ e (configTaken q es true)) (keepsBut_trans (keepsBut_sub _ heard rfl) (keepsBut_sub _ kept rfl)) (by decide)
    ⟨mem_queueWrite _ _, ?_, ?_, receivedRecord q es, ?_, rfl, rfl⟩
  · rw [cfg]
  · rw [cfg]
  · rw [cfg]

theorem imageRx_ignores {v : Word} (no : ¬ FollowsImage s v) (bytes : List Byte) :
    Runs (.imageRx h v bytes) s [.twn] (fun u => u.twn.rcntRx = h.rcnt) := by
  obtain ⟨lanes, unacked, resend, goBack, e⟩ := seamSeries_taken open_ standby next
  have left : imageTaken v bytes (countedTo h.rcnt (afterHeader lanes unacked resend goBack s)) =
      countedTo h.rcnt (afterHeader lanes unacked resend goBack s) := if_pos (leavesImage_iff.mpr no)
  exact runs_of_done ((e (imageTaken v bytes)).trans (congrArg (done s) left))
    (keepsBut_trans (afterHeader_keeps _ _ _ _ _) (countedTo_keeps _ _)) (by decide) rfl

theorem imageRx_follows {v : Word} (wanted : FollowsImage s v) (bytes : List Byte) :
    Runs (.imageRx h v bytes) s [.twn, .img] (fun u => u.img.following = true ∧
      u.img.chunk = some { bank := otherBank s.pwr.bank, offset := 0, data := bytes, last := true } ∧
      (bankOf u (otherBank s.pwr.bank)).valid = false ∧ (bankOf u (otherBank s.pwr.bank)).bytes = [] ∧
      bankOf u s.pwr.bank = bankOf s s.pwr.bank) := by
  obtain ⟨lanes, unacked, resend, goBack, e⟩ := seamSeries_taken open_ standby next
  obtain ⟨t, ht⟩ : ∃ t, t = countedTo h.rcnt (afterHeader lanes unacked resend goBack s) := ⟨_, rfl⟩
  have heard : KeepsBut [.twn] s t := ht ▸ keepsBut_trans (afterHeader_keeps _ _ _ _ _) (countedTo_keeps _ _)
  have followed : imageTaken v bytes t = imageFollowed bytes t :=
    ht ▸ if_neg (fun left => leavesImage_iff.mp left wanted)
  have bank : t.pwr.bank = s.pwr.bank := by rw [heard .pwr (by decide)]
  have running : bankOf t s.pwr.bank = bankOf s s.pwr.bank := by cases s.pwr.bank <;> rw [ht] <;> rfl
  obtain ⟨valid, erased, stays⟩ := imageFollowed_banks t bytes
  rw [bank] at valid erased stays
  refine runs_of_done ((ht ▸ e (imageTaken v bytes)).trans (congrArg (done s) followed))
    (keepsBut_trans (keepsBut_sub _ heard rfl) (keepsBut_sub _ (imageFollowed_keeps t bytes) rfl)) (by decide)
    ⟨rfl, ?_, valid, erased, stays.trans running⟩
  rw [← bank]
  rfl

end

/-- Settles O47: what the header of a series makes of it, whatever it carries; then one lemma per kind of content. -/
theorem whatAStandbyTakesFromItsPartner : Obligations.WhatAStandbyTakesFromItsPartner := by
  intro h s
  refine ⟨fun shut => ⟨setMirrorRx_idles shut, fun c series => ?_⟩,
    fun open_ => ⟨fun c series => ⟨fun next other => ?_, fun gap => ?_⟩,
      fun x => ⟨setMirrorRx_discards open_, setMirrorRx_takes open_⟩, fun standby next => ⟨?_, ?_, ?_, ?_⟩⟩,
    mirrorMiss_idles, mirrorMiss_counts⟩
  · obtain ⟨f, e⟩ := series_exec series
    exact idles_of_done ((e s).trans (seamSeries_closed shut f))
  · obtain ⟨f, e⟩ := series_exec series
    obtain ⟨lanes, unacked, resend, goBack, answers⟩ := seamSeries_next open_ next
    have run := (e s).trans (answers f)
    rw [if_neg other] at run
    exact runs_of_done run (keepsBut_trans (afterHeader_keeps _ _ _ _ _) (countedTo_keeps _ _)) (by decide) ⟨rfl, rfl⟩
  · obtain ⟨f, e⟩ := series_exec series
    obtain ⟨lanes, unacked, resend, goBack, ahead, answers⟩ := seamSeries_otherwise open_ gap
    exact runs_of_done ((e s).trans (answers f)) (afterHeader_keeps _ _ _ _ _) (by decide) ⟨rfl, rfl, ahead⟩
  · exact stateMirrorRx_takes open_ standby next
  · exact fun x g groups learned imps form => reconcileRx_takes open_ standby next groups learned imps form
  · exact fun q es ok => ⟨fun fails => fails ▸ configRx_fails open_ standby next q es,
      fun holds => holds ▸ configRx_queues open_ standby next q es⟩
  · exact fun v bytes => ⟨fun no => imageRx_ignores open_ standby next no bytes,
      fun wanted => imageRx_follows open_ standby next wanted bytes⟩

end Sys2Proof.Safety

/-! ## SUPPORT. What a module stands on in the pair (12 R355, R357, R374; 01 R15)

Role, epoch, an open hand-over, the partner and the lanes: the operations behind a takeover, a reload or a change of role write the
rest of the twin's state, such as the bookkeeping not yet mirrored, the service hold, the set sent and the counts of frames. One lemma
per operation says that it leaves those alone. -/

namespace Sys2Proof.Machine

/-- What a module knows of its partner: its last heartbeat, whether it is heard or refused, and what each lane is. -/
structure PairView where
  partner  : Option Heartbeat
  lost     : Bool
  mismatch : Option (BitVec 2)
  lanes    : SeamLane → Bool × Bool

/-- Role, epoch and hand-over, beside the partner. -/
structure Standing where
  role  : Role
  epoch : Option Word
  open_ : Option Asked
  offer : Option Offer
  pair  : PairView

/-- A lane is UP, and it is fenced. -/
def LaneSt.view (x : LaneSt) : Bool × Bool := (x.up, x.fenced)

def TwnSt.pairView (t : TwnSt) : PairView :=
  { partner := t.partner, lost := t.lost, mismatch := t.mismatch, lanes := fun l => t.lanes[l].view }

def TwnSt.standing (t : TwnSt) : Standing :=
  { role := t.role, epoch := t.epoch, open_ := t.open_, offer := t.offer, pair := t.pairView }

end Sys2Proof.Machine

namespace Sys2Proof.Safety

open Sys2Proof.Machine

section
variable {t u : TwnSt}

theorem PairView.up_eq (h : u.pairView = t.pairView) (l : SeamLane) : u.lanes[l].up = t.lanes[l].up :=
  congrArg (fun v : PairView => (v.lanes l).1) h

theorem PairView.fenced_eq (h : u.pairView = t.pairView) (l : SeamLane) : u.lanes[l].fenced = t.lanes[l].fenced :=
  congrArg (fun v : PairView => (v.lanes l).2) h

variable (h : u.standing = t.standing)
include h

theorem Standing.role_eq : u.role = t.role := congrArg Standing.role h
theorem Standing.open_eq : u.open_ = t.open_ := congrArg Standing.open_ h
theorem Standing.offer_eq : u.offer = t.offer := congrArg Standing.offer h
theorem Standing.pair_eq : u.pairView = t.pairView := congrArg Standing.pair h

end

/-! ### Branches and loops -/

@[simp] theorem standing_ite (c : Prop) [Decidable c] (s t : State) :
    (if c then s else t).twn.standing = if c then s.twn.standing else t.twn.standing :=
  apply_ite (fun x : State => x.twn.standing) c s t

@[simp] theorem snd_standing_ite {α : Type} (c : Prop) [Decidable c] (s t : α × State) :
    (if c then s else t).2.twn.standing = if c then s.2.twn.standing else t.2.twn.standing :=
  apply_ite (fun x : α × State => x.2.twn.standing) c s t

section
variable (n p : Chan) (s : State)

@[simp] theorem forEach_standing {α : Type} (xs : List α) (f : α → State → State)
    (h : ∀ a t, (f a t).twn.standing = t.twn.standing) : (forEach xs f s).twn.standing = s.twn.standing :=
  List.foldlRecOn (motive := fun t : State => t.twn.standing = s.twn.standing) xs _ rfl fun t same a _ => (h a t).trans same

/-! ### Operations that leave the twin's state -/

@[simp] theorem raise_standing (code subject : Nat) (data : List Nat) : (raise code subject data s).twn.standing = s.twn.standing :=
  congrArg TwnSt.standing (raise_keeps _ _ _ _ .twn (by decide))
@[simp] theorem raiseAt_standing (code level : Nat) (pin : Bool) (time : DWord) (subject : Nat) (data : List Nat) :
    (raiseAt code level pin time subject data s).twn.standing = s.twn.standing :=
  congrArg TwnSt.standing (raiseAt_keeps _ _ _ _ _ _ _ .twn (by decide))
@[simp] theorem queueWrite_standing (w : StoreWrite) : (queueWrite w s).twn.standing = s.twn.standing :=
  congrArg TwnSt.standing (queueWrite_keeps _ _ .twn (by decide))
@[simp] theorem raiseFault_standing (cause subject level : Nat) (permanent : Bool) (origin : Nat) :
    (raiseFault cause subject level permanent origin s).twn.standing = s.twn.standing :=
  congrArg TwnSt.standing (raiseFault_keeps _ _ _ _ _ _ .twn (by decide))
@[simp] theorem endFault_standing (cause subject : Nat) : (endFault cause subject s).twn.standing = s.twn.standing :=
  congrArg TwnSt.standing (endFault_keeps _ _ _ .twn (by decide))
@[simp] theorem openL0_standing (g origin : Nat) : (openL0 g origin s).twn.standing = s.twn.standing :=
  congrArg TwnSt.standing (openL0_keeps _ _ _ .twn (by decide))
@[simp] theorem finishAll_standing (sel : Pend → Bool) (r : Pend → Reply) : (finishAll sel r s).twn.standing = s.twn.standing := rfl
@[simp] theorem completeTaken_standing (op : Nat) (r : Reply) : (completeTaken op r s).twn.standing = s.twn.standing := rfl
@[simp] theorem sendCmd_standing (code : Nat) (args : List Byte) (q : CmdPurpose) :
    (sendCmd p code args q s).twn.standing = s.twn.standing := rfl
@[simp] theorem sendAbort_standing (action : Byte) : (sendAbort p action s).twn.standing = s.twn.standing :=
  congrArg TwnSt.standing (sendAbort_keeps _ _ _ .twn (by decide))
@[simp] theorem chEvent_standing (code old new cause : Nat) (host ended : Bool) (count : Nat) :
    (chEvent code n old new cause host ended count s).twn.standing = s.twn.standing :=
  congrArg TwnSt.standing (chEvent_keeps _ _ _ _ _ _ _ _ _ .twn (by decide))
@[simp] theorem abortCycle_standing (reason : Nat) : (abortCycle n reason s).twn.standing = s.twn.standing :=
  congrArg TwnSt.standing (abortCycle_keeps _ _ _ .twn (by decide))
@[simp] theorem countDecision_standing (c : Nat) : (countDecision n c s).2.twn.standing = s.twn.standing :=
  congrArg TwnSt.standing (countDecision_keeps _ _ _ .twn (by decide))

/-! ### The seam, the bookkeeping and the service hold (12 R354, R362, R381) -/

/-- A lane's counts are not what it is. -/
theorem modLane_standing (l : SeamLane) {f : LaneSt → LaneSt} (h : ∀ x, (f x).view = x.view) :
    (modLane l f s).twn.standing = s.twn.standing := by
  have lanes : (fun k : SeamLane => (vmod s.twn.lanes l f)[k].view) = fun k => s.twn.lanes[k].view :=
    funext (vmod_leaves LaneSt.view s.twn.lanes l h)
  simp only [modLane, TwnSt.standing, TwnSt.pairView, lanes]

@[simp] theorem seamFrames_standing (l : SeamLane) (k : Nat) : (seamFrames l k s).twn.standing = s.twn.standing := by
  unfold seamFrames
  split
  · rfl
  · exact modLane_standing s l fun _ => rfl

@[simp] theorem seamBoth_standing : (seamBoth s).twn.standing = s.twn.standing := by simp [seamBoth]

@[simp] theorem sendSeam_standing (o : SeamOut) : (sendSeam o s).twn.standing = s.twn.standing := by
  unfold sendSeam
  dsimp only
  split
  · rfl
  · exact seamFrames_standing s (reliableLane s) 1

@[simp] theorem markDirty_standing : (markDirty n s).twn.standing = s.twn.standing := rfl

@[simp] theorem dropService_standing (st : Status) : (dropService n st s).twn.standing = s.twn.standing := by
  unfold dropService
  split <;> rfl

@[simp] theorem putService_standing (v : ServiceSt) : (putService n v s).twn.standing = s.twn.standing := rfl

@[simp] theorem servicePoll_standing : (servicePoll n s).twn.standing = s.twn.standing := by
  unfold servicePoll
  split <;> simp

@[simp] theorem takeHold_standing : (takeHold n s).twn.standing = s.twn.standing := by
  unfold takeHold
  split
  · rfl
  · split
    · rfl
    · simp
      rfl

@[simp] theorem nextHold_standing : (nextHold s).twn.standing = s.twn.standing := by
  unfold nextHold
  split
  · simp
    rfl
  · rfl

@[simp] theorem endService_standing (st : Status) : (endService n st s).twn.standing = s.twn.standing := by simp [endService]

/-! ### Generations and restages (08 R223 to R233) -/

@[simp] theorem mirrorSet_standing (gen : Word) (first : Nat) (b : Bool) (x : PeriodSet) (l : List (Chan × List PeriodPlan)) :
    (mirrorSet gen first b x l s).twn.standing = s.twn.standing := by
  unfold mirrorSet
  dsimp only
  split
  · exact seamBoth_standing _
  · rfl

@[simp] theorem sendSched_standing (gen : Word) (first h : Nat) (closing : Bool) (l : List SchedEntry) :
    (sendSched p gen first h closing l s).twn.standing = s.twn.standing :=
  congrArg TwnSt.standing (sendSched_keeps _ _ _ _ _ _ _ .twn (by decide))

@[simp] theorem closeSegment_standing (start : Nat) (x : PeriodSet) : (closeSegment start x s).twn.standing = s.twn.standing :=
  congrArg TwnSt.standing (closeSegment_keeps _ _ _ .twn (by decide))

@[simp] theorem formHorizon_standing (closing : Bool) (first h : Nat) : (formHorizon closing first h s).twn.standing = s.twn.standing := by
  unfold formHorizon
  dsimp only
  generalize hm : (if isMaster s = true then _ else s : State) = m
  have sent : m.twn.standing = s.twn.standing := by
    rw [← hm]
    split
    · split
      · simp [useGen]
      · simp [useGen]
    · rfl
  refine Eq.trans (forEach_standing _ _ _ fun _ _ => rfl) (Eq.trans ?_ sent)
  split
  · have segment (o : Option PeriodSet) (t : State) : (match o with
        | some x => closeSegment first x t
        | none => t).twn.standing = t.twn.standing := by
      cases o
      · rfl
      · exact closeSegment_standing _ _ _
    have idle (t : State) (f : Chan → State → InsCh → InsCh) (l : List Chan) :
        (forEach l (fun n s => modIns n (f n s) s) t).twn.standing = t.twn.standing := forEach_standing _ _ _ fun _ _ => rfl
    refine (segment _ _).trans ?_
    rw [standing_ite, forEach_standing _ _ _ fun p t => by split <;> rfl, ite_self]
    refine (idle _ _ _).trans (forEach_standing _ _ _ fun x t => ?_)
    split <;> rfl
  · rfl

end
end Sys2Proof.Safety

namespace Sys2Proof.Safety

open Sys2Proof.Machine

section
variable (n p : Chan) (s : State)

@[simp] theorem closeTo_standing (k start : Nat) : (closeTo k start s).twn.standing = s.twn.standing :=
  congrArg TwnSt.standing (closeTo_keeps k start s .twn (by decide))

@[simp] theorem sayRestaged_standing (cause count : Nat) (gen : Word) : (sayRestaged cause count gen s).twn.standing = s.twn.standing :=
  raise_standing ..

@[simp] theorem restage_standing (cause : Nat) : (restage cause s).twn.standing = s.twn.standing := by
  have now : (restageNow s).2.twn.standing = s.twn.standing := by simp [restageNow, formGeneration]
  unfold restage restageFor
  split
  · rfl
  · dsimp only
    split <;> simp [now]

/-! ### Channel connection (11 R328 to R346) -/

@[simp] theorem setCh_standing (new : ChState) (cause : Nat) (host : Bool) : (setCh n new cause host s).twn.standing = s.twn.standing := by
  simp [setCh]

@[simp] theorem addCount_standing (c : Nat) : (addCount n c s).twn.standing = s.twn.standing := rfl

@[simp] theorem clearHolds_standing : (clearHolds n s).twn.standing = s.twn.standing := rfl

@[simp] theorem endSeq_standing (st : Status) : (endSeq n st s).twn.standing = s.twn.standing := by simp [endSeq, finishChan]

@[simp] theorem seqStep_standing (st : ConStep) : (seqStep n st s).twn.standing = s.twn.standing := rfl

@[simp] theorem startSeq_standing (kind : SeqKind) (st : ConStep) (host : Bool) (cause : Nat) :
    (startSeq n kind st host cause s).twn.standing = s.twn.standing := by simp [startSeq]

@[simp] theorem prechargeEvent_standing (reason elapsed : Nat) : (prechargeEvent n reason elapsed s).twn.standing = s.twn.standing :=
  raise_standing ..

@[simp] theorem protect_standing (cause : Nat) (atOnce : Bool) : (protect n cause atOnce s).twn.standing = s.twn.standing := by
  simp [protect]

@[simp] theorem unprotect_standing (cause : Nat) : (unprotect n cause s).twn.standing = s.twn.standing := by simp [unprotect]

@[simp] theorem abandon_standing (st : Status) : (abandon n st s).twn.standing = s.twn.standing := by
  unfold abandon
  split <;> simp

@[simp] theorem retireNow_standing : (retireNow n s).twn.standing = s.twn.standing := by simp [retireNow]

@[simp] theorem startDisc_standing (kind : SeqKind) (host : Bool) (cause : Nat) (atOnce : Bool) :
    (startDisc n kind host cause atOnce s).twn.standing = s.twn.standing := by simp [startDisc]

@[simp] theorem retireBegin_standing (cause : Nat) (byCount host : Bool) :
    (retireBegin n cause byCount host s).twn.standing = s.twn.standing := by simp [retireBegin]

@[simp] theorem decideFence_standing (c : Nat) : (decideFence n c s).twn.standing = s.twn.standing := by simp [decideFence, fenceFault]

@[simp] theorem decideRetire_standing (c : Nat) : (decideRetire n c s).twn.standing = s.twn.standing := by
  simp [decideRetire]

@[simp] theorem decideDisconnect_standing (c : Nat) (atOnce : Bool) : (decideDisconnect n c atOnce s).twn.standing = s.twn.standing := by
  simp [decideDisconnect]

@[simp] theorem decideHold_standing (c : Nat) (atOnce : Bool) : (decideHold n c atOnce s).twn.standing = s.twn.standing := by
  simp [decideHold]

@[simp] theorem actOn_standing (c : Nat) : (actOn n c s).twn.standing = s.twn.standing := by
  unfold actOn
  split
  case h_9 => split <;> simp
  all_goals simp

@[simp] theorem causeOn_standing (c : Nat) : (causeOn n c s).twn.standing = s.twn.standing := by simp [causeOn]

@[simp] theorem causeOnAt_standing (c detail : Nat) : (causeOnAt n c detail s).twn.standing = s.twn.standing := by simp [causeOnAt]

@[simp] theorem causeOff_standing (c : Nat) : (causeOff n c s).twn.standing = s.twn.standing := by simp [causeOff]

@[simp] theorem placeByStat_standing (cause : Nat) (host : Bool) : (placeByStat n cause host s).twn.standing = s.twn.standing := by
  unfold placeByStat
  split <;> simp [sendPrecharge]

@[simp] theorem quenchChan_standing : (quenchChan n s).twn.standing = s.twn.standing := by simp [quenchChan]

/-! ### What the module's own tables show (11 R340, R341; 12 R372) -/

@[simp] theorem judgeCells_standing : (judgeCells n s).twn.standing = s.twn.standing := by
  unfold judgeCells
  split <;> simp

@[simp] theorem judgeTemps_standing : (judgeTemps n s).twn.standing = s.twn.standing := by
  unfold judgeTemps
  split <;> simp

@[simp] theorem judgePlaus_standing : (judgePlaus n s).twn.standing = s.twn.standing := by simp [judgePlaus]

@[simp] theorem judgeWires_standing : (judgeWires n s).twn.standing = s.twn.standing := by
  unfold judgeWires
  split <;> simp

@[simp] theorem judgeAuth_standing : (judgeAuth n s).twn.standing = s.twn.standing := by simp [judgeAuth]

@[simp] theorem desat_standing : (desat n s).twn.standing = s.twn.standing := by simp [desat]

@[simp] theorem toneCauses_standing (c : Byte) : (toneCauses n c s).twn.standing = s.twn.standing := by simp [toneCauses, wireTone]

@[simp] theorem judgeAll_standing : (judgeAll n s).twn.standing = s.twn.standing := by simp [judgeAll]

/-! ### What a new master does (12 R371, R372) -/

@[simp] theorem sendSetups_standing : (sendSetups n s).twn.standing = s.twn.standing := by
  have setup (k : Nat) (q : CmdPurpose) (t : State) : (sendSetup n k q t).twn.standing = t.twn.standing := by simp [sendSetup]
  simp [sendSetups, setup]

@[simp] theorem replaceChan_standing : (replaceChan n s).twn.standing = s.twn.standing := by
  unfold replaceChan
  dsimp only
  (repeat' split) <;> simp

@[simp] theorem masterSteps_standing : (masterSteps s).twn.standing = s.twn.standing := by simp [masterSteps]

@[simp] theorem sendTakeovers_standing (gen : Word) (from_ : DWord) : (sendTakeovers gen from_ s).twn.standing = s.twn.standing :=
  forEach_standing _ _ _ fun _ _ => rfl

/-! ### The reload point (07 R203 to R208; 08 R223) -/

@[simp] theorem gapHold_standing (start : Nat) : (gapHold start n s).twn.standing = s.twn.standing := by simp [gapHold, gapDrop]

@[simp] theorem enterActive_standing : (enterActive n s).twn.standing = s.twn.standing := by
  unfold enterActive
  (repeat' split) <;> simp

@[simp] theorem serviceRelease_standing : (serviceRelease n s).twn.standing = s.twn.standing := by
  unfold serviceRelease
  split <;> simp

@[simp] theorem applyMode_standing : (applyMode s).twn.standing = s.twn.standing := by
  unfold applyMode
  split <;> simp [rejectLoad]

@[simp] theorem applyLoad_standing (start : Nat) : (applyLoad start s).twn.standing = s.twn.standing := by
  unfold applyLoad
  split <;> simp

/-- A reload point without an open hand-over leaves what the module stands on. -/
theorem reloadForm_standing (start : Nat) (closed : s.twn.open_ = none) : (reloadForm start s).twn.standing = s.twn.standing := by
  obtain ⟨t, formed, same⟩ : ∃ t : State, reloadForm start s = makeOffer start { t with twn := { t.twn with takeFrom := none } } ∧
      t.twn.standing = s.twn.standing := by
    refine ⟨_, rfl, ?_⟩
    split <;> simp [formGeneration]
  have none_ : t.twn.open_ = none := (Standing.open_eq same).trans closed
  have stays : makeOffer start { t with twn := { t.twn with takeFrom := none } } = { t with twn := { t.twn with takeFrom := none } } :=
    if_neg (by simp [none_])
  rw [formed, stays]
  exact same

end
end Sys2Proof.Safety

/-! ## SUPPORT. Lanes, epochs and changes of role (12 R355, R357 to R360, R370 to R376) -/

namespace Sys2Proof.Safety

open Sys2Proof.Machine

/-! ### Epochs (R357) -/

section
variable {s t : State}

theorem newestEpoch_congr (seen : t.twn.seen = s.twn.seen) (ports : t.twn.portEpoch = s.twn.portEpoch)
    (own : t.twn.epoch = s.twn.epoch) : newestEpoch t = newestEpoch s := by
  rw [newestEpoch, seen, ports, own, newestEpoch]

theorem oddAddr_congr (pwr : t.pwr = s.pwr) : oddAddr t = oddAddr s := by
  rw [oddAddr, address, pwr]
  rfl

theorem epochFor_congr (odd : Bool) (newest : newestEpoch t = newestEpoch s) : epochFor odd t = epochFor odd s := by
  rw [epochFor, newest, epochFor]

/-- The epoch a master takes is of its parity. -/
theorem epochFor_parity (odd : Bool) (s : State) : (epochFor odd s).getLsbD 0 = odd := by
  unfold epochFor
  split
  · cases odd <;> rfl
  · split
    next fits => exact fits
    next e _ misfit =>
      have step : (e + 2).getLsbD 0 = !(e + 1).getLsbD 0 := by
        have odd_iff (k : Word) : k.getLsbD 0 = decide (k.toNat % 2 = 1) := Nat.testBit_zero k.toNat
        rw [odd_iff, odd_iff, ← decide_not, decide_eq_decide]
        bv_omega
      rw [step]
      cases odd <;> simpa using misfit

/-- It is newer than the newest seen. -/
theorem epochFor_newer (odd : Bool) {seen : Word} (newest : newestEpoch s = some seen) : newer32 (epochFor odd s) seen = true := by
  rw [epochFor, newest]
  dsimp only
  have ahead (k : Word) (small : 0 < k.toNat ∧ k.toNat < 2 ^ 31) : newer32 (seen + k) seen = true := by
    have moved : seen + k ≠ seen := fun h => by
      have zero : k = 0 := by simpa using h
      rw [zero] at small
      exact absurd small.1 (by decide)
    simpa [newer32, moved] using small.2
  split
  · exact ahead 1 (by decide)
  · exact ahead 2 (by decide)

/-- `u` is active with an epoch of the module's parity, newer than any that it had seen in `s`. -/
def TookArm (s u : State) : Prop :=
  u.twn.role = .active ∧ ∃ e, u.twn.epoch = some e ∧ e.getLsbD 0 = oddAddr s ∧
    ∀ seen, newestEpoch s = some seen → newer32 e seen = true

end

/-! ### A takeover and an arm received (R370 to R372, R375) -/

section
variable (cause : Nat) (epoch : Word) (s : State)

theorem setLock_within (new : LockState) (seam byCmd : Bool) : KeepsBut [.thm, .tim, .ev] s (setLock new seam byCmd s) := by
  unfold setLock
  dsimp only
  split
  · exact keepsBut_refl _ _
  · refine keepsBut_trans ?_ (keepsBut_sub _ (raise_keeps _ _ _ _) rfl)
    exact keepsBut_cond (keepsBut_sub _ (keepsBut_tim s _) rfl) (keepsBut_sub _ (keepsBut_thm _ _) rfl)

theorem seamEnds_keeps : KeepsBut [.thm, .tim, .ev] s (seamEnds s) := by
  unfold seamEnds
  dsimp only
  exact keepsBut_cond (keepsBut_sub _ (keepsBut_tim s _) rfl) (setLock_within _ _ _ _)

theorem seamEnds_twn : (seamEnds s).twn = s.twn := seamEnds_keeps s .twn (by decide)

theorem becomeMaster_standing :
    (becomeMaster cause epoch s).twn.standing = { s.twn.standing with role := .active, epoch := some epoch } := by
  rw [becomeMaster, seamEnds_twn]
  rfl

theorem takeover_standing :
    (takeover cause s).twn.standing = { s.twn.standing with role := .active, epoch := some (epochFor (oddAddr s) s) } := by
  have passed := closeTo_keeps 64 (firstPeriod s) s
  have twn := passed .twn (by decide)
  have epoch : epochFor (oddAddr (closeTo 64 (firstPeriod s) s)) (closeTo 64 (firstPeriod s) s) = epochFor (oddAddr s) s := by
    rw [oddAddr_congr (passed .pwr (by decide))]
    exact epochFor_congr _ (newestEpoch_congr (by rw [twn]) (by rw [twn]) (by rw [twn]))
  unfold takeover
  dsimp only
  rw [masterSteps_standing, formHorizon_standing, sendTakeovers_standing]
  refine (becomeMaster_standing cause _ (closeTo 64 (firstPeriod s) s)).trans ?_
  rw [epoch, closeTo_standing]

theorem takeover_lost : (takeover cause s).twn.lost = s.twn.lost :=
  congrArg (fun v : Standing => v.pair.lost) (takeover_standing cause s)

theorem receiveArm_standing (o : Offer) :
    (receiveArm o s).twn.standing = { s.twn.standing with role := .active, epoch := some o.epoch } := by
  unfold receiveArm
  dsimp only
  rw [masterSteps_standing, sendTakeovers_standing]
  exact becomeMaster_standing 4 o.epoch s

variable {s}

/-- A takeover from a state that has seen the epochs of `s`. -/
theorem takeover_tookArm {t : State} (pwr : t.pwr = s.pwr) (newest : newestEpoch t = newestEpoch s) : TookArm s (takeover cause t) := by
  have took := takeover_standing cause t
  refine ⟨Standing.role_eq (t := { t.twn with role := .active, epoch := some (epochFor (oddAddr t) t) }) took,
    epochFor (oddAddr t) t, congrArg Standing.epoch took, ?_, fun seen same => epochFor_newer _ (newest.trans same)⟩
  rw [epochFor_parity, oddAddr_congr pwr]

end

/-! ### Changes of role leave the pair (R358, R359, R374) -/

section
variable (s : State)

theorem raiseAt_pair (code level : Nat) (pin : Bool) (time : DWord) (subject : Nat) (data : List Nat) :
    (raiseAt code level pin time subject data s).twn.pairView = s.twn.pairView :=
  Standing.pair_eq (raiseAt_standing s code level pin time subject data)

theorem activeAtStart_pair : (activeAtStart s).twn.pairView = s.twn.pairView := by
  have started : (activeAtStart s).twn.standing =
      (becomeMaster 0 (epochFor (oddAddr s) s) s).twn.standing := by simp [activeAtStart, roleEvent]
  exact congrArg Standing.pair (started.trans (becomeMaster_standing ..))

theorem judgeRole_pair : (judgeRole s).twn.pairView = s.twn.pairView := by
  unfold judgeRole
  split
  · rfl
  · exact raiseAt_pair ..

theorem dropTrip_twn : (dropTrip s).twn = s.twn := by
  unfold dropTrip
  split
  · rfl
  · exact raise_keeps _ _ _ _ .twn (by decide)

theorem forEach_pair {α : Type} (xs : List α) (f : α → State → State) (h : ∀ a t, (f a t).twn = t.twn) :
    (forEach xs f s).twn.pairView = s.twn.pairView :=
  List.foldlRecOn (motive := fun t : State => t.twn.pairView = s.twn.pairView) xs _ rfl
    fun t same a _ => (congrArg TwnSt.pairView (h a t)).trans same

theorem becomeStandby_pair (cause : Nat) : (becomeStandby cause s).twn.pairView = s.twn.pairView := by
  have judged := judgeRole_pair s
  unfold becomeStandby
  generalize judgeRole s = j at judged ⊢
  refine (raiseAt_pair ..).trans (Eq.trans ?_ judged)
  dsimp only
  split
  · rfl
  · rw [dropTrip_twn, forEach_pair _ _ _ ?_]
    · rfl
    · exact fun _ _ => rfl

theorem resolveRole_pair : (resolveRole s).twn.pairView = s.twn.pairView := by
  unfold resolveRole
  split
  · rfl
  · split
    · exact activeAtStart_pair s
    · split
      · rfl
      · split
        · exact becomeStandby_pair s 0
        · split
          · split
            · exact activeAtStart_pair s
            · rfl
          · split
            · rfl
            · exact activeAtStart_pair s
        · rfl

theorem handedOver_pair : (handedOver s).twn.pairView = s.twn.pairView := by
  unfold handedOver
  split
  · rfl
  · dsimp only
    split <;> rfl

theorem receiveArm_pair (o : Offer) : (receiveArm o s).twn.pairView = s.twn.pairView :=
  congrArg Standing.pair (receiveArm_standing s o)

theorem partnerRole_pair (x : Heartbeat) : (partnerRole x s).twn.pairView = s.twn.pairView := by
  unfold partnerRole
  dsimp only
  split
  · exact (handedOver_pair _).trans (resolveRole_pair s)
  · split
    · split <;> exact (receiveArm_pair _ _).trans (resolveRole_pair s)
    · exact resolveRole_pair s

end
end Sys2Proof.Safety

/-! ## SUPPORT. Lanes that go DOWN and the loss of the partner (12 R355, R370) -/

namespace Sys2Proof.Machine

/-- The other lane of the seam. -/
def otherLane (l : SeamLane) : SeamLane := if l = 0 then 1 else 0

/-- The lane goes DOWN: its state, the reliable frames that go on on the other lane, and SEAM_LINK if it was UP. -/
def laneCut (l : SeamLane) (cause : Nat) (s : State) : State :=
  let t := laneChanged (laneBefore s l) (modLane l (fun x => { x with up := false, good := 0 }) s)
  if s.twn.lanes[l].up then seamLink l false cause t else t

/-- The lane's invalid frame is counted, and its run of good frames ends. -/
def frameCounted (l : SeamLane) (s : State) : State :=
  modLane l (fun x => { x with good := 0, bad := (s.tim.tb :: laneBad s l).take 101 })
    { s with twn := { s.twn with seamBad := s.twn.seamBad + 1 } }

end Sys2Proof.Machine

namespace Sys2Proof.Safety

open Sys2Proof.Machine

section
variable (l : SeamLane) (cause : Nat) (s : State)

theorem otherLane_ne : otherLane l ≠ l := by
  revert l
  decide

theorem anyLane_eq : anyLane s = (s.twn.lanes[l].up || s.twn.lanes[otherLane l].up) := by
  have two : l = 0 ∨ l = 1 := by
    revert l
    decide
  rcases two with rfl | rfl
  · rfl
  · exact Bool.or_comm _ _

/-- The reliable frames that a change of their lane repeats write the lanes' counts only. -/
theorem laneChanged_afterHeader (before : SeamLane) :
    ∃ lanes resend, laneChanged before s = afterHeader lanes s.twn.unacked resend s.twn.goBack s := by
  unfold laneChanged
  split
  · exact seamFrames_afterHeader s _ _
  · exact ⟨s.twn.lanes, s.twn.resend, rfl⟩

@[simp] theorem laneChanged_standing (before : SeamLane) : (laneChanged before s).twn.standing = s.twn.standing := by
  simp [laneChanged]

/-! ### One lane -/

theorem laneCut_told : KeepsBut [.ev] (laneChanged (laneBefore s l) (modLane l (fun x => { x with up := false, good := 0 }) s))
    (laneCut l cause s) := by
  unfold laneCut
  dsimp only
  split
  · exact raise_keeps _ _ _ _
  · exact keepsBut_refl _ _

/-- What a lane that goes DOWN writes of the twin's state. -/
theorem laneCut_twn : ∃ lanes resend, (laneCut l cause s).twn = { s.twn with lanes := lanes, resend := resend } := by
  obtain ⟨lanes, resend, changed⟩ :=
    laneChanged_afterHeader (modLane l (fun x => { x with up := false, good := 0 }) s) (laneBefore s l)
  exact ⟨lanes, resend, ((laneCut_told l cause s) .twn (by decide)).trans (congrArg State.twn changed)⟩

theorem laneCut_keeps : KeepsBut [.twn, .ev] s (laneCut l cause s) := by
  obtain ⟨lanes, resend, changed⟩ :=
    laneChanged_afterHeader (modLane l (fun x => { x with up := false, good := 0 }) s) (laneBefore s l)
  have told := laneCut_told l cause s
  rw [changed] at told
  exact keepsBut_trans (keepsBut_sub _ (keepsBut_twn s _) rfl) (keepsBut_sub _ told rfl)

theorem laneCut_standing : (laneCut l cause s).twn.standing = (modLane l (fun x => { x with up := false, good := 0 }) s).twn.standing :=
  (congrArg TwnSt.standing ((laneCut_told l cause s) .twn (by decide))).trans (laneChanged_standing _ _)

theorem laneCut_up : (laneCut l cause s).twn.lanes[l].up = false := by
  rw [PairView.up_eq (Standing.pair_eq (laneCut_standing l cause s)), modLane_twn, vmod_get]

theorem laneCut_fenced (k : SeamLane) : (laneCut l cause s).twn.lanes[k].fenced = s.twn.lanes[k].fenced := by
  rw [PairView.fenced_eq (Standing.pair_eq (laneCut_standing l cause s)) k]
  exact vmod_leaves LaneSt.fenced s.twn.lanes l (f := fun x => { x with up := false, good := 0 }) (fun _ => rfl) k

theorem laneCut_other : (laneCut l cause s).twn.lanes[otherLane l].up = s.twn.lanes[otherLane l].up := by
  rw [PairView.up_eq (Standing.pair_eq (laneCut_standing l cause s)), modLane_twn, vmod_get_ne _ _ _ _ (otherLane_ne l)]

theorem laneCut_anyLane : anyLane (laneCut l cause s) = s.twn.lanes[otherLane l].up := by
  rw [anyLane_eq l, laneCut_up, laneCut_other, Bool.false_or]

/-! ### The last lane -/

theorem partnerLost_twn : ∃ ask, (partnerLost s).twn = { s.twn with lost := true, askPartner := ask } := by
  have ended : (seamEnds (partnerEvent false { s with twn := { s.twn with lost := true } })).twn = { s.twn with lost := true } :=
    (seamEnds_twn _).trans (raise_keeps _ _ _ _ .twn (by decide))
  unfold partnerLost
  dsimp only
  split
  · exact ⟨false, congrArg (fun t : TwnSt => { t with askPartner := false }) ended⟩
  · exact ⟨s.twn.askPartner, ended⟩

theorem partnerLost_pwr : (partnerLost s).pwr = s.pwr := by
  have ended : (seamEnds (partnerEvent false { s with twn := { s.twn with lost := true } })).pwr = s.pwr :=
    (seamEnds_keeps _ .pwr (by decide)).trans (raise_keeps _ _ _ _ .pwr (by decide))
  unfold partnerLost
  dsimp only
  split <;> exact ended

theorem partnerLost_lost : (partnerLost s).twn.lost = true := by
  obtain ⟨ask, twn⟩ := partnerLost_twn s
  rw [twn]

/-- Whether the module takes the arm when the partner is lost. -/
def TakesOnLoss (s : State) : Prop := s.twn.role = .standby ∧ s.pwr.mod = .ready ∧ s.twn.hadLane = true ∧ s.twn.mismatch = none

theorem laneDown_eq : laneDown l cause s =
    if anyLane (laneCut l cause s) || (laneCut l cause s).twn.lost then laneCut l cause s
    else if mayTake (partnerLost (laneCut l cause s)) && (partnerLost (laneCut l cause s)).twn.hadLane &&
      (partnerLost (laneCut l cause s)).twn.mismatch.isNone then takeover 1 (partnerLost (laneCut l cause s))
    else partnerLost (laneCut l cause s) := rfl

variable {l s}

/-- With the other lane UP, role and pairing stay. -/
theorem laneDown_cut (still : s.twn.lanes[otherLane l].up = true) : laneDown l cause s = laneCut l cause s := by
  rw [laneDown_eq, laneCut_anyLane, still]
  rfl

theorem laneDown_lost (down : s.twn.lanes[otherLane l].up = false) (heard : s.twn.lost = false) : laneDown l cause s =
    if mayTake s && s.twn.hadLane && s.twn.mismatch.isNone then takeover 1 (partnerLost (laneCut l cause s))
    else partnerLost (laneCut l cause s) := by
  obtain ⟨lanes, resend, cut⟩ := laneCut_twn l cause s
  obtain ⟨ask, lost⟩ := partnerLost_twn (laneCut l cause s)
  have pwr : (partnerLost (laneCut l cause s)).pwr = s.pwr := (partnerLost_pwr _).trans (laneCut_keeps l cause s .pwr (by decide))
  have may : mayTake (partnerLost (laneCut l cause s)) = mayTake s := by
    rw [mayTake, lost, cut, pwr, mayTake]
  rw [laneDown_eq, laneCut_anyLane, down, may, lost, cut, heard]
  rfl

theorem laneDown_takes (down : s.twn.lanes[otherLane l].up = false) (heard : s.twn.lost = false) (takes : TakesOnLoss s) :
    (laneDown l cause s).twn.lost = true ∧ TookArm s (laneDown l cause s) := by
  obtain ⟨standby, ready, had, matched⟩ := takes
  obtain ⟨lanes, resend, cut⟩ := laneCut_twn l cause s
  obtain ⟨ask, lost⟩ := partnerLost_twn (laneCut l cause s)
  have pwr : (partnerLost (laneCut l cause s)).pwr = s.pwr := (partnerLost_pwr _).trans (laneCut_keeps l cause s .pwr (by decide))
  have row : laneDown l cause s = takeover 1 (partnerLost (laneCut l cause s)) := by
    rw [laneDown_lost cause down heard]
    exact if_pos (by simp [mayTake, standby, ready, had, matched])
  rw [row]
  refine ⟨(takeover_lost 1 _).trans (partnerLost_lost _), takeover_tookArm 1 pwr (newestEpoch_congr ?_ ?_ ?_)⟩ <;> rw [lost, cut]

theorem laneDown_stays (down : s.twn.lanes[otherLane l].up = false) (heard : s.twn.lost = false)
    (no : s.twn.role ≠ .standby ∨ s.pwr.mod ≠ .ready ∨ s.twn.hadLane = false ∨ s.twn.mismatch.isSome = true) :
    (laneDown l cause s).twn.lost = true ∧ (laneDown l cause s).twn.role = s.twn.role ∧
      (laneDown l cause s).twn.epoch = s.twn.epoch := by
  obtain ⟨lanes, resend, cut⟩ := laneCut_twn l cause s
  obtain ⟨ask, lost⟩ := partnerLost_twn (laneCut l cause s)
  have row : laneDown l cause s = partnerLost (laneCut l cause s) := by
    rw [laneDown_lost cause down heard]
    refine if_neg fun took => ?_
    have takes : TakesOnLoss s := by simpa [mayTake, TakesOnLoss, and_assoc] using took
    obtain ⟨standby, ready, had, matched⟩ := takes
    simp [standby, ready, had, matched] at no
  rw [row, lost, cut]
  exact ⟨rfl, rfl, rfl⟩

/-- Whatever follows, the lane itself is DOWN, and fenced as it was. -/
theorem laneDown_lane : (laneDown l cause s).twn.lanes[l].up = false ∧
    (laneDown l cause s).twn.lanes[l].fenced = s.twn.lanes[l].fenced := by
  have cut : (laneCut l cause s).twn.lanes[l].up = false ∧ (laneCut l cause s).twn.lanes[l].fenced = s.twn.lanes[l].fenced :=
    ⟨laneCut_up l cause s, laneCut_fenced l cause s l⟩
  have lost : (partnerLost (laneCut l cause s)).twn.lanes = (laneCut l cause s).twn.lanes := by
    obtain ⟨ask, lost⟩ := partnerLost_twn (laneCut l cause s)
    rw [lost]
  rw [laneDown_eq]
  split
  · exact cut
  · rw [← lost] at cut
    split
    · have pair := congrArg Standing.pair (takeover_standing 1 (partnerLost (laneCut l cause s)))
      exact ⟨(PairView.up_eq (t := (partnerLost (laneCut l cause s)).twn) pair l).trans cut.1,
        (PairView.fenced_eq (t := (partnerLost (laneCut l cause s)).twn) pair l).trans cut.2⟩
    · exact cut

end

/-! ### The rows -/

section
variable {l : SeamLane} {s : State}

theorem seamLaneDown_exec (up : mainUp s = true) (twin : twinBit s = true) :
    exec (.seamLaneDown l) s = done s (laneDown l (if s.twn.lanes[l].lock then 1 else 0) s) :=
  if_neg (by simp [up, twin])

theorem seamLaneDown_cuts (up : mainUp s = true) (twin : twinBit s = true) (still : s.twn.lanes[otherLane l].up = true) :
    Runs (.seamLaneDown l) s [.twn, .ev] (fun u => u.twn.lanes[l].up = false ∧ u.twn.lanes[otherLane l].up = true ∧
      u.twn.role = s.twn.role ∧ u.twn.lost = s.twn.lost ∧ u.twn.unacked = s.twn.unacked) := by
  have row := seamLaneDown_exec (l := l) up twin
  rw [laneDown_cut _ still] at row
  obtain ⟨lanes, resend, cut⟩ := laneCut_twn l (if s.twn.lanes[l].lock then 1 else 0) s
  refine runs_of_done row (laneCut_keeps _ _ _) (by decide) ⟨laneCut_up _ _ _, (laneCut_other _ _ _).trans still, ?_⟩
  rw [cut]
  exact ⟨rfl, rfl, rfl⟩

/-! ### Invalid frames (12 R353, R356) -/

theorem seamFrameInvalid_exec (up : mainUp s = true) : exec (.seamFrameInvalid l) s =
    if ((s.tim.tb :: laneBad s l).take 101).length ≤ 100 then done s (frameCounted l s)
    else if (raiseFault 0x0A01 l.val 1 false noId (frameCounted l s)).twn.lanes[l].fenced then
      done s (raiseFault 0x0A01 l.val 1 false noId (frameCounted l s))
    else done s (laneDown l 2 (modLane l (fun x => { x with fenced := true }) (raiseFault 0x0A01 l.val 1 false noId (frameCounted l s)))) :=
  if_neg (by simp [up])

theorem frameCounted_lane : (frameCounted l s).twn.lanes[l] =
    { s.twn.lanes[l] with good := 0, bad := (s.tim.tb :: laneBad s l).take 101 } := by
  rw [frameCounted, modLane_twn, vmod_get]

theorem seamFrameInvalid_counts (up : mainUp s = true) (few : (laneBad s l).length < 100) :
    Runs (.seamFrameInvalid l) s [.twn] (fun u => u.twn.seamBad = s.twn.seamBad + 1 ∧ u.twn.lanes[l].good = 0 ∧
      u.twn.lanes[l].up = s.twn.lanes[l].up ∧ u.twn.role = s.twn.role) := by
  have row : exec (.seamFrameInvalid l) s = done s (frameCounted l s) :=
    (seamFrameInvalid_exec up).trans (if_pos (by simp; omega))
  refine runs_of_done row (keepsBut_twn s _) (by decide) ⟨rfl, ?_, ?_, rfl⟩ <;> rw [frameCounted_lane]

theorem seamFrameInvalid_fences (up : mainUp s = true) (many : 100 ≤ (laneBad s l).length) (sound : s.twn.lanes[l].fenced = false) :
    ∃ u, Becomes (.seamFrameInvalid l) s u ∧ u.twn.lanes[l].fenced = true ∧ u.twn.lanes[l].up = false := by
  have held : (raiseFault 0x0A01 l.val 1 false noId (frameCounted l s)).twn.lanes[l].fenced = false := by
    rw [raiseFault_keeps _ _ _ _ _ _ .twn (by decide), frameCounted_lane]
    exact sound
  have row : exec (.seamFrameInvalid l) s = done s (laneDown l 2 (modLane l (fun x => { x with fenced := true })
      (raiseFault 0x0A01 l.val 1 false noId (frameCounted l s)))) :=
    (seamFrameInvalid_exec up).trans ((if_neg (by simp; omega)).trans (if_neg (Bool.eq_false_iff.mp held)))
  obtain ⟨down, kept⟩ := laneDown_lane (l := l) 2
    (s := modLane l (fun x => { x with fenced := true }) (raiseFault 0x0A01 l.val 1 false noId (frameCounted l s)))
  refine ⟨_, becomes_of_done row, kept.trans ?_, down⟩
  rw [modLane_twn, vmod_get]

end
end Sys2Proof.Safety

/-! ## SUPPORT. Heartbeats sent, silence of the partner, and the planned hand-over (12 R354, R355, R358, R371 to R375) -/

namespace Sys2Proof.Machine

/-- What every HEARTBEAT_TX does: COUNT, and one frame on each lane. -/
def beaten (s : State) : State := seamBoth { s with twn := { s.twn with count := s.twn.count + 1 } }

/-- The bookkeeping that waits goes with this heartbeat. -/
def booksSent (s : State) : State := { beaten s with twn := { (beaten s).twn with dirty := 0 } }

/-- The hand-over that is open is closed, and its offer with it. -/
def handoverClosed (s : State) : State := { s with twn := { s.twn with open_ := none, offer := none } }

/-- The offer is withdrawn: the hand-over is closed, and what asked for it fails. -/
def withdrawn (a : Asked) (s : State) : State := handoverFails a (handoverClosed s)

/-- The request of a standby to its partner is over. -/
def askDropped (s : State) : State := { s with twn := { s.twn with askPartner := false } }

end Sys2Proof.Machine

namespace Sys2Proof.Safety

open Sys2Proof.Machine

section
variable {l : SeamLane} {s : State}

/-! ### Reliable frames and heartbeats sent (R354, R362) -/

theorem seamFrames_seqTx (l : SeamLane) (n : Nat) (s : State) :
    (seamFrames l n s).twn.lanes[l].seqTx = s.twn.lanes[l].seqTx + BitVec.ofNat 16 n := by
  unfold seamFrames
  split
  next zero =>
    subst zero
    exact (BitVec.add_zero _).symm
  next => exact congrArg LaneSt.seqTx (vmod_get s.twn.lanes l _)

theorem seamBoth_afterHeader (s : State) :
    ∃ lanes resend, seamBoth s = afterHeader lanes s.twn.unacked resend s.twn.goBack s := by
  obtain ⟨lanes, resend, first⟩ := seamFrames_afterHeader s 0 1
  obtain ⟨lanes', resend', second⟩ := seamFrames_afterHeader (seamFrames 0 1 s) 1 1
  refine ⟨lanes', resend', second.trans ?_⟩
  rw [first]
  rfl

theorem anyLane_congr {t : State} (same : t.twn.pairView = s.twn.pairView) : anyLane t = anyLane s := by
  have up (k : SeamLane) : t.twn.lanes[k].up = s.twn.lanes[k].up := PairView.up_eq same k
  rw [anyLane, up, up, anyLane]

theorem isMaster_congr {t : State} (same : t.twn.role = s.twn.role) : isMaster t = isMaster s := by
  rw [isMaster, same, isMaster]

theorem sendSeam_sends (o : SeamOut) (any : anyLane s = true) (matched : s.twn.mismatch = none) (room : s.twn.unacked.length < 256) :
    ∃ lanes resend, (sendSeam o s).twn = { s.twn with
      lanes := lanes, resend := resend, rcntTx := s.twn.rcntTx + 1, unacked := s.twn.unacked ++ [(s.twn.rcntTx + 1, o)] } := by
  obtain ⟨lanes, resend, sent⟩ := seamFrames_afterHeader s (reliableLane s) 1
  have open_ : sendSeam o s = { seamFrames (reliableLane s) 1 s with twn := { (seamFrames (reliableLane s) 1 s).twn with
      rcntTx := (seamFrames (reliableLane s) 1 s).twn.rcntTx + 1
      unacked := (seamFrames (reliableLane s) 1 s).twn.unacked ++ [((seamFrames (reliableLane s) 1 s).twn.rcntTx + 1, o)] } } := by
    refine if_neg ?_
    rw [anyLane] at any
    simp only [any, matched]
    simpa using room
  refine ⟨lanes, resend, ?_⟩
  rw [open_, sent]
  rfl

/-- A reliable frame, sent or not, leaves the count of heartbeats and the bookkeeping that waits. -/
theorem sendSeam_count (o : SeamOut) (s : State) : (sendSeam o s).twn.count = s.twn.count ∧ (sendSeam o s).twn.dirty = s.twn.dirty := by
  obtain ⟨lanes, resend, sent⟩ := seamFrames_afterHeader s (reliableLane s) 1
  unfold sendSeam
  dsimp only
  split
  · exact ⟨rfl, rfl⟩
  · rw [sent]
    exact ⟨rfl, rfl⟩

theorem beaten_twn (s : State) :
    ∃ lanes resend, (beaten s).twn = { s.twn with lanes := lanes, resend := resend, count := s.twn.count + 1 } := by
  obtain ⟨lanes, resend, sent⟩ := seamBoth_afterHeader { s with twn := { s.twn with count := s.twn.count + 1 } }
  exact ⟨lanes, resend, congrArg State.twn sent⟩

theorem beaten_standing (s : State) : (beaten s).twn.standing = s.twn.standing := seamBoth_standing _

theorem heartbeatTx_exec (up : mainUp s = true) (twin : twinBit s = true) : exec .heartbeatTx s =
    if isMaster s && anyLane s && s.twn.dirty ≠ 0 then done s (sendSeam (.stateMirror s.twn.dirty) (booksSent s))
    else done s (beaten s) := by
  have row : exec .heartbeatTx s = if isMaster (beaten s) && anyLane (beaten s) && (beaten s).twn.dirty ≠ 0 then
      done s (sendSeam (.stateMirror (beaten s).twn.dirty) (booksSent s))
    else done s (beaten s) := if_neg (by simp [up, twin])
  obtain ⟨lanes, resend, twn⟩ := beaten_twn s
  have any : anyLane (beaten s) = anyLane s := anyLane_congr (Standing.pair_eq (beaten_standing s))
  have master : isMaster (beaten s) = isMaster s := isMaster_congr (Standing.role_eq (beaten_standing s))
  rw [row, any, master, twn]

/-- The bookkeeping that waits is sent once, and waits no longer. -/
theorem booksSent_sends (any : anyLane s = true) (matched : s.twn.mismatch = none) (room : s.twn.unacked.length < 256) :
    (sendSeam (.stateMirror s.twn.dirty) (booksSent s)).twn.unacked = s.twn.unacked ++ [(s.twn.rcntTx + 1, .stateMirror s.twn.dirty)] := by
  obtain ⟨lanes, resend, twn⟩ := beaten_twn s
  have books : (booksSent s).twn = { s.twn with lanes := lanes, resend := resend, count := s.twn.count + 1, dirty := 0 } :=
    congrArg (fun t : TwnSt => { t with dirty := 0 }) twn
  obtain ⟨lanes', resend', frame⟩ := sendSeam_sends (s := booksSent s) (.stateMirror s.twn.dirty)
    ((anyLane_congr (Standing.pair_eq (beaten_standing s))).trans any) (by rw [books]; exact matched) (by rw [books]; exact room)
  rw [frame, books]

theorem heartbeatTx_sends (up : mainUp s = true) (twin : twinBit s = true) :
    ∃ u, Becomes .heartbeatTx s u ∧ u.twn.count = s.twn.count + 1 ∧
      (isMaster s = true → anyLane s = true → s.twn.dirty ≠ 0 → s.twn.mismatch = none → s.twn.unacked.length < 256 →
        u.twn.dirty = 0 ∧ u.twn.unacked = s.twn.unacked ++ [(s.twn.rcntTx + 1, .stateMirror s.twn.dirty)]) ∧
      ((isMaster s = false ∨ s.twn.dirty = 0) → u.twn.dirty = s.twn.dirty ∧ u.twn.unacked = s.twn.unacked) := by
  have row := heartbeatTx_exec up twin
  obtain ⟨lanes, resend, twn⟩ := beaten_twn s
  by_cases carries : (isMaster s && anyLane s && s.twn.dirty ≠ 0) = true
  · rw [if_pos carries] at row
    obtain ⟨count, clean⟩ := sendSeam_count (.stateMirror s.twn.dirty) (booksSent s)
    refine ⟨_, becomes_of_done row, count.trans (congrArg TwnSt.count twn), fun _ any _ matched room =>
      ⟨clean, booksSent_sends any matched room⟩, fun no => ?_⟩
    simp only [Bool.and_eq_true, decide_eq_true_eq] at carries
    obtain ⟨⟨master, -⟩, dirty⟩ := carries
    rcases no with no | no
    · exact absurd (master.symm.trans no) (by decide)
    · exact absurd no dirty
  · rw [if_neg carries] at row
    have kept : (beaten s).twn.dirty = s.twn.dirty ∧ (beaten s).twn.unacked = s.twn.unacked := by
      rw [twn]
      exact ⟨rfl, rfl⟩
    exact ⟨_, becomes_of_done row, congrArg TwnSt.count twn, fun master any dirty => absurd (by simpa [master, any] using dirty) carries,
      fun _ => kept⟩

theorem seamRetxTimeout_repeats (up : mainUp s = true) (any : anyLane s = true) (matched : s.twn.mismatch = none) :
    Runs .seamRetxTimeout s [.twn] (fun u => u.twn.unacked = s.twn.unacked ∧ u.twn.rcntTx = s.twn.rcntTx ∧
      u.twn.lanes[reliableLane s].seqTx = s.twn.lanes[reliableLane s].seqTx + BitVec.ofNat 16 s.twn.unacked.length) := by
  have row : exec .seamRetxTimeout s = done s (seamFrames (reliableLane s) s.twn.unacked.length s) :=
    if_neg (by simp [up, any, matched])
  obtain ⟨lanes, resend, sent⟩ := seamFrames_afterHeader s (reliableLane s) s.twn.unacked.length
  refine runs_of_done row ?_ (by decide) ⟨?_, ?_, seamFrames_seqTx _ _ _⟩
  · rw [sent]
    exact afterHeader_keeps _ _ _ _ _
  · rw [sent]
    rfl
  · rw [sent]
    rfl

/-! ### Locks, the firmware's count and the silence of the partner (R353, R371, R372) -/

theorem seamLaneLock_notes (g : Bool) :
    (mainUp s = true → Runs (.seamLaneLock l g) s [.twn] (fun u =>
      u.twn = { s.twn with lanes := vmod s.twn.lanes l (fun x => { x with lock := g }) })) ∧
    (mainUp s = false → Idles (.seamLaneLock l g) s) :=
  ⟨fun up => runs_of_done (if_pos up) (keepsBut_twn s _) (by decide) rfl,
    fun down => idles_of_done (if_neg (Bool.eq_false_iff.mp down))⟩

theorem fwCountTick_counts (up : mainUp s = true) (image : s.pwr.imageRuns = true) (going : s.qm.fwHalt = false) :
    Runs .fwCountTick s [.twn] (fun u => u.twn = { s.twn with fwCount := s.twn.fwCount + 1 }) :=
  runs_of_done (if_pos (by simp [up, image, going])) (keepsBut_twn s _) (by decide) rfl

theorem fwCountTick_idles (no : mainUp s = false ∨ s.pwr.imageRuns = false ∨ s.qm.fwHalt = true) : Idles .fwCountTick s :=
  idles_of_done (if_neg (by rcases no with no | no | no <;> simp [no]))

theorem fwSilence_takes (may : mayTake s = true) (pair : paired s = true) (any : anyLane s = true) :
    ∃ u, Becomes .fwSilence s u ∧ TookArm s u :=
  ⟨_, becomes_of_done (if_pos (by simp [may, pair, any])), takeover_tookArm 2 rfl rfl⟩

theorem fwSilence_idles (no : mayTake s = false ∨ paired s = false ∨ anyLane s = false) : Idles .fwSilence s :=
  idles_of_done (if_neg (by rcases no with no | no | no <;> simp [no]))

theorem nodeWitness_takes (may : mayTake s = true) (down : anyLane s = false) (never : s.twn.hadLane = false) (gone : otherGone s = true) :
    ∃ u, Becomes .nodeWitness s u ∧ TookArm s u :=
  ⟨_, becomes_of_done (if_pos (by simp [may, down, never, gone])), takeover_tookArm 3 rfl rfl⟩

theorem nodeWitness_idles (no : mayTake s = false ∨ anyLane s = true ∨ s.twn.hadLane = true ∨ otherGone s = false) :
    Idles .nodeWitness s :=
  idles_of_done (if_neg (by rcases no with no | no | no | no <;> simp [no]))

/-! ### The planned hand-over (R373 to R376) -/

/-- Every PENDING command of the opcode has its final reply. -/
theorem finishOp_held (op : Nat) (r : Reply) (s : State) {p : Pend} (pending : p ∈ s.cmd.pend) (same : p.op.toNat = op) :
    { op := p.op, tag := p.tag, reply := r } ∈ (finishOp op r s).cmd.held :=
  List.mem_append_right _ (List.mem_map_of_mem (List.mem_filter.mpr ⟨pending, by simpa using same⟩))

theorem handoverFails_twn (a : Asked) (s : State) : (handoverFails a s).twn = s.twn := by
  cases a
  case reset force => cases force <;> rfl
  all_goals rfl

theorem handoverFails_pwr (a : Asked) (s : State) :
    (handoverFails a s).pwr.mod = s.pwr.mod ∧ (handoverFails a s).pwr.prefBank = s.pwr.prefBank := by
  cases a
  case reset force => cases force <;> exact ⟨rfl, rfl⟩
  all_goals exact ⟨rfl, rfl⟩

theorem withdrawn_twn (a : Asked) (s : State) : (withdrawn a s).twn = { s.twn with open_ := none, offer := none } :=
  handoverFails_twn a (handoverClosed s)

theorem withdrawn_pwr (a : Asked) (s : State) :
    (withdrawn a s).pwr.mod = s.pwr.mod ∧ (withdrawn a s).pwr.prefBank = s.pwr.prefBank := handoverFails_pwr a (handoverClosed s)

section
variable {h : Hdr} {idx : Word} {t : State} (a : Admits h 0x0A01 0 .none true s idx t)
include a

theorem twinHandover_busy (busy : t.twn.open_.isSome = true ∨ t.twn.askPartner = true) :
    Replies (.twinHandover h) h 0x0A01 idx s t { status := .busy } [] (fun _ => True) :=
  replies_unchanged a rfl (if_pos (by simpa using busy))

variable (closed : t.twn.open_ = none) (quiet : t.twn.askPartner = false)
include closed quiet

theorem twinHandover_offers (master : isMaster t = true) (may : mayOffer t = true) :
    Pends (.twinHandover h) h 0x0A01 idx s t (pendOf h 0x0A01 .none t.tim.tb 0) [.twn]
      (fun u => u.twn = { t.twn with open_ := some .command }) :=
  pends_of a rfl ((if_neg (by simp [closed, quiet])).trans ((if_pos master).trans (if_pos may))) rfl rfl rfl rfl
    (keepsBut_sub _ (keepsBut_twn t _) rfl) rfl

theorem twinHandover_asks (slave : isMaster t = false) (pair : paired t = true) (ready : standbyReady t = true)
    (horizon : horizonOk t = true) : Pends (.twinHandover h) h 0x0A01 idx s t (pendOf h 0x0A01 .none t.tim.tb 0) [.twn]
      (fun u => u.twn = { t.twn with askPartner := true }) :=
  pends_of a rfl
    ((if_neg (by simp [closed, quiet])).trans ((if_neg (Bool.eq_false_iff.mp slave)).trans (if_pos (by simp [pair, ready, horizon]))))
    rfl rfl rfl rfl (keepsBut_sub _ (keepsBut_twn t _) rfl) rfl

theorem twinHandover_refuses (no : (isMaster t = true ∧ mayOffer t = false) ∨
      (isMaster t = false ∧ (paired t = false ∨ standbyReady t = false ∨ horizonOk t = false))) :
    Replies (.twinHandover h) h 0x0A01 idx s t { status := .wrongState } [] (fun _ => True) := by
  refine replies_unchanged a rfl ((if_neg (by simp [closed, quiet])).trans ?_)
  rcases no with ⟨master, no⟩ | ⟨slave, no⟩
  · exact (if_pos master).trans (if_neg (Bool.eq_false_iff.mp no))
  · exact (if_neg (Bool.eq_false_iff.mp slave)).trans (if_neg (by rcases no with no | no | no <;> simp [no]))

end

/-- With no offer out, only a request to the partner can be withdrawn. -/
theorem handoverWithdraw_unoffered (none_ : s.twn.open_ = none ∨ s.twn.offer = none) : exec .handoverWithdraw s =
    if s.twn.askPartner then done s (finishOp 0x0A01 (reply .wrongState) (askDropped s)) else done s s := by
  show execHandoverWithdraw s = _
  unfold execHandoverWithdraw
  rcases none_ with none_ | none_
  · rw [none_]
    rfl
  · rw [none_]
    cases s.twn.open_ <;> rfl

theorem handoverWithdraw_idles (none_ : s.twn.open_ = none ∨ s.twn.offer = none) (quiet : s.twn.askPartner = false) :
    Idles .handoverWithdraw s :=
  idles_of_done ((handoverWithdraw_unoffered none_).trans (if_neg (Bool.eq_false_iff.mp quiet)))

theorem handoverWithdraw_unasks (none_ : s.twn.open_ = none ∨ s.twn.offer = none) (asks : s.twn.askPartner = true) :
    Runs .handoverWithdraw s [.twn, .cmd] (fun u => u.twn = { s.twn with askPartner := false } ∧
      ∀ p ∈ s.cmd.pend, p.op = 0x0A01 →
        ∃ r ∈ u.cmd.held, r.tag = p.tag ∧ r.op = p.op ∧ r.reply = { status := .wrongState }) := by
  refine runs_of_done ((handoverWithdraw_unoffered none_).trans (if_pos asks)) ?_ (by decide) ⟨rfl, fun p pending op => ?_⟩
  · exact keepsBut_trans (keepsBut_sub _ (keepsBut_twn s _) rfl) (keepsBut_sub _ (finishAll_keeps _ _ _) rfl)
  · exact ⟨_, finishOp_held 0x0A01 (reply .wrongState) (askDropped s) pending (by rw [op]; rfl), rfl, rfl, rfl⟩

section
variable {a : Asked} {o : Offer} (asked : s.twn.open_ = some a) (offered : s.twn.offer = some o)
include asked offered

theorem handoverWithdraw_exec : exec .handoverWithdraw s =
    if isMaster s && s.pwr.mod == .ready then
      doneWin s (writeAll s.win (modeWrites (withdrawn a s))) (reloadForm o.at_.toNat (withdrawn a s))
    else done s (withdrawn a s) := by
  have row : exec .handoverWithdraw s = if isMaster (withdrawn a s) && (withdrawn a s).pwr.mod == .ready then
      doneWin s (writeAll s.win (modeWrites (withdrawn a s))) (reloadForm o.at_.toNat (withdrawn a s))
    else done s (withdrawn a s) := by
    show execHandoverWithdraw s = _
    unfold execHandoverWithdraw
    rw [asked, offered]
    rfl
  have role : (withdrawn a s).twn.role = s.twn.role :=
    (congrArg TwnSt.role (withdrawn_twn a s)).trans rfl
  rw [row, (withdrawn_pwr a s).1, isMaster_congr role]

theorem handoverWithdraw_fails (no : isMaster s = false ∨ s.pwr.mod ≠ .ready) :
    ∃ u, Becomes .handoverWithdraw s u ∧ u.twn.open_ = none ∧ u.twn.offer = none ∧ u.pwr.prefBank = s.pwr.prefBank ∧
      (a = .command → ∀ p ∈ s.cmd.pend, p.op = 0x0A01 →
        ∃ r ∈ u.cmd.held, r.tag = p.tag ∧ r.reply = { status := .wrongState }) ∧
      (∀ k, a = .activate k → ∀ p ∈ s.cmd.pend, p.op = 0x0A03 →
        ∃ r ∈ u.cmd.held, r.tag = p.tag ∧ r.reply = { status := .wrongState }) := by
  have row := handoverWithdraw_exec asked offered
  rw [if_neg (by rcases no with no | no <;> simp [no])] at row
  have twn := withdrawn_twn a s
  refine ⟨_, becomes_of_done row, congrArg TwnSt.open_ twn, congrArg TwnSt.offer twn, (withdrawn_pwr a s).2, ?_, ?_⟩
  · rintro rfl p pending op
    exact ⟨_, finishOp_held 0x0A01 (reply .wrongState) (handoverClosed s) pending (by rw [op]; rfl), rfl, rfl⟩
  · rintro k rfl p pending op
    exact ⟨_, finishOp_held 0x0A03 (reply .wrongState) (handoverClosed s) pending (by rw [op]; rfl), rfl, rfl⟩

theorem handoverWithdraw_forms (master : isMaster s = true) (ready : s.pwr.mod = .ready) :
    ∃ u, exec .handoverWithdraw s = .next (settle u) ∧ u.twn.open_ = none ∧ u.twn.offer = none ∧ isMaster u = true := by
  have row := handoverWithdraw_exec asked offered
  rw [if_pos (by simp [master, ready])] at row
  have twn := withdrawn_twn a s
  have same := (reloadForm_standing (withdrawn a s) o.at_.toNat (congrArg TwnSt.open_ twn)).trans
    (congrArg TwnSt.standing twn)
  generalize reloadForm o.at_.toNat (withdrawn a s) = f at row same
  have role : f.twn.role = s.twn.role := (Standing.role_eq same).trans rfl
  exact ⟨_, row, Standing.open_eq same, Standing.offer_eq same, (isMaster_congr role).trans master⟩

end
end
end Sys2Proof.Safety

/-! ## SUPPORT. Heartbeats received (12 R353, R355 to R360, R370, R374) -/

namespace Sys2Proof.Machine

/-- What a HEARTBEAT tells of its lane, whatever it carries. -/
def laneTold (l : SeamLane) (s : State) : State := laneChanged (laneBefore s l) (laneHeard l (laneHealed l s))

/-- The heartbeat is a copy of the one held, or older. -/
def heldAlready (s : State) (x : Heartbeat) : Bool := !s.twn.lost && s.twn.partner.any (fun p => !newer32 x.count p.count)

/-- A partner that was lost is heard again. -/
def partnerReturned (s : State) : State := if s.twn.lost && s.twn.partner.isSome then partnerEvent true s else s

/-- COUNT gone back: the partner has restarted, and the series begin anew. -/
def seriesRestarted (x : Heartbeat) (s : State) : State :=
  if s.twn.partner.any (fun h => !newer32 x.count h.count) then
    { s with twn := { s.twn with rcntTx := 0, rcntRx := 0, resend := false, goBack := none, unacked := [] } }
  else s

/-- The frame of a HEARTBEAT that is held. -/
def heartbeatHeld (hdr : SeamHdr) (x : Heartbeat) (s : State) : State := seamPlain hdr (seriesRestarted x (partnerReturned s))

/-- The partner is the one of this heartbeat, with the newest epoch that it tells. -/
def partnerHeard (seen : Option Word) (x : Heartbeat) (s : State) : State :=
  { s with twn := { s.twn with partner := some x, lost := false, seen := seen } }

/-- What a heartbeat that is held does before the partner's role is judged. -/
def heartbeatTaken (hdr : SeamHdr) (x : Heartbeat) (s : State) : State :=
  let newVer := s.twn.lost || s.twn.partner.all (fun h => h.seamVer ≠ x.seamVer || h.seamMin ≠ x.seamMin)
  let t := heartbeatHeld hdr x s
  let seen := if x.role.toNat = 2 || x.epoch ≠ 0 then newestOf [t.twn.seen, some x.epoch] else t.twn.seen
  let t := partnerHeard seen x t
  let t := if newVer && !seamMatches t x then mismatchEvent x 2 t else t
  onPairing (!paired s) x (seenReleased x (seamTime x t))

/-- The partner is refused for good (R359). -/
def partnerRefused (l : SeamLane) (x : Heartbeat) (c : BitVec 2) (s : State) : State :=
  mismatchEvent x c.toNat { laneTold l s with twn := { (laneTold l s).twn with mismatch := some c } }

/-- A HEARTBEAT of an active partner that hands the arm over (R374). -/
def HandsOver (x : Heartbeat) : Prop := x.role = 2 ∧ x.handoverAt ≠ 0 ∧ newer32 x.handoverEpoch x.epoch = true

end Sys2Proof.Machine

namespace Sys2Proof.Safety

open Sys2Proof.Machine

section
variable (l : SeamLane) (s : State)

/-! ### The lane -/

theorem laneHealed_twn : ∃ lanes, (laneHealed l s).twn = { s.twn with lanes := lanes } ∧ lanes[l].good = s.twn.lanes[l].good := by
  unfold laneHealed
  split
  · refine ⟨_, (endFault_keeps _ _ _ .twn (by decide)).trans (modLane_twn _ _ _), ?_⟩
    rw [vmod_get]
  · exact ⟨s.twn.lanes, rfl, rfl⟩

theorem laneHealed_pwr : (laneHealed l s).pwr = s.pwr := by
  unfold laneHealed
  split
  · exact endFault_keeps _ _ _ .pwr (by decide)
  · rfl

theorem laneHeard_twn : ∃ lanes had, (laneHeard l s).twn = { s.twn with lanes := lanes, hadLane := had } ∧
    (99 ≤ s.twn.lanes[l].good → lanes[l].up = true) := by
  have up : 99 ≤ s.twn.lanes[l].good → (vmod s.twn.lanes l (fun x =>
      { x with lock := true, good := min 100 (x.good + 1), heardAt := s.tim.tb, up := x.up || x.good ≥ 99 }))[l].up = true := by
    intro long
    rw [vmod_get]
    show (s.twn.lanes[l].up || decide (s.twn.lanes[l].good ≥ 99)) = true
    rw [decide_eq_true long, Bool.or_true]
  unfold laneHeard
  dsimp only
  split
  · exact ⟨_, true, raise_keeps _ _ _ _ .twn (by decide), up⟩
  · exact ⟨_, s.twn.hadLane, rfl, up⟩

theorem laneHeard_pwr : (laneHeard l s).pwr = s.pwr := by
  unfold laneHeard
  dsimp only
  split
  · exact raise_keeps _ _ _ _ .pwr (by decide)
  · rfl

theorem laneTold_pwr : (laneTold l s).pwr = s.pwr := by
  obtain ⟨lanes, resend, changed⟩ := laneChanged_afterHeader (laneHeard l (laneHealed l s)) (laneBefore s l)
  rw [laneTold, changed]
  exact (laneHeard_pwr l _).trans (laneHealed_pwr l s)

theorem laneTold_twn : ∃ lanes resend had, (laneTold l s).twn = { s.twn with lanes := lanes, resend := resend, hadLane := had } := by
  obtain ⟨lanes, resend, changed⟩ := laneChanged_afterHeader (laneHeard l (laneHealed l s)) (laneBefore s l)
  obtain ⟨_, had, heard, -⟩ := laneHeard_twn l (laneHealed l s)
  obtain ⟨_, healed, -⟩ := laneHealed_twn l s
  refine ⟨lanes, resend, had, ?_⟩
  rw [laneTold, changed, afterHeader, heard, healed]

/-- What the lane's frames do not touch. -/
theorem laneTold_same : (laneTold l s).twn.mismatch = s.twn.mismatch ∧ (laneTold l s).twn.partner = s.twn.partner ∧
    (laneTold l s).twn.lost = s.twn.lost ∧ (laneTold l s).twn.role = s.twn.role ∧ (laneTold l s).twn.open_ = s.twn.open_ := by
  obtain ⟨lanes, resend, had, twn⟩ := laneTold_twn l s
  rw [twn]
  exact ⟨rfl, rfl, rfl, rfl, rfl⟩

/-- After 100 valid heartbeats the lane is UP (R355). -/
theorem laneTold_up (long : 99 ≤ s.twn.lanes[l].good) : (laneTold l s).twn.lanes[l].up = true := by
  obtain ⟨heardLanes, had, heard, up⟩ := laneHeard_twn l (laneHealed l s)
  obtain ⟨healedLanes, healed, good⟩ := laneHealed_twn l s
  rw [laneTold, PairView.up_eq (Standing.pair_eq (laneChanged_standing (laneHeard l (laneHealed l s)) (laneBefore s l))), heard]
  refine up ?_
  rw [healed, good]
  exact long

/-! ### Headers, time and pairing -/

theorem seamAgain_standing (ack : Half) : (seamAgain ack s).twn.standing = s.twn.standing := seamFrames_standing _ _ _

theorem seamGoBack_standing (ack : Half) : (seamGoBack ack s).twn.standing = s.twn.standing := by
  unfold seamGoBack
  split
  · rfl
  · exact seamAgain_standing s ack

theorem seamAck_standing (ack : Half) : (seamAck ack s).twn.standing = s.twn.standing := by
  unfold seamAck
  split <;> rfl

theorem seamPlain_standing (h : SeamHdr) : (seamPlain h s).twn.standing = s.twn.standing := by
  have common : (seamCommon h s).twn.standing = s.twn.standing := by
    unfold seamCommon
    dsimp only
    split
    · exact (seamGoBack_standing _ _).trans (seamAck_standing _ _)
    · exact seamAck_standing _ _
  unfold seamPlain
  dsimp only
  split <;> exact common

theorem seamPlain_pwr (h : SeamHdr) : (seamPlain h s).pwr = s.pwr := by
  obtain ⟨lanes, unacked, resend, goBack, plain⟩ := seamPlain_afterHeader h s
  rw [plain]
  rfl

theorem setLock_standing (new : LockState) (seam byCmd : Bool) : (setLock new seam byCmd s).twn.standing = s.twn.standing :=
  congrArg TwnSt.standing (setLock_within _ _ _ _ .twn (by decide))

theorem setLock_pwr (new : LockState) (seam byCmd : Bool) : (setLock new seam byCmd s).pwr = s.pwr :=
  setLock_within _ _ _ _ .pwr (by decide)

theorem seamEnds_standing : (seamEnds s).twn.standing = s.twn.standing := congrArg TwnSt.standing (seamEnds_twn s)

theorem seamTime_standing (x : Heartbeat) : (seamTime x s).twn.standing = s.twn.standing := by
  unfold seamTime
  dsimp only
  split
  · rfl
  · split
    · split
      · exact (seamEnds_standing _).trans rfl
      · rfl
    · split
      · rfl
      · split <;> exact (setLock_standing _ _ _ _).trans rfl

theorem seamTime_pwr (x : Heartbeat) : (seamTime x s).pwr = s.pwr := by
  unfold seamTime
  dsimp only
  split
  · rfl
  · split
    · split
      · exact (seamEnds_keeps _ .pwr (by decide)).trans rfl
      · rfl
    · split
      · rfl
      · split <;> exact (setLock_pwr _ _ _ _).trans rfl

theorem seenReleased_twn (x : Heartbeat) : (seenReleased x s).twn = s.twn ∧ (seenReleased x s).pwr = s.pwr := by
  unfold seenReleased
  dsimp only
  split
  · exact ⟨rfl, rfl⟩
  · exact List.foldlRecOn (motive := fun t : State => t.twn = s.twn ∧ t.pwr = s.pwr) _ _ ⟨rfl, rfl⟩ fun t same _ _ => same

theorem onPairing_standing (fresh : Bool) (x : Heartbeat) : (onPairing fresh x s).twn.standing = s.twn.standing := by
  unfold onPairing
  dsimp only
  (repeat' split) <;> simp <;> rfl

theorem onPairing_pwr (fresh : Bool) (x : Heartbeat) : (onPairing fresh x s).pwr = s.pwr := by
  have sent (o : SeamOut) (t : State) : (sendSeam o t).pwr = t.pwr := sendSeam_keeps o t .pwr (by decide)
  unfold onPairing
  dsimp only
  (repeat' split) <;> simp [sent]

/-! ### The partner's heartbeat is held (R358 to R360) -/

theorem partnerReturned_keeps : KeepsBut [.ev] s (partnerReturned s) := keepsBut_ite (raise_keeps _ _ _ _) (keepsBut_refl _ _)

theorem seriesRestarted_keeps (x : Heartbeat) : KeepsBut [.twn] s (seriesRestarted x s) :=
  keepsBut_ite (keepsBut_twn s _) (keepsBut_refl _ _)

theorem seriesRestarted_standing (x : Heartbeat) : (seriesRestarted x s).twn.standing = s.twn.standing := by
  unfold seriesRestarted
  split <;> rfl

theorem heartbeatHeld_standing (hdr : SeamHdr) (x : Heartbeat) : (heartbeatHeld hdr x s).twn.standing = s.twn.standing := by
  rw [heartbeatHeld, seamPlain_standing, seriesRestarted_standing]
  exact congrArg TwnSt.standing (partnerReturned_keeps s .twn (by decide))

theorem heartbeatHeld_pwr (hdr : SeamHdr) (x : Heartbeat) : (heartbeatHeld hdr x s).pwr = s.pwr :=
  (seamPlain_pwr _ hdr).trans ((seriesRestarted_keeps _ x .pwr (by decide)).trans (partnerReturned_keeps s .pwr (by decide)))

theorem heartbeatTaken_twn (hdr : SeamHdr) (x : Heartbeat) :
    (heartbeatTaken hdr x s).twn.standing = { s.twn.standing with pair := { s.twn.pairView with partner := some x, lost := false } } ∧
    (heartbeatTaken hdr x s).pwr = s.pwr := by
  have standing := heartbeatHeld_standing s hdr x
  have heard (seen : Option Word) : (partnerHeard seen x (heartbeatHeld hdr x s)).twn.standing =
      { s.twn.standing with pair := { s.twn.pairView with partner := some x, lost := false } } :=
    congrArg (fun v : Standing => { v with pair := { v.pair with partner := some x, lost := false } }) standing
  have said (b : Bool) (t : State) : KeepsBut [.ev] t (if b then mismatchEvent x 2 t else t) :=
    keepsBut_ite (raise_keeps _ _ _ _) (keepsBut_refl _ _)
  unfold heartbeatTaken
  dsimp only
  rw [onPairing_standing, onPairing_pwr, (seenReleased_twn _ x).1, (seenReleased_twn _ x).2, seamTime_standing, seamTime_pwr,
    said _ _ .twn (by decide), said _ _ .pwr (by decide)]
  exact ⟨heard _, heartbeatHeld_pwr s hdr x⟩

theorem takeHeartbeat_pair (hdr : SeamHdr) (x : Heartbeat) :
    (takeHeartbeat hdr x s).twn.pairView = { s.twn.pairView with partner := some x, lost := false } :=
  (partnerRole_pair _ x).trans (congrArg Standing.pair (heartbeatTaken_twn s hdr x).1)

variable {s}

/-- A standby that is ready takes the arm that is handed over, with the epoch offered. -/
theorem partnerRole_receives {x : Heartbeat} (standby : s.twn.role = .standby) (ready : s.pwr.mod = .ready) (closed : s.twn.open_ = none)
    (hands : HandsOver x) : (partnerRole x s).twn.standing = { s.twn.standing with role := .active, epoch := some x.handoverEpoch } := by
  obtain ⟨active, at_, newer⟩ := hands
  have settled : resolveRole s = s := if_pos (by rw [standby]; rfl)
  unfold partnerRole
  dsimp only
  rw [settled, if_neg (by simp [closed]), if_pos (by simpa [mayTake, standby, ready, active, newer] using at_)]
  split <;> exact receiveArm_standing s _

theorem takeHeartbeat_receives (hdr : SeamHdr) {x : Heartbeat} (standby : s.twn.role = .standby) (ready : s.pwr.mod = .ready)
    (closed : s.twn.open_ = none) (hands : HandsOver x) :
    (takeHeartbeat hdr x s).twn.role = .active ∧ (takeHeartbeat hdr x s).twn.epoch = some x.handoverEpoch := by
  obtain ⟨taken, pwr⟩ := heartbeatTaken_twn s hdr x
  have received := partnerRole_receives ((congrArg Standing.role taken).trans standby) ((congrArg PwrSt.mod pwr).trans ready)
    ((congrArg Standing.open_ taken).trans closed) hands
  exact ⟨congrArg Standing.role received, congrArg Standing.epoch received⟩

end

/-! ### The row -/

section
variable {l : SeamLane} {s : State} (up : mainUp s = true) (twin : twinBit s = true)
  (heard : s.twn.lanes[l].fenced = true → (laneBad s l).length ≤ 100) (h : SeamHdr) (x : Heartbeat)
include up twin heard

theorem heartbeatRx_exec : exec (.heartbeatRx l h x) s =
    if s.twn.mismatch.isSome then done s (laneTold l s)
    else match pairingCause s x with
      | some c => done s (resolveRole (partnerRefused l x c s))
      | none => if heldAlready s x then done s (seamPlain h (laneTold l s)) else done s (takeHeartbeat h x (laneTold l s)) := by
  have row : exec (.heartbeatRx l h x) s = if (laneTold l s).twn.mismatch.isSome then done s (laneTold l s)
    else match pairingCause (laneTold l s) x with
      | some c => done s (resolveRole (partnerRefused l x c s))
      | none =>
        if heldAlready (laneTold l s) x then done s (seamPlain h (laneTold l s)) else done s (takeHeartbeat h x (laneTold l s)) := by
    refine if_neg ?_
    simp only [up, twin, Bool.not_true, Bool.false_or, Bool.and_eq_true, decide_eq_true_eq, not_and, not_lt]
    exact heard
  obtain ⟨mismatch, partner, lost, -, -⟩ := laneTold_same l s
  have held : heldAlready (laneTold l s) x = heldAlready s x := by rw [heldAlready, lost, partner, heldAlready]
  have cause : pairingCause (laneTold l s) x = pairingCause s x := by rw [pairingCause, address, laneTold_pwr, pairingCause, address]
  rw [row, held, cause, mismatch]

theorem heartbeatRx_mismatched (refused : s.twn.mismatch.isSome = true) :
    ∃ u, Becomes (.heartbeatRx l h x) s u ∧ u.twn.partner = s.twn.partner ∧ u.twn.role = s.twn.role := by
  obtain ⟨-, partner, -, role, -⟩ := laneTold_same l s
  exact ⟨_, becomes_of_done ((heartbeatRx_exec up twin heard h x).trans (if_pos refused)), partner, role⟩

variable (matched : s.twn.mismatch = none)
include matched

theorem heartbeatRx_refuses (wrong : x.address ≠ address s ^^^ 1 ∨ x.twin = false) :
    ∃ u, Becomes (.heartbeatRx l h x) s u ∧ u.twn.mismatch.isSome = true ∧ u.twn.partner = s.twn.partner := by
  obtain ⟨c, cause⟩ : ∃ c, pairingCause s x = some c := by
    unfold pairingCause
    rcases wrong with wrong | wrong
    · exact ⟨0, if_pos wrong⟩
    · rw [wrong]
      split
      · exact ⟨0, rfl⟩
      · exact ⟨1, rfl⟩
  have row : exec (.heartbeatRx l h x) s = done s (resolveRole (partnerRefused l x c s)) := by
    rw [heartbeatRx_exec up twin heard h x, matched, cause]
    rfl
  have told : (partnerRefused l x c s).twn = { (laneTold l s).twn with mismatch := some c } := raise_keeps _ _ _ _ .twn (by decide)
  have pair := (resolveRole_pair (partnerRefused l x c s)).trans (congrArg TwnSt.pairView told)
  generalize resolveRole (partnerRefused l x c s) = u at row pair
  obtain ⟨-, partner, -, -, -⟩ := laneTold_same l s
  exact ⟨_, becomes_of_done row, congrArg (fun v : PairView => v.mismatch.isSome) pair, (congrArg PairView.partner pair).trans partner⟩

variable (partner : x.address = address s ^^^ 1) (twinned : x.twin = true)
include partner twinned

theorem heartbeatRx_partner : exec (.heartbeatRx l h x) s =
    if heldAlready s x then done s (seamPlain h (laneTold l s)) else done s (takeHeartbeat h x (laneTold l s)) := by
  have cause : pairingCause s x = none := by simp [pairingCause, partner, twinned]
  rw [heartbeatRx_exec up twin heard h x, matched, cause]
  rfl

theorem heartbeatRx_discards (copy : heldAlready s x = true) :
    ∃ u, Becomes (.heartbeatRx l h x) s u ∧ u.twn.partner = s.twn.partner ∧ u.twn.role = s.twn.role := by
  have row := (heartbeatRx_partner up twin heard h x matched partner twinned).trans (if_pos copy)
  obtain ⟨-, held, -, role, -⟩ := laneTold_same l s
  have plain := seamPlain_standing (laneTold l s) h
  exact ⟨_, becomes_of_done row, (congrArg (fun v : Standing => v.pair.partner) plain).trans held, (Standing.role_eq plain).trans role⟩

variable (new : heldAlready s x = false)
include new

theorem heartbeatRx_holds : ∃ u, Becomes (.heartbeatRx l h x) s u ∧ u.twn.partner = some x ∧ u.twn.lost = false ∧
    (99 ≤ s.twn.lanes[l].good → u.twn.lanes[l].up = true) := by
  have row := (heartbeatRx_partner up twin heard h x matched partner twinned).trans (if_neg (Bool.eq_false_iff.mp new))
  have pair := takeHeartbeat_pair (laneTold l s) h x
  exact ⟨_, becomes_of_done row, congrArg PairView.partner pair, congrArg PairView.lost pair,
    fun long => (congrArg (fun v : PairView => (v.lanes l).1) pair).trans (laneTold_up l s long)⟩

theorem heartbeatRx_receives (standby : s.twn.role = .standby) (ready : s.pwr.mod = .ready) (closed : s.twn.open_ = none)
    (hands : HandsOver x) : ∃ u, Becomes (.heartbeatRx l h x) s u ∧ u.twn.role = .active ∧ u.twn.epoch = some x.handoverEpoch := by
  have row := (heartbeatRx_partner up twin heard h x matched partner twinned).trans (if_neg (Bool.eq_false_iff.mp new))
  obtain ⟨-, -, -, role, open_⟩ := laneTold_same l s
  exact ⟨_, becomes_of_done row, takeHeartbeat_receives h (role.trans standby) ((congrArg PwrSt.mod (laneTold_pwr l s)).trans ready)
    (open_.trans closed) hands⟩

end
end Sys2Proof.Safety

/-! ## TIER 2. Seam lanes, heartbeats and who takes the arm -/

namespace Sys2Proof.Safety

open Sys2Proof.Machine

section
variable {l : SeamLane} {s : State}

/-- Without a twin, or with the main domain down, the seam's rows do nothing. -/
theorem seam_idles (l : SeamLane) (shut : mainUp s = false ∨ twinBit s = false) :
    Idles (.seamLaneDown l) s ∧ Idles .heartbeatTx s ∧ ∀ h x, Idles (.heartbeatRx l h x) s := by
  have closed : (!mainUp s || !twinBit s) = true := by rcases shut with shut | shut <;> simp [shut]
  refine ⟨idles_of_done (if_pos closed), idles_of_done (if_pos closed), fun h x => idles_of_done (if_pos ?_)⟩
  rw [closed]
  rfl

theorem seamRetxTimeout_idles (no : mainUp s = false ∨ anyLane s = false ∨ s.twn.mismatch.isSome = true) : Idles .seamRetxTimeout s :=
  idles_of_done (if_pos (by rcases no with no | no | no <;> simp [no]))

theorem heldAlready_copy {x : Heartbeat} (known : s.twn.lost = false)
    (older : s.twn.partner.any (fun p => !newer32 x.count p.count) = true) : heldAlready s x = true := by
  rw [heldAlready, known, older]
  rfl

theorem heldAlready_new {x : Heartbeat} (new : s.twn.lost = true ∨ s.twn.partner.any (fun p => !newer32 x.count p.count) = false) :
    heldAlready s x = false := by
  rcases new with new | new <;> simp only [heldAlready, new, Bool.not_true, Bool.false_and, Bool.and_false]

end

/-- Settles O46: every lane that goes DOWN is cut first, and only the last one ends in the loss of the partner; a takeover, a hand-over
received and a reload leave what the module stands on but for role and epoch. That a standby asks its partner, that COUNT gone back starts
the series anew, that bookkeeping rides on the next heartbeat and what a hand-over withdrawn ends in are the model's choices (log 145,
130, 134, 141). -/
theorem lanesHeartbeatsAndTakeover : Obligations.LanesHeartbeatsAndTakeover := by
  intro l s
  refine ⟨seam_idles l, fun up twin => ⟨seamLaneDown_cuts up twin,
      fun down heard => ⟨fun standby ready had matched => ?_, fun no => ?_⟩,
      heartbeatTx_sends up twin, fun h x lane => ⟨heartbeatRx_mismatched up twin lane h x, heartbeatRx_refuses up twin lane h x,
        fun matched partner twinned => ⟨fun known older => ?_, fun new => ⟨?_, ?_⟩⟩⟩⟩,
    seamLaneLock_notes, fun down => idles_of_done (if_pos (by simp [down])), seamFrameInvalid_counts, seamFrameInvalid_fences,
    fwCountTick_counts, fwCountTick_idles, fwSilence_takes, fwSilence_idles, nodeWitness_takes, nodeWitness_idles,
    fun h idx t a => ⟨twinHandover_busy a, fun closed quiet => ⟨twinHandover_offers a closed quiet, twinHandover_asks a closed quiet,
      twinHandover_refuses a closed quiet⟩⟩,
    handoverWithdraw_idles, handoverWithdraw_unasks, fun a o => handoverWithdraw_fails, fun a o => handoverWithdraw_forms,
    seamRetxTimeout_idles, seamRetxTimeout_repeats⟩
  · exact ⟨_, becomes_of_done (seamLaneDown_exec up twin), laneDown_takes _ down heard ⟨standby, ready, had, matched⟩⟩
  · exact ⟨_, becomes_of_done (seamLaneDown_exec up twin), laneDown_stays _ down heard no⟩
  · exact heartbeatRx_discards up twin lane h x matched partner twinned (heldAlready_copy known older)
  · exact heartbeatRx_holds up twin lane h x matched partner twinned (heldAlready_new new)
  · exact fun standby ready closed active at_ newer =>
      heartbeatRx_receives up twin lane h x matched partner twinned (heldAlready_new new) standby ready closed ⟨active, at_, newer⟩

end Sys2Proof.Safety
